-- ==== Sys2Proof/Word.lean ====
section
/-! DEFINITION. The words of the TD-8 manual: bytes, 32-bit registers, 64-bit values (R5, R56, R214). -/

namespace Sys2Proof

/-- One byte of a packet, a payload or a memory. -/
abbrev Byte := BitVec 8
/-- A register of the window (R530) and a mailbox word (R543). -/
abbrev Word := BitVec 32
/-- A 64-bit value: a peg's VALUE (R214), an atomic operand (R200), a reply detail (R59). -/
abbrev Quad := BitVec 64
/-- The 44 parameter bytes of a command packet, byte 20 lowest (R56). -/
abbrev Params := BitVec 352
/-- A 256-bit key value (R334 ALG 0x01). -/
abbrev Key := BitVec 256
/-- A SHA-384 hash, as VERIFIER_ID holds it (R340). -/
abbrev Hash := BitVec 384

end Sys2Proof
end

