-- ==== Sys2Proof/Syntax.lean ====
section
/-! DEFINITION. The commands of the block: one constructor of `Instr` for each row of spec/opcode_table.json,
with the operands the sender or the surroundings give with it. -/

namespace Sys2Proof

/-- Where a command packet came from (R52). The CMD port and a partition ring carry the partition. -/
inductive Source where
  | cmd (part : Nat)
  | ring (part : Nat)
  | mgmt
  | session (id : Nat)
  deriving DecidableEq, Repr

/-- A 64 B command packet without CLASS and OPCODE (R56): those are the constructor, or stand in `RawPacket`. `ready`
is the level of the die's ready at the CMD port when a command comes there (R53). -/
structure Packet where
  src : Source
  ready : Bool
  fmt : Nat
  flags : Byte
  seq : Nat
  handle : Word
  layer : Nat
  operator : Nat
  step : Nat
  params : Params
  deriving DecidableEq, Repr

/-- What a memory outside the block returns to a read of the block's own engines (R207, R558): bytes; a tier 0 sector
that stays uncorrectable after the second read, or a sealed line whose check value does not match, with the Sill tile;
or a sled that answers with an error or not in time. -/
inductive MemRead where
  | ok (bytes : List Byte)
  | uncorrectable (tile : Nat)
  | checkFail (tile : Nat)
  | sledFail (sled : Nat)
  deriving DecidableEq, Repr

/-- A key blob as Kingpost reads it (R334 to R338): what its memory answered (R558; only whether the read succeeded), its
clear header (byte 0 lowest), whether bytes 177 to 179 of an EXTERNAL blob are zero, and what the units found. `targetOk`
is the comparison of TARGET with the block's current keys; `key` is what unwrapping gives, none when decapsulation, KDF or
the GCM tag fails. -/
structure Blob where
  read : MemRead
  header : BitVec 640
  padZero : Bool
  targetOk : Bool
  key : Option Key
  twinsOk : Bool
  deriving DecidableEq, Repr

/-- A weight binding set (R382): what its memory answered (R558), header fields, whether the header's zero bytes are zero,
and the first entry that names this block, if any. -/
structure BindSet where
  read : MemRead
  zerosOk : Bool
  format : Nat
  flags : Byte
  count : Nat
  minSvn : Nat
  verifierId : Hash
  entry : Option Blob
  policyMacOk : Bool
  deriving DecidableEq, Repr

/-- What the block reads of a tenant debug token (R475): what its memory answered (R558), and its fields. -/
structure DebugToken where
  read : MemRead
  wellFormed : Bool
  targetOk : Bool
  domain : Nat
  part : Nat
  commit : Nat
  spkiHash : Hash
  sigOk : Bool
  deriving DecidableEq, Repr

/-- What the block reads of Poronaek's response (R478). -/
structure DebugResp where
  challengeHashOk : Bool
  deviceIdOk : Bool
  scope : Nat
  sigsOk : Bool
  deriving DecidableEq, Repr

/-- How a register access reaches the window (R533, R541): function 0 (with whether it came on the link IDE stream in
the secure state), a virtual function, or TAP REG_ACCESS. -/
inductive Access where
  | pf (ideSecure : Bool)
  | vf (part : Nat)
  | tap
  deriving DecidableEq, Repr

/-- A ring pair: a partition's, or the management ring (R61 to R67). -/
inductive RingId where
  | part (p : Nat)
  | mgmt
  deriving DecidableEq, Repr

/-- A flit header (R89). `reserved` says that bit 127 is non-zero. -/
structure FlitHdr where
  ftype : Nat
  keyPhase : Bool
  cls : Nat
  lseq : Nat
  ackSeq : Nat
  ackValid : Bool
  nak : Bool
  last : Bool
  mirror : Bool
  hops : Nat
  src : Nat
  dst : Nat
  dl : Bool
  domain : Nat
  routeEpoch : Nat
  fidx : Nat
  ptag : Nat
  creditVc : Nat
  creditCnt : Nat
  reserved : Bool
  deriving DecidableEq, Repr

/-- One record of a PACK flit (R114). -/
structure PackRecord where
  pseq : Nat
  epoch : Nat
  result : Nat
  copy : Bool
  staged : Bool
  deriving DecidableEq, Repr

/-- What a flit carries. Sealed content is named by the source's parcel and the flit's index, not by its ciphertext. -/
inductive Payload where
  | zeros
  | bytes (b : List Byte)
  | sealed (parcel : Nat) (fidx : Nat)
  | pack (records : List PackRecord)
  deriving DecidableEq, Repr

/-- A received flit with the two verdicts of the hop-check unit (R99, R100, R105). -/
structure RxFlit where
  hdr : FlitHdr
  payload : Payload
  checkOk : Bool
  nullOk : Bool
  keyxHello : Bool
  deriving DecidableEq, Repr

/-- A KEYX HELLO (R377). -/
structure Hello where
  chip : Nat
  coord : Word
  link : Nat
  role : Nat
  wellFormed : Bool
  deriving DecidableEq, Repr

/-- What Kingpost finds in the peer's CERTS message (R379 rows 0x09, 0x02, 0x01). -/
structure CertsSeen where
  wellFormed : Bool
  claimsProduction : Bool
  chainsOk : Bool
  modelOk : Bool
  idHash : Nat
  deriving DecidableEq, Repr

/-- What Kingpost finds in a KEM_I, KEM_R or CONFIRM message (R378, R379). -/
structure KemSeen where
  wellFormed : Bool
  decapsOk : Bool
  confirmOk : Bool
  twinsOk : Bool
  deriving DecidableEq, Repr

/-- The header fields of a parcel (R107). `hdrReserved` says that a reserved field is non-zero. -/
structure ParcelHdr where
  pkind : Nat
  mirrorSent : Bool
  src : Nat
  dst : Nat
  domain : Nat
  cls : Nat
  length : Nat
  pseq : Nat
  recvTag : Nat
  deadline : Nat
  kindInfo : Word
  deriving DecidableEq, Repr

/-- The plaintext of a PEG parcel (R230). -/
structure PegMsg where
  msg : Nat
  status : Nat
  slot : Nat
  slotGen : Nat
  part : Nat
  context : Nat
  seq : Nat
  value : Quad
  target : Quad
  deadline : Nat
  applyAt : Nat
  deriving DecidableEq, Repr

/-- A request or a response of a pool region (R196). -/
structure PoolMsg where
  rop : Nat
  atype : Nat
  mask : Nat
  retry : Bool
  result : Nat
  aflags : Nat
  aseq : Nat
  offset : Nat
  context : Nat
  operand : Quad
  compare : Quad
  old : Quad
  line : List Byte
  deriving DecidableEq, Repr

/-- The plaintext of a parcel, by its PKIND (R107). -/
inductive ParcelBody where
  | data (bytes : List Byte)
  | chunk (bytes : List Byte)
  | peg (m : PegMsg)
  | atomicReq (m : PoolMsg)
  | atomicResp (m : PoolMsg)
  deriving DecidableEq, Repr

/-- A parcel whose flits the destination has gathered (R111): the identification and flags its flit headers carry, its
own header, what the GCM check says, its plaintext, and whether the placement met an uncorrectable sector (R558). -/
structure RxParcel where
  flitSrc : Nat
  flitDst : Nat
  flitDomain : Nat
  flitCls : Nat
  ptag : Nat
  mirror : Bool
  epoch : Nat
  hdr : ParcelHdr
  tagOk : Bool
  twinsOk : Bool
  lanePair : Nat
  body : ParcelBody
  placeUncorrectable : Option Nat
  deriving DecidableEq, Repr

/-- A PACK flit that reached its source (R114). -/
structure Pack where
  src : Nat
  domain : Nat
  cls : Nat
  gmacOk : Bool
  records : List PackRecord
  deriving DecidableEq, Repr

/-- A BOUND_NOTICE (R276). -/
structure BoundNotice where
  ptag : Nat
  dst : Nat
  reason : Nat
  deriving DecidableEq, Repr

/-- A HALT or RESUME flit's payload (R503). -/
structure HaltFlit where
  haltId : Nat
  domain : Nat
  atValid : Bool
  time : Nat
  deriving DecidableEq, Repr

/-- A PROBE flit's payload (R518), and whether it needed a replay on either leg (R519). -/
structure Probe where
  kind : Nat
  pattern : Nat
  seq : Nat
  leftAt : Nat
  turn : Nat
  replayed : Bool
  data : List Byte
  deriving DecidableEq, Repr

/-- One access of a tier 0 sector as the stack returns it: 72 symbols (R178). -/
abbrev Sector := List Byte

/-- What the boot ROM finds in a fetched image (R328, R358, R462). -/
structure BootImage where
  formatOk : Bool
  commitSvn : Bool
  svn : Nat
  sigsOk : Bool
  endorsed : Bool
  deriving DecidableEq, Repr

/-- What a start measures (R33, R331, R459): purlin counts in both directions, the RS check values, and the engines
and Kingpost units whose known-answer tests fail. -/
structure StartFindings where
  purlinA : List Nat
  purlinB : List Nat
  rsCheckAOk : Bool
  rsCheckBOk : Bool
  vppFuse : Bool
  failedEngines : List Nat
  failedUnits : List Nat
  pcsCoefficientsLost : Bool
  deriving DecidableEq, Repr

/-- A command packet with its CLASS and OPCODE, as a ring entry or a verifier message holds it (R56, R368). `aux` is
what the memories and units give the command beside its packet. -/
inductive Aux where
  | none
  | mem (m : MemRead)
  | blob (b : Blob)
  | bindSet (b : BindSet)
  | token (t : DebugToken)
  | resp (r : DebugResp)
  | failed (engines : List Nat)
  | twins (ok : Bool)
  deriving DecidableEq, Repr

structure RawPacket where
  cls : Nat
  opcode : Nat
  pkt : Packet
  aux : Aux
  deriving DecidableEq, Repr

/-- The SPDM requests the responder tells apart (R366, R373). -/
inductive SpdmReq where
  | getVersion
  | getCapabilities
  | negotiateAlgorithms
  | getDigests
  | getCertificate (slot : Nat)
  | challenge
  | getMeasurements
  | keyUpdate (session : Nat)
  | heartbeat (session : Nat)
  | endSession (session : Nat)
  | unsupported
  | malformed
  | aeadFailure (session : Nat)
  deriving DecidableEq, Repr

/-- A reduce-forward unit's data on one lane pair (R150): the local contribution and the twins' verdict. -/
structure UnitData where
  lanePair : Nat
  localRead : MemRead
  twinsOk : Bool
  deriving DecidableEq, Repr

/-- One weight unit as it leaves decryption on a lane pair (R165). -/
structure WeightUnit where
  plain : List Byte
  tagOk : Bool
  twinsOk : Bool
  lanePair : Nat
  uncorrectable : Option Nat
  deriving DecidableEq, Repr

/-- Every command of the block, one constructor for each row of spec/opcode_table.json, in the table's order. -/
inductive Instr where
  -- class 0x4 to 0x7, hardware (R77)
  | send (p : Packet)
  | sendMirror (p : Packet)
  | recvPost (p : Packet)
  | recvCancel (p : Packet)
  | ringSetup (p : Packet) (list : MemRead)
  | allReduce (p : Packet)
  | reduceScatter (p : Packet)
  | allGather (p : Packet)
  | broadcast (p : Packet)
  | unfold (p : Packet)
  | atomic (p : Packet)
  | invalidate (p : Packet)
  | pegAlloc (p : Packet)
  | pegFree (p : Packet)
  | signal (p : Packet)
  | wait (p : Packet)
  | fence (p : Packet)
  | exportPeg (p : Packet)
  | importPeg (p : Packet)
  | ringDeclare (p : Packet)
  | pegRead (p : Packet)
  -- firmware classes (R78)
  | keyLoad (p : Packet) (blob : Blob)
  | keyEvict (p : Packet)
  | keyGenerate (p : Packet) (twinsOk : Bool)
  | keyQuery (p : Packet)
  | keyPinRc (p : Packet) (blob : Blob)
  | bindUnwrap (p : Packet) (set : BindSet)
  | getEvidence (p : Packet) (twinsOk : Bool)
  | getCerts (p : Packet)
  | getMeasurements (p : Packet)
  | neighbourKeyx (p : Packet)
  | keyClaim (p : Packet) (twinsOk : Bool)
  | partCreate (p : Packet) (desc : MemRead)
  | partSeal (p : Packet)
  | partDestroy (p : Packet)
  | partRelease (p : Packet)
  | ctxRegister (p : Packet)
  | ctxRelease (p : Packet) (scrub : MemRead)
  | tdiBind (p : Packet)
  | partQuery (p : Packet)
  | ctxReset (p : Packet)
  | admitRequest (p : Packet)
  | admitRelease (p : Packet)
  | shaperSet (p : Packet)
  | p0Reserve (p : Packet)
  | sharedOptIn (p : Packet)
  | calQuery (p : Packet)
  | setPkgLimit (p : Packet)
  | grantQuery (p : Packet)
  | enterState (p : Packet)
  | throttleQuery (p : Packet)
  | counterSample (p : Packet)
  | traceStart (p : Packet)
  | traceStop (p : Packet)
  | halt (p : Packet)
  | resume (p : Packet)
  | debugOpenTenant (p : Packet) (token : DebugToken)
  | debugOpenOperator (p : Packet)
  | debugChallenge (p : Packet) (twinsOk : Bool)
  | debugResponse (p : Packet) (resp : DebugResp)
  | lcQuery (p : Packet)
  | lcTransition (p : Packet)
  | lcStatus (p : Packet)
  | katRun (p : Packet) (failed : List Nat)
  | loopback (p : Packet)
  | faultInject (p : Packet)
  | memtest (p : Packet)
  -- rings (R61 to R69)
  | sqTailDoorbell (via : Access) (ring : RingId) (tail : Nat)
  | cqHeadAdvance (via : Access) (ring : RingId) (head : Nat)
  | ringEnableWrite (via : Access) (ring : RingId) (value : Word)
  | ringFetch (ring : RingId) (entries : List RawPacket)
  | completionWrite (ring : RingId)
  -- links and parcels
  | parcelEligible (parcel : Nat)
  | flitSend (link : Nat) (slot : Nat) (twinsOk : Bool) (lanePair : Nat) (source : MemRead)
  | flitReceive (link : Nat) (flit : RxFlit)
  | ackTimeout (link : Nat)
  | linkUp (link : Nat)
  | linkTrained (link : Nat)
  | linkDown (link : Nat)
  | linkSilenceTimeout (link : Nat)
  | exchangeRetry (link : Nat)
  | keyxHello (link : Nat) (msg : Hello)
  | keyxCerts (link : Nat) (seen : CertsSeen)
  | keyxKemI (link : Nat) (seen : KemSeen)
  | keyxKemR (link : Nat) (seen : KemSeen)
  | keyxConfirm (link : Nat) (seen : KemSeen)
  | keyxRefuse (link : Nat) (reason : Nat)
  | keyxTimeout (link : Nat)
  | hopKeyRotation (link : Nat)
  | keyxRotate (link : Nat) (n : Nat)
  | keyxRotateAck (link : Nat) (n : Nat)
  | rotateResend (link : Nat)
  | parcelAccept (parcel : RxParcel)
  | packReceive (pack : Pack)
  | parcelDeclaredLost (parcel : Nat)
  | ldtPassed (parcel : Nat)
  | boundNoticeSend (link : Nat) (detour : Bool)
  | boundNoticeReceive (notice : BoundNotice)
  | reduceForwardUnit (part : Nat) (group : Nat) (unit : Nat) (gather : Bool) (data : UnitData)
  | collectiveTimeout (part : Nat) (group : Nat)
  | unfoldUnit (part : Nat) (slot : Nat) (seq : Nat) (unit : Nat) (data : WeightUnit)
  -- memory
  | memRead (port : Nat) (part : Nat) (addr : Nat) (op : Nat)
  | memWrite (port : Nat) (part : Nat) (addr : Nat) (op : Nat) (data : List Byte)
  | stackAnswer (access : Nat) (first : List Sector) (second : List Sector) (late : Bool)
  | tier1Answer (access : Nat) (line : List Byte) (checkOk : Bool) (twinsOk : Bool) (late : Bool)
  | sledAnswer (link : Nat) (tag : Nat) (status : Nat) (line : List Byte) (checkOk : Bool) (twinsOk : Bool)
      (late : Bool)
  | sledTimeout (link : Nat) (tag : Nat)
  | poolRequestHome (src : Nat) (domain : Nat) (pseq : Nat) (cls : Nat) (req : PoolMsg) (line : MemRead)
  | answerTimeout (request : Nat)
  | patrolRead (addr : Nat) (first : Sector) (second : Sector)
  | counterSweep (page : Nat)
  | granuleCleaned
  -- pegs
  | pegRequestApply (src : Nat) (domain : Nat) (msg : PegMsg)
  | pegAnswerApply (src : Nat) (domain : Nat) (msg : PegMsg)
  | pegWaitTimeout (part : Nat) (slot : Nat) (seq : Nat)
  | remoteRegistrationDrop (src : Nat) (part : Nat) (context : Nat) (seq : Nat)
  -- calendar
  | sliceEnd (part : Nat) (cls : Nat) (overrun : Nat)
  | runLimitFault (part : Nat) (slot : Nat) (seq : Nat)
  | calendarTick
  | frameBoundary
  | framePEdge (tod : Nat) (todValid : Bool)
  | frameLockLost
  -- Damper
  | budgetTick
  | powerEpochBoundary
  | telemWord (w : Word)
  | telemLost
  | grantViolation (part : Nat)
  | limitAlertChange (high : Bool)
  | regulatorAlert
  | laneGroupGate (tile : Nat) (group : Nat)
  | laneGroupWake (tile : Nat) (group : Nat)
  | lowPowerEntry
  | l2ExitComplete
  -- clocks, power and starts
  | rootMonitorCheck (count : Nat)
  | chipRstReq
  | corePowerFall
  | powerLoss
  | coldStart (f : StartFindings)
  | warmStart (f : StartFindings)
  | vppFuseRecheck (present : Bool)
  | imageFetch (image : BootImage)
  | entropyHealthFail
  | reseedComplete (passed : Bool)
  | kpCflow
  -- strike and the ladder
  | teardownComplete (part : Nat)
  | strikeS1End (part : Nat)
  | strikeReserveGrant (part : Nat)
  | strikeS3End (part : Nat)
  | strikeS4End (part : Nat)
  | engineRung (engine : Nat)
  | engineCheckDone (engine : Nat) (passed : Bool)
  | partitionRung (part : Nat)
  | partitionRungComplete (part : Nat)
  | chipRung (cause : Nat) (dumpDone : Bool)
  | trayRung (cause : Nat)
  | ladderTimeout (rung : Nat) (scope : Nat) (units : Nat) (engines : List Nat)
  | resetReqEngine (target : Nat)
  | resetReqPartition (target : Nat)
  | resetReqChip (target : Nat)
  | partResetReq (via : Access) (part : Nat)
  | dumpAck
  | linkEnableWrite (link : Nat) (enable : Bool)
  | linkRearm (link : Nat)
  | backOkWrite
  | bootGoWrite (value : Word)
  -- Scribe halt
  | haltCtrlHalt (via : Access) (job : Bool) (domain : Nat)
  | haltCtrlResume (via : Access) (job : Bool) (domain : Nat)
  | haltCut
  | haltFlitReceive (link : Nat) (flit : HaltFlit)
  | resumeFlitReceive (link : Nat) (flit : HaltFlit)
  | haltRestart
  | traceSample (slot : Nat)
  | echoRequestReceive (link : Nat) (probe : Probe)
  | echoResponseReceive (link : Nat) (probe : Probe)
  -- mailboxes
  | mbInPush (via : Access) (ch : Nat) (word : Word)
  | mbOutPop (via : Access) (ch : Nat)
  | mbInReady (via : Access) (ch : Nat)
  | mbResync (via : Access) (ch : Nat)
  | mbTestDoorbell (via : Access) (ch : Nat) (bit : Nat)
  | mbAssignWrite (value : Word)
  | ping (ch : Nat)
  | blockState (ch : Nat)
  | partState (ch : Nat)
  | noticeMask (ch : Nat)
  | mbMessageTimeout (ch : Nat)
  | noticeFault (ch : Nat)
  | noticePart (ch : Nat)
  | noticeStart (ch : Nat)
  | noticeLost (ch : Nat)
  | functionLevelReset (fn : Option Nat)
  | pcieLinkReset
  -- Vestibule
  | doeDiscovery (index : Nat)
  | spdmRequest (req : SpdmReq)
  | spdmSessionEstablish (id : Nat) (mutualAuth : Bool) (chainOk : Bool) (leaf : Hash)
  | vendorDefinedRequest (session : Nat) (headerOk : Bool) (payloadLen : Nat) (pkt : RawPacket)
  | ideKmQuery (session : Nat)
  | ideKmKeyProg (session : Nat) (stream : Nat) (sub : Nat) (keySet : Nat) (streamId : Nat) (tee : Bool) (pcrc : Bool)
  | ideKmKSetGo (session : Nat) (stream : Nat) (sub : Nat) (keySet : Nat)
  | ideKmKSetStop (session : Nat) (stream : Nat) (sub : Nat) (keySet : Nat)
  | ideCheckFailure (stream : Nat)
  | tdiBadRequest (part : Nat)
  | getTdispVersion (session : Nat) (tdi : Nat)
  | getTdispCapabilities (session : Nat) (tdi : Nat)
  | lockInterfaceRequest (session : Nat) (tdi : Nat) (noFwUpdate : Bool) (lockMsix : Bool) (bindP2p : Bool)
      (redirect : Bool)
  | getDeviceInterfaceReport (session : Nat) (tdi : Nat)
  | getDeviceInterfaceState (session : Nat) (tdi : Nat)
  | startInterfaceRequest (session : Nat) (tdi : Nat)
  | stopInterfaceRequest (session : Nat) (tdi : Nat)
  | pcieLoopbackEntry
  -- TAP
  | tapBypass
  | tapIdcode
  | tapRegAccess (write : Bool) (offset : Nat) (value : Word)
  | tapScan
  | tapMbist (pkt : Packet)
  | tapFault (pkt : Packet)
  -- registers
  | registerWrite (via : Access) (offset : Nat) (value : Quad) (wide : Bool)
  | malformedRegisterAccess (via : Access) (offset : Nat) (size : Nat) (write : Bool)
  | cmdReady
  | p0DrainDeadline (parcel : Nat)
  | controllerWriteAck (access : Nat) (late : Bool)
  | spdmHeartbeatTimeout (session : Nat)
  | loopbackRunEnd (point : Nat) (target : Nat) (r0 : Nat) (r1 : Nat) (r2 : Nat) (r3 : Nat) (noLink : Bool)
  | memtestEnd (tier : Nat) (first : Nat) (tested : Nat) (failing : Nat) (firstFail : Nat)
  deriving DecidableEq, Repr

end Sys2Proof
end

