-- ==== Sys2Proof/Decode.lean ====
section
/-! DEFINITION. Commands that words spell. spec/opcode_table.json gives no row any bits: commands come from ports, rings, links and
registers, never as a word. -/

namespace Sys2Proof

/-- The command a word spells by the table's bits: none, for no row has bits. -/
def decodeTableWord (_nbits _w : Nat) : Option Instr := none

end Sys2Proof
end

