-- ==== Sys2Proof/Config.lean ====
section
/-! DEFINITION. What the spec leaves open: free values. Each constant has no body, so no proof sees a value of it. A
number of a draw is `State.fresh`, which every draw advances (log 7). -/

namespace Sys2Proof

/-- A free number for each draw: values the spec leaves open, and durations it does not fix. -/
opaque Config.freeNat : Nat → Nat

/-- A free 256-bit value for each draw: what the DRBG gives for a key (10 R346). -/
opaque Config.freeKey : Nat → Key

/-- A free 384-bit value for each draw: digests over contents the model does not hold (10 R351, 11 R360, R361). -/
opaque Config.freeHash : Nat → Hash

/-- The key commitment: the first 16 B of HMAC-SHA-384 of the key (10 R351), byte 0 lowest. -/
opaque Config.keyCommit : Key → BitVec 128

/-- A free bit for each draw. -/
opaque Config.freeBool : Nat → Bool

/-- A byte of a crash dump whose content the spec does not give (14 R448), by the dump's draw and the byte's offset. -/
opaque Config.dumpByte : Nat → Nat → Byte

end Sys2Proof
end

