-- ==== Sys2Proof/Machine/Flags.lean ====
section
/-! DEFINITION. Status values (03 R82), reply flags (03 R60), saturating counts and bit fields. -/

namespace Sys2Proof.Machine

/-! ### Statuses (R82) -/

abbrev stOk : Nat := 0x0000
abbrev stDelayed : Nat := 0x0001
abbrev stSignalStale : Nat := 0x0002
abbrev stMalformed : Nat := 0x0100
abbrev stBadHandle : Nat := 0x0101
abbrev stStaleHandle : Nat := 0x0102
abbrev stQueueFull : Nat := 0x0103
abbrev stSequenceGap : Nat := 0x0104
abbrev stNotPermitted : Nat := 0x0105
abbrev stBusyStrike : Nat := 0x0106
abbrev stLifecycle : Nat := 0x0107
abbrev stWrongState : Nat := 0x0108
abbrev stBadDomain : Nat := 0x0109
abbrev stNoResource : Nat := 0x010A
abbrev stKeyRefused : Nat := 0x010B
abbrev stKeyAbsent : Nat := 0x010C
abbrev stNotBound : Nat := 0x010D
abbrev stRefusedCapacity : Nat := 0x010E
abbrev stRefusedNoFrame : Nat := 0x010F
abbrev stRingOverrun : Nat := 0x0110
abbrev stDebugRefused : Nat := 0x0111
abbrev stBoundBroken : Nat := 0x0200
abbrev stOutcomeUnknown : Nat := 0x0201
abbrev stPegTimeout : Nat := 0x0202
abbrev stPegOrphaned : Nat := 0x0203
abbrev stPegSaturated : Nat := 0x0204
abbrev stSquashed : Nat := 0x0205
abbrev stContextFaulted : Nat := 0x0300
abbrev stJobFaulted : Nat := 0x0301
abbrev stTwinMismatch : Nat := 0x0302

/-- A status that ends an accepted command: not one of the refusals 0x0100 to 0x01FF (R82). -/
def completesCommand (st : Nat) : Bool := st < 0x100 || 0x200 ≤ st

/-! ### Reply flags (R60) -/

/-- RFLAGS: FIRMWARE, PREEMPTED, OVERRUN_CHARGED, BOUNDARY. -/
def rflagsOf (firmware preempted overrun boundary : Bool) : Nat :=
  (if firmware then 1 else 0) + (if preempted then 2 else 0) + (if overrun then 4 else 0) +
    (if boundary then 8 else 0)

/-! ### Saturating counts and bit fields -/

/-- One more, at most `max`. -/
def bump (max n : Nat) : Nat := if n < max then n + 1 else n

/-- `k` more, at most `max`. -/
def bumpBy (max k n : Nat) : Nat := min max (n + k)

/-- Bits [lo + len - 1 : lo] of `n` (R5). -/
def bitsOf (n lo len : Nat) : Nat := n / 2 ^ lo % 2 ^ len

/-- Bit `i` of `n`. -/
def bitOf (n i : Nat) : Bool := bitsOf n i 1 = 1

/-- A field of a word: a value placed at bit `lo`, its bits above `len` dropped. -/
def fld (lo len v : Nat) : Nat := v % 2 ^ len * 2 ^ lo

/-- A Boolean field. -/
def fldB (lo : Nat) (b : Bool) : Nat := if b then 2 ^ lo else 0

/-- Division rounded up. -/
def ceilDiv (a b : Nat) : Nat := (a + b - 1) / b

/-- The k of GL_LINK_ERR (R135): 0 for none, else the number of bits of the count, at most 31. -/
def roundP2 (n : Nat) : Nat := if n = 0 then 0 else min 31 (Nat.log2 n + 1)

/-- The 16 result bytes of a reply (bytes 16 to 31, R59) from fields: reply byte offset, length in bytes, value. -/
def resultOf (fs : List (Nat × Nat × Nat)) : BitVec 128 :=
  BitVec.ofNat 128 (fs.foldl (fun acc f => acc + fld (8 * (f.1 - 16)) (8 * f.2.1) f.2.2) 0)

/-- The result of a status other than ST_OK: the 64-bit detail in bytes 16 to 23, zero above (R59). -/
def detailOf (d : Nat) : BitVec 128 := BitVec.ofNat 128 (d % 2 ^ 64)

/-- Little-endian bytes of a number (R5). -/
def leBytes : Nat → Nat → List Byte
  | 0, _ => []
  | k + 1, n => BitVec.ofNat 8 n :: leBytes k (n / 256)

/-- The number that little-endian bytes hold. -/
def ofLeBytes : List Byte → Nat
  | [] => 0
  | b :: bs => b.toNat + 256 * ofLeBytes bs

end Sys2Proof.Machine
end

