-- ==== Sys2Proof/Machine/Arith.lean ====
section
/-! DEFINITION. The number formats and the arithmetic of the two engines (05 R137, R138, R152 to R155, R163, R167), and
the Reed-Solomon code of tier 0 (06 R178 to R180). -/

namespace Sys2Proof.Machine

/-! ### Formats (R137) -/

/-- A floating-point layout: exponent bits, fraction bits, bias, the largest finite code, and the code of infinity. -/
structure FloatFmt where
  eb : Nat
  mb : Nat
  bias : Nat
  maxFin : Nat
  inf : Option Nat
  nan : Nat
  deriving DecidableEq, Repr

/-- The floating-point formats that results are rounded to, by code. -/
def floatFmt (code : Nat) : Option FloatFmt :=
  match code with
  | 0x01 => some { eb := 8, mb := 23, bias := 127, maxFin := 0x7F7FFFFF, inf := some 0x7F800000, nan := 0x7FC00000 }
  | 0x02 => some { eb := 8, mb := 7, bias := 127, maxFin := 0x7F7F, inf := some 0x7F80, nan := 0x7FC0 }
  | 0x03 => some { eb := 5, mb := 10, bias := 15, maxFin := 0x7BFF, inf := some 0x7C00, nan := 0x7E00 }
  | 0x04 => some { eb := 4, mb := 3, bias := 7, maxFin := 0x7E, inf := none, nan := 0x7F }
  | 0x05 => some { eb := 5, mb := 2, bias := 15, maxFin := 0x7B, inf := some 0x7C, nan := 0x7F }
  | _ => none

/-- Bytes of an element of a format that has whole bytes (R137). -/
def fmtBytes (code : Nat) : Nat :=
  match code with
  | 0x01 => 4 | 0x02 => 2 | 0x03 => 2 | 0x04 => 1 | 0x05 => 1
  | 0x08 => 1 | 0x09 => 1 | 0x0A => 2 | 0x0B => 2 | 0x0C => 4 | 0x0D => 4 | 0x0E => 8 | 0x0F => 8
  | 0x10 => 4 | 0x11 => 8
  | _ => 1

/-- A format of two's complement integers: the signed codes 0x08, 0x0A, 0x0C, 0x0E. -/
def fmtSigned (code : Nat) : Bool := code = 0x08 || code = 0x0A || code = 0x0C || code = 0x0E

/-- An integer format, 0x08 to 0x0F. -/
def fmtInt (code : Nat) : Bool := 0x08 ≤ code && code ≤ 0x0F

/-- A value: NaN, an infinity, or sign, integer and exponent of two. -/
inductive Num where
  | nan
  | inf (neg : Bool)
  | fin (neg : Bool) (mant : Nat) (exp : Int)
  deriving DecidableEq, Repr

/-- The two's complement integer in the low `w` bits. -/
def signedOf (w n : Nat) : Int := if 2 ^ w ≤ 2 * (n % 2 ^ w) then (n % 2 ^ w : Int) - 2 ^ w else (n % 2 ^ w : Int)

/-- The low `w` bits of an integer. -/
def wrapOf (w : Nat) (n : Int) : Nat := (n % 2 ^ w).toNat

/-- The value of the bits of a floating-point layout; `special` says that the top exponent encodes infinities and NaNs as
IEEE 754 does, otherwise only `nan`'s magnitude is a NaN. -/
def floatNum (eb mb bias : Nat) (special : Bool) (nanMag : Option Nat) (bits : Nat) : Num :=
  let neg := bitOf bits (eb + mb)
  let mag := bits % 2 ^ (eb + mb)
  let e := mag / 2 ^ mb
  let m := mag % 2 ^ mb
  if nanMag = some mag then .nan
  else if special && e = 2 ^ eb - 1 then if m = 0 then .inf neg else .nan
  else if e = 0 then .fin neg m (1 - bias - mb : Int)
  else .fin neg (m + 2 ^ mb) (e - bias - mb : Int)

/-- A finite number from an integer and an exponent. -/
def intNum (n : Int) (exp : Int) : Num := .fin (n < 0) n.natAbs exp

/-- The value of an element of a format (R137): 0x20 to 0x25 are the elements of the MX formats. -/
def numOf (code bits : Nat) : Num :=
  match code with
  | 0x01 => floatNum 8 23 127 true none bits
  | 0x02 => floatNum 8 7 127 true none bits
  | 0x03 => floatNum 5 10 15 true none bits
  | 0x04 => floatNum 4 3 7 false (some 0x7F) bits
  | 0x05 => floatNum 5 2 15 true none bits
  | 0x10 => if bits = 2 ^ 31 then .nan else intNum (signedOf 32 bits) (-9)
  | 0x11 =>
    if bits = 2 ^ 63 then .nan
    else if bits = 2 ^ 63 + 1 then .inf false
    else if bits = 2 ^ 63 + 2 then .inf true
    else intNum (signedOf 64 bits) (-16)
  | 0x20 => floatNum 2 1 1 false none bits
  | 0x21 => floatNum 3 2 3 false none bits
  | 0x22 => floatNum 2 3 1 false none bits
  | 0x23 => floatNum 4 3 7 false (some 0x7F) bits
  | 0x24 => floatNum 5 2 15 true none bits
  | 0x25 => intNum (signedOf 8 bits) (-6)
  | _ =>
    if fmtSigned code then intNum (signedOf (8 * fmtBytes code) bits) 0
    else intNum ((bits % 2 ^ (8 * fmtBytes code) : Nat) : Int) 0

/-- n · 2^-d rounded to the nearest integer, ties to even. -/
def roundShift (n d : Nat) : Nat :=
  let q := n / 2 ^ d
  let r := n % 2 ^ d
  if 2 ^ d < 2 * r || (2 * r = 2 ^ d && q % 2 = 1) then q + 1 else q

/-- The magnitude code of mant · 2^exp in a layout, rounded once to nearest even, before the range check. -/
def roundMag (f : FloatFmt) (mant : Nat) (exp : Int) : Nat :=
  if mant = 0 then 0
  else
    let top : Int := max (Nat.log2 mant + exp) (1 - f.bias)
    let q : Int := top - f.mb
    let n := if q ≤ exp then mant * 2 ^ (exp - q).toNat else roundShift mant (q - exp).toNat
    (top + f.bias - 1).toNat * 2 ^ f.mb + n

/-- A value converted to a floating-point format (R138), with whether it counts as a saturation. -/
def toFloat (f : FloatFmt) (sat : Bool) (v : Num) : Nat × Bool :=
  let sgn (neg : Bool) (m : Nat) : Nat := (if neg then 2 ^ (f.eb + f.mb) else 0) + m
  match v with
  | .nan => (f.nan, false)
  | .inf neg =>
    match f.inf with
    | some i => (sgn neg i, false)
    | none => if sat then (sgn neg f.maxFin, true) else (f.nan, false)
  | .fin neg m e =>
    let r := roundMag f m e
    if r ≤ f.maxFin then (sgn neg r, false)
    else if sat then (sgn neg f.maxFin, true)
    else match f.inf with
      | some i => (sgn neg i, false)
      | none => (f.nan, false)

/-- The integer of an integral value: conversions to integer formats start from integers only (R152, R157). -/
def numInt (v : Num) : Int :=
  match v with
  | .fin neg m e => (if neg then -1 else 1) * ((m * 2 ^ e.toNat : Nat) : Int)
  | _ => 0

/-- An integer clamped to an integer format, a clamp counted (R138). -/
def clampInt (code : Nat) (n : Int) : Nat × Bool :=
  let w := 8 * fmtBytes code
  let lo : Int := if fmtSigned code then -(2 ^ (w - 1)) else 0
  let hi : Int := if fmtSigned code then 2 ^ (w - 1) - 1 else 2 ^ w - 1
  if n < lo then (wrapOf w lo, true) else if hi < n then (wrapOf w hi, true) else (wrapOf w n, false)

/-! ### Partials (R152 to R155) -/

/-- The format of the partials of OP and IN_FMT (R152): 0x01 FP32, 0x0C and 0x0E the integers, 0x10 and 0x11 the exact
sums; MIN and MAX carry IN_FMT. -/
def partialFmt (op inFmt : Nat) : Nat :=
  if op ≠ 1 then inFmt
  else
    match inFmt with
    | 0x04 => 0x10 | 0x10 => 0x10 | 0x05 => 0x11 | 0x11 => 0x11
    | 0x08 => 0x0C | 0x09 => 0x0C | 0x0A => 0x0C | 0x0B => 0x0C
    | 0x0C => 0x0E | 0x0D => 0x0E
    | _ => 0x01

/-- A value in an exact-sum format: 0x10 or 0x11 (R137, R153); every E4M3 and E5M2 value is a whole number of its steps. -/
def toFx (code : Nat) (v : Num) : Nat :=
  let w := 8 * fmtBytes code
  let lsb : Int := if code = 0x10 then -9 else -16
  match v with
  | .nan => 2 ^ (w - 1)
  | .inf neg => if code = 0x11 then (if neg then 2 ^ 63 + 2 else 2 ^ 63 + 1) else 2 ^ (w - 1)
  | .fin neg m e =>
    let n : Int := if lsb ≤ e then ((m * 2 ^ (e - lsb).toNat : Nat) : Int) else ((m / 2 ^ (lsb - e).toNat : Nat) : Int)
    wrapOf w (if neg then -n else n)

/-- A contribution converted to the partial format (R145, R152 to R154). -/
def toPartial (op inFmt bits : Nat) : Nat :=
  let p := partialFmt op inFmt
  if op ≠ 1 then bits
  else if p = 0x10 || p = 0x11 then if p = inFmt then bits else toFx p (numOf inFmt bits)
  else if p = 0x01 then (match floatFmt 0x01 with | some f => (toFloat f false (numOf inFmt bits)).1 | none => bits)
  else wrapOf (8 * fmtBytes p) (numInt (numOf inFmt bits))

/-- The sum of two binary32 values (R154). -/
def addFp32 (a b : Nat) : Nat :=
  match floatFmt 0x01, numOf 0x01 a, numOf 0x01 b with
  | some f, .nan, _ => f.nan
  | some f, _, .nan => f.nan
  | some f, .inf x, .inf y => if x = y then a else f.nan
  | some _, .inf _, _ => a
  | some _, _, .inf _ => b
  | some f, .fin x m e, .fin y n g =>
    let lo := min e g
    let s : Int := (if x then -1 else 1) * ((m * 2 ^ (e - lo).toNat : Nat) : Int) +
      (if y then -1 else 1) * ((n * 2 ^ (g - lo).toNat : Nat) : Int)
    if s = 0 then if x && y then 2 ^ 31 else 0
    else (toFloat f false (.fin (s < 0) s.natAbs lo)).1
  | none, _, _ => 0

/-- The sum of two exact-sum partials, with whether it left the range (R153). -/
def addFx (code a b : Nat) : Nat × Bool :=
  let w := 8 * fmtBytes code
  let nan := 2 ^ (w - 1)
  let fin (x y : Int) : Nat × Bool :=
    let s := x + y
    let lo : Int := if code = 0x10 then -(2 ^ 31) + 1 else -(2 ^ 63) + 3
    if s < lo || (2 : Int) ^ (w - 1) - 1 < s then (nan, true) else (wrapOf w s, false)
  match numOf code a, numOf code b with
  | .nan, _ => (nan, false)
  | _, .nan => (nan, false)
  | .inf x, .inf y => if x = y then (a, false) else (nan, false)
  | .inf _, _ => (a, false)
  | _, .inf _ => (b, false)
  | _, _ => fin (signedOf w a) (signedOf w b)

/-- The order key of an element (R155): -0 below +0, infinities outermost; integers and exact sums as integers. -/
def orderKey (code bits : Nat) : Int :=
  match floatFmt code with
  | some f =>
    let mag := bits % 2 ^ (f.eb + f.mb)
    if bitOf bits (f.eb + f.mb) then -(mag : Int) - 1 else (mag : Int)
  | none =>
    if fmtSigned code || code = 0x10 || code = 0x11 then signedOf (8 * fmtBytes code) bits else (bits : Int)

/-- MIN and MAX of two elements of one format (R155). -/
def minMax (max? : Bool) (code a b : Nat) : Nat :=
  if numOf code a = .nan || numOf code b = .nan then
    match floatFmt code with
    | some f => f.nan
    | none => 2 ^ (8 * fmtBytes code - 1)
  else if (orderKey code a ≤ orderKey code b) = max? then b else a

/-- partial ⊕ contribution, the arriving partial on the left (R145), with whether it counts as a saturation (R153). -/
def combine (op inFmt a b : Nat) : Nat × Bool :=
  let p := partialFmt op inFmt
  if op = 2 then (minMax false p a b, false)
  else if op = 3 then (minMax true p a b, false)
  else if p = 0x10 || p = 0x11 then addFx p a b
  else if p = 0x01 then (addFp32 a b, false)
  else ((a + b) % 2 ^ (8 * fmtBytes p), false)

/-- The last partial converted to OUT_FMT at the owner (R138, R145), with whether it counts as a saturation. -/
def fromPartial (op inFmt outFmt : Nat) (sat : Bool) (bits : Nat) : Nat × Bool :=
  let p := partialFmt op inFmt
  if p = outFmt then (bits, false)
  else
    match floatFmt outFmt with
    | some f => toFloat f sat (numOf p bits)
    | none => clampInt outFmt (signedOf (8 * fmtBytes p) bits)

/-! ### Elements of byte strings -/

/-- The elements of `w` bytes each that a byte string holds, little-endian. -/
def elems (w : Nat) : Nat → List Byte → List Nat
  | 0, _ => []
  | k + 1, bs => ofLeBytes (bs.take w) :: elems w k (bs.drop w)

/-- Elements written as `w` bytes each. -/
def unelems (w : Nat) (es : List Nat) : List Byte := (es.map (leBytes w)).flatten

/-- How many of a list of results count as saturations. -/
def countSat (rs : List (Nat × Bool)) : Nat := (rs.filter (fun r => r.2)).length

/-- A chunk's partials: an arriving chunk combined with the local elements, or the local elements converted. -/
def combineBytes (op inFmt : Nat) (incoming : Option (List Byte)) (local_ : List Byte) : List Byte × Nat :=
  let wi := fmtBytes inFmt
  let wp := fmtBytes (partialFmt op inFmt)
  let mine := (elems wi (local_.length / wi) local_).map (toPartial op inFmt)
  match incoming with
  | none => (unelems wp mine, 0)
  | some inc =>
    let rs := (List.zip (elems wp (inc.length / wp) inc) mine).map (fun (a, b) => combine op inFmt a b)
    (unelems wp (rs.map (fun r => r.1)), countSat rs)

/-- Partials converted to the output format. -/
def convertBytes (op inFmt outFmt : Nat) (sat : Bool) (bs : List Byte) : List Byte × Nat :=
  let wp := fmtBytes (partialFmt op inFmt)
  let rs := (elems wp (bs.length / wp) bs).map (fromPartial op inFmt outFmt sat)
  (unelems (fmtBytes outFmt) (rs.map (fun r => r.1)), countSat rs)

/-! ### Unfolding (R162, R163, R167) -/

/-- Element bits of an MX format (R137). -/
def mxBits (code : Nat) : Nat :=
  match code with
  | 0x20 => 4 | 0x21 => 6 | 0x22 => 6 | _ => 8

/-- Blocks per unit (R162). -/
def mxBlocks (code : Nat) : Nat :=
  match code with
  | 0x20 => 240 | 0x21 => 160 | 0x22 => 160 | _ => 120

/-- Element k of a block's little-endian bit string (R163). -/
def mxElem (code block k : Nat) : Nat := bitsOf block (mxBits code * k) (mxBits code)

/-- One output element (R167): scaled in APPLY, converted alone in SEPARATE. -/
def mxOut (inFmt outFmt : Nat) (apply_ sat : Bool) (shift : Int) (scale elem : Nat) : Nat × Bool :=
  match floatFmt outFmt with
  | none => (elem, false)
  | some f =>
    if apply_ && scale = 0xFF then (f.nan, false)
    else
      match numOf inFmt elem with
      | .fin neg m e => toFloat f sat (.fin neg m (if apply_ then e + (scale : Int) - 127 + shift else e))
      | v => toFloat f sat v

/-- The 32 outputs of block i of a unit's plaintext, and the saturations among them. -/
def mxBlock (inFmt outFmt : Nat) (apply_ sat : Bool) (shift : Int) (plain : List Byte) (i : Nat) : List Byte × Nat :=
  let eb := 4 * mxBits inFmt
  let block := ofLeBytes ((plain.drop (i * eb)).take eb)
  let scale := (plain.getD (3840 + i) 0).toNat
  let rs := (List.range 32).map (fun k => mxOut inFmt outFmt apply_ sat shift scale (mxElem inFmt block k))
  (unelems (fmtBytes outFmt) (rs.map (fun r => r.1)), countSat rs)

/-! ### Atomics (R201) -/

/-- The width in bytes of an ATYPE. -/
def atypeBytes (t : Nat) : Nat := if t = 0x0E || t = 0x0F then 8 else 4

/-- AOP and ATYPE allowed together (R201). -/
def atomicAllowed (aop t : Nat) : Bool :=
  match aop with
  | 1 => t = 0x01 || t = 0x0C || t = 0x0D || t = 0x0E || t = 0x0F
  | 2 => t = 0x0C || t = 0x0D || t = 0x0E || t = 0x0F
  | 3 => t = 0x0C || t = 0x0D || t = 0x0E || t = 0x0F
  | 4 => t = 0x0E || t = 0x0F
  | _ => false

/-- The new value and SWAPPED (R201). -/
def atomicNew (aop t old operand compare : Nat) : Nat × Bool :=
  let w := 8 * atypeBytes t
  match aop with
  | 1 => (if t = 0x01 then addFp32 old (operand % 2 ^ 32) else (old + operand) % 2 ^ w, false)
  | 2 => (minMax false t old (operand % 2 ^ w), false)
  | 3 => (minMax true t old (operand % 2 ^ w), false)
  | _ => if old = compare then (operand, true) else (old, false)

/-! ### The tier 0 code (R178 to R180) -/

/-- Multiplication by α = 0x02 in GF(2^8) with x^8 + x^4 + x^3 + x^2 + 1 (R178). -/
def gfX (a : Nat) : Nat := if a < 128 then 2 * a else Nat.xor (2 * a) 0x11D

/-- Multiplication in GF(2^8). -/
def gfMul (a b : Nat) : Nat :=
  ((List.range 8).foldl (fun (acc : Nat × Nat) i =>
    (if bitOf b i then Nat.xor acc.1 acc.2 else acc.1, gfX acc.2)) (0, a)).1

/-- α^k. -/
def gfPow (k : Nat) : Nat := (List.range (k % 255)).foldl (fun a _ => gfX a) 1

/-- The inverse: a^254. -/
def gfInv (a : Nat) : Nat :=
  ((List.range 7).foldl (fun (acc : Nat × Nat) _ =>
    let sq := gfMul acc.2 acc.2
    (gfMul acc.1 sq, sq)) (1, a)).1

/-- Coefficients of a product of polynomials, lowest first. -/
def polyMul (a b : List Nat) : List Nat :=
  (List.range (a.length + b.length - 1)).map (fun k =>
    (List.range (k + 1)).foldl (fun acc i => Nat.xor acc (gfMul (a.getD i 0) (b.getD (k - i) 0))) 0)

/-- A polynomial evaluated, lowest coefficient first. -/
def polyEval (p : List Nat) (x : Nat) : Nat := p.foldr (fun c acc => Nat.xor c (gfMul acc x)) 0

/-- The generator polynomial with roots α^0 to α^7 (R178), lowest coefficient first. -/
def rsGen : List Nat := (List.range 8).foldl (fun g i => polyMul g [gfPow i, 1]) [1]

/-- The eight check symbols of 64 data bytes: the remainder of the data polynomial, data byte 0 its highest coefficient,
divided by the generator; check symbol 0 is the remainder's highest coefficient (log 17). -/
def rsCheck (data : List Byte) : List Byte :=
  let g := (rsGen.take 8).reverse
  let r := data.foldl (fun (r : List Nat) d =>
    let f := Nat.xor d.toNat (r.headD 0)
    (List.zip ((r.drop 1) ++ [0]) g).map (fun (a, c) => Nat.xor a (gfMul f c))) (List.replicate 8 0)
  r.map (BitVec.ofNat 8)

/-- A sector with its check symbols (R178). -/
def rsEncode (data : List Byte) : List Byte := data ++ rsCheck data

/-- The eight syndromes of 72 symbols; symbol k is the coefficient of degree 71 - k. -/
def syndromes (sec : List Byte) : List Nat :=
  (List.range 8).map (fun j => let x := gfPow j; sec.foldl (fun acc b => Nat.xor (gfMul acc x) b.toNat) 0)

/-- The locator value of a symbol position. -/
def locOf (pos : Nat) : Nat := gfPow (71 - pos)

/-- The polynomial with the locators of positions as inverse roots. -/
def locPoly (ps : List Nat) : List Nat := ps.foldl (fun g p => polyMul g [1, locOf p]) [1]

/-- The syndromes times an erasure locator, first eight coefficients. -/
def modifiedSyn (syn : List Nat) (ps : List Nat) : List Nat := (polyMul syn (locPoly ps)).take 8

/-- A sector decoded with the retired positions as erasures (R179): its 64 data bytes and whether a retired position was
corrected, or an error detected outside them. -/
def rsDecode (retired : List Nat) (sec : List Byte) : Option (List Byte × Bool) :=
  let syn := syndromes sec
  let m := modifiedSyn syn retired
  let f := retired.length
  if sec.length ≠ 72 || (m.drop f).any (fun x => x ≠ 0) then none
  else
    let omega := m.take f
    let err (p : Nat) : Nat :=
      let xi := gfInv (locOf p)
      let den := (retired.filter (fun q => q ≠ p)).foldl (fun acc q => gfMul acc (Nat.xor 1 (gfMul (locOf q) xi))) 1
      gfMul (polyEval omega xi) (gfInv den)
    some ((sec.mapIdx (fun k b => if retired.contains k then b ^^^ BitVec.ofNat 8 (err k) else b)).take 64,
      syn.any (fun x => x ≠ 0))

/-- Berlekamp-Massey over a sequence: the shortest recurrence (connection polynomial and length). -/
structure BmState where
  c : List Nat
  b : List Nat
  len : Nat
  m : Nat
  d : Nat

def bmStep (u : List Nat) (st : BmState) (i : Nat) : BmState :=
  let delta := (List.range st.len).foldl (fun acc j => Nat.xor acc (gfMul (st.c.getD (j + 1) 0) (u.getD (i - (j + 1)) 0)))
    (u.getD i 0)
  if delta = 0 then { st with m := st.m + 1 }
  else
    let k := gfMul delta (gfInv st.d)
    let shifted := List.replicate st.m 0 ++ st.b.map (gfMul k)
    let c := (List.range (max st.c.length shifted.length)).map (fun j => Nat.xor (st.c.getD j 0) (shifted.getD j 0))
    if 2 * st.len ≤ i then { c := c, b := st.c, len := i + 1 - st.len, m := 1, d := delta }
    else { st with c := c, m := st.m + 1 }

/-- The locating decode (R180): the erroneous positions outside the retired ones, where the code can locate them. -/
def rsLocate (retired : List Nat) (sec : List Byte) : List Nat :=
  let f := retired.length
  let u := (modifiedSyn (syndromes sec) retired).drop f
  let st := (List.range u.length).foldl (bmStep u) { c := [1], b := [1], len := 0, m := 1, d := 1 }
  let roots := (List.range 72).filter (fun p => !retired.contains p && polyEval st.c (gfInv (locOf p)) = 0)
  if st.len ≠ 0 && 2 * st.len ≤ u.length && roots.length = st.len then roots else []

end Sys2Proof.Machine
end

