-- ==== Sys2Proof/Machine/State.lean ====
section
/-! DEFINITION. The state of the block: every register, table, queue and mode the spec names, as plain data.
Each field's docstring gives what it holds, the rule that names it, and its value in `State.reset`. -/

namespace Sys2Proof.Machine

/-- No command of this block stops the machine with a fault: the spec answers every condition with a status, an
error-log entry or a discard. The type has no constructor. -/
inductive Fault : Type
  deriving DecidableEq, Repr

/-- The reasons a command can be refused. -/
inductive Refusal : Type where
  /-- Raised only by an arm of `exec` whose command has no meaning yet (safe: it says nothing about the command). -/
  | notModelled (mnemonic : String)
  deriving DecidableEq, Repr

/-! ### Names of modes -/

/-- Partition states (R389). -/
inductive PState where
  | free | created | sealed | faulted | ending | striking
  deriving DecidableEq, Repr

/-- TDI states (R361 byte 306, R372). -/
inductive TdiState where
  | unlocked | locked | run | error
  deriving DecidableEq, Repr

/-- The phases of a strike (R406); `none` outside a strike. -/
inductive Phase where
  | none | teardown | s1 | s2 | s3 | s4
  deriving DecidableEq, Repr

/-- Link states (R88). -/
inductive LinkState where
  | down | training | unkeyed | keyed | quarantined | disabled
  deriving DecidableEq, Repr

/-- Low-power states (R309). -/
inductive LState where
  | l0 | l1 | l2 | l3
  deriving DecidableEq, Repr

/-- Life-cycle states (R466). -/
inductive LcState where
  | blank | test | production | endOfLife
  deriving DecidableEq, Repr

/-- An RS bank (R330). -/
inductive Bank where
  | blank | programming | complete | unusable
  deriving DecidableEq, Repr

/-- Key-slot states (R348). -/
inductive SlotState where
  | loaded | pinned | evicting
  deriving DecidableEq, Repr

/-- Peg-slot states (R214). -/
inductive PegState where
  | free | live | orphaned
  deriving DecidableEq, Repr

/-- Ring roles of a peg (R214). -/
inductive RingRole where
  | none | producer | consumer
  deriving DecidableEq, Repr

/-- Reservation states (R270). -/
inductive ResvState where
  | active | degraded | releasing
  deriving DecidableEq, Repr

/-- Rungs of the ladder (R430). -/
inductive Rung where
  | context | engine | partition | chip
  deriving DecidableEq, Repr

/-! ### Commands in progress -/

/-- A reply (R59). -/
structure Reply where
  seq : Nat
  status : Nat
  cls : Nat
  rflags : Nat
  time : Nat
  result : BitVec 128
  deriving DecidableEq, Repr

/-- What names an accepted command until it has replied (R56, R58, R59). -/
structure CmdRef where
  src : Source
  part : Nat
  slot : Nat
  gen : Nat
  seq : Nat
  cls : Nat
  op : Nat
  flags : Byte
  layer : Nat
  operator : Nat
  step : Nat
  start : Nat
  deriving DecidableEq, Repr

/-- A command that has started and not yet replied, with what RFLAGS will say of it (R60). -/
structure Inflight where
  ref : CmdRef
  preempted : Bool
  overrun : Bool
  deriving DecidableEq, Repr

/-- A command accepted and not yet started (R54, R55, R74). -/
structure Staged where
  ref : CmdRef
  pkt : Packet
  aux : Aux
  deriving DecidableEq, Repr

/-- What leaves the block at its ports. The model's own record, newest first. -/
inductive Output where
  | reply (dst : Source) (r : Reply)
  | hostReply (ring : RingId) (index : Nat) (r : Reply)
  | flit (link : Nat) (hdr : FlitHdr) (seq : Nat) (payload : Payload)
  | keyx (link : Nat) (msg : Nat) (arg : Nat)
  | memResponse (port : Nat) (code : Nat) (data : List Byte)
  | stackRead (addr : Nat) (access : Nat)
  | stackWrite (addr : Nat) (sectors : List Sector)
  | stackZero (granule : Nat) (count : Nat)
  | zero (part : Nat) (addr : Nat) (len : Nat)
  | tier1Read (line : Nat) (access : Nat)
  | tier1Write (line : Nat) (major : Nat) (minor : Nat) (data : List Byte)
  | sledRead (link : Nat) (tag : Nat) (line : Nat) (cls : Nat)
  | sledWrite (link : Nat) (tag : Nat) (line : Nat) (cls : Nat) (major : Nat) (minor : Nat) (data : List Byte)
  | write (part : Nat) (addr : Nat) (data : List Byte)
  | busWrite (addr : Nat) (data : List Byte)
  | document (dst : Source) (bytes : List Byte)
  | readData (value : Quad)
  | unsupportedRequest (part : Nat)
  | msix (vf : Option Nat) (vector : Nat)
  | spdm (code : Nat)
  | vendorResponse (session : Nat) (r : Reply)
  | ideKm (session : Nat) (msg : Nat) (status : Nat)
  | tdisp (tdi : Nat) (msg : Nat) (value : Nat)
  | doe (index : Nat) (type : Nat) (next : Nat)
  | tap (value : Word)
  | badCheck (link : Nat)
  | dump (source : Nat) (partial' : Bool) (excerpt : Bool)
  | erase (part : Nat) (slot : Nat)
  deriving DecidableEq, Repr

/-! ### Rings -/

/-- The registers of a ring pair (R61 to R67) and the replies held for it (R69). -/
structure RingRegs where
  /-- VS_SQ_BASE.ADDR, 58 bits as a 64 B multiple; 03 R61; reset 0. -/
  sqBase : Nat
  /-- VS_CQ_BASE.ADDR, 59 bits as a 32 B multiple; 03 R62; reset 0. -/
  cqBase : Nat
  /-- VS_RING_CTRL.SQ_LOG2, 4 bits; 03 R63; reset 0. -/
  sqLog2 : Nat
  /-- VS_RING_CTRL.CQ_LOG2, 4 bits; 03 R63; reset 0. -/
  cqLog2 : Nat
  /-- VS_RING_CTRL.ENABLE, 1 bit; 03 R63; reset 0. -/
  enable : Bool
  /-- VS_SQ_PTR.TAIL, 16 bits; 03 R64; reset 0. -/
  sqTail : Nat
  /-- VS_SQ_PTR.HEAD, 16 bits; 03 R64; reset 0. -/
  sqHead : Nat
  /-- VS_CQ_PTR.TAIL, 16 bits; 03 R65; reset 0. -/
  cqTail : Nat
  /-- VS_CQ_PTR.HEAD, 16 bits; 03 R65; reset 0. -/
  cqHead : Nat
  /-- Replies held, at most 64, oldest first; VS_RING_STATUS.HELD is their number; 03 R66, R69; reset none. -/
  held : List Reply
  /-- VS_RING_STATUS.FETCH_STOPPED, 1 bit; 03 R66; reset 0. -/
  fetchStopped : Bool
  /-- VS_RING_STATUS.BAD_TAIL, 1 bit; 03 R66; reset 0. -/
  badTail : Bool
  deriving DecidableEq, Repr

def RingRegs.reset : RingRegs :=
  { sqBase := 0, cqBase := 0, sqLog2 := 0, cqLog2 := 0, enable := false, sqTail := 0, sqHead := 0, cqTail := 0,
    cqHead := 0, held := [], fetchStopped := false, badTail := false }

/-! ### Partitions and contexts -/

/-- A carve-out range: first granule and granule count (R390). -/
structure Range where
  first : Nat
  count : Nat
  deriving DecidableEq, Repr

/-- The shares PART_CREATE gives a partition (R390, R392). -/
structure Shares where
  /-- KEY_SLOTS, 16 bits; KP_PART_KEYS.SHARE; 12 R390, 10 R356; reset 0. -/
  keySlots : Nat
  /-- CONTEXTS, 16 bits; 12 R390; reset 0. -/
  contexts : Nat
  /-- PEGS, 32 bits; 12 R390; reset 0. -/
  pegs : Nat
  /-- HANDLES, 32 bits; 12 R390; reset 0. -/
  handles : Nat
  /-- WAITERS, 16 bits; 12 R390; reset 0. -/
  waiters : Nat
  /-- GROUPS, 16 bits; 12 R390; reset 0. -/
  groups : Nat
  /-- RESVS, 16 bits; 12 R390; reset 0. -/
  resvs : Nat
  /-- CTR_WAYS, 8 bits; 12 R390; reset 0. -/
  ctrWays : Nat
  /-- POOL_WAYS, 8 bits; 12 R390; reset 0. -/
  poolWays : Nat
  /-- CTX_BASE, 16 bits; 12 R390; reset 0. -/
  ctxBase : Nat
  deriving DecidableEq, Repr

def Shares.zero : Shares :=
  { keySlots := 0, contexts := 0, pegs := 0, handles := 0, waiters := 0, groups := 0, resvs := 0, ctrWays := 0,
    poolWays := 0, ctxBase := 0 }

/-- The counters and settings of a per-partition view that no other unit holds. -/
structure View where
  /-- GB_PART_MALFORMED.COUNT, 16 bits saturating; 18 R534; reset 0. -/
  malformed : Nat
  /-- CA_SLICE.SLICE_Q, 12 bits; 08 R287; reset 16. -/
  sliceQ : Nat
  /-- CA_LEVEL.LEVEL, 2 bits; 08 R288; reset 0. -/
  level : Nat
  /-- CA_LEVEL.SHARED, 1 bit; 08 R288; reset 0. -/
  shared : Bool
  /-- An opt-in or opt-out waiting for the frame boundary; 08 R273; reset none. -/
  optPending : Option Bool
  /-- CA_PART_RESV.BROKEN, 8 bits saturating; 08 R289; reset 0. -/
  broken : Nat
  /-- CA_PART_RESV.DELAYED, 8 bits saturating; 08 R289; reset 0. -/
  delayed : Nat
  /-- PG_PART_EVENTS.STALE, 8 bits saturating; 07 R253; reset 0. -/
  stale : Nat
  /-- PG_PART_EVENTS.SATURATED, 8 bits saturating; 07 R253; reset 0. -/
  saturated : Nat
  /-- PG_PART_EVENTS.OVERRUN, 8 bits saturating; 07 R253; reset 0. -/
  overrun : Nat
  /-- PG_PART_EVENTS.TIMEOUT, 8 bits saturating; 07 R253; reset 0. -/
  timeout : Nat
  /-- SL_POOL_MAP s: pairs of slot 0-63 and (HOME 11 bits, VALID 1 bit), slots rising, absent = 0; 06 R213; reset all
  0. -/
  poolMap : List (Nat × Nat × Bool)
  /-- PL_PART_RESET.ACTIVE, 1 bit; 14 R457; reset 0. -/
  rungActive : Bool
  /-- PL_PART_RESET.RESTARTS, 8 bits saturating; 14 R457; reset 0. -/
  restarts : Nat
  /-- DM_PART_THROTTLE.PACE, 2 bits; 09 R323; reset 0. -/
  pace : Nat
  /-- DM_PART_THROTTLE.EMERGENCY, 1 bit; 09 R323; reset 0. -/
  emergency : Bool
  /-- DM_BE_WEIGHT p, 8 bits; 09 R321; reset 0. -/
  beWeight : Nat
  /-- The view's registers as function 0 last saw them, latched at the power-epoch boundary: offset and value;
  18 R533; reset none (read as 0; 0 is the family of reset values of the view). -/
  latched : List (Nat × Quad)
  /-- Commands completed in the running power epoch, 32 bits; 12 R403; reset 0. -/
  completed : Nat
  /-- Commands completed in the last completed power epoch, 32 bits; 12 R403; reset 0. -/
  completedLast : Nat
  /-- Link slots used in the running epoch; 12 R403 byte 24; reset 0. -/
  linkUsed : Nat
  /-- Link occupancy of the last epoch, 8 bits; 12 R403 byte 24; reset 0. -/
  linkOcc : Nat
  /-- Sill units used in the running epoch; 12 R403 byte 25; reset 0. -/
  sillUsed : Nat
  /-- Sill occupancy of the last epoch, 8 bits; 12 R403 byte 25; reset 0. -/
  sillOcc : Nat
  /-- An ADMIT_REQUEST from the partition's contexts has started in this power epoch; 13 R420; reset 0. -/
  admitted : Bool
  /-- Bound breaks of the partition's die-network accesses; 06 R196; reset 0. -/
  boundBreaks : Nat
  deriving DecidableEq, Repr

def View.reset : View :=
  { malformed := 0, sliceQ := 16, level := 0, shared := false, optPending := none, broken := 0, delayed := 0,
    stale := 0, saturated := 0, overrun := 0, timeout := 0, poolMap := [], rungActive := false, restarts := 0,
    pace := 0, emergency := false, beWeight := 0, latched := [], completed := 0, completedLast := 0, linkUsed := 0,
    linkOcc := 0, sillUsed := 0, sillOcc := 0, admitted := false, boundBreaks := 0 }

/-- One partition (R389 to R393) with its rings and view. -/
structure Part where
  /-- PSTATE, 8 bits as a name; 12 R389; reset FREE. -/
  pstate : PState
  /-- Domain identifier, 24 bits, 0 when none; 12 R390, 01 R24; reset 0. -/
  domain : Nat
  /-- RESV_p, 16 bits in 1/16 W; DM_GRANT RESV; 12 R390, 09 R320; reset 0. -/
  resvW : Nat
  /-- The shares; 12 R390, R392; reset all 0. -/
  shares : Shares
  /-- Tier 0 ranges; 06 R176, 12 R390; reset none. -/
  t0 : List Range
  /-- Tier 1 ranges; 06 R176, 12 R390; reset none. -/
  t1 : List Range
  /-- Tier 2 ranges; 06 R176, 12 R390; reset none. -/
  t2 : List Range
  /-- Atomic ledger base, 48 bits; 06 R203, 12 R390; reset 0. -/
  ledger : Nat
  /-- The epoch, 16 bits, of the tier key held by the Sill tiles, or no tier key; 06 R182; reset none. -/
  tierKey : Option Nat
  /-- TDI state, VS_TDI.STATE and VS_TDI_STATE.STATE; 11 R372, R387, R388; reset CONFIG_UNLOCKED. -/
  tdi : TdiState
  /-- VS_TDI.BOUND, 1 bit; 11 R387; reset 0. -/
  tdiBound : Bool
  /-- VS_TDI.STREAM, 4 bits; 11 R387; reset 0. -/
  tdiStream : Nat
  /-- VERIFIER_ID, 384 bits, or not recorded; 10 R340; reset none. -/
  verifierId : Option Hash
  /-- Tenant debug open; 15 R473; reset closed. -/
  tenantDebug : Bool
  /-- The partition's rings; 03 R61 to R66. -/
  ring : RingRegs
  /-- The other registers of the view. -/
  view : View
  /-- IV counter of parcels, 48 bits; 04 R108; reset 0. -/
  ivParcel : Nat
  /-- IV counter of PACK flits, 48 bits; 04 R108; reset 0. -/
  ivPack : Nat
  /-- Phase of the teardown and strike; 12 R405, R406; reset none. -/
  phase : Phase
  /-- Start of the running phase, platform ns; 12 R406; reset 0. -/
  phaseAt : Nat
  /-- When its teardown ended: strikes take the reserve in this order; 12 R406; reset 0. -/
  tornAt : Nat
  /-- The PART_DESTROY or DEBUG_RESPONSE whose reply follows the strike; 12 R404; reset none. -/
  endDestroy : Option CmdRef
  /-- The PART_RELEASE whose reply follows teardown; 12 R404; reset none. -/
  endRelease : Option CmdRef
  /-- The bundles' change counts when the partition was created, from which its route epochs count; 04 R123; reset eight
  times 0. -/
  epochBase : List Nat
  deriving DecidableEq, Repr

def Part.reset : Part :=
  { pstate := .free, domain := 0, resvW := 0, shares := Shares.zero, t0 := [], t1 := [], t2 := [], ledger := 0,
    tierKey := none, tdi := .unlocked, tdiBound := false, tdiStream := 0, verifierId := none, tenantDebug := false,
    ring := RingRegs.reset, view := View.reset, ivParcel := 0, ivPack := 0, phase := .none, phaseAt := 0, tornAt := 0,
    endDestroy := none, endRelease := none, epochBase := List.replicate 8 0 }

/-- What a handle-table entry points at (R217, R228). -/
inductive HandleTarget where
  | owner (peg : Nat) (slotGen : Nat)
  | localImport (peg : Nat) (slotGen : Nat) (rights : Nat)
  | remote (chip : Nat) (part : Nat) (peg : Nat) (slotGen : Nat) (rights : Nat)
  deriving DecidableEq, Repr

/-- A handle-table entry: its index, its generation, what it points at while used, and whether its stored check value
still matches (R217, R219). -/
structure HandleEntry where
  idx : Nat
  gen : Nat
  target : Option HandleTarget
  checkOk : Bool
  deriving DecidableEq, Repr

/-- A member of a fence: a parcel, whether it has settled PLACED, and, from then on, its destination, whether it was
mirror-sent, and the epochs it was sent in (R238). -/
structure FenceMember where
  parcel : Nat
  settled : Bool
  dst : Nat
  mirror : Bool
  epoch : Nat
  epochM : Nat
  deriving DecidableEq, Repr

/-- An armed fence of a context (R236 to R239). -/
structure Fence where
  ref : CmdRef
  members : List FenceMember
  failed : Bool
  deriving DecidableEq, Repr

/-- A SIGNAL held behind the fences of its context that were armed when it was accepted (R237). -/
structure HeldSignal where
  ref : CmdRef
  handle : Word
  value : Quad
  /-- The SEQ of the last fence before it. -/
  behind : Nat
  deriving DecidableEq, Repr

/-- One set of Scribe's context fields (R489). -/
structure Accounting where
  queueWaitNs : Nat
  preemptions : Nat
  overruns : Nat
  unitNs : Nat
  commands : Nat
  discards : Nat
  openedAt : Nat
  seq : Nat
  layer : Nat
  operator : Nat
  step : Nat
  /-- The window has been opened. -/
  isOpen : Bool
  deriving DecidableEq, Repr

def Accounting.zero : Accounting :=
  { queueWaitNs := 0, preemptions := 0, overruns := 0, unitNs := 0, commands := 0, discards := 0, openedAt := 0,
    seq := 0, layer := 0, operator := 0, step := 0, isOpen := false }

/-- One registered context. -/
structure Ctx where
  /-- Context slot, 12 bits; 03 R56; no context at reset. -/
  slot : Nat
  /-- Owning partition; 12 R397; no context at reset. -/
  part : Nat
  /-- Expected sequence, 32 bits; 03 R73; 0 at registration. -/
  expected : Nat
  /-- log2 of the handle-table size; 07 R218; no context at reset. -/
  htLog2 : Nat
  /-- Handle table, entries used at least once; 07 R217, R218; empty at registration. -/
  handles : List HandleEntry
  /-- Open fence set: parcels; 07 R235; empty at registration. -/
  openSet : List FenceMember
  /-- Armed fences, oldest first, at most three; 07 R237; none at registration. -/
  fences : List Fence
  /-- Held signals, oldest first; 07 R237; none at registration. -/
  held : List HeldSignal
  /-- Accounting set; 16 R489; 0 at registration. -/
  accounting : Accounting
  /-- Command window; 16 R489; 0 at registration. -/
  cmdWindow : Accounting
  /-- Step window; 16 R489; 0 at registration. -/
  stepWindow : Accounting
  /-- The accounting set at the last power-epoch boundary; 16 R491; 0. -/
  epochSet : Accounting
  /-- The windows closed by a start in the present KCLK cycle: the time of that start, the command window, and the step window
  where it closed; 16 R490; none. -/
  boundary : Option (Nat × Accounting × Option Accounting)
  /-- The accounting set at the last SAMPLE record; 16 R495; 0. -/
  sampled : Accounting
  /-- Excess ns charged to the context's next slice; 03 R79; 0. -/
  overrunNs : Nat
  /-- Pre-empted classes of the context; 08 R279; none. -/
  preempted : List Nat
  deriving DecidableEq, Repr

/-! ### Command port, firmware and sessions -/

/-- A secured SPDM session (R366, R367). -/
structure Session where
  id : Nat
  /-- The TSM session (R367). -/
  tsm : Bool
  /-- Opened with mutual authentication, and the requester's VERIFIER_ID, zero without (R340, R367). -/
  mutualAuth : Bool
  verifierId : Hash
  /-- Expected sequence (R73). -/
  expected : Nat
  deriving DecidableEq, Repr

/-- Command acceptance and execution (R52 to R74). -/
structure Cmds where
  /-- Commands in the contexts' staging queues, oldest first, 8 a context; 03 R54; reset empty. -/
  staged : List Staged
  /-- The firmware queue, 256 entries; 03 R54; reset empty. -/
  firmware : List Staged
  /-- Partition whose tenant command Tlatriward served last, for the round robin; 03 R54; reset 0 (DESIGN CHOICE, log 1). -/
  fwLast : Nat
  /-- Commands started and not yet replied; 03 R55, R69; reset none. -/
  inflight : List Inflight
  /-- Replies held at the CMD port while the die withholds ready, at most 64; 03 R53; reset none. -/
  cmdHeld : List (Source × Reply)
  /-- The die's ready at the CMD port; 03 R53; reset 1 (DESIGN CHOICE, log 1). -/
  cmdReady : Bool
  /-- Registered contexts, slots rising; 03 R24, 12 R397; reset none. -/
  ctxs : List Ctx
  /-- Generation of context slots, 8 bits, absent = 0; 03 R58; reset all 0. -/
  gens : List (Nat × Nat)
  /-- Expected sequence of the management ring, 32 bits; 03 R73; reset 0. -/
  mgmtExpected : Nat
  /-- The management ring GB_MSQ_BASE to GB_MRING_STATUS; 03 R67; reset all 0. -/
  mgmtRing : RingRegs
  deriving DecidableEq, Repr

/-! ### Links and parcels -/

/-- A flit in a replay buffer or a send queue. -/
structure QFlit where
  hdr : FlitHdr
  payload : Payload
  /-- Owning partition of a locally sourced flit, none for infrastructure and transit (R260). -/
  owner : Option Nat
  /-- The SEND reservation of its parcel. -/
  resv : Option Nat
  transit : Bool
  queuedAt : Nat
  /-- A BOUND_NOTICE has been queued for it at this block (R276). -/
  noticed : Bool
  /-- It was detoured at this block (R119). -/
  detoured : Bool
  /-- The link and virtual channel it came in on, whose buffer it holds (R96). -/
  from_ : Option (Nat × Nat)
  deriving DecidableEq, Repr

/-- The steps of a neighbour exchange (R377, R378). -/
inductive KeyxStep where
  | idle | helloSent | helloSeen | certsSeen | kemI | kemR | refused
  deriving DecidableEq, Repr

/-- One link engine. -/
structure Link where
  /-- STATE, 3 bits; 04 R88, R134; reset DOWN. -/
  state : LinkState
  /-- GL_LINK_CTRL.ENABLE, 1 bit; 04 R133; reset 1. -/
  enable : Bool
  /-- PCS link up, from the port; 04 R88; reset 0. -/
  pcsUp : Bool
  /-- KEY_PHASE, current sending phase, 1 bit; 04 R134; reset 0. -/
  keyPhase : Bool
  /-- ROTATING, previous or next key held, 1 bit; 04 R134; reset 0. -/
  rotating : Bool
  /-- A flit of the new phase has been received since the last switch; 04 R103; reset no. -/
  newPhaseSeen : Bool
  /-- A ROTATE has been sent and not acknowledged, since when; 11 R380; reset none. -/
  rotateSent : Option Nat
  /-- ROTATIONS n, 17 bits (65,536 starts a fresh exchange), 16 shown; 04 R134, R104; reset 0. -/
  rotations : Nat
  /-- A link secret and its hop keys are held; 04 R101; reset no. -/
  secret : Bool
  /-- Installation time of the current key; 04 R102; reset 0. -/
  keyAt : Nat
  /-- This end initiated the exchange; 11 R377; reset no. -/
  initiator : Bool
  /-- The peer's chip identifier, if known; 11 R377, 14 R447; reset none. -/
  peer : Option Nat
  /-- First 8 B of the hash of the peer's DeviceID EC key; 11 R381; reset 0. -/
  peerId : Nat
  /-- The reason of R379 that the peer's HELLO earns, 0 for none: rows 0x03 and 0x04, applied after 0x01; reset 0. -/
  helloReason : Nat
  /-- Exchange step; 11 R377; reset idle. -/
  keyx : KeyxStep
  /-- Time of the last exchange message; 11 R379 reason 0x07; reset 0. -/
  keyxAt : Nat
  /-- NEIGHBOUR_KEYX waiting for the exchange's end; 11 R381; reset none. -/
  keyxCmd : Option CmdRef
  /-- Next link sequence to send, 32 bits; 04 R93; reset 0. -/
  txSeq : Nat
  /-- Next link sequence expected, 32 bits; 04 R93; reset 0. -/
  rxSeq : Nat
  /-- Key phase of the partner's flits; 04 R103; reset 0. -/
  rxPhase : Bool
  /-- A refused sequence is awaited and later flits are discarded; 04 R95; reset no. -/
  rxRefusing : Bool
  /-- A NAK is owed to the partner; 04 R95; reset no. -/
  nakOwed : Bool
  /-- Replay buffer, oldest first: key phase × 2^32 + sequence, and flit; at most 256 besides IDLE flits; 04 R93; reset
  empty. -/
  replay : List (Nat × QFlit)
  /-- Sequences still to resend, in order; 04 R95; reset none. -/
  resend : List Nat
  /-- Time of the last acknowledgement advance, or of the first outstanding flit; 04 R95; reset 0. -/
  ackAt : Nat
  /-- Time of the last flit received; 04 R98; reset 0. -/
  rxAt : Nat
  /-- Credits held for the ten virtual channels, 0-32; 04 R91, R96; reset 0. -/
  credits : List Nat
  /-- Credits owed to the partner per virtual channel; 04 R96; reset 0. -/
  owed : List Nat
  /-- Flits queued for this link: forwarded, moved and infrastructure flits; 04 R116, R98; reset none. -/
  txq : List QFlit
  /-- Times of the last check failures, newest first, at most 33; 04 R105; reset none. -/
  failTimes : List Nat
  /-- Times of quarantines within 60 s; QUAR_60S is their number; 04 R105, R134; reset none. -/
  quarTimes : List Nat
  /-- Check failures since chip reset; GL_LINK_ERR shows it rounded; 04 R135; reset 0. -/
  checkFails : Nat
  /-- Malformed flits since chip reset; 04 R135; reset 0. -/
  malformed : Nat
  /-- Replays since chip reset; 04 R135; reset 0. -/
  replays : Nat
  /-- Flits discarded for HOPS 28; 04 R106; reset 0. -/
  loops : Nat
  /-- Context slot whose BE flit left last, for the round robin; 08 R255; reset 0. -/
  beLast : Nat
  /-- Last time this link answered an ECHO_REQ; 17 R519; reset none. -/
  echoAt : Option Nat
  /-- Retired by the ladder; 14 R435; reset no. -/
  retired : Bool
  deriving DecidableEq, Repr

def Link.reset : Link :=
  { state := .down, enable := true, pcsUp := false, keyPhase := false, rotating := false, newPhaseSeen := false, rotateSent := none,
    rotations := 0, secret := false, keyAt := 0, initiator := false, peer := none, peerId := 0, helloReason := 0, keyx := .idle,
    keyxAt := 0, keyxCmd := none, txSeq := 0, rxSeq := 0, rxPhase := false, rxRefusing := false, nakOwed := false, replay := [],
    resend := [], ackAt := 0, rxAt := 0, credits := List.replicate 10 0, owed := List.replicate 10 0, txq := [],
    failTimes := [], quarTimes := [], checkFails := 0, malformed := 0, replays := 0, loops := 0, beLast := 0, echoAt := none,
    retired := false }

/-- What a parcel at its source is for. -/
inductive TxKind where
  | data
  | chunk (group : Nat) (unit : Nat) (gather : Bool)
  | peg
  | atomicReq (request : Nat)
  | atomicResp
  deriving DecidableEq, Repr

/-- A parcel at its source, from acceptance to settlement (R107, R115, R264). -/
structure TxParcel where
  id : Nat
  part : Nat
  kind : TxKind
  /-- The command it belongs to, if it completes one. -/
  ref : Option CmdRef
  dst : Nat
  cls : Nat
  srcAddr : Nat
  length : Nat
  recvTag : Nat
  kindInfo : Word
  body : ParcelBody
  /-- Reservation entry for RC and TC. -/
  resv : Option Nat
  mirror : Bool
  acceptedAt : Nat
  /-- Eligibility time and DEADLINE (R264). -/
  eligibleAt : Option Nat
  deadline : Nat
  /-- PSEQ, PTAG, epoch and IV counter, taken when the first flit leaves (R108, R113, R123, R434). -/
  pseq : Option Nat
  ptag : Nat
  epoch : Nat
  epochM : Nat
  iv : Nat
  hops : Nat
  flits : Nat
  sent : Nat
  sentMirror : Nat
  /-- When the last flit left (R115). -/
  leftAt : Option Nat
  /-- ST_BOUND_BROKEN has been given (R127, R275). -/
  broken : Bool
  detourNotices : Nat
  /-- ns a BE parcel waited for capacity (R280). -/
  delay : Nat
  /-- The injection seal-lane pair that seals its present unit, until its last flit leaves (R107, R434). -/
  lane : Option Nat
  /-- Part of P0's drain at a chip reset: its command's reply is written though its context is reset (R430). -/
  drain : Bool
  deriving DecidableEq, Repr

/-- A PACK record waiting to be sent to the source of its parcel (R111 step 7, R114). -/
structure PackOut where
  part : Nat
  dst : Nat
  domain : Nat
  cls : Nat
  record : PackRecord
  deriving DecidableEq, Repr

/-- A destination's replay window for one source and partition (R113). -/
structure RxWindow where
  part : Nat
  src : Nat
  base : Nat
  received : List Nat
  deriving DecidableEq, Repr

/-- A posted receive buffer (R128). -/
structure Posted where
  ref : CmdRef
  addr : Nat
  len : Nat
  tag : Nat
  filter : Nat
  deriving DecidableEq, Repr

/-- A parcel being gathered at its destination (R111 step 1). -/
structure Gather where
  src : Nat
  ptag : Nat
  mirror : Bool
  have_ : List Nat
  lastSeen : Option Nat
  deriving DecidableEq, Repr

/-- Guyline (R84 to R135). -/
structure Guyline where
  /-- GL_COORD X, Y, Z, NX_M1, NY_M1, NZ_M1: bits [22:0] as written; 04 R132; reset 0. -/
  coord : Word
  /-- GL_COORD.LOCK, 1 bit; 04 R132; reset 0. -/
  lock : Bool
  /-- The 64 link engines; 04 R88 to R106, R133 to R135. -/
  links : List Link
  /-- Parcels at their source; 04 R107; reset none. -/
  parcels : List TxParcel
  /-- Next parcel id, the model's own; reset 0. -/
  nextId : Nat
  /-- Next PTAG, 12 bits; 04 R89; reset 0 (DESIGN CHOICE, log 1). -/
  nextPtag : Nat
  /-- Changes of each bundle's set of KEYED links, modulo 256; a route's epoch is its first-hop bundle's count less the
  partition's base; 04 R123; reset eight times 0. -/
  bundleEpochs : List Nat
  /-- PSEQ counters: partition, destination, next PSEQ; absent = 0; 04 R113; reset none. -/
  pseqs : List (Nat × Nat × Nat)
  /-- Receive windows; absent = base 0, none received; 04 R113; reset none. -/
  windows : List RxWindow
  /-- Posted receive buffers, oldest first, 1,024 a partition; 04 R128; reset none. -/
  posted : List Posted
  /-- Parcels being gathered; 04 R111; reset none. -/
  gathers : List Gather
  /-- PACK records waiting for a flit, oldest first; 04 R111, R114; reset none. -/
  packq : List PackOut
  /-- BOUND_NOTICEs sent: source and PTAG of the parcel, and reason, kept until its last flit is forwarded; 08 R276; reset
  none. -/
  notices : List (Nat × Nat × Nat)
  /-- Flits received after the cut of a halt, oldest first: link and flit; 16 R500; reset none. -/
  postCut : List (Nat × RxFlit)
  /-- BOUND_NOTICEs that matched no parcel; 08 R276; reset 0. -/
  noticesIgnored : Nat
  deriving DecidableEq, Repr

/-! ### Collectives and unfold -/

/-- A running collective (R144 to R158). -/
structure Collective where
  ref : CmdRef
  op : Nat
  inFmt : Nat
  outFmt : Nat
  srcAddr : Nat
  dstAddr : Nat
  count : Nat
  cls : Nat
  root : Nat
  resv : Option Nat
  timeoutUs : Nat
  saturate : Bool
  fenceSet : Bool
  received : Nat
  sent : Nat
  saturations : Nat
  /-- Units still to be written to DST. -/
  toWrite : Nat
  /-- CHUNK parcels still to be sent. -/
  toSend : Nat
  /-- Units this member has handled: unit index and phase, true for gather. -/
  handled : List (Nat × Bool)
  /-- Completed elements of this member's own shard in OUT_FMT: reduce unit and bytes. -/
  ownDone : List (Nat × List Byte)
  /-- CHUNK parcels sent and not yet settled. -/
  unsettled : Nat
  delay : Nat
  lastChunk : Nat
  preempted : Bool
  deriving DecidableEq, Repr

/-- A staged chunk (R149). -/
structure StagedChunk where
  unit : Nat
  gather : Bool
  instance_ : Nat
  pseq : Nat
  epoch : Nat
  cls : Nat
  /-- Its 4 KiB place in the staging area. -/
  slot : Nat
  bytes : List Byte
  deriving DecidableEq, Repr

/-- A collective group of a partition on this member (R139 to R149). -/
structure Group where
  part : Nat
  num : Nat
  members : List Nat
  pos : Nat
  stageAddr : Nat
  /-- Instance counter, 7 bits shown. -/
  inst : Nat
  running : Option Collective
  staged : List StagedChunk
  /-- Chunks of the running instance that have come and whose unit has not been handled. -/
  arrived : List StagedChunk
  /-- PSEQs of chunks this member sent that its successor staged and has not consumed. -/
  awaitConsumed : List Nat
  /-- Staging credits towards the successor, 0-64. -/
  credits : Nat
  deriving DecidableEq, Repr

/-- An UNFOLD in progress (R162 to R168, R206). -/
structure Unfolding where
  ref : CmdRef
  desc : Word
  imageAddr : Nat
  tagAddr : Nat
  outAddr : Nat
  scaleAddr : Nat
  imageId : Quad
  first : Nat
  blocks : Nat
  keySlot : Nat
  cls : Nat
  pendingUnits : List Nat
  verified : Nat
  written : Nat
  saturations : Nat
  delay : Nat
  deriving DecidableEq, Repr

/-- Reduce-forward and unfold. -/
structure Inline where
  /-- Collective groups held, 256 a block; 05 R142; reset none. -/
  groups : List Group
  /-- UNFOLD commands in progress; 05 R165; reset none. -/
  unfolds : List Unfolding
  deriving DecidableEq, Repr

/-! ### Sill -/

/-- A counter record (R186): page number P, MAJOR, sixteen MINORs, KEY_EPOCH. -/
structure CtrRecord where
  page : Nat
  major : Nat
  minors : List Nat
  keyEpoch : Nat
  deriving DecidableEq, Repr

/-- An access Sill has accepted and not finished (R174, R175, R191): of a MEM_DIE port, or of the block's own engines. -/
structure MemAccess where
  id : Nat
  /-- The MEM_DIE port, none for a write of the block's own. -/
  port : Option Nat
  /-- Response group (R174 bits [7:6]). -/
  group : Nat
  part : Nat
  addr : Nat
  size : Nat
  write : Bool
  data : List Byte
  cls : Nat
  issuedAt : Nat
  /-- It has passed its line's arbiter and its reads have been issued. -/
  begun : Bool
  /-- A counter record is being fetched from tier 0 (R189). -/
  recordWait : Bool
  /-- It re-seals its page (R188). -/
  reseal : Bool
  /-- Lines whose records are still to come. -/
  need : List Nat
  /-- Plaintext at hand: base address and bytes. -/
  got : List (Nat × List Byte)
  /-- A twin mismatch has made the line be redone once (R207). -/
  retried : Bool
  /-- The response code and data, waiting for earlier responses of its port and group. -/
  answer : Option (Nat × List Byte)
  deriving DecidableEq, Repr

/-- Plaintext of a line held until the controller or sled acknowledges its write (R191). -/
structure HeldLine where
  access : Nat
  part : Nat
  addr : Nat
  data : List Byte
  deriving DecidableEq, Repr

/-- A pool-buffer line (R197). -/
structure PoolLine where
  part : Nat
  addr : Nat
  data : List Byte
  deriving DecidableEq, Repr

/-- A ledger entry (R203). -/
structure LedgerEntry where
  part : Nat
  src : Nat
  aseq : Nat
  context : Nat
  aflags : Nat
  time : Nat
  old : Quad
  deriving DecidableEq, Repr

/-- A sled request outstanding (R193). -/
structure SledReq where
  link : Nat
  tag : Nat
  access : Nat
  line : Nat
  write : Bool
  sentAt : Nat
  deriving DecidableEq, Repr

/-- A remote request whose answer is awaited (R196, R440). -/
structure RemoteReq where
  id : Nat
  part : Nat
  home : Nat
  ref : Option CmdRef
  access : Option Nat
  addr : Nat
  rop : Nat
  context : Nat
  aseq : Nat
  pseq : Option Nat
  settledAt : Option Nat
  dropFill : Bool
  resentBe : Bool
  deriving DecidableEq, Repr

/-- A pool request placed at this home and not yet executed (R196, R204): source chip, domain, PSEQ and class of its
parcel, and whether it found the same ASEQ being applied. -/
structure PoolIn where
  src : Nat
  domain : Nat
  pseq : Nat
  cls : Nat
  req : PoolMsg
  waited : Bool
  deriving DecidableEq, Repr

/-- A lane's retirement table and the evidence for it (R179, R180). -/
structure GuardLane where
  retired : List Nat
  /-- Positions found among several errors, with when. -/
  seen : List (Nat × Nat)
  deriving DecidableEq, Repr

/-- Sill (R171 to R213). -/
structure Sill where
  /-- SL_POOL_CFG.RACK_SLOT, 5 bits; 06 R209; reset 0. -/
  rackSlot : Nat
  /-- SL_POOL_CFG.POOL_EN, 1 bit; 06 R209; reset 0. -/
  poolEn : Bool
  /-- SL_RETIRE 0-15, four positions of 7 bits with valid bits, and R180's evidence; 06 R210; reset none. -/
  lanes : List GuardLane
  /-- SL_ERR.CORRECTED, 16 bits saturating; 06 R211; reset 0. -/
  corrected : Nat
  /-- SL_ERR.UNCORRECTABLE, 8 bits saturating; 06 R211; reset 0. -/
  uncorrectable : Nat
  /-- SL_ERR.CHECK_FAIL, 8 bits saturating; 06 R211; reset 0. -/
  checkFail : Nat
  /-- SL_LATE.T0_LATE, 12 bits saturating; 06 R212; reset 0. -/
  t0Late : Nat
  /-- SL_LATE.T1_LATE, 10 bits saturating; 06 R212; reset 0. -/
  t1Late : Nat
  /-- SL_LATE.SLED_LATE, 10 bits saturating; 06 R212; reset 0. -/
  sledLate : Nat
  /-- Next tier key epoch, 16 bits; 06 R182; reset 1. -/
  nextEpoch : Nat
  /-- Counter records, absent = all zero; 06 R186; reset none (the starts zero the region). -/
  records : List CtrRecord
  /-- Pages the sweep has still to clear; 06 R190; reset none. -/
  sweep : List Range
  /-- Accesses accepted and not answered; 06 R174; reset none. -/
  accesses : List MemAccess
  /-- Next access id, the model's own; reset 0. -/
  nextAccess : Nat
  /-- Lines whose writes are not yet acknowledged; 06 R191; reset none. -/
  heldLines : List HeldLine
  /-- Pool-buffer lines; 06 R197; reset none. -/
  pool : List PoolLine
  /-- Ledger entries of this chip's home partitions, absent = invalid; 06 R203; reset none. -/
  ledger : List LedgerEntry
  /-- Sled requests outstanding, at most 1,024 a link; 06 R193; reset none. -/
  sleds : List SledReq
  /-- Remote requests awaiting an answer; 06 R196, 14 R440; reset none. -/
  remote : List RemoteReq
  /-- Pool requests placed at this home and not yet executed; 06 R196, R204; reset none. -/
  inbox : List PoolIn
  /-- Unclean tier 0 granules, as ranges in rising order; 12 R394; reset all 2,994. -/
  unclean : List Range
  deriving DecidableEq, Repr

/-! ### Pegs -/

/-- A peg slot that has been used (R214). -/
structure Peg where
  idx : Nat
  value : Quad
  isValue : Bool
  state : PegState
  slotGen : Nat
  ownerPart : Nat
  ownerCtx : Nat
  role : RingRole
  partner : Nat
  depth : Nat
  /-- Order of orphaning, to find the one orphaned longest ago (R220). -/
  orphanedAt : Nat
  deriving DecidableEq, Repr

/-- An armed wait of a context on this chip (R223, R225, R226, R231). -/
structure Waiter where
  ref : CmdRef
  peg : Nat
  remoteChip : Option Nat
  target : Quad
  deadline : Nat
  /-- VALUE of the last ARMED answer (R232). -/
  lastArmed : Quad
  /-- Pre-empted under R81; the answer held meanwhile (R226, R232). -/
  preempted : Bool
  heldAnswer : Option (Nat × Quad)
  /-- The parameters sent to the home, for CANCEL. -/
  homePart : Nat
  homeGen : Nat
  deriving DecidableEq, Repr

/-- A remote registration at this home (R231). -/
structure RemoteWait where
  src : Nat
  part : Nat
  context : Nat
  seq : Nat
  peg : Nat
  target : Quad
  deadline : Nat
  deriving DecidableEq, Repr

/-- A remote SIGNAL awaiting its RESULT (R231). -/
structure RemoteSignal where
  ref : CmdRef
  chip : Nat
  parcel : Nat
  settledAt : Option Nat
  answer : Option (Nat × Quad)
  deriving DecidableEq, Repr

/-- A PEG message opened at this block and held for its APPLY_AT (R234): source chip, domain, plaintext. -/
structure PegIn where
  src : Nat
  domain : Nat
  msg : PegMsg
  deriving DecidableEq, Repr

/-- Pegs (R214 to R253). -/
structure Pegs where
  /-- Peg slots used since chip reset, absent = FREE with SLOT_GEN 0; 07 R214; reset none. -/
  slots : List Peg
  /-- Armed waits; 07 R223; reset none. -/
  waiters : List Waiter
  /-- Remote registrations; 07 R231; reset none. -/
  remote : List RemoteWait
  /-- Remote signals awaiting answers; 07 R231; reset none. -/
  signals : List RemoteSignal
  /-- PEG messages held for their APPLY_AT; 07 R234; reset none. -/
  inbox : List PegIn
  /-- PG_LINK_DELAY.LP, 8 bits; 07 R249; reset 120. -/
  linkDelay : Nat
  /-- PG_LATE.COUNT, 16 bits saturating; 07 R250; reset 0. -/
  late : Nat
  /-- Order counter of orphaning, the model's own; reset 0. -/
  orphanClock : Nat
  deriving DecidableEq, Repr

/-! ### Keys -/

/-- An occupied key-cache slot (R333, R348). -/
structure KeySlot where
  part : Nat
  slot : Nat
  state : SlotState
  usage : Nat
  attr : Word
  keyId : Nat
  domain : Nat
  prefix_ : Nat
  key : Key
  /-- A weight key from a binding set without ALLOW_TENANT_DEBUG (R475). -/
  noDebug : Bool
  /-- The KEY_EVICT that empties the slot, and the commands accepted before it that still use the key (R347). -/
  evict : Option CmdRef
  users : List CmdRef
  deriving DecidableEq, Repr

/-- Kingpost (R324 to R356). -/
structure Kingpost where
  /-- KP_STATUS.READY, 1 bit; 10 R353; reset 0. -/
  ready : Bool
  /-- KP_STATUS.DBG_KEYS, 1 bit; 10 R353; reset 0. -/
  dbgKeys : Bool
  /-- KP_STATUS.ENTROPY_FAIL, 1 bit; 10 R353; reset 0. -/
  entropyFail : Bool
  /-- KP_STATUS.SVN, 7 bits; 10 R353; reset 0. -/
  svn : Nat
  /-- KP_FAULTS.TWIN, 8 bits saturating; 10 R355; reset 0. -/
  twin : Nat
  /-- KP_FAULTS.CFS, 8 bits saturating; 10 R355; reset 0. -/
  cfs : Nat
  /-- KP_FAULTS.ENTROPY, 8 bits saturating; 10 R355; reset 0. -/
  entropy : Nat
  /-- KP_FAULTS.REFUSED, 8 bits saturating; 10 R355; reset 0. -/
  refused : Nat
  /-- Occupied key slots; 10 R339; reset none. -/
  slots : List KeySlot
  /-- ENDORSED, 1 bit; 11 R358; reset 0. -/
  endorsed : Bool
  /-- The release gate is frozen and the firmware core halted; 10 R326; reset no. -/
  halted : Bool
  /-- Drawings from the DRBG, which number the free key values; the model's own; reset 0. -/
  draws : Nat
  deriving DecidableEq, Repr

/-! ### Calendar -/

/-- A reservation (R265 to R277). -/
structure Resv where
  entry : Nat
  gen : Nat
  part : Nat
  cls : Nat
  resource : Nat
  mask : Nat
  maxHops : Nat
  detour : Bool
  mirror : Bool
  tier : Bool
  rate : Nat
  maxParcel : Nat
  bound : Nat
  slots : Nat
  units : Nat
  homes : Nat
  pos : Nat
  state : ResvState
  /-- The links that now hold its positions: for each bundle in rising order the primary copy's n, then the mirror copy's
  n (R267); none where a home link has lost its positions (R277). -/
  links : List (Option Nat)
  /-- The shaper's rate in MB/s (R272). -/
  shaperRate : Nat
  /-- Token bucket (R271): one flit is 4,000 × MAX_PARCEL, one 256 B unit 4,000 × 256. -/
  tokens : Nat
  tokensAt : Nat
  deriving DecidableEq, Repr

/-- A BE shaper (R271, R272). -/
structure Shaper where
  part : Nat
  resource : Nat
  rate : Nat
  depth : Nat
  tokens : Nat
  tokensAt : Nat
  deriving DecidableEq, Repr

/-- P0's share (R268). -/
structure P0Share where
  link : Nat
  sealInj : Nat
  sealEj : Nat
  sealed : Nat
  guard : Nat
  deriving DecidableEq, Repr

/-- Calendar, platform time and frame lock (R254 to R289, R560). -/
structure Calendar where
  /-- Platform time in ns, 64 bits; 08 R256, R560; reset 0. -/
  now : Nat
  /-- KCLK cycles still to be absorbed at half rate after a backward step; 08 R257; reset 0. -/
  slow : Nat
  /-- Half-rate phase; 08 R257; reset 0. -/
  slowPhase : Bool
  /-- ns since the start of the running tick; 08 R256; reset 0. -/
  tickNs : Nat
  /-- CA_STATUS.TICK, 14 bits; 08 R282; reset 0. -/
  tick : Nat
  /-- CA_STATUS.LOCKED, 1 bit; 08 R282; reset 0. -/
  locked : Bool
  /-- CA_STATUS.FREE_RUN, 1 bit; 08 R282; reset 0. -/
  freeRun : Bool
  /-- CA_STATUS.SLIPS, 8 bits saturating; 08 R282; reset 0. -/
  slips : Nat
  /-- CA_STATUS.BACK_PENDING, 1 bit; 08 R282; reset 0. -/
  backPending : Bool
  /-- CA_CTRL.BACK_OK armed; 08 R283; reset 0. -/
  backOk : Bool
  /-- CA_FRAME.N, 64 bits; 08 R284; reset 0. -/
  frame : Nat
  /-- GB_CLK_STATUS.FRAME_OK, 1 bit; 02 R45; reset 0. -/
  frameOk : Bool
  /-- GB_CLK_STATUS.TOD_OK, 1 bit; 02 R45; reset 0. -/
  todOk : Bool
  /-- An edge has been accepted since the start; 08 R560; reset no. -/
  firstEdge : Bool
  /-- Platform time at which the next edge is expected, and its TOD; 08 R257; reset 0. -/
  expectAt : Nat
  /-- TOD of the last accepted edge, 64 bits; 08 R257; reset 0. -/
  lastTod : Nat
  /-- The edges that count towards re-lock: how many, when the last came, its TOD; 08 R257; reset none. -/
  relock : Nat × Nat × Nat
  /-- CA_TRANSIT 0-7: RC and TC, 10 bits each; 08 R286; reset 0. -/
  transit : List (Nat × Nat)
  /-- P0's share; 08 R268; reset 0. -/
  p0 : P0Share
  /-- Reservations held; 08 R266, CA_RESV_FREE; reset none. -/
  resvs : List Resv
  /-- Generations of reservation entries, 8 bits, absent = 0; 08 R266; reset none. -/
  resvGens : List (Nat × Nat)
  /-- BE shapers set, absent = unlimited; 08 R271; reset none. -/
  shapers : List Shaper
  /-- Quota positions fixed for the frame: partition, link, positions; 08 R274; reset none. -/
  quotas : List (Nat × Nat × Nat)
  /-- Context holding the slice: partition, class, context slot; 08 R279; reset none. -/
  slices : List (Nat × Nat × Nat)
  deriving DecidableEq, Repr

/-! ### Damper -/

/-- A partition's grant figures (R296). Watts are held in 1/16 W; shares of a budget tick rounded down. -/
structure GrantRow where
  /-- DM_GRANT p.GRANT, 16 bits; 09 R320; reset 0. -/
  grant : Nat
  /-- The reserved part reached, rg; 09 R296; reset 0. -/
  reached : Nat
  /-- Level at the last frame, for the quota schedule of 13 R418; reset 0. -/
  oldLevel : Nat
  /-- Last PART_ENERGY in µJ, 23 bits; 09 R291; reset 0. -/
  energy : Nat
  /-- DEMAND of the last PART_ENERGY word; 09 R291; reset 0. -/
  demand : Bool
  /-- The grant of the tick before, which PART_ENERGY words describe; 09 R292, R293; reset 0. -/
  lastGrant : Nat
  /-- Ticks of the running epoch with DEMAND; 09 R311; reset 0. -/
  demandTicks : Nat
  /-- Consecutive ticks above the grant by more than 5%; 09 R293; reset 0. -/
  overTicks : Nat
  /-- Grant frozen for a strike; 09 R307; reset none. -/
  frozen : Option Nat
  deriving DecidableEq, Repr

def GrantRow.zero : GrantRow :=
  { grant := 0, reached := 0, oldLevel := 0, energy := 0, demand := false, lastGrant := 0, demandTicks := 0, overTicks := 0,
    frozen := none }

/-- A ballast ramp (R301, R302, R306): its amount in 1/16 W, its start, its length in ns, upward for RESUME, and whether it
belongs to a halt or resume. -/
structure Ramp where
  amount : Nat
  start : Nat
  length : Nat
  up : Bool
  halt : Bool
  deriving DecidableEq, Repr

/-- The Damper (R290 to R323). -/
structure Damper where
  /-- DM_LIMIT.PKG_LIMIT, 11 bits, W; 09 R315; reset 300. -/
  pkgLimit : Nat
  /-- A SET_PKG_LIMIT that applies at the next tick; 09 R313; reset none. -/
  pkgNext : Option Nat
  /-- DM_LIMIT.EFF_LIMIT, 11 bits, W; 09 R315; reset 300. -/
  effLimit : Nat
  /-- therm_limit, W; 09 R299; reset 300. -/
  thermLimit : Nat
  /-- alert_limit, W; 09 R300; reset 300. -/
  alertLimit : Nat
  /-- DM_THERM.T_HOT, 8 bits; 09 R316; reset 95. -/
  tHot : Nat
  /-- DM_THERM.T_CRIT, 8 bits; 09 R316; reset 105. -/
  tCrit : Nat
  /-- DM_THERM.T_TRIP, 8 bits; 09 R316; reset 115. -/
  tTrip : Nat
  /-- DM_RAMP.SLOPE, 6 bits; 09 R317; reset 10. -/
  slope : Nat
  /-- DM_IDLE.IDLE_W, 11 bits; 09 R318; reset 120. -/
  idleW : Nat
  /-- DM_STATUS.LSTATE, 2 bits as a name; 09 R319; reset L0. -/
  lstate : LState
  /-- An L2 or L3 entry accepted and not complete, or an L2 exit running: from and to; 09 R309, R310; reset none. -/
  moving : Option (LState × LState)
  /-- DM_STATUS.HOT, 1 bit; 09 R319; reset 0. -/
  hot : Bool
  /-- DM_STATUS.EMERGENCY, 1 bit; 09 R319; reset 0. -/
  emergency : Bool
  /-- Every TEMP of the running epoch lay below T_CRIT - 5; 09 R301; reset 0. -/
  coolEpoch : Bool
  /-- A thermal emergency has touched the running epoch; 09 R301, R311; reset 0. -/
  touched : Bool
  /-- DM_STATUS.ALERT, 1 bit; 09 R319; reset 0. -/
  alert : Bool
  /-- Ticks LIMIT_ALERT has been high with a zero pool; 09 R300; reset 0. -/
  alertSince : Option Nat
  /-- DM_STATUS.TELEM_LOST, 1 bit; 09 R319; reset 0. -/
  telemLost : Bool
  /-- Budget ticks without TICK_END; 09 R303; reset 0. -/
  missed : Nat
  /-- TICK_END received in the running tick; 09 R303; reset 0. -/
  tickEnd : Bool
  /-- DM_STATUS.OVER_LIMIT, 1 bit; 09 R319; reset 0. -/
  overLimit : Bool
  /-- DM_STATUS.BTICK, 7 bits; 09 R319; reset 0. -/
  btick : Nat
  /-- DM_STATUS.EVENTS, 8 bits saturating; 09 R319; reset 0. -/
  events : Nat
  /-- Sixteen grant rows; 09 R296, R320; reset all 0. -/
  rows : List GrantRow
  /-- DM_BALLAST_CFG b.RATED, 32 of 8 bits, 0.25 W; 09 R322; reset 0. -/
  rated : List Nat
  /-- Ballast ramps that run; with the strike's ballast they give CODE of DM_BALLAST_CFG b and DM_STATUS.HALT_RAMP; 09 R294,
  R297, R306, R319, R322; reset none. -/
  ramps : List Ramp
  /-- Last PKG_POWER, 24 bits, 0.1 W; 09 R291; reset 0. -/
  pkgPower : Nat
  /-- Last TEMP of each sensor, 1/16 °C; absent = none read; 09 R291; reset none. -/
  temps : List (Nat × Int)
  /-- Last RAIL_CURRENT of each rail, mA; 09 R292; reset none. -/
  rails : List (Nat × Nat)
  /-- The best-effort pool of the running tick, 1/16 W; 09 R296; reset 0. -/
  pool : Nat
  /-- Lane groups clock-gated: tile 0-11 and group 0-2; 09 R308; reset none. -/
  gated : List (Nat × Nat)
  /-- Temperature trip taken; 09 R302; reset no. -/
  tripped : Bool
  deriving DecidableEq, Repr

/-! ### Plumb -/

/-- PL_SRC_CFG n, PL_SRC_COUNT n and the kept times (R428, R451, R452). -/
structure SrcCfg where
  action : Nat
  notify : Bool
  /-- A threshold action NOTIFY has been taken since PL_SRC_CFG n was written. -/
  notified : Bool
  window : Nat
  thresh : Nat
  count : Nat
  times : List Nat
  deriving DecidableEq, Repr

/-- An error-log entry (R445). -/
structure LogEntry where
  time : Nat
  source : Nat
  sub : Nat
  action : Nat
  quantised : Bool
  dumpWritten : Bool
  merged : Bool
  timeInvalid : Bool
  dumpSkipped : Bool
  part : Option Nat
  epoch : Nat
  detail : Nat
  deriving DecidableEq, Repr

/-- A rung that is running (R430). -/
structure RunningRung where
  rung : Rung
  scope : Nat
  /-- The Plumb source that asked for it. -/
  src : Nat
  /-- Its steps have been taken; before, the rung is requested and its row has not come. -/
  begun : Bool
  startedAt : Nat
  /-- When its timeout began to run: none until the P0 drain ends (R430). -/
  timerFrom : Option Nat
  /-- The CTX_RESET that replies when the rung completes (R398, R402). -/
  cmd : Option CmdRef
  /-- It follows from an event of a tenant partition (R446). -/
  tenant : Bool
  /-- Partitions that had work in the engine when its rung began (R431). -/
  work : List Nat
  deriving DecidableEq, Repr

/-- A crash dump (R448): its header, what its firmware-queue, link and ladder sections hold, whether it holds the data-memory
excerpt (R449), and the number of the draw that names the bytes the spec leaves open (log 5). -/
structure DumpHeader where
  source : Nat
  sub : Nat
  chipResets : Nat
  time : Nat
  index : Nat
  excerpt : Bool
  /-- Firmware queue: class, opcode, partition, context slot and low 16 bits of SEQ of each entry, oldest first. -/
  queue : List (Nat × Nat × Nat × Nat × Nat)
  /-- GL_LINK_STATUS of the 64 links. -/
  links : List Nat
  draw : Nat
  deriving DecidableEq, Repr

/-- Plumb (R427 to R457). -/
structure Plumb where
  /-- PL_STICKY 0-7, 256 bits; 14 R450; reset 0. -/
  sticky : BitVec 256
  /-- Sources whose PL_SRC_CFG, COUNT or times differ from their reset; others read the default; 14 R451, R452; reset
  none. -/
  srcs : List (Nat × SrcCfg)
  /-- Error-log entries, newest first, at most 1,022; 14 R444, R445; reset none. -/
  log : List LogEntry
  /-- Log header NEXT, 16 bits; 14 R444; reset 0. -/
  next : Nat
  /-- Log header WRAPS, 32 bits saturating; 14 R444; reset 0. -/
  wraps : Nat
  /-- Log header LOST, 32 bits saturating; 14 R444; reset 0. -/
  lost : Nat
  /-- Log header CHIP_RESETS, 32 bits saturating; 14 R444; reset 0. -/
  chipResets : Nat
  /-- Log header LAST_RESET_TIME, 64 bits; 14 R444; reset 0. -/
  lastResetTime : Nat
  /-- Log header LAST_RESET_ENTRY, 16 bits; 14 R444; reset 0. -/
  lastResetEntry : Nat
  /-- Rungs running; PL_LADDER; 14 R430, R453; reset none. -/
  rungs : List RunningRung
  /-- PL_LADDER_COUNT.CONTEXT_TO, 8 bits saturating; 14 R454; reset 0. -/
  contextTo : Nat
  /-- PL_LADDER_COUNT.ENGINE_TO, 8 bits saturating; 14 R454; reset 0. -/
  engineTo : Nat
  /-- PL_LADDER_COUNT.PARTITION_TO, 8 bits saturating; 14 R454; reset 0. -/
  partitionTo : Nat
  /-- PL_LADDER_COUNT.CHIP_TO, 8 bits saturating; 14 R454; reset 0. -/
  chipTo : Nat
  /-- Context rungs that have reported complete and are watched until 200 µs after they began: slot, partition, start;
  14 R431; reset none. -/
  watched : List (Nat × Nat × Nat)
  /-- The source that asks for the tray rung, 0x06 or 0x0C; 14 R430; reset none. -/
  trayAsked : Option Nat
  /-- PL_DUMP.VALID, 1 bit; 14 R456; reset 0. -/
  dumpValid : Bool
  /-- The last crash dump; the bytes whose content the spec does not give are left open (log 5); 14 R448; reset none. -/
  dump : Option DumpHeader
  /-- PL_DUMP.SKIPPED, 8 bits saturating; 14 R456; reset 0. -/
  dumpSkips : Nat
  /-- Causes of the chip reset that is asked for or running; 14 R437, R447, 02 R40; reset none. -/
  causes : List Nat
  /-- Engines retired until the next chip reset; 14 R435; reset none. -/
  retired : List Nat
  /-- Engine generations, absent = 0; 14 R434; reset none. -/
  engineGens : List (Nat × Nat)
  /-- Twin mismatches of each engine since chip reset, absent = 0; 14 R447; reset none. -/
  mismatches : List (Nat × Nat)
  /-- Completions and accesses discarded under R402 and R434, counted; reset 0. -/
  discards : Nat
  deriving DecidableEq, Repr

/-! ### Scribe -/

/-- A trace record (R496): `info` holds bytes 24 to 31. -/
structure TraceRec where
  time : Nat
  type : Nat
  flags : Nat
  ctx : Nat
  seq : Nat
  layer : Nat
  operator : Nat
  step : Nat
  info : Nat
  deriving DecidableEq, Repr

/-- A trace slot (R494 to R497). -/
structure TraceSlot where
  slot : Nat
  scope : Nat
  ctx : Nat
  events : Nat
  bufAddr : Nat
  bufLen : Nat
  wrap : Bool
  export_ : Bool
  exportDst : Nat
  exportTag : Nat
  resv : Nat
  sampleUs : Nat
  sampledAt : Nat
  queued : List TraceRec
  lostQueued : Nat
  written : Nat
  lost : Nat
  active : Bool
  deriving DecidableEq, Repr

/-- An engine's counters that differ from zero (R487). -/
structure EngineCount where
  engine : Nat
  part : Option Nat
  busy : Nat
  idle : Nat
  stalls : List Nat
  deriving DecidableEq, Repr

/-- Scribe (R486 to R514). -/
structure Scribe where
  /-- SC_HALT_STATUS.HALTED, 1 bit; 16 R508; reset 0. RAMP of the same register follows from the Damper's ramps. -/
  halted : Bool
  /-- SC_HALT_STATUS.LATE, 1 bit; 16 R508; reset 0. -/
  late : Bool
  /-- SC_HALT_STATUS.ORIGIN, 1 bit; 16 R508; reset 0. -/
  origin : Bool
  /-- SC_HALT_STATUS.SECONDARY, 8 bits saturating; 16 R508; reset 0. -/
  secondary : Nat
  /-- SC_HALT_STATUS.IGNORED, 8 bits saturating; 16 R508; reset 0. -/
  ignored : Nat
  /-- SC_HALT_ID, 32 bits; 16 R509; reset 0. -/
  haltId : Nat
  /-- SC_HALT_TIME.CUT, 64 bits; 16 R510; reset 0. -/
  cut : Nat
  /-- SC_RESUME_TIME.RESTART, 64 bits; 16 R511; reset 0. -/
  restart : Nat
  /-- A cut is pending: its time, HALT_ID and the HALT to reply to; 16 R499; reset none. -/
  cutAt : Option (Nat × Nat × Option CmdRef)
  /-- A restart is pending: its time and the RESUME to reply to; 16 R506; reset none. -/
  restartAt : Option (Nat × Option CmdRef)
  /-- Per-chip count of HALT_IDs, 21 bits; 16 R502; reset 0. -/
  haltCount : Nat
  /-- The last 16 HALT_IDs seen, with whether by RESUME; 16 R504; reset none. -/
  seen : List (Nat × Bool)
  /-- Trace slots 0-16 started since reset; 16 R494, R513, R514; reset none. -/
  traces : List TraceSlot
  /-- Engine counters other than zero; 16 R487, R488; reset none. -/
  engines : List EngineCount
  deriving DecidableEq, Repr

/-! ### Mailboxes -/

/-- A notice waiting inside the block (R550, R551). -/
structure Notice where
  service : Nat
  part : Option Nat
  payload : List Word
  deriving DecidableEq, Repr

/-- One mailbox channel (R540 to R556). -/
structure Channel where
  /-- IN queue, at most 16 words; MB_IN_STATUS.FREE; 18 R543, R544; reset empty. -/
  inq : List Word
  /-- When each word of IN arrived; 18 R552; reset none. -/
  inAt : List Nat
  /-- MB_IN_STATUS.OVERFLOW, 1 bit; 18 R544; reset 0. -/
  overflow : Bool
  /-- MB_IN_STATUS.DISCARDED, 1 bit; 18 R544; reset 0. -/
  discarded : Bool
  /-- OUT queue, at most 16 words; MB_OUT_STATUS.COUNT; 18 R543, R544; reset empty. -/
  outq : List Word
  /-- Payload words at the front of OUT whose header has been popped, so that MSG_READY counts whole messages; 18 R544; reset 0. -/
  outPart : Nat
  /-- MB_OUT_STATUS.LOST, 8 bits saturating; 18 R544; reset 0. -/
  lost : Nat
  /-- MB_OUT_STATUS.UNDERFLOW, 1 bit; 18 R544; reset 0. -/
  underflow : Bool
  /-- MB_DB_IN pending, 32 bits; 18 R545; reset 0. -/
  dbIn : Word
  /-- MB_DB_OUT, 32 bits; 18 R545; reset 0x8 (STARTED). -/
  dbOut : Word
  /-- MB_DB_OUT_MASK, 32 bits; 18 R545; reset 0. -/
  dbMask : Word
  /-- MB_CH_STATUS.PEER_RESET, 1 bit; 18 R546; reset 0. -/
  peerReset : Bool
  /-- NOTICE_MASK: FAULT, PART, START; 18 R549, R550; reset 7. -/
  noticeMask : Nat
  /-- Per-channel notice count, 12 bits; 18 R548; reset 0. -/
  noticeTag : Nat
  /-- Notices waiting, at most 8, oldest first; 18 R551; reset none. -/
  waiting : List Notice
  /-- Notices dropped since the last NOTICE_LOST; 18 R550; reset 0. -/
  noticesDropped : Nat
  deriving DecidableEq, Repr

def Channel.reset : Channel :=
  { inq := [], inAt := [], overflow := false, discarded := false, outq := [], outPart := 0, lost := 0, underflow := false, dbIn := 0,
    dbOut := 8, dbMask := 0, peerReset := false, noticeMask := 7, noticeTag := 0, waiting := [], noticesDropped := 0 }

/-- The mailboxes. -/
structure Mail where
  /-- The eight channels; 18 R540 to R552. -/
  chans : List Channel
  /-- MB_ASSIGN bytes 0-3: PART and VALID; 18 R540; reset 0. -/
  assign : List (Nat × Bool)
  deriving DecidableEq, Repr

/-! ### Vestibule -/

/-- An IDE stream (R369, R386). -/
structure IdeStream where
  /-- SECURE, 1 bit; 11 R386; reset 0. -/
  secure : Bool
  /-- KEY_SET, 1 bit; 11 R386; reset 0. -/
  keySet : Nat
  /-- PCRC, 1 bit; 11 R386; reset 0. -/
  pcrc : Bool
  /-- TEE, 1 bit; 11 R386; reset 0. -/
  tee : Bool
  /-- STREAM_ID, 8 bits; 11 R386; reset 0. -/
  streamId : Nat
  /-- FAILS, 8 bits saturating; 11 R386; reset 0. -/
  fails : Nat
  /-- Key sets programmed, as sub-stream and key set; 11 R369; reset none. -/
  keys : List (Nat × Nat)
  /-- Sub-streams that are running; 11 R369; reset none. -/
  going : List Nat
  deriving DecidableEq, Repr

def IdeStream.reset : IdeStream :=
  { secure := false, keySet := 0, pcrc := false, tee := false, streamId := 0, fails := 0, keys := [], going := [] }

/-- Vestibule (R365 to R388) and the TAP's instruction register (R474). -/
structure Vestibule where
  /-- Secured sessions, at most 32; VS_SPDM_STATUS.SESSIONS and TSM; 11 R366, R385; reset none. -/
  sessions : List Session
  /-- VS_SPDM_STATUS.ERRORS, 8 bits saturating; 11 R385; reset 0. -/
  errors : Nat
  /-- SPDM negotiation progress: 0 none, 1 version, 2 capabilities, 3 algorithms; 11 R373; reset 0. -/
  spdmPhase : Nat
  /-- IDE streams 0-8; 11 R386. -/
  streams : List IdeStream
  /-- TDISP nonces of locked TDIs are not kept; MSI-X locked by LOCK_MSIX; 11 R370; reset none. -/
  msixLocked : List Nat
  /-- STOP_INTERFACE_REQUESTs waiting for the ring's commands; 11 R372; reset none. -/
  stopping : List Nat
  /-- Low halves latched or held for 64-bit registers: the access path, its offset, and the half; 18 R530; reset
  none. -/
  halves : List (Access × Nat × Bool × Word)
  /-- GB_MALFORMED.COUNT, 16 bits saturating; 18 R538; reset 0. -/
  malformed : Nat
  /-- The TAP's selected instruction: 0 BYPASS, 1 IDCODE, 2 REG_ACCESS, 3 SCAN, 4 MBIST, 5 FAULT; 15 R474; reset 0
  (PRESUMED, log 2). -/
  tap : Nat
  deriving DecidableEq, Repr

/-! ### Starts, fuses, clocks and tests -/

/-- The fuse array (R330, R467) and what the always-on island keeps of it. -/
structure Fuses where
  /-- Cells programmed in the intent rows of T1 to T3, 0-32 each; 15 R467; reset 0 (DESIGN CHOICE, log 2). -/
  intent : List Nat
  /-- Cells programmed in the completion rows of T1 to T3; 15 R467; reset 0 (DESIGN CHOICE, log 2). -/
  completion : List Nat
  /-- RS bank A; 10 R330; reset blank (DESIGN CHOICE, log 2). -/
  bankA : Bank
  /-- RS bank B; 10 R330; reset blank (DESIGN CHOICE, log 2). -/
  bankB : Bank
  /-- KP_STATUS.RS_BANK and whether a bank is in use; 10 R353; reset none in use (DESIGN CHOICE, log 2). -/
  inUse : Option Bool
  /-- KP_STATUS.BANK_LOST, 1 bit; 10 R353; reset 0 (DESIGN CHOICE, log 2). -/
  bankLost : Bool
  /-- KP_STATUS.SVN_MIN, 7 bits; 10 R353; reset 0 (DESIGN CHOICE, log 2). -/
  svnMin : Nat
  /-- GB_ID.MANUF, 11 bits; 18 R536; reset 0 (DESIGN CHOICE, log 2). -/
  manuf : Nat
  /-- VPP_FUSE present at its pin; 02 R42, 15 R468; reset 0 (DESIGN CHOICE, log 2). -/
  vpp : Bool
  /-- Life-cycle state resolved at start; 15 R466, R470; reset Blank (DESIGN CHOICE, log 2). -/
  lc : LcState
  /-- A roll forward waits for VPP_FUSE; 15 R470; reset no. -/
  rollWaiting : Bool
  /-- End-of-Life wipe step running, 0-4; 15 R469, R471; reset 0. -/
  wipeStep : Nat
  /-- When the running wipe step ends, on the always-on count; 15 R471; reset 0. -/
  wipeAt : Nat
  deriving DecidableEq, Repr

/-- Start, clocks and power (R33, R39 to R46, R458 to R465, R537). -/
structure Start where
  /-- GB_START.STEP, 4 bits; 18 R537; reset 0. -/
  step : Nat
  /-- GB_START.KIND, 2 bits; 18 R537; reset 0. -/
  kind : Nat
  /-- GB_START.WAITING, 1 bit; 18 R537; reset 0. -/
  waiting : Bool
  /-- GB_START.STOPPED, 1 bit; 18 R537; reset 0. -/
  stopped : Bool
  /-- GB_BOOT_ADDR.ADDR, 52 bits as a 4 KiB multiple; 15 R464; reset 0. -/
  bootAddr : Nat
  /-- GB_BOOT_CTRL.LEN, 9 bits; 15 R465; reset 0. -/
  bootLen : Nat
  /-- GB_BOOT_CTRL.GO, 1 bit; 15 R465; reset 0. -/
  go : Bool
  /-- GB_BOOT_CTRL.RELOAD, 1 bit; 15 R465; reset 0. -/
  reload : Bool
  /-- GB_BOOT_CTRL.STATE, 3 bits; 15 R465; reset 0. -/
  bootState : Nat
  /-- The image code memory holds: its SVN, COMMIT_SVN and whether its endorsement verifies; 15 R459, R482; reset
  none. -/
  image : Option BootImage
  /-- Warm-test phase, 3 bits; 15 R459 step 8; reset 0. -/
  warmPhase : Nat
  /-- Purlin stage counts held in the island; 02 R33; reset none. -/
  purlin : List Nat
  /-- GB_CLK_STATUS.ROOT_OK, 1 bit; 02 R45; reset 0. -/
  rootOk : Bool
  /-- GB_CLK_STATUS.AON_ON_SOSC, 1 bit; 02 R45; reset 1. -/
  aonOnSosc : Bool
  /-- GB_CLK_STATUS.ROOT_LOSS, 1 bit; 02 R45; reset 0. -/
  rootLoss : Bool
  /-- GB_CLK_STATUS.ROOT_COUNT, 16 bits; 02 R45; reset 0. -/
  rootCount : Nat
  /-- Consecutive checks in range, 0-3; 02 R39; reset 0. -/
  rootGood : Nat
  /-- The start waits for three good checks; 02 R39, R40; reset no. -/
  rootWait : Bool
  /-- Always-on count of ns; 14 R446; reset 0. -/
  aonCount : Nat
  /-- KCLK cycles towards the next ACLK or SOSC period, the model's own; reset 0. -/
  aonPhase : Nat
  /-- PWR_OK_AON; 02 R42; reset 0. -/
  pwrAon : Bool
  /-- PWR_OK_CORE; 02 R42; reset 0. -/
  pwrCore : Bool
  /-- GB_PD_STATUS.CTL_ON, 1 bit; 02 R46; reset 0. -/
  ctlOn : Bool
  /-- GB_PD_STATUS.GLT_ON, 8 bits; 02 R46; reset 0. -/
  gltOn : BitVec 8
  /-- GB_PD_STATUS.SLT_ON, 4 bits; 02 R46; reset 0. -/
  sltOn : BitVec 4
  /-- VDD_CORE domains held in reset; 02 R42, 14 R437; reset yes. -/
  inReset : Bool
  /-- TRAY_REQ; 14 R438; reset 0. -/
  trayReq : Bool
  /-- The PCS kept its equaliser coefficients; 15 R461; reset no. -/
  pcsKept : Bool
  /-- What a start that waits for VPP_FUSE has measured; 15 R470; reset none. -/
  findings : Option StartFindings
  deriving DecidableEq, Repr

/-- Debug authorisation (R473 to R480). -/
structure Debug where
  /-- Full debug open by DEBUG_RESPONSE; 15 R473; reset closed. -/
  full : Bool
  /-- Operator debug open; 15 R473; reset closed. -/
  operator : Bool
  /-- The outstanding challenge's number and EXPIRES; 15 R477; reset none. -/
  challenge : Option (Nat × Nat)
  /-- DEBUG_RESPONSE waiting for the strikes; 15 R479; reset none. -/
  opening : Option CmdRef
  deriving DecidableEq, Repr

/-- xx_RESET_EPOCH and xx_SETTINGS_LOST of a unit (R483, R484). -/
structure Retention where
  /-- EPOCH, 16 bits; 15 R483; reset 1. -/
  epoch : Nat
  /-- LAST, 4 bits; 15 R483; reset 1. -/
  last : Nat
  /-- LOST, 8 bits; 15 R484; reset 1 in each defined bit. -/
  lost : BitVec 8
  deriving DecidableEq, Repr

/-- A loop-back run or a memory test in progress (R516, R524). -/
structure TestRun where
  /-- The command that replies at its end, none for MBIST of the TAP. -/
  ref : Option CmdRef
  /-- 0 LOOPBACK, 2 MEMTEST. -/
  kind : Nat
  /-- POINT, or TIER of a MEMTEST. -/
  point : Nat
  /-- TARGET, or FIRST of a MEMTEST. -/
  target : Nat
  /-- COUNT. -/
  count : Nat
  /-- PATTERN, or MODE of a MEMTEST. -/
  pattern : Nat
  /-- ARG of a MEMTEST. -/
  arg : Nat
  startedAt : Nat
  /-- Counts of an L_ECHO run: sent, answered, replayed, L_MIN, L_MAX. -/
  sent : Nat
  answered : Nat
  replayed : Nat
  lMin : Nat
  lMax : Nat
  /-- A write of ENABLE 1 that waits for the end (R517). -/
  enableAfter : Bool
  stopped : Bool
  deriving DecidableEq, Repr

/-- An armed injection (R523). -/
structure Injection where
  kind : Nat
  target : Nat
  count : Nat
  arg : Nat
  /-- When it was armed. -/
  armedAt : Nat
  deriving DecidableEq, Repr

/-- Class 0xC (R515 to R528). -/
structure Tests where
  /-- Tests running; 17 R516, R524; reset none. -/
  runs : List TestRun
  /-- Armed injections; 17 R523; reset none. -/
  injections : List Injection
  deriving DecidableEq, Repr

/-- The state of the block. -/
structure State where
  /-- Partitions P0 to P15; 12 R389. -/
  parts : List Part
  /-- Commands, contexts and the management ring; 03. -/
  cmds : Cmds
  /-- Links and parcels; 04. -/
  gl : Guyline
  /-- Reduce-forward and unfold; 05. -/
  inl : Inline
  /-- Memory guard; 06. -/
  sill : Sill
  /-- Pegs; 07. -/
  pegs : Pegs
  /-- Calendar and time; 08. -/
  cal : Calendar
  /-- Power governor; 09. -/
  damper : Damper
  /-- Keys; 10. -/
  kp : Kingpost
  /-- Host interface; 11. -/
  vs : Vestibule
  /-- Faults and the ladder; 14. -/
  plumb : Plumb
  /-- Starts, clocks and power; 02, 15. -/
  start : Start
  /-- Fuses and life cycle; 10, 15. -/
  fuses : Fuses
  /-- Debug; 15. -/
  debugs : Debug
  /-- Retention registers of KP, GL, SL, PG, DM, PL, SC, MB, GB in this order; 15 R483, R484. -/
  ret : List Retention
  /-- Scribe; 16. -/
  scribe : Scribe
  /-- Tests; 17. -/
  tests : Tests
  /-- Mailboxes; 18. -/
  mail : Mail
  /-- What left the block, newest first: the model's own record (log 5); reset none. -/
  out : List Output
  /-- Counter of free values drawn: the model's own (log 7); reset 0 (DESIGN CHOICE). -/
  fresh : Nat
  /-- Commands waiting, first in first out: the model's queue; reset empty. -/
  pending : List Instr
  deriving DecidableEq, Repr

/-- The block before its first start: power not yet applied, every register at its Reset column, fuses unprogrammed
(log 1, log 2). -/
def State.reset : State :=
  { parts := List.replicate 16 Part.reset
    cmds := { staged := [], firmware := [], fwLast := 0, inflight := [], cmdHeld := [], cmdReady := true, ctxs := [], gens := [],
              mgmtExpected := 0, mgmtRing := RingRegs.reset }
    gl := { coord := 0, lock := false, links := List.replicate 64 Link.reset, parcels := [], nextId := 0,
            nextPtag := 0, bundleEpochs := List.replicate 8 0, pseqs := [], windows := [], posted := [], gathers := [],
            packq := [], notices := [], postCut := [], noticesIgnored := 0 }
    inl := { groups := [], unfolds := [] }
    sill := { rackSlot := 0, poolEn := false, lanes := List.replicate 16 { retired := [], seen := [] },
              corrected := 0, uncorrectable := 0, checkFail := 0, t0Late := 0, t1Late := 0, sledLate := 0,
              nextEpoch := 1, records := [], sweep := [], accesses := [], nextAccess := 0, heldLines := [],
              pool := [], ledger := [], sleds := [], remote := [], inbox := [], unclean := [{ first := 0, count := 2994 }] }
    pegs := { slots := [], waiters := [], remote := [], signals := [], inbox := [], linkDelay := 120, late := 0,
              orphanClock := 0 }
    cal := { now := 0, slow := 0, slowPhase := false, tickNs := 0, tick := 0, locked := false, freeRun := false,
             slips := 0, backPending := false, backOk := false, frame := 0, frameOk := false, todOk := false,
             firstEdge := false, expectAt := 0, lastTod := 0, relock := (0, 0, 0),
             transit := List.replicate 8 (0, 0),
             p0 := { link := 0, sealInj := 0, sealEj := 0, sealed := 0, guard := 0 },
             resvs := [], resvGens := [], shapers := [], quotas := [], slices := [] }
    damper := { pkgLimit := 300, pkgNext := none, effLimit := 300, thermLimit := 300, alertLimit := 300, tHot := 95,
                tCrit := 105, tTrip := 115, slope := 10, idleW := 120, lstate := .l0, moving := none, hot := false,
                emergency := false, coolEpoch := false, touched := false, alert := false, alertSince := none, telemLost := false,
                missed := 0, tickEnd := false, overLimit := false, btick := 0, events := 0,
                rows := List.replicate 16 GrantRow.zero, rated := List.replicate 32 0, ramps := [], pkgPower := 0,
                temps := [], rails := [], pool := 0, gated := [], tripped := false }
    kp := { ready := false, dbgKeys := false, entropyFail := false, svn := 0, twin := 0, cfs := 0, entropy := 0,
            refused := 0, slots := [], endorsed := false, halted := false, draws := 0 }
    vs := { sessions := [], errors := 0, spdmPhase := 0, streams := List.replicate 9 IdeStream.reset,
            msixLocked := [], stopping := [], halves := [], malformed := 0, tap := 0 }
    plumb := { sticky := 0, srcs := [], log := [], next := 0, wraps := 0, lost := 0, chipResets := 0,
               lastResetTime := 0, lastResetEntry := 0, rungs := [], contextTo := 0, engineTo := 0,
               partitionTo := 0, chipTo := 0, watched := [], trayAsked := none, dumpValid := false, dump := none, dumpSkips := 0, causes := [], retired := [],
               engineGens := [], mismatches := [], discards := 0 }
    start := { step := 0, kind := 0, waiting := false, stopped := false, bootAddr := 0, bootLen := 0, go := false,
               reload := false, bootState := 0, image := none, warmPhase := 0, purlin := [], rootOk := false,
               aonOnSosc := true, rootLoss := false, rootCount := 0, rootGood := 0, rootWait := false,
               aonCount := 0, aonPhase := 0, pwrAon := false, pwrCore := false, ctlOn := false, gltOn := 0,
               sltOn := 0, inReset := true, trayReq := false, pcsKept := false, findings := none }
    fuses := { intent := [0, 0, 0], completion := [0, 0, 0], bankA := .blank, bankB := .blank, inUse := none,
               bankLost := false, svnMin := 0, manuf := 0, vpp := false, lc := .blank, rollWaiting := false,
               wipeStep := 0, wipeAt := 0 }
    debugs := { full := false, operator := false, challenge := none, opening := none }
    ret := [ { epoch := 1, last := 1, lost := 0x3F }, { epoch := 1, last := 1, lost := 0x07 },
             { epoch := 1, last := 1, lost := 0x17 }, { epoch := 1, last := 1, lost := 0x03 },
             { epoch := 1, last := 1, lost := 0x03 }, { epoch := 1, last := 1, lost := 0x07 },
             { epoch := 1, last := 1, lost := 0x01 }, { epoch := 1, last := 1, lost := 0x01 },
             { epoch := 1, last := 1, lost := 0x1F } ]
    scribe := { halted := false, late := false, origin := false, secondary := 0, ignored := 0,
                haltId := 0, cut := 0, restart := 0, cutAt := none, restartAt := none, haltCount := 0, seen := [],
                traces := [], engines := [] }
    tests := { runs := [], injections := [] }
    mail := { chans := List.replicate 8 Channel.reset, assign := List.replicate 4 (0, false) }
    out := []
    fresh := 0
    pending := [] }

end Sys2Proof.Machine
end

