-- ==== Sys2Proof/Machine/Ops.lean ====
section
/-! DEFINITION. Named operations over the state: access to partitions, links, contexts and channels; time; free values;
notices; the error log and thresholds of Plumb; Scribe's accounts and traces; replies. -/

namespace Sys2Proof.Machine

/-! ### Access -/

/-- Partition p. -/
def State.part (s : State) (p : Nat) : Part := s.parts.getD p Part.reset

/-- Partition p changed by `f`. -/
def State.modPart (s : State) (p : Nat) (f : Part → Part) : State := { s with parts := s.parts.modify p f }

/-- The view of partition p changed by `f`. -/
def State.modView (s : State) (p : Nat) (f : View → View) : State := s.modPart p (fun q => { q with view := f q.view })

/-- Link n. -/
def State.link (s : State) (n : Nat) : Link := s.gl.links.getD n Link.reset

/-- Link n changed by `f`. -/
def State.modLink (s : State) (n : Nat) (f : Link → Link) : State :=
  { s with gl := { s.gl with links := s.gl.links.modify n f } }

/-- The registered context in slot `slot`, if any (R24, R397). -/
def State.ctx? (s : State) (slot : Nat) : Option Ctx := s.cmds.ctxs.find? (fun c => c.slot = slot)

/-- The context in slot `slot` changed by `f`; nothing where no context is registered. -/
def State.modCtx (s : State) (slot : Nat) (f : Ctx → Ctx) : State :=
  { s with cmds := { s.cmds with ctxs := s.cmds.ctxs.map (fun c => if c.slot = slot then f c else c) } }

/-- Channel c. -/
def State.chan (s : State) (c : Nat) : Channel := s.mail.chans.getD c Channel.reset

/-- What leaves at a port. -/
def State.emit (s : State) (o : Output) : State := { s with out := o :: s.out }

/-- Platform time in ns (R256). -/
def State.now (s : State) : Nat := s.cal.now

/-- Platform time moves on to `t` where it has not come yet: a row for a time that has come takes place at that time
(log 9). The always-on count moves with it. -/
def State.atTime (s : State) (t : Nat) : State :=
  let d := t - s.cal.now
  { s with cal := { s.cal with now := s.cal.now + d, tickNs := s.cal.tickNs + d }
           start := { s.start with aonCount := s.start.aonCount + d } }

/-- A free number, and the state that has drawn it (log 7). -/
def State.draw (s : State) : Nat × State := (Config.freeNat s.fresh, { s with fresh := s.fresh + 1 })

/-- An entry of an association list; `d` where the key is absent. -/
def assocGet (l : List (Nat × Nat)) (k d : Nat) : Nat :=
  match l.find? (fun e => e.1 = k) with
  | some e => e.2
  | none => d

/-- The list with key k set to v; keys rising. -/
def assocSet (l : List (Nat × Nat)) (k v : Nat) : List (Nat × Nat) :=
  match l with
  | [] => [(k, v)]
  | (a, b) :: rest =>
    if a = k then (k, v) :: rest else if k < a then (k, v) :: (a, b) :: rest else (a, b) :: assocSet rest k v

/-- The generation of a context slot (R58); 0 until the slot is used. -/
def State.genOf (s : State) (slot : Nat) : Nat := assocGet s.cmds.gens slot 0

/-- The generation of a context slot raised modulo 256 (R58). -/
def State.raiseGen (s : State) (slot : Nat) : State :=
  { s with cmds := { s.cmds with gens := assocSet s.cmds.gens slot ((s.genOf slot + 1) % 256) } }

/-- A context handle (R56): slot in [11:0], generation in [31:24]. -/
def mkHandle (slot gen : Nat) : Nat := slot % 4096 + gen % 256 * 2 ^ 24

/-- Start of the running power epoch (R290): power epochs of 1 ms run from the start of the frame. -/
def State.epochStart (s : State) : Nat := s.cal.now - (s.cal.tick % 1000 * 1000 + s.cal.tickNs)

/-- This chip's identifier x + 16 y + 256 z (R84, R132). -/
def State.chip (s : State) : Nat := bitsOf s.gl.coord.toNat 0 4 + 16 * bitsOf s.gl.coord.toNat 4 4 +
  256 * bitsOf s.gl.coord.toNat 8 3

/-- NX, NY and NZ (R132). -/
def State.dims (s : State) : Nat × Nat × Nat :=
  (bitsOf s.gl.coord.toNat 12 4 + 1, bitsOf s.gl.coord.toNat 16 4 + 1, bitsOf s.gl.coord.toNat 20 3 + 1)

/-- x, y and z of a chip identifier (R84). -/
def coordsOf (c : Nat) : Nat × Nat × Nat := (c % 16, c / 16 % 16, c / 256)

/-- A chip identifier inside the dimensions of GL_COORD (R92, R126). -/
def State.chipInside (s : State) (c : Nat) : Bool :=
  let (x, y, z) := coordsOf c
  let (nx, ny, nz) := s.dims
  x < nx && y < ny && z < nz

/-- The partition of this block bound to a domain (R111 step 2, R389): one that is not FREE and, from S1 of its strike
on, no longer bound (R406). -/
def State.partOfDomain (s : State) (d : Nat) : Option Nat :=
  if d = 0 then none else
    (List.range 16).find? (fun p => (s.part p).pstate != .free && (s.part p).domain = d && (s.part p).pstate != .striking)

/-- A partition that ends: ENDING counts as being struck (R389). -/
def Part.struck (q : Part) : Bool := q.pstate = .ending || q.pstate = .striking

/-- Power is on, and the VDD_CORE domains are out of reset (R42). -/
def State.up (s : State) : Bool := s.start.pwrAon && s.start.pwrCore && !s.start.inReset

/-- Units frozen by a halt do not act (R499, R500). -/
def State.running (s : State) : Bool := s.up && !s.scribe.halted

/-- The size of a set of tier 0 ranges in granules: G of R406. -/
def granules (rs : List Range) : Nat := rs.foldl (fun n r => n + r.count) 0

/-! ### Mailbox channels and notices (18) -/

/-- The partition channel c is assigned to, if any (R540). -/
def State.chanAssigned (s : State) (c : Nat) : Option Nat :=
  let b := s.mail.assign.getD c (0, false)
  if b.2 then some b.1 else none

/-- OUT holds at least one whole message (R544). -/
def Channel.msgReady (c : Channel) : Bool := c.outPart < c.outq.length

/-- The oldest word of OUT removed, or UNDERFLOW set; a header leaves its payload words behind it (R543, R544, R548). -/
def popOut (c : Channel) : Channel :=
  match c.outq with
  | [] => { c with underflow := true }
  | w :: rest => { c with outq := rest, outPart := if c.outPart = 0 then bitsOf w.toNat 16 4 else c.outPart - 1 }

/-- The condition behind EVT line 16 + c (R547). -/
def Channel.wants (c : Channel) : Bool := c.msgReady || (c.dbOut &&& ~~~ c.dbMask) != 0

/-- Channel c changed by `f`; a rise of its condition sends an MSI-X message (R547). -/
def State.modChan (s : State) (c : Nat) (f : Channel → Channel) : State :=
  let old := s.chan c
  let t := { s with mail := { s.mail with chans := s.mail.chans.modify c f } }
  if (t.chan c).wants && !old.wants then
    match s.chanAssigned c with
    | none => t.emit (.msix none (16 + c))
    | some p => if (s.part p).tdi = .run && (s.part p).pstate != .striking then t.emit (.msix (some p) 0) else t
  else t

/-- A channel emptied because its peer was reset (R554). -/
def emptyChannel (c : Channel) : Channel :=
  { c with inq := [], inAt := [], outq := [], outPart := 0, waiting := [], dbIn := 0, dbOut := 8, dbMask := 0, peerReset := true }

/-- The NOTICE_MASK bit of a notice kind (R549, R550). -/
def noticeBit (service : Nat) : Nat := if service = 0x81 then 0 else if service = 0x82 then 1 else 2

/-- A notice for channel c (R550, R551): dropped, counted and marked by NOTICE_LOST where 8 wait; none in End of Life
(R553). -/
def queueNotice (c : Nat) (n : Notice) (s : State) : State :=
  if s.fuses.lc = .endOfLife || !bitOf (s.chan c).noticeMask (noticeBit n.service) then s
  else if (s.chan c).waiting.length < 8 then s.modChan c (fun q => { q with waiting := q.waiting ++ [n] })
  else s.modChan c (fun q => { q with lost := bump 255 q.lost, dbOut := q.dbOut ||| 4,
                                      noticesDropped := q.noticesDropped + 1 })

/-- The low and high word of a 64-bit time. -/
def timeWords (t : Nat) : List Word := [BitVec.ofNat 32 t, BitVec.ofNat 32 (t / 2 ^ 32)]

/-- PSTATE codes (R389). -/
def PState.code : PState → Nat
  | .free => 0 | .created => 1 | .sealed => 2 | .faulted => 3 | .ending => 4 | .striking => 5

/-- TDI state codes (R361 byte 306). -/
def TdiState.code : TdiState → Nat
  | .unlocked => 0 | .locked => 1 | .run => 2 | .error => 3

/-- Life-cycle state codes (R466). -/
def LcState.code : LcState → Nat
  | .blank => 1 | .test => 2 | .production => 4 | .endOfLife => 8

/-- NOTICE_PART to every channel: the time of a tenant's change is quantised for other channels (R550). -/
def noticePart (p new old : Nat) (s : State) : State :=
  (List.range 8).foldl (fun t c =>
    let own := s.chanAssigned c = some p
    let time := if own || p = 0 then s.now else s.epochStart
    queueNotice c { service := 0x82, part := some p, payload := BitVec.ofNat 32 (new + 256 * old) :: timeWords time } t)
    s

/-- Partition p enters a PSTATE, with its NOTICE_PART (R389, R550). -/
def setPState (p : Nat) (new : PState) (s : State) : State :=
  let old := (s.part p).pstate
  if old = new then s
  else noticePart p new.code old.code (s.modPart p (fun q => { q with pstate := new }))

/-- TDI p enters a state; ERROR empties the channel assigned to the partition (R372, R554). -/
def setTdi (p : Nat) (t : TdiState) (s : State) : State :=
  let s1 := s.modPart p (fun q => { q with tdi := t })
  if t = .error && (s.part p).tdi != .error then
    (List.range 4).foldl (fun u c => if s.chanAssigned c = some p then u.modChan c emptyChannel else u) s1
  else s1

/-! ### Plumb: sources, log and thresholds (14) -/

/-- The sources whose "every event" column says notify (R427). -/
def srcNotifies (n : Nat) : Bool :=
  [0x03, 0x04, 0x05, 0x07, 0x08, 0x0B, 0x85].contains n || (0x10 ≤ n && n ≤ 0x1B) || (0x40 ≤ n && n ≤ 0x7F) ||
    (0x90 ≤ n && n ≤ 0x9F)

/-- PL_SRC_CFG at reset: the defaults of R427. ACTION 5 CHIP, 4 PARTITION, 3 ENGINE; WINDOW 3 is 1 s, 5 is 60 s, 1 is
10 ms. -/
def srcDefault (n : Nat) : SrcCfg :=
  let mk (a w t : Nat) : SrcCfg :=
    { action := a, notify := srcNotifies n, notified := false, window := w, thresh := t, count := 0, times := [] }
  if n = 0x08 then mk 5 3 3
  else if n = 0x0B then mk 5 5 4
  else if 0x10 ≤ n && n ≤ 0x1B then mk 3 3 3
  else if 0xA0 ≤ n && n ≤ 0xAF then mk 4 1 8
  else mk 0 0 0

/-- The settings and counts of source n. -/
def State.src (s : State) (n : Nat) : SrcCfg :=
  match s.plumb.srcs.find? (fun e => e.1 = n) with
  | some e => e.2
  | none => srcDefault n

/-- Source n's settings and counts replaced; sources rising. -/
def srcInsert (l : List (Nat × SrcCfg)) (n : Nat) (c : SrcCfg) : List (Nat × SrcCfg) :=
  match l with
  | [] => [(n, c)]
  | (a, b) :: rest =>
    if a = n then (n, c) :: rest else if n < a then (n, c) :: (a, b) :: rest else (a, b) :: srcInsert rest n c

def State.setSrc (s : State) (n : Nat) (c : SrcCfg) : State :=
  { s with plumb := { s.plumb with srcs := srcInsert s.plumb.srcs n c } }

/-- WINDOW codes of PL_SRC_CFG in ns (R451). -/
def windowNs (w : Nat) : Nat :=
  match w with
  | 0 => 1000000
  | 1 => 10000000
  | 2 => 100000000
  | 3 => 1000000000
  | 4 => 10000000000
  | _ => 60000000000

/-- An error-log entry, ring of 1,022 (R444, R445, R446): time quantised for an entry that names a tenant partition or
follows from an event of one; before the first edge of a start the always-on count with TIME_INVALID. -/
def logEntry (src sub action : Nat) (part : Option Nat) (quant skipped : Bool) (detail : Nat) (s : State) : State :=
  let tenant := quant || (match part with | some p => decide (p ≠ 0) | none => false)
  let valid := s.cal.firstEdge
  let e : LogEntry :=
    { time := if !valid then s.start.aonCount else if tenant then s.epochStart else s.now
      source := src, sub := sub, action := action, quantised := tenant, dumpWritten := false, merged := false,
      timeInvalid := !valid, dumpSkipped := skipped, part := part, epoch := s.plumb.chipResets % 65536,
      detail := detail % 2 ^ 96 }
  let full := 1022 ≤ s.plumb.log.length
  let last := s.plumb.next = 1021
  { s with plumb := { s.plumb with
      log := (e :: s.plumb.log).take 1022
      next := (s.plumb.next + 1) % 1022
      wraps := if last then bump 0xFFFFFFFF s.plumb.wraps else s.plumb.wraps
      lost := if full then bump 0xFFFFFFFF s.plumb.lost else s.plumb.lost } }

/-- NOTICE_FAULT for a log entry (R550): with NOTIFY set to channels 4 to 7 and unassigned 0 to 3; JOB p and CTX_FAULT p
to the channel of their own partition, unquantised. -/
def noticeFault (src sub : Nat) (part : Option Nat) (time : Nat) (s : State) : State :=
  let word0 := src + 256 * sub + (match part with | some p => 65536 * p + 2 ^ 20 | none => 0)
  (List.range 8).foldl (fun t c =>
    match s.chanAssigned c with
    | none =>
      if (s.src src).notify then
        queueNotice c { service := 0x81, part := part, payload := BitVec.ofNat 32 word0 :: timeWords time } t
      else t
    | some p =>
      if src = 0x90 + p || src = 0xA0 + p then
        queueNotice c { service := 0x81, part := part, payload := BitVec.ofNat 32 word0 :: timeWords s.now } t
      else t) s

/-- Step 1 of R428: the sticky bit, the count, the log entry, and its notice. -/
def plumbLog (src sub action : Nat) (part : Option Nat) (quant : Bool) (detail : Nat) (s : State) : State :=
  let c := s.src src
  let s1 := s.setSrc src { c with count := bump 65535 c.count }
  let s2 := { s1 with plumb := { s1.plumb with sticky := s1.plumb.sticky ||| (1 <<< src : BitVec 256) } }
  let s3 := logEntry src sub action part quant false detail s2
  match s3.plumb.log with
  | [] => s3
  | e :: _ => noticeFault src sub part e.time s3

/-- What covers a requested rung: a rung already running or a strike (R436, R443). The codes are those of RUNG_ABSORBED
(R447). -/
def State.coveredBy (s : State) (r : Rung) (scope : Nat) : Option Nat :=
  let partOf : Option Nat :=
    match r with
    | .context => (s.ctx? scope).map (fun c => c.part)
    | .partition => some scope
    | _ => none
  if s.plumb.rungs.any (fun x => x.rung = Rung.chip) then some 4
  else if (match partOf with | some p => (s.part p).struck | none => false) then some 5
  else if (match partOf with
      | some p => s.plumb.rungs.any (fun x => x.rung = Rung.partition && x.scope = p)
      | none => false) then some 3
  else if r = Rung.engine && s.plumb.rungs.any (fun x => x.rung = Rung.engine && x.scope = scope) then some 2
  else if r = Rung.context && s.plumb.rungs.any (fun x => x.rung = Rung.context && x.scope = scope) then some 1
  else none

/-- Rung codes of LADDER_TIMEOUT and RUNG_ABSORBED (R447). -/
def Rung.code : Rung → Nat
  | .context => 1 | .engine => 2 | .partition => 3 | .chip => 4

/-- A narrower rung that a wider one covers is abandoned (R443). -/
def rungCovers (s : State) (r : Rung) (scope : Nat) (x : RunningRung) : Bool :=
  match r with
  | .chip => true
  | .partition => x.rung = Rung.context && (s.ctx? x.scope).map (fun c => c.part) = some scope
  | _ => false

/-- DETAIL of the entry a chip rung writes (R447). -/
def chipDetail (causes : List Nat) : Nat :=
  let low := causes.foldl (fun m c => if c ≤ 0x0F then m ||| 2 ^ c else m) 0
  match causes.find? (fun c => 0x0F < c && c ≠ 0x87) with
  | some c => low + fldB 16 (causes.contains 0x87) + 2 ^ 17 + fld 24 8 c
  | none => low + fldB 16 (causes.contains 0x87)

/-- A further cause of a chip reset that has been asked for or runs and before READY (R40, R443): it joins the reset, and the
entry, once written, is rewritten. A root loss returns the start to step 2 of R459. -/
def mergeCause (src : Nat) (s : State) : State :=
  let causes := if s.plumb.causes.contains src then s.plumb.causes else s.plumb.causes ++ [src]
  let s1 := { s with plumb := { s.plumb with causes := causes } }
  if s.plumb.rungs.any (fun x => x.rung = Rung.chip && !x.begun) then s1
  else
    let k := (s.plumb.next + 1021 - s.plumb.lastResetEntry) % 1022
    let s2 := { s1 with plumb := { s1.plumb with
      log := s.plumb.log.modify k (fun e => { e with merged := true, detail := chipDetail causes }) } }
    if src = 0x01 then { s2 with start := { s2.start with inReset := true, step := 1, waiting := false } } else s2

/-- The chip rung asked for (R430, R443). Once TRAY_REQ stands, only a fall of PWR_OK_CORE starts another start (R438). -/
def requestChip (src : Nat) (tenant : Bool) (s : State) : State :=
  if s.start.trayReq && src ≠ 0x0E then logEntry src 0 7 none tenant false (chipDetail [src]) s
  else if !s.plumb.causes.isEmpty then mergeCause src s
  else
    { s with plumb := { s.plumb with
        causes := [src]
        rungs := s.plumb.rungs ++ [{ rung := .chip, scope := 0, src := src, begun := false, startedAt := s.now,
                                     timerFrom := some s.now, cmd := none, tenant := tenant, work := [] }] } }

/-- The kept times of source n after one more event, and whether the THRESH-th has come within WINDOW (R428). -/
def thresholdMet (n : Nat) (s : State) : Bool × State :=
  let c := s.src n
  let times := ((c.times ++ [s.now]).reverse.take c.thresh).reverse
  if c.thresh ≠ 0 && times.length = c.thresh && s.now - times.headD s.now ≤ windowNs c.window then
    (true, s.setSrc n { c with times := [], notified := c.notified || c.action = 1 })
  else (false, if c.thresh = 0 then s else s.setSrc n { c with times := times })

/-- Step 3 of R428 for a source whose threshold action can only be NOTIFY or CHIP. -/
def thresholdChip (n : Nat) (s : State) : State :=
  let (met, s1) := thresholdMet n s
  if met && (s.src n).action = 5 then requestChip n false s1 else s1

/-- A rung is requested (R430): absorbed and logged where one that covers it runs (R443), else its row takes it. A context rung
whose CTX_RESET still waits for P0's drain stays until its reply. -/
def requestRungFor (r : Rung) (scope src : Nat) (tenant : Bool) (s : State) : State :=
  if r = Rung.chip then requestChip src tenant s
  else
    match s.coveredBy r scope with
    | some by_ =>
      let kind := match r with | .context => 0 | .engine => 1 | .partition => 2 | .chip => 3
      let part := match r with | .partition => some scope | .context => (s.ctx? scope).map (fun c => c.part) | _ => none
      thresholdChip 0x86 (plumbLog 0x86 r.code 0 part tenant (kind + 2 ^ 16 * scope + 2 ^ 32 * by_) s)
    | none =>
      { s with plumb := { s.plumb with
          rungs := s.plumb.rungs.filter (fun x => !(rungCovers s r scope x && x.cmd.isNone)) ++
            [{ rung := r, scope := scope, src := src, begun := false, startedAt := s.now, timerFrom := some s.now, cmd := none,
               tenant := tenant, work := [] }] } }

/-- A rung requested by an event of source `src`: it follows from a tenant's event where the source or the scope names one. -/
def requestRung (r : Rung) (scope src : Nat) (s : State) : State :=
  let named := match r with
    | .partition => scope ≠ 0
    | .context => (s.ctx? scope).elim false (fun c => c.part ≠ 0)
    | _ => false
  requestRungFor r scope src (named || (0x90 ≤ src && src ≤ 0xBF && src % 16 ≠ 0)) s

/-- The sticky bit and the count of a source whose entry the chip rung writes (R428, R447). -/
def plumbMark (src : Nat) (s : State) : State :=
  let c := s.src src
  let s1 := s.setSrc src { c with count := bump 65535 c.count }
  { s1 with plumb := { s1.plumb with sticky := s1.plumb.sticky ||| (1 <<< src : BitVec 256) } }

/-- Step 3 of R428: the THRESH-th event within WINDOW takes the threshold action on what the event names: an engine or a
partition, or a context. -/
def plumbThreshold (src : Nat) (named : Option Nat) (s : State) (ctx : Option Nat := none) : State :=
  let (met, s1) := thresholdMet src s
  if !met then s1
  else
    match (s.src src).action, named, ctx with
    | 2, _, some slot => requestRung .context slot src s1
    | 3, some e, _ => requestRung .engine e src s1
    | 4, some p, _ => requestRung .partition p src s1
    | 5, _, _ => requestRung .chip 0 src s1
    | _, _, _ => s1

/-- One event of a source (R428), its "every event" action being its caller's. -/
def plumbEvent (src sub action : Nat) (part : Option Nat) (quant : Bool) (detail : Nat) (named : Option Nat) (s : State) :
    State :=
  plumbThreshold src named (plumbLog src sub action part quant detail s)

/-- A malformed access or ignored write counted in GB_MALFORMED (R538). -/
def countMalformed (s : State) : State := { s with vs := { s.vs with malformed := bump 65535 s.vs.malformed } }

/-- A malformed access counted in the partition's GB_PART_MALFORMED (R534). -/
def countPartMalformed (p : Nat) (s : State) : State :=
  s.modView p (fun v => { v with malformed := bump 65535 v.malformed })

/-! ### Retention (R482 to R484) -/

/-- Units of the retention registers, in the order of `State.ret`. -/
abbrev uKp : Nat := 0
abbrev uGl : Nat := 1
abbrev uSl : Nat := 2
abbrev uPg : Nat := 3
abbrev uDm : Nat := 4
abbrev uPl : Nat := 5
abbrev uSc : Nat := 6
abbrev uMb : Nat := 7
abbrev uGb : Nat := 8

/-- An event of kind `last` clears settings of a unit: their bits in `mask` are set and EPOCH advances (R483, R484). -/
def loseSettings (unit : Nat) (mask : BitVec 8) (last : Nat) (s : State) : State :=
  { s with ret := s.ret.modify unit (fun r => { epoch := (r.epoch + 1) % 65536, last := last, lost := r.lost ||| mask }) }

/-! ### Routes (R117 to R119, R121, R123) -/

/-- The shorter way round a ring of `n` from `a` to `b`: whether it is the - direction, and the distance; + when both ways
are equal (R117). -/
def ringWay (n a b : Nat) : Option (Bool × Nat) :=
  let fwd := (b + n - a % n) % n
  if fwd = 0 then none else if 2 * fwd ≤ n then some (false, fwd) else some (true, n - fwd)

/-- Coordinate `d` of a chip: 0 x, 1 y, 2 z. -/
def coord (d c : Nat) : Nat := if d = 0 then c % 16 else if d = 1 then c / 16 % 16 else c / 256

/-- The size of dimension `d` (R132). -/
def State.dim (s : State) (d : Nat) : Nat := if d = 0 then s.dims.1 else if d = 1 then s.dims.2.1 else s.dims.2.2

/-- Dimension order of the primary and of the mirror route (R117, R121). -/
def dimOrder (mirror : Bool) : List Nat := if mirror then [2, 1, 0] else [0, 1, 2]

/-- The bundle a route takes at a chip towards another, none where it has arrived (R117, R121). -/
def State.nextBundle (s : State) (here dst : Nat) (mirror : Bool) : Option Nat :=
  (dimOrder mirror).findSome? (fun d =>
    (ringWay (s.dim d) (coord d here) (coord d dst)).map (fun w => 2 * d + (if w.1 then 1 else 0)))

/-- Hops of the primary route between two chips (R117). -/
def State.hopsTo (s : State) (src dst : Nat) : Nat :=
  (List.range 3).foldl (fun n d => n + ((ringWay (s.dim d) (coord d src) (coord d dst)).elim 0 (fun w => w.2))) 0

/-- The chip one hop away through torus bundle `b`. -/
def State.neighbour (s : State) (here b : Nat) : Nat :=
  let step (d : Nat) : Nat :=
    if b / 2 ≠ d then coord d here
    else if b % 2 = 0 then (coord d here + 1) % s.dim d
    else (coord d here + s.dim d - 1) % s.dim d
  step 0 + 16 * step 1 + 256 * step 2

/-- The KEYED links of a bundle in ascending order (R118). -/
def State.keyed (s : State) (b : Nat) : List Nat :=
  ((List.range 8).map (fun i => 8 * b + i)).filter (fun n => (s.link n).state = .keyed)

/-- Source and destination differ in only one coordinate (R121). -/
def oneCoord (a b : Nat) : Bool := ((List.range 3).filter (fun d => coord d a ≠ coord d b)).length ≤ 1

/-- The entry R118 selects in a bundle; the mirror copy of a single-coordinate route takes the next (R121). -/
def State.bundleLink (s : State) (b src dst ptag : Nat) (mirror : Bool) : Option Nat :=
  let l := s.keyed b
  if l.isEmpty then none
  else l[(src + dst + ptag + (if mirror && oneCoord src dst then 1 else 0)) % l.length]?

/-- Where a detour goes (R119): the next dimensions in cyclic order, + before -. -/
def State.detourBundle (s : State) (b : Nat) : Option Nat :=
  let d := b / 2
  [2 * ((d + 1) % 3), 2 * ((d + 1) % 3) + 1, 2 * ((d + 2) % 3), 2 * ((d + 2) % 3) + 1].find? (fun x => !(s.keyed x).isEmpty)

/-- How a flit leaves this block (R117 to R119): by a link, detoured or not, or not at all. -/
inductive Way where
  | link (n : Nat) (detour : Bool)
  | unreachable
  deriving DecidableEq, Repr

def State.wayOut (s : State) (src dst ptag : Nat) (mirror : Bool) : Way :=
  match s.nextBundle s.chip dst mirror with
  | none => .unreachable
  | some b =>
    match s.bundleLink b src dst ptag mirror with
    | some n => .link n false
    | none =>
      if s.neighbour s.chip b = dst then .unreachable
      else match s.detourBundle b with
        | none => .unreachable
        | some e =>
          match s.bundleLink e src dst ptag mirror with
          | some n => .link n true
          | none => .unreachable

/-- The current epoch of a route: the changes of its first-hop bundle since the partition was created (R123). -/
def State.routeEpoch (s : State) (part dst : Nat) (mirror : Bool) : Nat :=
  match s.nextBundle s.chip dst mirror with
  | none => 0
  | some b => (s.gl.bundleEpochs.getD b 0 + 256 - (s.part part).epochBase.getD b 0) % 256

/-! ### Parcels at their source -/

/-- A parcel accepted for sending (R107). It takes its PTAG when it becomes eligible and its PSEQ when its first flit
leaves. -/
def mkParcel (id part : Nat) (kind : TxKind) (ref : Option CmdRef) (dst cls srcAddr len recvTag : Nat)
    (kindInfo : Word) (body : ParcelBody) (resv : Option Nat) (mirror : Bool) (now : Nat) : TxParcel :=
  { id := id, part := part, kind := kind, ref := ref, dst := dst, cls := cls, srcAddr := srcAddr, length := len,
    recvTag := recvTag, kindInfo := kindInfo, body := body, resv := resv, mirror := mirror, acceptedAt := now,
    eligibleAt := none, deadline := 0, pseq := none, ptag := 0, epoch := 0, epochM := 0, iv := 0, hops := 0,
    flits := ceilDiv (len + 64) 224, sent := 0, sentMirror := 0, leftAt := none, broken := false, detourNotices := 0,
    delay := 0, lane := none, drain := false }

/-- The parcel with identifier `id`. -/
def State.parcel? (s : State) (id : Nat) : Option TxParcel := s.gl.parcels.find? (fun x => x.id = id)

/-- A parcel changed by `f`. -/
def State.modParcel (s : State) (id : Nat) (f : TxParcel → TxParcel) : State :=
  { s with gl := { s.gl with parcels := s.gl.parcels.map (fun x => if x.id = id then f x else x) } }

/-- A parcel added; the state's next parcel identifier names it. -/
def State.addParcel (s : State) (f : Nat → TxParcel) : State :=
  { s with gl := { s.gl with parcels := s.gl.parcels ++ [f s.gl.nextId], nextId := s.gl.nextId + 1 } }

/-! ### What the links show (R134, R517) -/

/-- A loop-back run of a point on a target. -/
def State.loopRun? (s : State) (point target : Nat) : Option TestRun :=
  s.tests.runs.find? (fun t => t.kind = 0 && t.point = point && t.target = target)

/-- A link carries L_PORT or L_PCS (R517). -/
def State.portTest (s : State) (n : Nat) : Bool := (s.loopRun? 1 n).isSome || (s.loopRun? 2 n).isSome

/-- Link state codes (R88). -/
def LinkState.code : LinkState → Nat
  | .down => 0 | .training => 1 | .unkeyed => 2 | .keyed => 3 | .quarantined => 4 | .disabled => 5

/-- GL_LINK_STATUS n (R134): a link that carries L_PORT or L_PCS reads DOWN (R517). -/
def State.linkStatus (s : State) (n : Nat) : Nat :=
  let l := s.link n
  (if s.portTest n then 0 else l.state.code) + fldB 3 l.keyPhase + fldB 4 l.rotating + fld 8 16 l.rotations +
    fld 24 4 (min 15 (l.quarTimes.filter (fun t => s.now < t + 60000000000)).length)

/-! ### Scribe: accounts, windows and traces (16) -/

/-- `f` on the accounting set and both windows of a context (R489). -/
def account (slot : Nat) (f : Accounting → Accounting) (s : State) : State :=
  s.modCtx slot (fun c => { c with accounting := f c.accounting, cmdWindow := f c.cmdWindow,
                                   stepWindow := f c.stepWindow })

/-- The trace slot n while it is active (R494). -/
def State.traceSlot? (s : State) (n : Nat) : Option TraceSlot :=
  s.scribe.traces.find? (fun t => t.slot = n && t.active)

def State.modTrace (s : State) (n : Nat) (f : TraceSlot → TraceSlot) : State :=
  { s with scribe := { s.scribe with traces := s.scribe.traces.map (fun t => if t.slot = n then f t else t) } }

/-- The 32 B of a trace record (R496). -/
def TraceRec.bytes (r : TraceRec) : List Byte :=
  leBytes 8 r.time ++ leBytes 1 r.type ++ leBytes 1 r.flags ++ leBytes 2 r.ctx ++ leBytes 4 r.seq ++
    leBytes 2 r.layer ++ leBytes 2 r.operator ++ leBytes 4 r.step ++ leBytes 8 r.info

/-- Records of a trace slot that leave the queue (R497): to the buffer in tier 0, to host memory from slot 16, or packed
five to a DATA parcel; those beyond the end of a buffer without WRAP are dropped and counted. -/
def writeTrace (n : Nat) (recs : List TraceRec) (s : State) : State :=
  match s.scribe.traces.find? (fun t => t.slot = n) with
  | none => s
  | some t =>
    if t.export_ then
      let body := (recs.map TraceRec.bytes).flatten
      let s1 := s.addParcel (fun id => mkParcel id n .data none t.exportDst
        (if t.resv = 0 then 4 else bitsOf t.resv 28 3) 0 body.length t.exportTag 0 (.data body)
        (if t.resv = 0 then none else some (bitsOf t.resv 0 10)) false s.now)
      s1.modTrace n (fun q => { q with written := (q.written + recs.length) % 2 ^ 32 })
    else
      recs.foldl (fun u r =>
        match u.scribe.traces.find? (fun q => q.slot = n) with
        | none => u
        | some q =>
          let cap := q.bufLen / 32
          if !q.wrap && cap ≤ q.written then u.modTrace n (fun x => { x with lost := bump 65535 x.lost })
          else
            let addr := q.bufAddr + 32 * (if cap = 0 then 0 else q.written % cap)
            let u1 := if n = 16 then u.emit (.busWrite addr r.bytes) else u.emit (.write n addr r.bytes)
            u1.modTrace n (fun x => { x with written := (x.written + 1) % 2 ^ 32 })) s

/-- How many records leave at once: 8 locally, 5 exported, 1 from slot 16 (R497, R498). -/
def TraceSlot.batch (t : TraceSlot) : Nat := if t.export_ then 5 else if t.slot = 16 then 1 else 8

/-- A record offered to trace slot n: queued, or dropped and counted where 64 wait; a full batch leaves while no halt
holds the block (R497, R500). -/
def pushTrace (n : Nat) (r : TraceRec) (s : State) : State :=
  match s.traceSlot? n with
  | none => s
  | some t =>
    if 64 ≤ t.queued.length then
      s.modTrace n (fun x => { x with lost := bump 65535 x.lost, lostQueued := x.lostQueued + 1 })
    else
      let lostRec : List TraceRec :=
        if t.lostQueued = 0 then [] else
          [{ time := r.time, type := 0x0D, flags := 0, ctx := 0, seq := 0, layer := 0, operator := 0, step := 0,
             info := t.lostQueued }]
      let q := t.queued ++ lostRec ++ [r]
      let s1 := s.modTrace n (fun x => { x with queued := q, lostQueued := 0 })
      if t.batch ≤ q.length && !s.scribe.halted then
        writeTrace n (q.take t.batch) (s1.modTrace n (fun x => { x with queued := q.drop t.batch }))
      else s1

/-- An event of a context recorded by its partition's trace where the slot selects it (R494, R495). -/
def traceCtx (part ctx : Nat) (bit : Nat) (r : TraceRec) (s : State) : State :=
  match s.traceSlot? part with
  | none => s
  | some t => if bitOf t.events bit && (t.scope != 0 || t.ctx = ctx) then pushTrace part r s else s

/-- A record of every active trace: HALT and RESUME (R495). -/
def traceAll (type info : Nat) (s : State) : State :=
  (List.range 17).foldl (fun t n => pushTrace n
    { time := t.now, type := type, flags := 0, ctx := 0, seq := 0, layer := 0, operator := 0, step := 0, info := info } t) s

/-- The record of a command (R496). -/
def CmdRef.record (r : CmdRef) (time type flags info : Nat) : TraceRec :=
  { time := time, type := type, flags := flags, ctx := r.slot, seq := r.seq, layer := r.layer, operator := r.operator,
    step := r.step, info := info }

/-- The start of a command in its context's windows and trace (R489, R490, R495). -/
def noteStart (r : CmdRef) (s : State) : State :=
  let fresh : Accounting := { Accounting.zero with openedAt := s.now, seq := r.seq, layer := r.layer,
                                                   operator := r.operator, step := r.step, isOpen := true }
  let s1 := s.modCtx r.slot (fun c =>
    let stays := c.stepWindow.isOpen && c.stepWindow.step = r.step
    let shut := if stays then none else some c.stepWindow
    { c with
      boundary := match c.boundary with
        | some (t, w, v) => if t = s.now then some (t, w, v.or shut) else some (s.now, c.cmdWindow, shut)
        | none => some (s.now, c.cmdWindow, shut)
      cmdWindow := fresh
      stepWindow := if stays then c.stepWindow else fresh })
  if bitOf r.flags.toNat 2 then traceCtx r.part r.slot 0 (r.record s.now 0x01 0 0) s1 else s1

/-! ### Replies (R52, R53, R58, R59, R69) -/

/-- Operator commands come from no partition. -/
abbrev noPart : Nat := 16

/-- The partition of a source, `noPart` for the operator and for sessions. -/
def srcPart : Source → Nat
  | .cmd p => p
  | .ring p => p
  | .mgmt => noPart
  | .session _ => noPart

/-- A command of a context: from the CMD port or a partition ring (R52). -/
def srcIsCtx : Source → Bool
  | .cmd _ => true
  | .ring _ => true
  | _ => false

/-- The ring pair of a ring identifier. -/
def State.ringOf (s : State) : RingId → RingRegs
  | .part p => (s.part p).ring
  | .mgmt => s.cmds.mgmtRing

/-- The ring pair changed by `f`. -/
def State.modRing (s : State) (r : RingId) (f : RingRegs → RingRegs) : State :=
  match r with
  | .part p => s.modPart p (fun q => { q with ring := f q.ring })
  | .mgmt => { s with cmds := { s.cmds with mgmtRing := f s.cmds.mgmtRing } }

/-- Replies the host has not consumed: TAIL minus HEAD modulo 65,536 (R68). -/
def RingRegs.cqUsed (r : RingRegs) : Nat := (r.cqTail + 65536 - r.cqHead) % 65536

/-- Entries the host has written and the block has not fetched. -/
def RingRegs.sqUsed (r : RingRegs) : Nat := (r.sqTail + 65536 - r.sqHead) % 65536

/-- The completion ring is full (R68). -/
def RingRegs.cqFull (r : RingRegs) : Bool := r.cqUsed = 2 ^ r.cqLog2

/-- A reply written into the completion ring. -/
def writeCompletion (ring : RingId) (rep : Reply) (s : State) : State :=
  let r := s.ringOf ring
  (s.modRing ring (fun q => { q with cqTail := (q.cqTail + 1) % 65536 })).emit
    (.hostReply ring (r.cqTail % 2 ^ r.cqLog2) rep)

/-- Replies of a partition ring are held while its TDI is in ERROR and is not being stopped (R372). -/
def State.ringHeld (s : State) : RingId → Bool
  | .part p => (s.part p).tdi = .error && !s.vs.stopping.contains p
  | .mgmt => false

/-- A reply for a ring: written while the completion ring has room and none is held, else held (R66, R69, R372). -/
def ringReply (ring : RingId) (rep : Reply) (s : State) : State :=
  let r := s.ringOf ring
  if r.cqFull || !r.held.isEmpty || s.ringHeld ring then s.modRing ring (fun q => { q with held := q.held ++ [rep] })
  else writeCompletion ring rep s

/-- A reply sent back to where its command came from (R52, R53, R368). -/
def deliver (src : Source) (rep : Reply) (s : State) : State :=
  match src with
  | .cmd _ =>
    if s.cmds.cmdReady && s.cmds.cmdHeld.isEmpty then s.emit (.reply src rep)
    else { s with cmds := { s.cmds with cmdHeld := s.cmds.cmdHeld ++ [(src, rep)] } }
  | .ring p => ringReply (.part p) rep s
  | .mgmt => ringReply .mgmt rep s
  | .session id => if s.vs.sessions.any (fun x => x.id = id) then s.emit (.vendorResponse id rep) else s

/-- Tlatriward runs every class but 0x4 to 0x7 (R76). -/
def isFirmwareClass (cls : Nat) : Bool := !(4 ≤ cls && cls ≤ 7)

/-- What is in flight of a command. -/
def State.inflight? (s : State) (r : CmdRef) : Option Inflight := s.cmds.inflight.find? (fun x => x.ref = r)

/-- The reply of a command with a status and its result (R59, R60). -/
def replyOf (r : CmdRef) (st : Nat) (boundary : Bool) (result : BitVec 128) (s : State) : Reply :=
  let f := s.inflight? r
  { seq := r.seq, status := st, cls := r.cls
    rflags := rflagsOf (isFirmwareClass r.cls) (f.elim false (fun x => x.preempted)) (f.elim false (fun x => x.overrun))
      boundary
    time := s.now, result := result }

/-- A command that has its reply is no longer in flight. -/
def State.land (s : State) (r : CmdRef) : State :=
  { s with cmds := { s.cmds with inflight := s.cmds.inflight.filter (fun x => x.ref ≠ r) } }

/-- The counts that a completed command adds to (R289, R403, R489). -/
def noteDone (r : CmdRef) (st : Nat) (s : State) : State :=
  if !srcIsCtx r.src || !completesCommand st then s
  else
    let s1 := account r.slot (fun a => { a with commands := (a.commands + 1) % 2 ^ 32 }) s
    let s2 := s1.modView r.part (fun v => { v with
      completed := (v.completed + 1) % 2 ^ 32
      broken := if st = stBoundBroken then bump 255 v.broken else v.broken
      delayed := if st = stDelayed then bump 255 v.delayed else v.delayed })
    if bitOf r.flags.toNat 2 then
      traceCtx r.part r.slot 0 (r.record s.now 0x02 0 (st + 2 ^ 16 * r.cls + 2 ^ 24 * r.op)) s2
    else s2

/-- The reply written, unless SUPPRESS_OK suppresses it (R57). -/
def answerWith (r : CmdRef) (st : Nat) (boundary : Bool) (result : BitVec 128) (s : State) : State :=
  let rep := replyOf r st boundary result s
  let s1 := noteDone r st (s.land r)
  if st = stOk && bitOf r.flags.toNat 0 then s1 else deliver r.src rep s1

/-- The command ends with a status and its result, whatever its context's generation (R58's exceptions). -/
def answer (r : CmdRef) (st : Nat) (result : BitVec 128) (s : State) : State := answerWith r st false result s

/-- The command's context generation has moved on since it started (R58). -/
def State.staleRef (s : State) (r : CmdRef) : Bool :=
  srcIsCtx r.src && (s.genOf r.slot != r.gen || (s.ctx? r.slot).isNone)

/-- A command ends (R58): the completion of a command whose generation has moved on is discarded and counted. -/
def complete (r : CmdRef) (st : Nat) (result : BitVec 128) (s : State) : State :=
  if s.staleRef r then
    account r.slot (fun a => { a with discards := a.discards + 1 })
      { s.land r with plumb := { s.plumb with discards := s.plumb.discards + 1 } }
  else answer r st result s

/-- A command that goes on: it is in flight until it ends. -/
def hold (r : CmdRef) (s : State) : State :=
  { s with cmds := { s.cmds with inflight := s.cmds.inflight ++ [{ ref := r, preempted := false, overrun := false }] } }

/-- ST_SQUASHED with its cause (R82). -/
def squash (cause : Nat) (r : CmdRef) (s : State) : State := answer r stSquashed (detailOf cause) s

end Sys2Proof.Machine
end

