-- ==== Sys2Proof/Machine/Operands.lean ====
section
/-! DEFINITION. The opcodes of command packets (03 R77, R78), their issuers, the fields of a packet and the format part
of R71 step 3. -/

namespace Sys2Proof.Machine

/-- The opcodes of R77 and R78. -/
inductive Op where
  | send
  | sendMirror
  | recvPost
  | recvCancel
  | ringSetup
  | allReduce
  | reduceScatter
  | allGather
  | broadcast
  | unfold
  | atomic
  | invalidate
  | pegAlloc
  | pegFree
  | signal
  | wait
  | fence
  | exportPeg
  | importPeg
  | ringDeclare
  | pegRead
  | keyLoad
  | keyEvict
  | keyGenerate
  | keyQuery
  | keyPinRc
  | bindUnwrap
  | getEvidence
  | getCerts
  | getMeasurements
  | neighbourKeyx
  | keyClaim
  | partCreate
  | partSeal
  | partDestroy
  | partRelease
  | ctxRegister
  | ctxRelease
  | tdiBind
  | partQuery
  | ctxReset
  | admitRequest
  | admitRelease
  | shaperSet
  | p0Reserve
  | sharedOptIn
  | calQuery
  | setPkgLimit
  | grantQuery
  | enterState
  | throttleQuery
  | counterSample
  | traceStart
  | traceStop
  | halt
  | resume
  | debugOpenTenant
  | debugOpenOperator
  | debugChallenge
  | debugResponse
  | lcQuery
  | lcTransition
  | lcStatus
  | katRun
  | loopback
  | faultInject
  | memtest
  deriving DecidableEq, Repr

/-- CLASS of an opcode (R77, R78). -/
def Op.cls : Op → Nat
  | .send => 4
  | .sendMirror => 4
  | .recvPost => 4
  | .recvCancel => 4
  | .ringSetup => 5
  | .allReduce => 5
  | .reduceScatter => 5
  | .allGather => 5
  | .broadcast => 5
  | .unfold => 6
  | .atomic => 6
  | .invalidate => 6
  | .pegAlloc => 7
  | .pegFree => 7
  | .signal => 7
  | .wait => 7
  | .fence => 7
  | .exportPeg => 7
  | .importPeg => 7
  | .ringDeclare => 7
  | .pegRead => 7
  | .keyLoad => 1
  | .keyEvict => 1
  | .keyGenerate => 1
  | .keyQuery => 1
  | .keyPinRc => 1
  | .bindUnwrap => 1
  | .getEvidence => 2
  | .getCerts => 2
  | .getMeasurements => 2
  | .neighbourKeyx => 2
  | .keyClaim => 2
  | .partCreate => 3
  | .partSeal => 3
  | .partDestroy => 3
  | .partRelease => 3
  | .ctxRegister => 3
  | .ctxRelease => 3
  | .tdiBind => 3
  | .partQuery => 3
  | .ctxReset => 3
  | .admitRequest => 8
  | .admitRelease => 8
  | .shaperSet => 8
  | .p0Reserve => 8
  | .sharedOptIn => 8
  | .calQuery => 8
  | .setPkgLimit => 9
  | .grantQuery => 9
  | .enterState => 9
  | .throttleQuery => 9
  | .counterSample => 10
  | .traceStart => 10
  | .traceStop => 10
  | .halt => 10
  | .resume => 10
  | .debugOpenTenant => 10
  | .debugOpenOperator => 10
  | .debugChallenge => 10
  | .debugResponse => 10
  | .lcQuery => 11
  | .lcTransition => 11
  | .lcStatus => 11
  | .katRun => 12
  | .loopback => 12
  | .faultInject => 12
  | .memtest => 12

/-- OPCODE within its class (R77, R78). -/
def Op.code : Op → Nat
  | .send => 1
  | .sendMirror => 2
  | .recvPost => 3
  | .recvCancel => 4
  | .ringSetup => 1
  | .allReduce => 2
  | .reduceScatter => 3
  | .allGather => 4
  | .broadcast => 5
  | .unfold => 1
  | .atomic => 2
  | .invalidate => 3
  | .pegAlloc => 1
  | .pegFree => 2
  | .signal => 3
  | .wait => 4
  | .fence => 5
  | .exportPeg => 6
  | .importPeg => 7
  | .ringDeclare => 8
  | .pegRead => 9
  | .keyLoad => 1
  | .keyEvict => 2
  | .keyGenerate => 3
  | .keyQuery => 4
  | .keyPinRc => 5
  | .bindUnwrap => 6
  | .getEvidence => 1
  | .getCerts => 2
  | .getMeasurements => 3
  | .neighbourKeyx => 4
  | .keyClaim => 5
  | .partCreate => 1
  | .partSeal => 2
  | .partDestroy => 3
  | .partRelease => 4
  | .ctxRegister => 5
  | .ctxRelease => 6
  | .tdiBind => 7
  | .partQuery => 8
  | .ctxReset => 9
  | .admitRequest => 1
  | .admitRelease => 2
  | .shaperSet => 3
  | .p0Reserve => 4
  | .sharedOptIn => 5
  | .calQuery => 6
  | .setPkgLimit => 1
  | .grantQuery => 2
  | .enterState => 3
  | .throttleQuery => 4
  | .counterSample => 1
  | .traceStart => 2
  | .traceStop => 3
  | .halt => 4
  | .resume => 5
  | .debugOpenTenant => 6
  | .debugOpenOperator => 7
  | .debugChallenge => 8
  | .debugResponse => 9
  | .lcQuery => 1
  | .lcTransition => 2
  | .lcStatus => 3
  | .katRun => 1
  | .loopback => 2
  | .faultInject => 3
  | .memtest => 4

/-- The opcode that CLASS and OPCODE name (R71 step 2). -/
def opOf (cls code : Nat) : Option Op :=
  match cls, code with
  | 4, 1 => some .send
  | 4, 2 => some .sendMirror
  | 4, 3 => some .recvPost
  | 4, 4 => some .recvCancel
  | 5, 1 => some .ringSetup
  | 5, 2 => some .allReduce
  | 5, 3 => some .reduceScatter
  | 5, 4 => some .allGather
  | 5, 5 => some .broadcast
  | 6, 1 => some .unfold
  | 6, 2 => some .atomic
  | 6, 3 => some .invalidate
  | 7, 1 => some .pegAlloc
  | 7, 2 => some .pegFree
  | 7, 3 => some .signal
  | 7, 4 => some .wait
  | 7, 5 => some .fence
  | 7, 6 => some .exportPeg
  | 7, 7 => some .importPeg
  | 7, 8 => some .ringDeclare
  | 7, 9 => some .pegRead
  | 1, 1 => some .keyLoad
  | 1, 2 => some .keyEvict
  | 1, 3 => some .keyGenerate
  | 1, 4 => some .keyQuery
  | 1, 5 => some .keyPinRc
  | 1, 6 => some .bindUnwrap
  | 2, 1 => some .getEvidence
  | 2, 2 => some .getCerts
  | 2, 3 => some .getMeasurements
  | 2, 4 => some .neighbourKeyx
  | 2, 5 => some .keyClaim
  | 3, 1 => some .partCreate
  | 3, 2 => some .partSeal
  | 3, 3 => some .partDestroy
  | 3, 4 => some .partRelease
  | 3, 5 => some .ctxRegister
  | 3, 6 => some .ctxRelease
  | 3, 7 => some .tdiBind
  | 3, 8 => some .partQuery
  | 3, 9 => some .ctxReset
  | 8, 1 => some .admitRequest
  | 8, 2 => some .admitRelease
  | 8, 3 => some .shaperSet
  | 8, 4 => some .p0Reserve
  | 8, 5 => some .sharedOptIn
  | 8, 6 => some .calQuery
  | 9, 1 => some .setPkgLimit
  | 9, 2 => some .grantQuery
  | 9, 3 => some .enterState
  | 9, 4 => some .throttleQuery
  | 10, 1 => some .counterSample
  | 10, 2 => some .traceStart
  | 10, 3 => some .traceStop
  | 10, 4 => some .halt
  | 10, 5 => some .resume
  | 10, 6 => some .debugOpenTenant
  | 10, 7 => some .debugOpenOperator
  | 10, 8 => some .debugChallenge
  | 10, 9 => some .debugResponse
  | 11, 1 => some .lcQuery
  | 11, 2 => some .lcTransition
  | 11, 3 => some .lcStatus
  | 12, 1 => some .katRun
  | 12, 2 => some .loopback
  | 12, 3 => some .faultInject
  | 12, 4 => some .memtest
  | _, _ => none

/-- Issuer codes of the opcode tables (R77): any context, a tenant's context, a context of P0, the management ring, a
verifier session. -/
inductive Issuer where
  | c | t | p0 | m | v
  deriving DecidableEq, Repr

/-- The permitted issuers of an opcode (R77, R78). -/
def Op.issuers : Op → List Issuer
  | .send => [.c]
  | .sendMirror => [.p0]
  | .recvPost => [.c]
  | .recvCancel => [.c]
  | .ringSetup => [.c]
  | .allReduce => [.c]
  | .reduceScatter => [.c]
  | .allGather => [.c]
  | .broadcast => [.c]
  | .unfold => [.c]
  | .atomic => [.c]
  | .invalidate => [.c]
  | .pegAlloc => [.c]
  | .pegFree => [.c]
  | .signal => [.c]
  | .wait => [.c]
  | .fence => [.c]
  | .exportPeg => [.c]
  | .importPeg => [.c]
  | .ringDeclare => [.c]
  | .pegRead => [.c]
  | .keyLoad => [.v, .c]
  | .keyEvict => [.v, .c, .m]
  | .keyGenerate => [.c]
  | .keyQuery => [.c, .m]
  | .keyPinRc => [.p0]
  | .bindUnwrap => [.t]
  | .getEvidence => [.v, .c, .m]
  | .getCerts => [.v, .c, .m]
  | .getMeasurements => [.v, .c, .m]
  | .neighbourKeyx => [.m]
  | .keyClaim => [.v, .c]
  | .partCreate => [.m]
  | .partSeal => [.m]
  | .partDestroy => [.m]
  | .partRelease => [.t]
  | .ctxRegister => [.c, .m]
  | .ctxRelease => [.c, .m]
  | .tdiBind => [.m]
  | .partQuery => [.c, .m]
  | .ctxReset => [.c, .m]
  | .admitRequest => [.c, .m]
  | .admitRelease => [.c, .m]
  | .shaperSet => [.c, .m]
  | .p0Reserve => [.m]
  | .sharedOptIn => [.t]
  | .calQuery => [.c, .m]
  | .setPkgLimit => [.m]
  | .grantQuery => [.c, .m]
  | .enterState => [.m]
  | .throttleQuery => [.c, .m]
  | .counterSample => [.c, .m]
  | .traceStart => [.c, .m]
  | .traceStop => [.c, .m]
  | .halt => [.m]
  | .resume => [.m]
  | .debugOpenTenant => [.t]
  | .debugOpenOperator => [.m]
  | .debugChallenge => [.m]
  | .debugResponse => [.m]
  | .lcQuery => [.c, .m, .v]
  | .lcTransition => [.m]
  | .lcStatus => [.m]
  | .katRun => [.m]
  | .loopback => [.m]
  | .faultInject => [.m]
  | .memtest => [.m]

/-- A source is of an issuer code. -/
def issuerIs (i : Issuer) (src : Source) : Bool :=
  match i, src with
  | .c, .cmd _ => true
  | .c, .ring _ => true
  | .t, .cmd p => p ≠ 0
  | .t, .ring p => p ≠ 0
  | .p0, .cmd p => p = 0
  | .p0, .ring p => p = 0
  | .m, .mgmt => true
  | .v, .session _ => true
  | _, _ => false

/-! ### Fields of a packet (R56) -/

/-- The little-endian field of `len` bytes at packet byte `off`, from 20 to 63. -/
def pf (p : Packet) (off len : Nat) : Nat := bitsOf p.params.toNat (8 * (off - 20)) (8 * len)

/-- Bits [lo + len - 1 : lo] of the field that begins at packet byte `off`. -/
def pbits (p : Packet) (off lo len : Nat) : Nat := bitsOf p.params.toNat (8 * (off - 20) + lo) len

/-- A bit of the packet byte `off`. -/
def pbit (p : Packet) (off i : Nat) : Bool := pbits p off i 1 = 1

/-- The first of the packet's parameter bytes that holds a non-zero bit of `r`, from byte `off` on. -/
def firstByte (r : Nat) : Nat → Nat → Option Nat
  | 0, _ => none
  | k + 1, off => if bitsOf r 0 8 ≠ 0 then some off else firstByte (r / 256) k (off + 1)

/-- The bits a layout owns: fields as (byte offset, lowest bit, number of bits). -/
def ownedMask (fs : List (Nat × Nat × Nat)) : BitVec 352 :=
  fs.foldl (fun m f => m ||| (BitVec.ofNat 352 ((2 ^ f.2.2 - 1) * 2 ^ (8 * (f.1 - 20) + f.2.1)))) 0

/-- The byte of the lowest non-zero reserved bit of PARAMS (R56, R563). -/
def reservedAt (p : Packet) (fs : List (Nat × Nat × Nat)) : Option Nat :=
  firstByte (p.params &&& ~~~ (ownedMask fs)).toNat 44 20

/-- A reserved bit of HANDLE [23:12] that is set (R56, R563). -/
def handleReservedAt (h : Word) : Option Nat :=
  if bitsOf h.toNat 12 4 ≠ 0 then some 9 else if bitsOf h.toNat 16 8 ≠ 0 then some 10 else none

/-- The lesser of two offsets, where either is absent the other. -/
def minAt : Option Nat → Option Nat → Option Nat
  | none, b => b
  | a, none => a
  | some a, some b => some (min a b)

/-- The first offending field (R71 step 3): reserved flags, reserved handle bits, reserved parameter bits, and the
range checks as (byte offset, out of range). `cflags` are the CLASS_FLAGS bits the opcode defines, as a mask of FLAGS. -/
def firstOffence (p : Packet) (cflags : Nat) (fs : List (Nat × Nat × Nat)) (ranges : List (Nat × Bool)) : Option Nat :=
  minAt (if (p.flags &&& ~~~ (BitVec.ofNat 8 (7 + cflags))) ≠ 0 then some 2 else none)
    (minAt (handleReservedAt p.handle)
      (minAt (reservedAt p fs)
        (ranges.foldl (fun m r => if r.2 then minAt m (some r.1) else m) none)))

/-- What one opcode contributes to the acceptance checks: its CLASS_FLAGS, layout and ranges (R71 step 3). -/
structure Layout where
  cflags : Nat
  fields : List (Nat × Nat × Nat)
  ranges : List (Nat × Bool)

/-- The offence of a packet under a layout. -/
def Layout.offence (l : Layout) (p : Packet) : Option Nat := firstOffence p l.cflags l.fields l.ranges

end Sys2Proof.Machine
end

