-- ==== Sys2Proof/Machine/Pegs.lean ====
section
/-! DEFINITION. Pegs, waits, remote peg messages, fences and rings (07), and what the class 0x7 commands do when they
start. -/

namespace Sys2Proof.Machine

/-- 2^64 - 1: the value of a saturated peg (R215). -/
abbrev pegMax : Nat := 0xFFFFFFFFFFFFFFFF

/-! ### Slots (R214) -/

/-- The peg slot `idx`, if it has been used. -/
def State.peg? (s : State) (idx : Nat) : Option Peg := s.pegs.slots.find? (fun g => g.idx = idx)

/-- Peg slot `idx` changed by `f`. -/
def State.modPeg (s : State) (idx : Nat) (f : Peg → Peg) : State :=
  { s with pegs := { s.pegs with slots := s.pegs.slots.map (fun g => if g.idx = idx then f g else g) } }

/-- Peg slots of partition p that are not FREE. -/
def State.pegsOf (s : State) (p : Nat) : List Peg :=
  s.pegs.slots.filter (fun g => g.ownerPart = p && g.state != .free)

/-- LIVE pegs of partition p (R251). -/
def State.pegsLive (s : State) (p : Nat) : Nat := (s.pegs.slots.filter (fun g => g.ownerPart = p && g.state = .live)).length

/-- Waiter entries in use by partition p: local waits and remote registrations (R223, R231, R252). -/
def State.waitersUsed (s : State) (p : Nat) : Nat :=
  (s.pegs.waiters.filter (fun w => w.ref.part = p && w.remoteChip.isNone)).length +
    (s.pegs.remote.filter (fun w => w.part = p)).length

/-- The k-th slot number that no entry of a rising list names. -/
def kthFree : List Nat → Nat → Nat
  | [], k => k
  | u :: us, k => if u ≤ k then kthFree us (k + 1) else k

/-- A peg put into the list of slots, slot numbers rising. -/
def pegInsert (l : List Peg) (g : Peg) : List Peg :=
  match l with
  | [] => [g]
  | a :: rest => if a.idx = g.idx then g :: rest else if g.idx < a.idx then g :: a :: rest else a :: pegInsert rest g

/-- The ORPHANED slot of a share that was orphaned longest ago (R220). -/
def oldestOrphan (l : List Peg) : Option Peg :=
  l.foldl (fun m g =>
    if g.state != .orphaned then m
    else match m with
      | none => some g
      | some h => if g.orphanedAt < h.orphanedAt then some g else m) none

/-! ### Handles (R217, R219) -/

/-- The generation and target of a handle-table entry; an entry never used has generation 0. -/
def Ctx.entry? (c : Ctx) (idx : Nat) : Option HandleEntry := c.handles.find? (fun e => e.idx = idx)

/-- A handle-table entry put into a context's table. -/
def setEntry (e : HandleEntry) (c : Ctx) : Ctx :=
  { c with handles := c.handles.filter (fun x => x.idx ≠ e.idx) ++ [e] }

/-- The lowest free index of a context's handle table (R220). -/
def Ctx.freeIndex (c : Ctx) : Option Nat :=
  (List.range (2 ^ c.htLog2)).find? (fun i =>
    match c.entry? i with
    | none => true
    | some e => e.target.isNone)

/-- The generation of an index of a context's handle table. -/
def Ctx.entryGen (c : Ctx) (idx : Nat) : Nat :=
  match c.entry? idx with
  | none => 0
  | some e => e.gen

/-- A table entry released: empty, its generation raised modulo 256 (R217). -/
def releaseEntry (idx : Nat) (c : Ctx) : Ctx :=
  setEntry { idx := idx, gen := (c.entryGen idx + 1) % 256, target := none, checkOk := true } c

/-- What a handle translates to (R219). -/
inductive Xlat where
  | invalid
  | checkFail
  | orphaned (value : Nat)
  | owner (idx : Nat) (g : Peg)
  | imported (idx : Nat) (g : Peg) (rights : Nat)
  | remote (chip part peg slotGen rights : Nat)
  deriving DecidableEq, Repr

/-- A slot that an entry recorded (R219): the peg while LIVE with that SLOT_GEN; else orphaned, with the kept value while
the slot still holds it (R240 step 4). -/
def State.slotState (s : State) (idx gen : Nat) : Option Peg × Nat :=
  match s.peg? idx with
  | none => (none, 0)
  | some g =>
    if g.slotGen ≠ gen then (none, 0)
    else if g.state = .live then (some g, 0)
    else (none, if g.state = .orphaned then g.value.toNat else 0)

/-- Translation of a peg handle of a context (R217, R219). -/
def translate (s : State) (c : Ctx) (h : Nat) : Xlat :=
  let idx := h % 4096
  let gen := bitsOf h 24 8
  if 2 ^ c.htLog2 ≤ idx then .invalid
  else match c.entry? idx with
    | none => .invalid
    | some e =>
      if e.gen ≠ gen then .invalid
      else match e.target with
        | none => .invalid
        | some t =>
          if !e.checkOk then .checkFail
          else match t with
            | .owner i g =>
              match s.slotState i g with
              | (some q, _) => .owner i q
              | (none, v) => .orphaned v
            | .localImport i g r =>
              match s.slotState i g with
              | (some q, _) => .imported i q r
              | (none, v) => .orphaned v
            | .remote ch pt i g r => .remote ch pt i g r

/-! ### Messages to other chips (R230) -/

/-- A PEG message queued: a parcel of class MC, 48 B of plaintext, eligible at once; its APPLY_AT is written as its flit
leaves (R230, R234). -/
def sendPeg (part dst : Nat) (m : PegMsg) (s : State) : State :=
  s.addParcel (fun id =>
    { mkParcel id part .peg none dst 0 0 48 0 0 (.peg m) none false s.now with eligibleAt := some s.now })

/-- A message about a slot of a home. -/
def pegMsg (msg status slot slotGen part context seq : Nat) (value target : Quad) (deadline : Nat) : PegMsg :=
  { msg := msg, status := status, slot := slot, slotGen := slotGen, part := part, context := context, seq := seq,
    value := value, target := target, deadline := deadline, applyAt := 0 }

/-! ### Signals (R215, R243) -/

/-- A value satisfies a wait: it has reached the target, or the peg is saturated (R215, R223). -/
def satisfies (value target : Quad) : Bool := target.toNat ≤ value.toNat || value.toNat = pegMax

/-- The record of a peg event: FLAGS [1:0] 0 signal applied, 1 wait satisfied, 2 fence done (R495). -/
def tracePeg (r : CmdRef) (flags : Nat) (value : Nat) (s : State) : State :=
  traceCtx r.part r.slot 2 (r.record s.now 0x06 flags value) s

/-- Waits on a peg that its value satisfies complete; remote registrations are answered NOTIFY. A pre-empted wait is
judged when it resumes (R216, R223, R226, R231). -/
def wakePeg (idx : Nat) (s : State) : State :=
  match s.peg? idx with
  | none => s
  | some g =>
    let here (w : Waiter) : Bool := w.peg = idx && w.remoteChip.isNone && !w.preempted && satisfies g.value w.target
    let there (w : RemoteWait) : Bool := w.peg = idx && satisfies g.value w.target
    let ready := s.pegs.waiters.filter here
    let notify := s.pegs.remote.filter there
    let s1 := { s with pegs := { s.pegs with waiters := s.pegs.waiters.filter (fun w => !here w),
                                             remote := s.pegs.remote.filter (fun w => !there w) } }
    let s2 := ready.foldl (fun t w =>
      complete w.ref stOk (resultOf [(16, 8, g.value.toNat)]) (tracePeg w.ref 1 g.value.toNat t)) s1
    notify.foldl (fun t w =>
      sendPeg w.part w.src (pegMsg 0x12 stOk idx g.slotGen w.part w.context w.seq g.value 0 0) t) s2

/-- The ring rule (R243): whether a signal that would set a peg to `v` is allowed. -/
def ringAllows (s : State) (g : Peg) (v : Nat) : Bool :=
  match g.role, s.peg? g.partner with
  | .producer, some c => v - c.value.toNat ≤ g.depth
  | .consumer, some q => v ≤ q.value.toNat
  | _, _ => true

/-- The new value a signal would give (R215): saturating sum, or maximum. -/
def signalValue (g : Peg) (v : Nat) : Nat :=
  if g.isValue then max g.value.toNat v else min pegMax (g.value.toNat + v)

/-- The events of the peg's partition counted (R215, R243, R253). -/
def countPegEvent (p st : Nat) (s : State) : State :=
  s.modView p (fun v =>
    if st = stPegSaturated then { v with saturated := bump 255 v.saturated }
    else if st = stSignalStale then { v with stale := bump 255 v.stale }
    else if st = stRingOverrun then { v with overrun := bump 255 v.overrun }
    else if st = stPegTimeout then { v with timeout := bump 255 v.timeout }
    else v)

/-- A signal applied to a LIVE peg: status, the value or detail, and the state after it, waits woken included (R215,
R243). -/
def signalPeg (g : Peg) (v : Nat) (s : State) : Nat × Nat × State :=
  let old := g.value.toNat
  let new := signalValue g v
  if old = pegMax then (stPegSaturated, 0, countPegEvent g.ownerPart stPegSaturated s)
  else if !ringAllows s g new then (stRingOverrun, g.depth, countPegEvent g.ownerPart stRingOverrun s)
  else if g.isValue && v < old then (stSignalStale, old, countPegEvent g.ownerPart stSignalStale s)
  else
    let s1 := wakePeg g.idx (s.modPeg g.idx (fun q => { q with value := BitVec.ofNat 64 new }))
    if new = pegMax then (stPegSaturated, 0, countPegEvent g.ownerPart stPegSaturated s1)
    else (stOk, new, s1)

/-- The CTX_FAULT event of a context: its entry, the context rung, then the threshold (R80, R219, R428, R443, R447). -/
def ctxFault (r : CmdRef) (cause : Nat) (s : State) : State :=
  plumbThreshold (0xA0 + r.part) (some r.part)
    (requestRung .context r.slot (0xA0 + r.part)
      (plumbLog (0xA0 + r.part) cause 2 (some r.part) false
        (r.slot + 2 ^ 16 * ((r.gen + 1) % 256) + 2 ^ 24 * r.cls + 2 ^ 32 * r.op) s)) (some r.slot)

/-- A fault of a handle-table entry (R219): the context faults, and its rung follows. -/
def handleFault (r : CmdRef) (s : State) : State :=
  ctxFault r 2 (complete r stContextFaulted (detailOf 2) s)

/-- The result of a status: fields for ST_OK, the detail otherwise. -/
def pegResult (st v : Nat) : BitVec 128 := if st = stOk then resultOf [(16, 8, v)] else detailOf v

/-- A SIGNAL through an entry of the context: local, or sent to the home (R219, R222, R228, R229). The command is in
flight where `held`. -/
def signalThrough (r : CmdRef) (h : Nat) (v : Quad) (s : State) : State :=
  match s.ctx? r.slot with
  | none => complete r stWrongState (detailOf 0x0701) s
  | some c =>
    match translate s c h with
    | .invalid => complete r stWrongState (detailOf 0x0701) s
    | .checkFail => handleFault r s
    | .orphaned k => complete r stPegOrphaned (detailOf k) s
    | .owner _ g =>
      let (st, d, t) := signalPeg g v.toNat s
      complete r st (pegResult st d) (tracePeg r 0 d t)
    | .imported _ g rights =>
      if !bitOf rights 0 then complete r stWrongState (detailOf 0x0702) s
      else
        let (st, d, t) := signalPeg g v.toNat s
        complete r st (pegResult st d) (tracePeg r 0 d t)
    | .remote chip part peg gen rights =>
      if !bitOf rights 0 then complete r stWrongState (detailOf 0x0702) s
      else
        let sig : RemoteSignal := { ref := r, chip := chip, parcel := s.gl.nextId, settledAt := none, answer := none }
        let s1 := if (s.inflight? r).isSome then s else hold r s
        let s2 := { s1 with pegs := { s1.pegs with signals := s1.pegs.signals ++ [sig] } }
        sendPeg r.part chip (pegMsg 0x01 0 peg gen part r.slot r.seq v 0 0) s2

/-! ### Fences (R235 to R239) -/

/-- A parcel of a route sent in an epoch and not settled (R124). -/
def State.epochPending (s : State) (part dst : Nat) (mirror : Bool) (epoch : Nat) : Bool :=
  s.gl.parcels.any (fun x => x.part = part && x.dst = dst && x.pseq.isSome &&
    (if mirror then x.mirror && x.epochM = epoch else x.epoch = epoch))

/-- A member's epoch on a route has drained or is current (R238). -/
def memberDone (s : State) (part : Nat) (m : FenceMember) : Bool :=
  let ok (mirror : Bool) (e : Nat) : Bool :=
    s.routeEpoch part m.dst mirror = e || !s.epochPending part m.dst mirror e
  m.settled && ok false m.epoch && (!m.mirror || ok true m.epochM)

/-- A fence completes (R238). -/
def fenceReady (s : State) (f : Fence) : Bool := f.members.all (memberDone s f.ref.part)

/-- The superseded epochs among a fence's members, each counted once (R238). -/
def fenceSuperseded (s : State) (f : Fence) : Nat :=
  ((f.members.map (fun m => (m.dst, m.epoch))).eraseDups.filter
    (fun e => s.routeEpoch f.ref.part e.1 false ≠ e.2)).length +
  (((f.members.filter (fun m => m.mirror)).map (fun m => (m.dst, m.epochM))).eraseDups.filter
    (fun e => s.routeEpoch f.ref.part e.1 true ≠ e.2)).length

/-- One fence of a context ends: DONE releases the signals held behind it, FAILED ends them (R239). -/
def endFence (slot : Nat) (f : Fence) (s : State) : State :=
  match s.ctx? slot with
  | none => s
  | some c =>
    let mine := c.held.filter (fun h => h.behind = f.ref.seq)
    let s1 := s.modCtx slot (fun q => { q with fences := q.fences.filter (fun x => x.ref ≠ f.ref),
                                               held := q.held.filter (fun h => h.behind ≠ f.ref.seq) })
    if f.failed then
      mine.foldl (fun t h => complete h.ref stWrongState (detailOf 0x0706) t)
        (complete f.ref stWrongState (detailOf 0x0706) s1)
    else
      let sup := fenceSuperseded s f
      let s2 := complete f.ref stOk (resultOf [(16, 4, f.members.length), (20, 4, sup)]) (tracePeg f.ref 2 0 s1)
      mine.foldl (fun t h => signalThrough h.ref h.handle.toNat h.value t) s2

/-- The fences of a context, at most three, ended while the oldest is done or any has failed (R237, R239). -/
def advanceFences (slot : Nat) : Nat → State → State
  | 0, s => s
  | k + 1, s =>
    match s.ctx? slot with
    | none => s
    | some c =>
      match c.fences.find? (fun f => f.failed) with
      | some f => advanceFences slot k (endFence slot f s)
      | none =>
        match c.fences with
        | [] => s
        | f :: _ => if fenceReady s f then advanceFences slot k (endFence slot f s) else s

/-- Every context's fences looked at again: after a settlement, a drain or a rise of an epoch. -/
def advanceAllFences (s : State) : State :=
  (s.cmds.ctxs.map (fun c => c.slot)).foldl (fun t slot => advanceFences slot 3 t) s

/-- A parcel settles for the fences it is a member of: PLACED, or not (R239). -/
def settleMember (x : TxParcel) (placed : Bool) (s : State) : State :=
  let upd (m : FenceMember) : FenceMember :=
    if m.parcel = x.id then
      { m with settled := placed, dst := x.dst, mirror := x.mirror, epoch := x.epoch, epochM := x.epochM }
    else m
  { s with cmds := { s.cmds with ctxs := s.cmds.ctxs.map (fun c =>
      if c.part ≠ x.part then c
      else
        { c with openSet := c.openSet.map upd
                 fences := c.fences.map (fun f =>
                   { f with members := f.members.map upd
                            failed := f.failed || (!placed && f.members.any (fun m => m.parcel = x.id)) }) }) } }

/-- A member that is not settled. -/
def newMember (parcel : Nat) : FenceMember :=
  { parcel := parcel, settled := false, dst := 0, mirror := false, epoch := 0, epochM := 0 }

/-- The fences and held signals of a context end: discarded with ST_SQUASHED and a cause (R239, R240). -/
def dropFences (slot cause : Nat) (s : State) : State :=
  match s.ctx? slot with
  | none => s
  | some c =>
    let s1 := s.modCtx slot (fun q => { q with fences := [], held := [], openSet := [] })
    c.held.foldl (fun t h => squash cause h.ref t) (c.fences.foldl (fun t f => squash cause f.ref t) s1)

/-! ### Orphaning (R240) -/

/-- A peg becomes ORPHANED: its waits and registrations end and its ring is released. -/
def orphanPeg (idx : Nat) (s : State) : State :=
  match s.peg? idx with
  | none => s
  | some g =>
    if g.state ≠ .live then s
    else
      let partner := g.partner
      let unring (q : Peg) : Peg := { q with role := .none, partner := 0, depth := 0 }
      let s1 := s.modPeg idx (fun q => { unring q with state := .orphaned, orphanedAt := s.pegs.orphanClock })
      let s2 := if g.role = .none then s1 else s1.modPeg partner unring
      let here (w : Waiter) : Bool := w.peg = idx && w.remoteChip.isNone
      let ended := s2.pegs.waiters.filter here
      let regs := s2.pegs.remote.filter (fun w => w.peg = idx)
      let s3 := { s2 with pegs := { s2.pegs with waiters := s2.pegs.waiters.filter (fun w => !here w)
                                                 remote := s2.pegs.remote.filter (fun w => w.peg ≠ idx)
                                                 orphanClock := s2.pegs.orphanClock + 1 } }
      let s4 := ended.foldl (fun t w => complete w.ref stPegOrphaned (detailOf g.value.toNat) t) s3
      regs.foldl (fun t w =>
        sendPeg w.part w.src (pegMsg 0x13 stPegOrphaned idx g.slotGen w.part w.context w.seq g.value 0 0) t) s4

/-- CANCEL to the home of a remote wait (R232). -/
def cancelRemote (w : Waiter) (s : State) : State :=
  match w.remoteChip with
  | none => s
  | some chip => sendPeg w.ref.part chip (pegMsg 0x03 0 w.peg w.homeGen w.homePart w.ref.slot w.ref.seq 0 0 0) s

/-! ### Class 0x7 commands (R220 to R228, R236, R242) -/

def layoutPegAlloc (p : Packet) (_ : State) : Layout :=
  { cflags := 0, fields := [(20, 0, 8), (24, 0, 64)], ranges := [(20, 1 < pf p 20 1), (24, pf p 24 8 = pegMax)] }

/-- PEG_ALLOC (R220). Which FREE slot is taken the spec leaves open: a free value (log 14). -/
def startPegAlloc (r : CmdRef) (p : Packet) (s : State) : State :=
  match s.ctx? r.slot with
  | none => complete r stBadHandle (detailOf 0) s
  | some c =>
    let mine := s.pegsOf r.part
    let used := s.pegs.slots.filter (fun g => g.state != .free)
    let fresh := mine.length < (s.part r.part).shares.pegs && used.length < 65536
    match fresh, oldestOrphan mine with
    | false, none => complete r stNoResource (detailOf 0x0701) s
    | _, orphan =>
      match c.freeIndex with
      | none => complete r stNoResource (detailOf 0x0702) s
      | some hi =>
        let (d, s1) := s.draw
        let idx := if fresh then kthFree (used.map (fun g => g.idx)) (d % (65536 - used.length))
          else (orphan.map (fun g => g.idx)).getD 0
        let gen := match s.peg? idx with | none => 1 | some g => (g.slotGen + 1) % 256
        let g : Peg := { idx := idx, value := BitVec.ofNat 64 (pf p 24 8), isValue := pf p 20 1 = 1, state := .live,
                         slotGen := gen, ownerPart := r.part, ownerCtx := r.slot, role := .none, partner := 0,
                         depth := 0, orphanedAt := 0 }
        let s2 := { s1 with pegs := { s1.pegs with slots := pegInsert s1.pegs.slots g } }
        let e : HandleEntry := { idx := hi, gen := c.entryGen hi, target := some (.owner idx gen), checkOk := true }
        complete r stOk (resultOf [(16, 4, mkHandle hi e.gen)]) (s2.modCtx r.slot (setEntry e))

/-- The layout of a command that takes one peg handle in bytes 20 to 23 (R217). -/
def pegHandleFields : List (Nat × Nat × Nat) := [(20, 0, 12), (20, 24, 8)]

def layoutPegFree (_ : Packet) (_ : State) : Layout := { cflags := 0, fields := pegHandleFields, ranges := [] }

/-- PEG_FREE (R221): an owner entry orphans the peg; any entry is released. -/
def startPegFree (r : CmdRef) (p : Packet) (s : State) : State :=
  match s.ctx? r.slot with
  | none => complete r stBadHandle (detailOf 0) s
  | some c =>
    let h := pf p 20 4
    match translate s c h with
    | .invalid => complete r stWrongState (detailOf 0x0701) s
    | .checkFail => handleFault r s
    | .orphaned k => complete r stPegOrphaned (detailOf k) (s.modCtx r.slot (releaseEntry (h % 4096)))
    | .owner i _ => complete r stOk 0 ((orphanPeg i s).modCtx r.slot (releaseEntry (h % 4096)))
    | .imported _ _ _ => complete r stOk 0 (s.modCtx r.slot (releaseEntry (h % 4096)))
    | .remote _ _ _ _ _ => complete r stOk 0 (s.modCtx r.slot (releaseEntry (h % 4096)))

def layoutSignal (_ : Packet) (_ : State) : Layout :=
  { cflags := 0, fields := pegHandleFields ++ [(24, 0, 64)], ranges := [] }

/-- SIGNAL (R222, R237): held behind the fences of its context that are armed when it is accepted. -/
def startSignal (r : CmdRef) (p : Packet) (s : State) : State :=
  let v : Quad := BitVec.ofNat 64 (pf p 24 8)
  match (s.ctx? r.slot).bind (fun c => c.fences.getLast?) with
  | some f =>
    (hold r s).modCtx r.slot (fun c => { c with
      held := c.held ++ [{ ref := r, handle := BitVec.ofNat 32 (pf p 20 4), value := v, behind := f.ref.seq }] })
  | none => signalThrough r (pf p 20 4) v s

def layoutWait (_ : Packet) (_ : State) : Layout :=
  { cflags := 0, fields := pegHandleFields ++ [(24, 0, 64), (32, 0, 32)], ranges := [] }

/-- A wait armed on a slot of this chip (R223, R225). -/
def waitLocal (r : CmdRef) (g : Peg) (target : Quad) (timeout : Nat) (s : State) : State :=
  if satisfies g.value target then
    complete r stOk (resultOf [(16, 8, g.value.toNat)]) (tracePeg r 1 g.value.toNat s)
  else if timeout = 0 then
    complete r stPegTimeout (detailOf g.value.toNat) (countPegEvent r.part stPegTimeout s)
  else if (s.part r.part).shares.waiters ≤ s.waitersUsed r.part then complete r stNoResource (detailOf 0x0703) s
  else
    let w : Waiter := { ref := r, peg := g.idx, remoteChip := none, target := target,
                        deadline := s.now + timeout * 1000, lastArmed := 0, preempted := false, heldAnswer := none,
                        homePart := r.part, homeGen := g.slotGen }
    let s1 := hold r s
    { s1 with pegs := { s1.pegs with waiters := s1.pegs.waiters ++ [w] } }

/-- WAIT (R223, R229): the deadline of a wait with TIMEOUT_US 0 is 0 in its ARM (log 15). -/
def startWait (r : CmdRef) (p : Packet) (s : State) : State :=
  let target : Quad := BitVec.ofNat 64 (pf p 24 8)
  let timeout := pf p 32 4
  match s.ctx? r.slot with
  | none => complete r stBadHandle (detailOf 0) s
  | some c =>
    match translate s c (pf p 20 4) with
    | .invalid => complete r stWrongState (detailOf 0x0701) s
    | .checkFail => handleFault r s
    | .orphaned k => complete r stPegOrphaned (detailOf k) s
    | .owner _ g => waitLocal r g target timeout s
    | .imported _ g rights =>
      if !bitOf rights 1 then complete r stWrongState (detailOf 0x0702) s else waitLocal r g target timeout s
    | .remote chip part peg gen rights =>
      if !bitOf rights 1 then complete r stWrongState (detailOf 0x0702) s
      else
        let deadline := if timeout = 0 then 0 else s.now + timeout * 1000
        let w : Waiter := { ref := r, peg := peg, remoteChip := some chip, target := target, deadline := deadline,
                            lastArmed := 0, preempted := false, heldAnswer := none, homePart := part, homeGen := gen }
        let s1 := hold r s
        let s2 := { s1 with pegs := { s1.pegs with waiters := s1.pegs.waiters ++ [w] } }
        sendPeg r.part chip (pegMsg 0x02 0 peg gen part r.slot r.seq 0 target deadline) s2

def layoutFence (_ : Packet) (_ : State) : Layout := { cflags := 0x10, fields := [], ranges := [] }

/-- FENCE waits in staging while three fences of its context are armed (R237). -/
def waitsFence (r : CmdRef) (s : State) : Bool :=
  match s.ctx? r.slot with
  | none => false
  | some c => 3 ≤ c.fences.length

/-- The remote WRITE and ATOMIC request parcels of a partition that are unsettled (R236 POOL). -/
def poolMembers (part : Nat) (s : State) : List FenceMember :=
  (s.gl.parcels.filter (fun x => x.part = part && (match x.body with | .atomicReq m => decide (m.rop ≠ 1) | _ => false))).map
    (fun x => newMember x.id)

/-- FENCE (R236, R238): the open set becomes a fence, with POOL the pool requests too. -/
def startFence (r : CmdRef) (p : Packet) (s : State) : State :=
  let pool := if bitOf p.flags.toNat 4 then poolMembers r.part s else []
  let s1 := (hold r s).modCtx r.slot (fun c =>
    { c with openSet := [], fences := c.fences ++ [{ ref := r, members := c.openSet ++ pool, failed := false }] })
  advanceFences r.slot 3 s1

def layoutExport (_ : Packet) (_ : State) : Layout :=
  { cflags := 0, fields := pegHandleFields ++ [(24, 0, 3)], ranges := [] }

/-- EXPORT (R227). -/
def startExport (r : CmdRef) (p : Packet) (s : State) : State :=
  match s.ctx? r.slot with
  | none => complete r stBadHandle (detailOf 0) s
  | some c =>
    match translate s c (pf p 20 4) with
    | .invalid => complete r stWrongState (detailOf 0x0701) s
    | .checkFail => handleFault r s
    | .orphaned k => complete r stPegOrphaned (detailOf k) s
    | .owner i g =>
      let d := i + 2 ^ 16 * g.slotGen + 2 ^ 24 * s.chip + 2 ^ 35 * r.part + 2 ^ 39 * bitsOf (pf p 24 1) 0 3
      complete r stOk (resultOf [(16, 8, d)]) s
    | .imported _ _ _ => complete r stWrongState (detailOf 0x0703) s
    | .remote _ _ _ _ _ => complete r stWrongState (detailOf 0x0703) s

/-- The layout of IMPORT: a descriptor in bytes 24 to 31 whose reserved bits or CHIP make it malformed at byte 24
(R228). -/
def layoutImport (p : Packet) (s : State) : Layout :=
  let d := pf p 24 8
  { cflags := 0, fields := [(24, 0, 64)],
    ranges := [(24, bitsOf d 42 22 ≠ 0 || !s.chipInside (bitsOf d 24 11))] }

/-- IMPORT (R228). -/
def startImport (r : CmdRef) (p : Packet) (s : State) : State :=
  let d := pf p 24 8
  let slot := bitsOf d 0 16
  let gen := bitsOf d 16 8
  let chip := bitsOf d 24 11
  let part := bitsOf d 35 4
  let rights := bitsOf d 39 3
  match s.ctx? r.slot with
  | none => complete r stBadHandle (detailOf 0) s
  | some c =>
    let place (t : HandleTarget) : State :=
      match c.freeIndex with
      | none => complete r stNoResource (detailOf 0x0702) s
      | some hi =>
        let e : HandleEntry := { idx := hi, gen := c.entryGen hi, target := some t, checkOk := true }
        complete r stOk (resultOf [(16, 4, mkHandle hi e.gen)]) (s.modCtx r.slot (setEntry e))
    if chip = s.chip then
      if part ≠ r.part then complete r stWrongState (detailOf 0x0709) s
      else match s.slotState slot gen with
        | (some g, _) =>
          if g.ownerPart = r.part then place (.localImport slot gen rights)
          else complete r stPegOrphaned (detailOf 0) s
        | (none, v) =>
          complete r stPegOrphaned (detailOf (if (s.peg? slot).elim false (fun g => g.ownerPart = r.part) then v else 0)) s
    else if !bitOf rights 2 then complete r stWrongState (detailOf 0x0709) s
    else place (.remote chip part slot gen rights)

def layoutRingDeclare (p : Packet) (_ : State) : Layout :=
  { cflags := 0, fields := [(20, 0, 12), (20, 24, 8), (24, 0, 12), (24, 24, 8), (28, 0, 32)],
    ranges := [(24, pf p 28 4 = 0 && pf p 24 4 ≠ 0)] }

/-- RING_DECLARE (R242). -/
def startRingDeclare (r : CmdRef) (p : Packet) (s : State) : State :=
  let depth := pf p 28 4
  match s.ctx? r.slot with
  | none => complete r stBadHandle (detailOf 0) s
  | some c =>
    let xp := translate s c (pf p 20 4)
    match xp with
    | .invalid => complete r stWrongState (detailOf 0x0701) s
    | .checkFail => handleFault r s
    | .orphaned k => complete r stPegOrphaned (detailOf k) s
    | .imported _ _ _ => complete r stWrongState (detailOf 0x0703) s
    | .remote _ _ _ _ _ => complete r stWrongState (detailOf 0x0708) s
    | .owner i g =>
      if depth = 0 then
        if g.role ≠ .producer then complete r stWrongState (detailOf 0x0705) s
        else
          let unring (q : Peg) : Peg := { q with role := .none, partner := 0, depth := 0 }
          complete r stOk 0 ((s.modPeg i unring).modPeg g.partner unring)
      else
        match translate s c (pf p 24 4) with
        | .invalid => complete r stWrongState (detailOf 0x0701) s
        | .checkFail => handleFault r s
        | .orphaned k => complete r stPegOrphaned (detailOf k) s
        | .imported _ _ _ => complete r stWrongState (detailOf 0x0703) s
        | .remote _ _ _ _ _ => complete r stWrongState (detailOf 0x0708) s
        | .owner j h =>
          if g.isValue || h.isValue then complete r stWrongState (detailOf 0x0704) s
          else if i = j || g.role ≠ .none || h.role ≠ .none || g.value.toNat < h.value.toNat ||
              depth < g.value.toNat - h.value.toNat then
            complete r stWrongState (detailOf 0x0705) s
          else
            complete r stOk 0
              ((s.modPeg i (fun q => { q with role := .producer, partner := j, depth := depth })).modPeg j
                (fun q => { q with role := .consumer, partner := i, depth := depth }))

def layoutPegRead (_ : Packet) (_ : State) : Layout := { cflags := 0, fields := pegHandleFields, ranges := [] }

/-- The result of PEG_READ (R224). -/
def pegReadResult (g : Peg) : BitVec 128 :=
  let role := match g.role with | .none => 0 | .producer => 1 | .consumer => 2
  resultOf [(16, 8, g.value.toNat),
    (24, 1, (if g.isValue then 1 else 0) + (if g.value.toNat = pegMax then 2 else 0) + 4 * role)]

/-- PEG_READ (R224, R229). -/
def startPegRead (r : CmdRef) (p : Packet) (s : State) : State :=
  match s.ctx? r.slot with
  | none => complete r stBadHandle (detailOf 0) s
  | some c =>
    match translate s c (pf p 20 4) with
    | .invalid => complete r stWrongState (detailOf 0x0701) s
    | .checkFail => handleFault r s
    | .orphaned k => complete r stPegOrphaned (detailOf k) s
    | .owner _ g => complete r stOk (pegReadResult g) s
    | .imported _ g rights =>
      if !bitOf rights 1 then complete r stWrongState (detailOf 0x0702) s else complete r stOk (pegReadResult g) s
    | .remote _ _ _ _ _ => complete r stWrongState (detailOf 0x0708) s

/-! ### Events of pegs -/

/-- A message taken out of the messages held for their APPLY_AT, and counted when it comes after it (R234, R250). -/
def takePegIn (src domain : Nat) (m : PegMsg) (s : State) : Option State :=
  let i : PegIn := { src := src, domain := domain, msg := m }
  if s.pegs.inbox.contains i then
    let t := s.atTime m.applyAt
    some { t with pegs := { t.pegs with inbox := t.pegs.inbox.erase i
                                        late := if m.applyAt < s.now then bump 65535 t.pegs.late else t.pegs.late } }
  else none

/-- The home answers a request with ORPHAN, or applies it (R229, R231). -/
def pegRequest (src part : Nat) (m : PegMsg) (s : State) : State :=
  let answer (msg st : Nat) (v : Quad) (t : State) : State :=
    sendPeg part src (pegMsg msg st m.slot m.slotGen m.part m.context m.seq v 0 0) t
  let live := match s.slotState m.slot m.slotGen with
    | (some g, _) => if g.ownerPart = part && m.part = part then some g else none
    | (none, _) => none
  if m.msg = 0x03 then
    { s with pegs := { s.pegs with remote := s.pegs.remote.filter (fun w =>
        !(w.src = src && w.part = part && w.context = m.context && w.seq = m.seq)) } }
  else
    match live with
    | none =>
      let v : Quad := match s.peg? m.slot with
        | some g => if g.ownerPart = part && g.slotGen = m.slotGen && g.state = .orphaned then g.value else 0
        | none => 0
      answer 0x13 stPegOrphaned v s
    | some g =>
      if m.msg = 0x01 then
        let (st, _, t) := signalPeg g m.value.toNat s
        answer 0x11 st (((t.peg? g.idx).map (fun q => q.value)).getD g.value) t
      else if satisfies g.value m.target then answer 0x12 stOk g.value s
      else if m.deadline = 0 then answer 0x14 stOk g.value s
      else if (s.part part).shares.waiters ≤ s.waitersUsed part then answer 0x11 stNoResource g.value s
      else
        let w : RemoteWait := { src := src, part := part, context := m.context, seq := m.seq, peg := g.idx,
                                target := m.target, deadline := m.deadline }
        answer 0x14 stOk g.value { s with pegs := { s.pegs with remote := s.pegs.remote ++ [w] } }

/-- PEG_REQUEST_APPLY: the home applies a held request at its APPLY_AT (R234). -/
def applyPegRequest (src domain : Nat) (m : PegMsg) (s : State) : State :=
  match takePegIn src domain m s, s.partOfDomain domain with
  | some t, some part => if m.msg ≤ 0x03 then pegRequest src part m t else t
  | some t, none => t
  | none, _ => s

/-- The detail of a SIGNAL's answer that carries no detail field: the value, 0 for saturation; for ST_RING_OVERRUN the
depth, which the message has no field for (log 16). -/
def remoteDetail (st : Nat) (v : Quad) (s : State) : Nat × State :=
  if st = stRingOverrun then s.draw
  else if st = stPegSaturated then (0, s)
  else (v.toNat, s)

/-- A remote SIGNAL completes when its RESULT has come and its parcel has settled (R231). -/
def finishSignal (sig : RemoteSignal) (s : State) : State :=
  match sig.answer, sig.settledAt with
  | some (st, v), some _ =>
    let s1 := { s with pegs := { s.pegs with signals := s.pegs.signals.filter (fun x => x.ref ≠ sig.ref) } }
    let (d, s2) := remoteDetail st v s1
    complete sig.ref st (pegResult st d) s2
  | _, _ => s

/-- A wait leaves the waiter entries. -/
def State.dropWaiter (s : State) (w : Waiter) : State :=
  { s with pegs := { s.pegs with waiters := s.pegs.waiters.filter (fun x => x.ref ≠ w.ref) } }

def State.modWaiter (s : State) (ref : CmdRef) (f : Waiter → Waiter) : State :=
  { s with pegs := { s.pegs with waiters := s.pegs.waiters.map (fun x => if x.ref = ref then f x else x) } }

/-- An answer acts on a wait: NOTIFY, ORPHAN, RESULT or ARMED (R231). -/
def waitAnswer (w : Waiter) (msg st : Nat) (v : Quad) (s : State) : State :=
  if msg = 0x12 then
    complete w.ref stOk (resultOf [(16, 8, v.toNat)]) (tracePeg w.ref 1 v.toNat (s.dropWaiter w))
  else if msg = 0x13 then complete w.ref stPegOrphaned (detailOf v.toNat) (s.dropWaiter w)
  else if msg = 0x11 then complete w.ref st (detailOf 0x0703) (s.dropWaiter w)
  else if w.deadline = 0 then
    complete w.ref stPegTimeout (detailOf v.toNat) (countPegEvent w.ref.part stPegTimeout (s.dropWaiter w))
  else s.modWaiter w.ref (fun x => { x with lastArmed := v })

/-- PEG_ANSWER_APPLY: the requester acts at APPLY_AT on an answer; one that matches no pending command is discarded
(R231, R232). -/
def applyPegAnswer (src domain : Nat) (m : PegMsg) (s : State) : State :=
  match takePegIn src domain m s, s.partOfDomain domain with
  | some t, some part =>
    if m.msg < 0x11 then t
    else
      match t.pegs.waiters.find? (fun w => w.remoteChip = some src && w.ref.part = part && w.ref.slot = m.context &&
          w.ref.seq = m.seq) with
      | some w =>
        if t.staleRef w.ref then complete w.ref stOk 0 (t.dropWaiter w)
        else if w.preempted && m.msg ≠ 0x14 then t.modWaiter w.ref (fun x => { x with heldAnswer := some (m.msg, m.value) })
        else waitAnswer w m.msg m.status m.value t
      | none =>
        match t.pegs.signals.find? (fun x => x.chip = src && x.ref.part = part && x.ref.slot = m.context &&
            x.ref.seq = m.seq) with
        | none => t
        | some sig =>
          if m.msg = 0x13 then
            complete sig.ref stPegOrphaned (detailOf m.value.toNat)
              { t with pegs := { t.pegs with signals := t.pegs.signals.filter (fun x => x.ref ≠ sig.ref) } }
          else
            let sig1 := { sig with answer := some (m.status, m.value) }
            finishSignal sig1 { t with pegs := { t.pegs with
              signals := t.pegs.signals.map (fun x => if x.ref = sig.ref then sig1 else x) } }
  | some t, none => t
  | none, _ => s

/-- The end of a wait at its deadline (R225, R232): the peg's value as detail; a remote wait is cancelled at its home and
its detail is that of the last ARMED answer. -/
def expireWait (w : Waiter) (s : State) : State :=
  let s1 := countPegEvent w.ref.part stPegTimeout (s.dropWaiter w)
  match w.remoteChip with
  | none =>
    let v := ((s.peg? w.peg).map (fun g => g.value.toNat)).getD 0
    complete w.ref stPegTimeout (detailOf v) s1
  | some _ => complete w.ref stPegTimeout (detailOf w.lastArmed.toNat) (cancelRemote w s1)

/-- PEG_WAIT_TIMEOUT: a wait whose deadline has passed; a pre-empted one is judged on resume (R225, R226). -/
def waitTimeout (part slot seq : Nat) (s : State) : State :=
  match s.pegs.waiters.find? (fun w => w.ref.part = part && w.ref.slot = slot && w.ref.seq = seq) with
  | none => s
  | some w => if !s.running || w.preempted || w.deadline = 0 then s else expireWait w (s.atTime w.deadline)

/-- A pre-empted wait resumes (R226). -/
def resumeWait (w : Waiter) (s : State) : State :=
  match w.remoteChip, w.heldAnswer with
  | some _, some (msg, v) => waitAnswer w msg stOk v s
  | some _, none =>
    if w.deadline ≠ 0 && w.deadline ≤ s.now then expireWait w s
    else s.modWaiter w.ref (fun x => { x with preempted := false })
  | none, _ =>
    match s.peg? w.peg with
    | none => s
    | some g =>
      if satisfies g.value w.target then
        complete w.ref stOk (resultOf [(16, 8, g.value.toNat)]) (tracePeg w.ref 1 g.value.toNat (s.dropWaiter w))
      else if w.deadline ≤ s.now then expireWait w s
      else s.modWaiter w.ref (fun x => { x with preempted := false })

/-- REMOTE_REGISTRATION_DROP: the home drops a registration 1 ms after its DEADLINE (R232). -/
def dropRegistration (src part context seq : Nat) (s : State) : State :=
  let mine (w : RemoteWait) : Bool := w.src = src && w.part = part && w.context = context && w.seq = seq
  match s.pegs.remote.find? mine with
  | none => s
  | some w =>
    if !s.running then s
    else
      let t := s.atTime (w.deadline + 1000000)
      { t with pegs := { t.pegs with remote := t.pegs.remote.filter (fun w => !mine w) } }

end Sys2Proof.Machine
end

