-- ==== Sys2Proof/Machine/Sill.lean ====
section
/-! DEFINITION. Sill and the three memory tiers (06): addresses and carve-outs, die-network accesses, the tier 0 code and
its retirements, counter records and sealed lines, sleds, pool regions, the atomic ledger, and the ends of jobs. -/

namespace Sys2Proof.Machine

/-! ### Addresses (R171, R172) and carve-outs (R176, R195) -/

abbrev t0End : Nat := 0x00BB20000000
abbrev ctrBase : Nat := 0x00BB20000000
abbrev ctrEnd : Nat := 0x00C000000000
abbrev t1Base : Nat := 0x010000000000
abbrev t1End : Nat := 0x024000000000
abbrev ownBase : Nat := 0x040000000000
abbrev ownEnd : Nat := 0x060000000000
abbrev apBase : Nat := 0x800000000000
abbrev apEnd : Nat := 0x1000000000000

/-- A quarter of the version-counter region (R186). -/
abbrev ctrQuarter : Nat := 0x138000000

/-- Granule n lies in a set of ranges. -/
def inRanges (rs : List Range) (g : Nat) : Bool := rs.any (fun r => r.first ≤ g && g < r.first + r.count)

/-- Every granule of [off, off + len) lies in a set of ranges. -/
def rangesCover (rs : List Range) (gran off len : Nat) : Bool :=
  len = 0 || (List.range ((off + len - 1) / gran - off / gran + 1)).all (fun i => inRanges rs (off / gran + i))

/-- Tier 0 granules are 256 MiB, those of tiers 1 and 2 are 1 GiB (R176). -/
abbrev gran0 : Nat := 0x10000000
abbrev gran12 : Nat := 0x40000000

/-- The home that pool-map entry `slot` of a partition names, while VALID (R195, R213). -/
def State.poolHome (s : State) (p slot : Nat) : Option Nat :=
  match (s.part p).view.poolMap.find? (fun e => e.1 = slot) with
  | some (_, h, true) => some h
  | _ => none

/-- Where an access of a partition goes, after the checks of R14, R176, R192 and R195. -/
inductive Place where
  | refused
  | tier0 (addr : Nat)
  | sealed (addr : Nat)
  | remote (home : Nat) (offset : Nat)
  deriving DecidableEq, Repr

/-- The place of `len` bytes at an address (R171, R176, R192, R195). -/
def place (s : State) (p addr len : Nat) : Place :=
  let q := s.part p
  if addr + len ≤ t0End then if rangesCover q.t0 gran0 addr len then .tier0 addr else .refused
  else if t1Base ≤ addr && addr + len ≤ t1End then
    if rangesCover q.t1 gran12 (addr - t1Base) len then .sealed addr else .refused
  else if ownBase ≤ addr && addr + len ≤ ownEnd then
    if s.sill.poolEn && rangesCover q.t2 gran12 (addr - ownBase) len then .sealed addr else .refused
  else if apBase ≤ addr && addr + len ≤ apEnd then
    let off := addr % 2 ^ 41
    if !s.sill.poolEn || 2 ^ 41 < off + len then .refused
    else match s.poolHome p (bitsOf addr 41 6) with
      | none => .refused
      | some h =>
        if h = s.chip then if rangesCover q.t2 gran12 off len then .sealed (ownBase + off) else .refused
        else .remote h off
  else .refused

/-- A buffer that a command names lies in the partition's carve-outs (R176); through the aperture it may span slots. -/
def State.inCarve (s : State) (p addr len : Nat) : Bool :=
  if apBase ≤ addr && addr + len ≤ apEnd && len ≠ 0 then
    (List.range ((addr + len - 1) / 2 ^ 41 - addr / 2 ^ 41 + 1)).all (fun i =>
      let lo := max addr ((addr / 2 ^ 41 + i) * 2 ^ 41)
      let hi := min (addr + len) ((addr / 2 ^ 41 + i + 1) * 2 ^ 41)
      place s p lo (hi - lo) != .refused)
  else place s p addr len != .refused

/-- The Sill tile that serves an address (R172). -/
def tileOf (addr : Nat) : Nat :=
  if addr < t0End then (addr / 512) % 16 / 4
  else if addr < ctrEnd then (addr - ctrBase) / ctrQuarter
  else addr / 4096 % 4

/-- The guard lane that serves a tier 0 address (R172). -/
def laneOf (addr : Nat) : Nat :=
  if addr < t0End then (addr / 512) % 16
  else 4 * ((addr - ctrBase) / ctrQuarter) + ((addr - ctrBase) % ctrQuarter / 512) % 4

/-- The partition whose ranges hold an address. -/
def State.ownerOf (s : State) (addr : Nat) : Option Nat :=
  (List.range 16).find? (fun p =>
    let q := s.part p
    if addr < t0End then inRanges q.t0 (addr / gran0)
    else if t1Base ≤ addr && addr < t1End then inRanges q.t1 ((addr - t1Base) / gran12)
    else if ownBase ≤ addr && addr < ownEnd then inRanges q.t2 ((addr - ownBase) / gran12)
    else false)

/-! ### Reservations of Sill (R177) -/

/-- The partition's reservation of a class and resource (R266): the lowest entry. -/
def State.resvOf (s : State) (p cls resource : Nat) : Option Resv :=
  s.cal.resvs.find? (fun r => r.part = p && r.cls = cls && r.resource = resource)

/-- The class of a partition's die-network accesses (R177). -/
def State.accessClass (s : State) (p : Nat) : Nat :=
  if p = 0 then 1
  else if (s.resvOf p 2 3).isSome then 2
  else if (s.resvOf p 3 3).isSome then 3
  else 4

/-- An RC or TC memory command without its Sill reservation (R177). -/
def lacksSillResv (s : State) (p cls : Nat) : Bool := cls ≠ 4 && (s.resvOf p cls 3).isNone

/-- CLASS_FLAGS [6:4] as a class (R177): 1 to 4. -/
def flagClass (p : Packet) : Nat := bitsOf p.flags.toNat 4 3

/-- CLASS_FLAGS [6:4] out of range. -/
def badClass (p : Packet) : Nat × Bool := (2, flagClass p = 0 || 4 < flagClass p)

/-! ### Ends of jobs (R207, R389, R561) -/

/-- The job of partition p ends: a JOB p event; the partition becomes FAULTED. In a partition that is FAULTED, struck or
running its rung the event is logged with ACTION 0 and nothing else happens (R409, R436, R561). -/
def endJob (p cause ctx : Nat) (s : State) : State :=
  let q := s.part p
  let absorbed := q.struck || q.pstate = .faulted || q.pstate = .free || q.view.rungActive
  let s1 := plumbLog (0x90 + p) cause (if absorbed then 0 else 4) (some p) false
    (stJobFaulted + 2 ^ 16 * ctx + 2 ^ 32 * cause) s
  plumbThreshold (0x90 + p) (some p) (if absorbed then s1 else setPState p .faulted s1)

/-- The partition's running class 0x6 commands end with ST_JOB_FAULTED and the cause (R207): UNFOLD and ATOMIC. -/
def endClass6 (p cause : Nat) (s : State) : State :=
  let us := s.inl.unfolds.filter (fun u => u.ref.part = p)
  let qs := s.sill.remote.filter (fun q => q.part = p && q.ref.isSome)
  let s1 := { s with
    inl := { s.inl with unfolds := s.inl.unfolds.filter (fun u => u.ref.part ≠ p) }
    sill := { s.sill with remote := s.sill.remote.filter (fun q => !(q.part = p && q.ref.isSome)) } }
  let s2 := us.foldl (fun t u => complete u.ref stJobFaulted (detailOf cause) t) s1
  qs.foldl (fun t q => match q.ref with | some r => complete r stJobFaulted (detailOf cause) t | none => t) s2

/-- A memory failure of a partition (R207): the event of its source, then the end of the job. -/
def memFail (p src cause : Nat) (s : State) : State :=
  endClass6 p cause (endJob p cause 0 (plumbEvent src 0 4 (some p) true cause (some p) s))

/-- The failure of a read that the block's own engines make for a partition (R207, R558), with its cause; none where the
read succeeded. -/
def readCause : MemRead → Option Nat
  | .ok _ => none
  | .uncorrectable _ => some 3
  | .checkFail _ => some 2
  | .sledFail _ => some 3

/-- The bytes a read gave, none for a failed one. -/
def readBytes : MemRead → List Byte
  | .ok b => b
  | _ => []

/-- The counts of a failed read and the end of the owner's job (R207, R211, R558). -/
def readFail (p : Nat) (m : MemRead) (s : State) : State :=
  match m with
  | .ok _ => s
  | .uncorrectable t =>
    memFail p (0x2C + t) 3 { s with sill := { s.sill with uncorrectable := bump 255 s.sill.uncorrectable } }
  | .checkFail t => memFail p (0x30 + t) 2 { s with sill := { s.sill with checkFail := bump 255 s.sill.checkFail } }
  | .sledFail k => memFail p (0x34 + k) 3 s

/-- A twin mismatch on an engine's lane pair (R447): counted on the engine and raised by its tile's source. -/
def twinEvent (src engine part : Nat) (s : State) : State :=
  let n := assocGet s.plumb.mismatches engine 0 + 1
  let s1 := { s with plumb := { s.plumb with mismatches := assocSet s.plumb.mismatches engine n } }
  plumbEvent src 1 1 none (part ≠ 0) (engine + 2 ^ 32 * (n % 2 ^ 32)) (some engine) s1

/-- A twin mismatch on some sealed-lane pair of a Sill tile; which pair the calendar gave is a free value (log 7). -/
def sealedTwin (tile part : Nat) (s : State) : State :=
  let (d, s1) := s.draw
  twinEvent (0x18 + tile) (0x300 + 18 * tile + d % 18) part s1

/-! ### The tier 0 code at a guard lane (R179, R180) -/

/-- The retirement table and evidence of lane g. -/
def State.lane (s : State) (g : Nat) : GuardLane := s.sill.lanes.getD g { retired := [], seen := [] }

def State.modLane (s : State) (g : Nat) (f : GuardLane → GuardLane) : State :=
  { s with sill := { s.sill with lanes := s.sill.lanes.modify g f } }

/-- A position retired, or GUARD_EXHAUST where four are (R180, R447). -/
def retirePosition (g pos : Nat) (s : State) : State :=
  let n := (s.lane g).retired.length
  if (s.lane g).retired.contains pos then s
  else if 4 ≤ n then plumbEvent 0x85 g 1 none false pos (some (0x400 + g)) s
  else
    plumbEvent (0x1C + g) 1 9 none false (pos + 256 * (n + 1)) (some (0x400 + g))
      (s.modLane g (fun l => { l with retired := l.retired ++ [pos] }))

/-- The evidence of one detected error (R180). -/
def noteLocated (g : Nat) (ps : List Nat) (s : State) : State :=
  match ps with
  | [] => s
  | [p] => retirePosition g p s
  | _ =>
    ps.foldl (fun t p =>
      let again := (t.lane g).seen.any (fun e => e.1 = p && t.now ≤ e.2 + 10000000000)
      let t1 := t.modLane g (fun l => { l with seen := l.seen.filter (fun e => e.1 ≠ p) ++ [(p, t.now)] })
      if again then retirePosition g p t1 else t1) s

/-- One sector through its lane (R179): the first read, and the second where the first has an error. -/
def decodeSector (g : Nat) (first second : Sector) (s : State) : Option (List Byte) × State :=
  let fixed (b : Bool) (t : State) : State :=
    if b then { t with sill := { t.sill with corrected := bump 65535 t.sill.corrected } } else t
  match rsDecode (s.lane g).retired first with
  | some (d, c) => (some d, fixed c s)
  | none =>
    let s1 := noteLocated g (rsLocate (s.lane g).retired first) s
    match rsDecode (s1.lane g).retired second with
    | some (d, c) => (some d, fixed c s1)
    | none =>
      let s2 := noteLocated g (rsLocate (s1.lane g).retired second) s1
      (none, { s2 with sill := { s2.sill with uncorrectable := bump 255 s2.sill.uncorrectable } })

/-- The sectors of an access from an address on; none where one is uncorrectable. -/
def decodeSectors (addr : Nat) : Nat → List Sector → List Sector → State → Option (List Byte) × State
  | 0, _, _, s => (some [], s)
  | n + 1, fs, ss, s =>
    match decodeSector (laneOf addr) (fs.headD []) (ss.headD []) s with
    | (none, s1) => (none, (decodeSectors (addr + 64) n fs.tail ss.tail s1).2)
    | (some d, s1) =>
      match decodeSectors (addr + 64) n fs.tail ss.tail s1 with
      | (none, s2) => (none, s2)
      | (some ds, s2) => (some (d ++ ds), s2)

/-- The 64 B pieces of a byte string, encoded for the stack (R178). -/
def encodeSectors : Nat → List Byte → List Sector
  | 0, _ => []
  | n + 1, d => rsEncode (d.take 64) :: encodeSectors n (d.drop 64)

/-! ### Counter records (R186 to R188) -/

/-- The page number P of a sealed address (R186). -/
def pageOf (addr : Nat) : Nat := if addr < ownBase then (addr - t1Base) / 4096 else 335544320 + (addr - ownBase) / 4096

/-- The first address of page P. -/
def pageAddr (page : Nat) : Nat := if page < 335544320 then t1Base + 4096 * page else ownBase + 4096 * (page - 335544320)

/-- The tier 0 address of the record of page P (R186). -/
def recordAddr (page : Nat) : Nat := ctrBase + page % 4 * ctrQuarter + 24 * (page / 4)

/-- The record of a page; all zero where none has been written. -/
def State.record (s : State) (page : Nat) : CtrRecord :=
  match s.sill.records.find? (fun r => r.page = page) with
  | some r => r
  | none => { page := page, major := 0, minors := List.replicate 16 0, keyEpoch := 0 }

/-- A record written; pages rising. -/
def recordInsert (l : List CtrRecord) (r : CtrRecord) : List CtrRecord :=
  match l with
  | [] => [r]
  | a :: rest =>
    if a.page = r.page then r :: rest else if r.page < a.page then r :: a :: rest else a :: recordInsert rest r

def State.setRecord (s : State) (r : CtrRecord) : State :=
  { s with sill := { s.sill with records := recordInsert s.sill.records r } }

/-- The record as the present key sees it (R187, R188): with another epoch, all counters are 0. -/
def State.keyRecord (s : State) (part page : Nat) : CtrRecord :=
  let r := s.record page
  match (s.part part).tierKey with
  | some e => if r.keyEpoch = e then r else { page := page, major := 0, minors := List.replicate 16 0, keyEpoch := e }
  | none => { page := page, major := 0, minors := List.replicate 16 0, keyEpoch := 0 }

/-- The minor counter of a line (its address ÷ 256) under the present key. -/
def State.minorOf (s : State) (part line : Nat) : Nat :=
  (s.keyRecord part (pageOf (256 * line))).minors.getD (line % 16) 0

/-! ### Bytes of lines -/

/-- `buf`, whose first byte stands at `base`, with `d` written at address `a` where they overlap. -/
def splice (base : Nat) (buf : List Byte) (a : Nat) (d : List Byte) : List Byte :=
  buf.mapIdx (fun i b => if a ≤ base + i && base + i < a + d.length then d.getD (base + i - a) b else b)

/-- `len` bytes at `base`, zero where `got` gives none; later entries win. -/
def assemble (base len : Nat) (got : List (Nat × List Byte)) : List Byte :=
  got.foldl (fun b g => splice base b g.1 g.2) (List.replicate len 0)

/-- The newest plaintext held for a sealed line (R191). -/
def State.heldLine (s : State) (line : Nat) : Option (List Byte) :=
  (s.sill.heldLines.find? (fun h => h.addr = 256 * line && h.data.length = 256)).map (fun h => h.data)

/-- Lines an access covers. -/
def MemAccess.lines (a : MemAccess) : List Nat :=
  (List.range ((a.addr + a.size - 1) / 256 - a.addr / 256 + 1)).map (fun i => a.addr / 256 + i)

/-- The access covers the whole line. -/
def MemAccess.coversLine (a : MemAccess) (line : Nat) : Bool := a.addr ≤ 256 * line && 256 * line + 256 ≤ a.addr + a.size

/-! ### Sleds (R192, R193) -/

/-- The sled link of a tier 2 address (R172). -/
def sledLink (addr : Nat) : Nat :=
  let p2 := (addr - ownBase) / 4096
  48 + 2 * (p2 % 8) + p2 / 8 % 2

/-- The sled line address (R192). -/
def sledLine (slot addr : Nat) : Nat := (slot * 2 ^ 38 + (addr - ownBase) / 4096 / 8 * 4096 + (addr - ownBase) % 4096) / 256

/-- The lowest TAG not in use on a link (R193). -/
def State.freeTag (s : State) (link : Nat) : Option Nat :=
  (List.range 1024).find? (fun t => !s.sill.sleds.any (fun q => q.link = link && q.tag = t))

/-- TAGs free on a link. -/
def State.freeTags (s : State) (link : Nat) : Nat := 1024 - (s.sill.sleds.filter (fun q => q.link = link)).length

/-- A read of a sealed line issued to its controller or sled. -/
def issueRead (access line cls : Nat) (s : State) : State :=
  let addr := 256 * line
  if addr < ownBase then s.emit (.tier1Read line access)
  else
    match s.freeTag (sledLink addr) with
    | none => s
    | some t =>
      let q : SledReq := { link := sledLink addr, tag := t, access := access, line := line, write := false, sentAt := s.now }
      ({ s with sill := { s.sill with sleds := s.sill.sleds ++ [q] } }).emit
        (.sledRead (sledLink addr) t (sledLine s.sill.rackSlot addr) cls)

/-- A sealed line written under its counters, its plaintext held until the acknowledgement (R188, R191). -/
def issueWrite (access part line cls major minor : Nat) (data : List Byte) (s : State) : State :=
  let addr := 256 * line
  let h : HeldLine := { access := access, part := part, addr := addr, data := data }
  let s1 := { s with sill := { s.sill with heldLines := h :: s.sill.heldLines } }
  if addr < ownBase then s1.emit (.tier1Write line major minor data)
  else
    match s1.freeTag (sledLink addr) with
    | none => s1
    | some t =>
      let q : SledReq := { link := sledLink addr, tag := t, access := access, line := line, write := true, sentAt := s.now }
      ({ s1 with sill := { s1.sill with sleds := s1.sill.sleds ++ [q] } }).emit
        (.sledWrite (sledLink addr) t (sledLine s.sill.rackSlot addr) cls major minor data)

/-- Line i of a page written (R188): the minor raised, or the page re-sealed under the next MAJOR from 127 on; `old` gives
the other lines' plaintext. -/
def sealLine (access part line cls : Nat) (data : List Byte) (old : List (Nat × List Byte)) (s : State) : State :=
  let page := pageOf (256 * line)
  let r := s.keyRecord part page
  let i := line % 16
  let m := r.minors.getD i 0
  if m < 127 then
    (issueWrite access part line cls r.major (m + 1) data s).setRecord { r with minors := r.minors.set i (m + 1) }
  else
    let base := pageAddr page / 256
    let major := r.major + 1
    let others := (List.range 16).filter (fun j => j ≠ i && r.minors.getD j 0 ≠ 0)
    let s1 := others.foldl (fun t j =>
      issueWrite access part (base + j) cls major 1 (assemble (256 * (base + j)) 256 old) t) s
    (issueWrite access part line cls major 1 data s1).setRecord
      { r with major := major, minors := (r.minors.map (fun x => if x = 0 then 0 else 1)) }

/-! ### Responses (R174) -/

def State.access? (s : State) (id : Nat) : Option MemAccess := s.sill.accesses.find? (fun a => a.id = id)

def State.modAccess (s : State) (id : Nat) (f : MemAccess → MemAccess) : State :=
  { s with sill := { s.sill with accesses := s.sill.accesses.map (fun a => if a.id = id then f a else a) } }

def State.dropAccess (s : State) (id : Nat) : State :=
  { s with sill := { s.sill with accesses := s.sill.accesses.filter (fun a => a.id ≠ id) } }

/-- Kinds of responses (R174). -/
abbrev kData : Nat := 1
abbrev kWack : Nat := 2
abbrev kRefused : Nat := 3
abbrev kFault : Nat := 4

/-- Responses of a port and group leave in the order of their requests (R174). -/
def flushPort (port group : Nat) (s : State) : State :=
  let mine := s.sill.accesses.filter (fun a => a.port = some port && a.group = group)
  let ready := mine.takeWhile (fun a => a.answer.isSome)
  ready.foldl (fun t a =>
    match a.answer with
    | some (code, data) => (t.dropAccess a.id).emit (.memResponse port code data)
    | none => t) s

/-- An access is answered; a response other than DATA carries zeros (R174). -/
def answerAccess (id kind : Nat) (data : List Byte) (s : State) : State :=
  match s.access? id with
  | none => s
  | some a =>
    match a.port with
    | none => s.dropAccess id
    | some port =>
      let d := if kind = kData then data else List.replicate a.size 0
      flushPort port a.group (s.modAccess id (fun x => { x with answer := some (64 * x.group + kind, d) }))

/-! ### Accesses at the line arbiter (R191) -/

/-- Not yet finished. -/
def MemAccess.open_ (a : MemAccess) : Bool := a.answer.isNone

/-- The page of a sealed access has a line whose counter is at its end. -/
def wouldReseal (s : State) (a : MemAccess) : Bool :=
  a.write && ctrEnd ≤ a.addr && a.addr < apBase && a.lines.any (fun l => s.minorOf a.part l = 127)

/-- An earlier access that must end first: one of the same line, or of the same page where either re-seals. -/
def conflicts (s : State) (a b : MemAccess) : Bool :=
  b.open_ && (b.lines.any (fun l => a.lines.contains l) ||
    (b.addr / 4096 = a.addr / 4096 && (b.reseal || wouldReseal s a)))

/-- The accesses before `id`, and none of them in the way. -/
def mayBegin (s : State) (a : MemAccess) : Bool :=
  !((s.sill.accesses.takeWhile (fun b => b.id ≠ a.id)).any (conflicts s a))

/-- Lines whose records a sealed access must read first (R175, R187, R188). -/
def neededLines (s : State) (a : MemAccess) (reseal : Bool) : List Nat :=
  let live (l : Nat) : Bool := s.minorOf a.part l ≠ 0 && (s.heldLine l).isNone
  if !a.write then a.lines.filter live
  else if reseal then
    let skip := a.lines.find? (fun l => a.coversLine l && s.minorOf a.part l = 127)
    let base := a.addr / 4096 * 16
    ((List.range 16).map (fun i => base + i)).filter (fun l => live l && some l ≠ skip)
  else a.lines.filter (fun l => live l && !a.coversLine l)

/-- Plaintext held for the lines of the page of an access (R191). -/
def heldFor (s : State) (a : MemAccess) : List (Nat × List Byte) :=
  (List.range 16).filterMap (fun i =>
    let l := a.addr / 4096 * 16 + i
    (s.heldLine l).map (fun d => (256 * l, d)))

/-- A sealed write with all it needs: each line sealed in turn, then WACK (R175, R188). -/
def finishWrite (a : MemAccess) (s : State) : State :=
  let s1 := a.lines.foldl (fun t l =>
    sealLine a.id a.part l a.cls (splice (256 * l) (assemble (256 * l) 256 a.got) a.addr a.data) a.got t) s
  answerAccess a.id kWack [] s1

/-- The sled TAGs an access's writes need. -/
def tagsNeeded (s : State) (a : MemAccess) : Nat := if !a.write then 0 else if wouldReseal s a then 17 else 2

/-- A begun access whose lines have all come ends: DATA, or the lines sealed and WACK. -/
def finishAccess (id : Nat) (s : State) : State :=
  match s.access? id with
  | none => s
  | some a =>
    if !a.begun || !a.need.isEmpty || a.answer.isSome || a.addr < t0End then s
    else if !a.write then answerAccess id kData (assemble a.addr a.size a.got) s
    else if ownBase ≤ a.addr && s.freeTags (sledLink a.addr) < tagsNeeded s a then s
    else finishWrite a s

/-- A sealed access begins (R187, R188): its lines are read, or it ends; an exhausted MAJOR ends the job. -/
def beginAccess (id : Nat) (s : State) : State :=
  match s.access? id with
  | none => s
  | some a =>
    if a.begun || a.recordWait || a.answer.isSome || !mayBegin s a then s
    else
      let reseal := wouldReseal s a
      if reseal && (s.keyRecord a.part (pageOf a.addr)).major = pegMax then
        memFail a.part (0x30 + tileOf a.addr) 2 (answerAccess id kFault [] s)
      else
        let need := neededLines s a reseal
        if ownBase ≤ a.addr && s.freeTags (sledLink a.addr) < need.length then s
        else
          let s1 := s.modAccess id (fun x => { x with begun := true, reseal := reseal, need := need, got := heldFor s a })
          finishAccess id (need.foldl (fun t l => issueRead id l a.cls t) s1)

/-- Every access that may go on does, in the order of the arbiter. -/
def pumpSill (s : State) : State :=
  (s.sill.accesses.map (fun a => a.id)).foldl (fun t id => finishAccess id (beginAccess id t)) s

/-! ### The pool (R195 to R198) -/

/-- Pool messages: a request. -/
def poolReq (rop atype mask : Nat) (retry : Bool) (aseq offset context : Nat) (operand compare : Quad) (line : List Byte) :
    PoolMsg :=
  { rop := rop, atype := atype, mask := mask, retry := retry, result := 0, aflags := 0, aseq := aseq, offset := offset,
    context := context, operand := operand, compare := compare, old := 0, line := line }

/-- A request of a partition to a home: a parcel to another chip, or held at this chip's home queue (R196, R202). -/
def sendPool (part home cls : Nat) (q : RemoteReq) (m : PoolMsg) (s : State) : State :=
  let id := s.gl.nextId
  let q1 := { q with id := id }
  let s1 := { s with sill := { s.sill with remote := s.sill.remote ++ [q1] } }
  if home = s.chip then
    let i : PoolIn := { src := home, domain := (s.part part).domain, pseq := id, cls := cls, req := m, waited := false }
    { s1 with gl := { s1.gl with nextId := id + 1 }, sill := { s1.sill with inbox := s1.sill.inbox ++ [i] } }
  else
    s1.addParcel (fun pid => mkParcel pid part (.atomicReq pid) none home cls 0 (if m.rop = 2 then 288 else 32) 0 0
      (.atomicReq m) none false s.now)

/-- The buffered copy of an aperture line (R197). -/
def State.poolLine (s : State) (part line : Nat) : Option (List Byte) :=
  (s.sill.pool.find? (fun l => l.part = part && l.addr = 256 * line)).map (fun l => l.data)

/-- Lines a partition may buffer in all four tiles: its ways of 1,024 sets (R197). -/
def State.poolCap (s : State) (part : Nat) : Nat := 4 * 1024 * (s.part part).shares.poolWays

/-- A line filled into the pool buffer. Which of the partition's own lines it evicts, if any, the spec leaves open (log 7). -/
def fillPool (part line : Nat) (data : List Byte) (s : State) : State :=
  if s.poolCap part = 0 then s
  else
    let (d, s1) := s.draw
    let mine := s1.sill.pool.filter (fun l => l.part = part)
    let evict := if s.poolCap part ≤ mine.length || ((s.part part).shares.poolWays ≤ mine.length && d % 2 = 1)
      then mine[d / 2 % mine.length]? else none
    { s1 with sill := { s1.sill with pool := s1.sill.pool.filter (fun l => some l ≠ evict) ++
        [{ part := part, addr := 256 * line, data := data }] } }

/-- The partition's buffered copy of a line dropped. -/
def dropPool (part line : Nat) (s : State) : State :=
  { s with sill := { s.sill with pool := s.sill.pool.filter (fun l => !(l.part = part && l.addr = 256 * line)) } }

/-- An unsettled WRITE or atomic of the partition to the line (R197). -/
def lineUnsettled (s : State) (part line : Nat) : Bool :=
  s.sill.remote.any (fun q => q.part = part && q.addr / 256 = line && q.rop ≠ 1 && q.settledAt.isNone)

/-- An empty remote request. -/
def remoteReq (part home : Nat) (ref : Option CmdRef) (access : Option Nat) (addr rop context aseq : Nat) : RemoteReq :=
  { id := 0, part := part, home := home, ref := ref, access := access, addr := addr, rop := rop, context := context,
    aseq := aseq, pseq := none, settledAt := none, dropFill := false, resentBe := false }

/-- Bits [3:0] of a WRITE to a line: the 64 B sectors written (R196). -/
def sectorMask (line addr len : Nat) : Nat :=
  (List.range 4).foldl (fun m i =>
    if addr ≤ 256 * line + 64 * i && 256 * line + 64 * i < addr + len then m + 2 ^ i else m) 0

/-- An aperture read begins (R197): buffered lines are at hand, READs go out for the others, unless a line has an unsettled
WRITE or atomic. -/
def beginRemoteRead (id : Nat) (s : State) : State :=
  match s.access? id with
  | none => s
  | some a =>
    if a.begun || a.answer.isSome then s
    else
      let missing := a.lines.filter (fun l => (s.poolLine a.part l).isNone)
      if missing.any (lineUnsettled s a.part) then s
      else
        let got := a.lines.filterMap (fun l => (s.poolLine a.part l).map (fun d => (256 * l, d)))
        let s1 := s.modAccess id (fun x => { x with begun := true, need := missing, got := got })
        let s2 := missing.foldl (fun t l =>
          match place t a.part (256 * l) 256 with
          | .remote home off =>
            sendPool a.part home a.cls (remoteReq a.part home none (some id) (256 * l) 1 0 0)
              (poolReq 1 0 0 false 0 off 0 0 0 []) t
          | _ => t) s1
        if missing.isEmpty then answerAccess id kData (assemble a.addr a.size got) s2 else s2

/-- Aperture reads that waited for a settlement (R197). -/
def pumpRemote (s : State) : State :=
  (s.sill.accesses.map (fun a => a.id)).foldl (fun t id =>
    match t.access? id with
    | some a => if apBase ≤ a.addr && !a.write then beginRemoteRead id t else t
    | none => t) s

/-- An aperture write (R175, R197): the buffered copy updated, a WRITE sent for each line, then WACK. -/
def remoteWrite (part addr cls : Nat) (access : Option Nat) (data : List Byte) (s : State) : State :=
  let n := (addr + data.length - 1) / 256 - addr / 256 + 1
  (List.range n).foldl (fun t i =>
    let l := addr / 256 + i
    let line := splice (256 * l) (List.replicate 256 0) addr data
    let t1 := { t with sill := { t.sill with pool := t.sill.pool.map (fun x =>
      if x.part = part && x.addr = 256 * l then { x with data := splice (256 * l) x.data addr data } else x) } }
    match place t1 part (256 * l) 256 with
    | .remote home off =>
      sendPool part home cls (remoteReq part home none access (256 * l) 2 0 0)
        (poolReq 2 0 (sectorMask l addr data.length) false 0 off 0 0 0 line) t1
    | _ => t1) s

/-! ### Die-network accesses -/

/-- The operation byte (R173): size and direction. -/
def memOp (op : Nat) : Option (Bool × Nat) :=
  if 1 ≤ op && op ≤ 4 then some (false, 32 * 2 ^ op)
  else if 0x11 ≤ op && op ≤ 0x14 then some (true, 32 * 2 ^ (op - 0x10))
  else none

/-- The response group of an address (R174); for one outside every range the spec gives none: a free value. -/
def groupOf (addr d : Nat) : Nat :=
  if addr < t0End then 0
  else if (t1Base ≤ addr && addr < t1End) || (ownBase ≤ addr && addr < ownEnd) then 1
  else if apBase ≤ addr && addr < apEnd then 2
  else d % 3

/-- An access accepted. -/
def addAccess (port : Option Nat) (group part addr size : Nat) (write : Bool) (data : List Byte) (cls : Nat) (s : State) :
    Nat × State :=
  let id := s.sill.nextAccess
  let a : MemAccess :=
    { id := id, port := port, group := group, part := part, addr := addr, size := size, write := write, data := data,
      cls := cls, issuedAt := s.now, begun := false, recordWait := false, reseal := false, need := [], got := [],
      retried := false, answer := none }
  (id, { s with sill := { s.sill with accesses := s.sill.accesses ++ [a], nextAccess := id + 1 } })

/-- The counter record of a sealed access: at hand, or fetched from tier 0. A partition without ways always misses;
otherwise the contents of its ways decide, which the model leaves free (R189, log 7). -/
def fetchRecord (id : Nat) (s : State) : State :=
  match s.access? id with
  | none => s
  | some a =>
    let (d, s1) := s.draw
    if (s.part a.part).shares.ctrWays = 0 || d % 2 = 1 then
      (s1.modAccess id (fun x => { x with recordWait := true })).emit (.stackRead (recordAddr (pageOf a.addr)) id)
    else s1

/-- A tier 0 access at its guard lane (R175, R191): a write is encoded, sent and acknowledged; a read goes to the stack
unless the lines still being written cover it. -/
def tier0Access (id : Nat) (s : State) : State :=
  match s.access? id with
  | none => s
  | some a =>
    if a.write then
      let h : HeldLine := { access := id, part := a.part, addr := a.addr, data := a.data }
      answerAccess id kWack []
        (({ s with sill := { s.sill with heldLines := h :: s.sill.heldLines } }).emit
          (.stackWrite a.addr (encodeSectors (a.size / 64) a.data)))
    else
      let held := (s.sill.heldLines.filter (fun h => h.addr < a.addr + a.size && a.addr < h.addr + h.data.length)).reverse
      let got := held.map (fun h => (h.addr, h.data))
      let covered := (List.range (a.size / 64)).all (fun i =>
        held.any (fun h => h.addr ≤ a.addr + 64 * i && a.addr + 64 * i + 64 ≤ h.addr + h.data.length))
      if covered then answerAccess id kData (assemble a.addr a.size got) s
      else (s.modAccess id (fun x => { x with begun := true, got := got })).emit (.stackRead a.addr id)

/-- Sill units used by a partition in the power epoch, for its occupancy (R403). -/
def countSill (part size : Nat) (s : State) : State :=
  s.modView part (fun v => { v with sillUsed := v.sillUsed + ceilDiv size 256 })

/-- A refused access (R14, R173, R176): ACCESS p logs it. -/
def refuseAccess (port group part addr size : Nat) (kind : Nat) (log : Bool) (s : State) : State :=
  let s1 := if log then plumbEvent (0xB0 + part) 0 0 (some part) false 0 (some part) s else s
  let (id, s2) := addAccess (some port) group part addr size false [] 0 s1
  answerAccess id kind [] s2

/-- A MEM_DIE request (R173 to R177, R191, R207, R407). Sill accepts none before READY (R174); while it is frozen by a halt
it accepts none (R499). -/
def dieAccess (port part addr op : Nat) (data : List Byte) (s : State) : State :=
  if !s.running || !s.kp.ready then s
  else
    let q := s.part part
    let (d, s1) := s.draw
    let g := groupOf addr d
    match memOp op with
    | none => refuseAccess port g part addr 64 kRefused true (countPartMalformed part s1)
    | some (write, size) =>
      if q.pstate = .faulted then refuseAccess port g part addr size kFault false s1
      else if q.struck then
        let (e, s2) := s1.draw
        refuseAccess port g part addr size (if e % 2 = 0 then kRefused else kFault) false s2
      else if addr % size ≠ 0 then refuseAccess port g part addr size kRefused true (countPartMalformed part s1)
      else
        let cls := s.accessClass part
        match place s part addr size with
        | .refused => refuseAccess port g part addr size kRefused true s1
        | .tier0 a =>
          let (id, s2) := addAccess (some port) g part a size write data cls (countSill part size s1)
          tier0Access id s2
        | .sealed a =>
          let (id, s2) := addAccess (some port) g part a size write data cls (countSill part size s1)
          pumpSill (fetchRecord id s2)
        | .remote _ _ =>
          let (id, s2) := addAccess (some port) g part addr size write data cls (countSill part size s1)
          if write then answerAccess id kWack [] (remoteWrite part addr cls (some id) data s2) else beginRemoteRead id s2

/-- Bytes that the block's own engines write into a partition's memory (R175): tier 0 sectors merged and written, sealed
lines through the line arbiter, aperture lines as WRITEs. -/
def writeMem (part addr : Nat) (data : List Byte) (s : State) : State :=
  if data.isEmpty then s
  else
    match place s part addr data.length with
    | .refused => s
    | .tier0 a => s.emit (.write part a data)
    | .remote _ _ => remoteWrite part addr (s.accessClass part) none data s
    | .sealed a =>
      let n := (a + data.length - 1) / 256 - a / 256 + 1
      let s1 := (List.range n).foldl (fun t i =>
        let lo := max a (256 * (a / 256 + i))
        let hi := min (a + data.length) (256 * (a / 256 + i + 1))
        (addAccess none 1 part lo (hi - lo) true ((data.drop (lo - a)).take (hi - lo)) (s.accessClass part) t).2) s
      pumpSill s1

/-! ### Answers of the controllers and sleds -/

/-- A late answer (R212, R416, R417): counted, and LATE_ANSWER of its tile. -/
def lateAnswer (tile : Nat) (f : Sill → Sill) (s : State) : State :=
  plumbEvent (0x3C + tile) 0 0 none false 0 none { s with sill := f s.sill }

def lateT0 (l : Sill) : Sill := { l with t0Late := bump 4095 l.t0Late }
def lateT1 (l : Sill) : Sill := { l with t1Late := bump 1023 l.t1Late }
def lateSled (l : Sill) : Sill := { l with sledLate := bump 1023 l.sledLate }

/-- STACK_ANSWER (R179, R187, R207): the sectors of a tier 0 read, or of the counter record of a sealed access. -/
def stackAnswer (id : Nat) (first second : List Sector) (late : Bool) (s : State) : State :=
  match s.access? id with
  | none => s
  | some a =>
    if a.answer.isSome then s
    else if a.recordWait then
      let ra := recordAddr (pageOf a.addr)
      let lo := ra / 64 * 64
      let s1 := if late then lateAnswer (tileOf lo) lateT0 s else s
      match decodeSectors lo ((ra + 23) / 64 - ra / 64 + 1) first second s1 with
      | (some _, s2) => pumpSill (s2.modAccess id (fun x => { x with recordWait := false }))
      | (none, s2) => pumpSill (memFail a.part (0x2C + tileOf lo) 3 (answerAccess id kFault [] s2))
    else if t0End ≤ a.addr || a.write || !a.begun then s
    else
      let s1 := if late then lateAnswer (tileOf a.addr) lateT0 s else s
      match decodeSectors a.addr (a.size / 64) first second s1 with
      | (some d, s2) => answerAccess id kData (assemble a.addr a.size ((a.addr, d) :: a.got)) s2
      | (none, s2) => memFail a.part (0x2C + tileOf a.addr) 3 (answerAccess id kFault [] s2)

/-- A line that has come for a sealed access (R187, R207): its check value, the twins' verdict, and the redo. -/
def lineCame (a : MemAccess) (line : Nat) (data : List Byte) (checkOk twinsOk : Bool) (s : State) : State :=
  let tile := tileOf a.addr
  if !twinsOk then
    let s1 := sealedTwin tile a.part s
    if a.retried then
      let s2 := answerAccess a.id kFault [] s1
      pumpSill (endClass6 a.part 3 (endJob a.part 3 0 s2))
    else s1.modAccess a.id (fun x => { x with retried := true })
  else if !checkOk then
    let s1 := answerAccess a.id kFault [] { s with sill := { s.sill with checkFail := bump 255 s.sill.checkFail } }
    pumpSill (memFail a.part (0x30 + tile) 2 s1)
  else
    pumpSill (s.modAccess a.id (fun x => { x with need := x.need.filter (fun l => l ≠ line),
                                                  got := x.got ++ [(256 * line, data)], retried := false }))

/-- TIER1_ANSWER: the record of the first line an access still needs. -/
def tier1Answer (id : Nat) (data : List Byte) (checkOk twinsOk late : Bool) (s : State) : State :=
  match s.access? id with
  | none => s
  | some a =>
    match a.need with
    | [] => s
    | l :: _ =>
      if ownBase ≤ a.addr || a.answer.isSome then s
      else lineCame a l data checkOk twinsOk (if late then lateAnswer (tileOf a.addr) lateT1 s else s)

/-- A sled request that has ended. -/
def State.dropSled (s : State) (q : SledReq) : State :=
  { s with sill := { s.sill with sleds := s.sill.sleds.filter (fun x => !(x.link = q.link && x.tag = q.tag)) } }

/-- The plaintext held for a line of an access released. -/
def releaseHeld (access addr : Nat) (s : State) : State :=
  { s with sill := { s.sill with heldLines := s.sill.heldLines.filter (fun h => !(h.access = access && h.addr = addr)) } }

/-- The partition whose request a sled request is. -/
def sledOwner (q : SledReq) (s : State) : Option Nat :=
  match s.access? q.access with
  | some a => some a.part
  | none =>
    match s.sill.heldLines.find? (fun h => h.access = q.access && h.addr = 256 * q.line) with
    | some h => some h.part
    | none => s.ownerOf (256 * q.line)

/-- A sled line is uncorrectable (R194): the access is answered FAULT, and the owning job ends with cause 3. -/
def sledFailed (q : SledReq) (s : State) : State :=
  let sled := (q.link - 48) / 2
  let owner := sledOwner q s
  let s1 := releaseHeld q.access (256 * q.line) (s.dropSled q)
  let s2 := if q.write then s1 else answerAccess q.access kFault [] s1
  pumpSill (match owner with
    | some p => memFail p (0x34 + sled) 3 s2
    | none => plumbEvent (0x34 + sled) 0 0 none false 3 none s2)

/-- SLED_ANSWER (R193, R194). -/
def sledAnswer (link tag status : Nat) (data : List Byte) (checkOk twinsOk late : Bool) (s : State) : State :=
  match s.sill.sleds.find? (fun q => q.link = link && q.tag = tag) with
  | none => s
  | some q =>
    let s1 := if late then lateAnswer (tileOf (256 * q.line)) lateSled s else s
    if status ≠ 0 then sledFailed q s1
    else if q.write then pumpSill (releaseHeld q.access (256 * q.line) (s1.dropSled q))
    else
      match s1.access? q.access with
      | none => s1.dropSled q
      | some a =>
        if a.answer.isSome then s1.dropSled q
        else lineCame a q.line data checkOk twinsOk (if !twinsOk && !a.retried then s1 else s1.dropSled q)

/-- SLED_TIMEOUT (R194): no answer within 20 µs. -/
def sledTimeout (link tag : Nat) (s : State) : State :=
  match s.sill.sleds.find? (fun q => q.link = link && q.tag = tag) with
  | none => s
  | some q => if s.running then sledFailed q (s.atTime (q.sentAt + 20000)) else s

/-- CONTROLLER_WRITE_ACK (R191, R212): the plaintext held for the access's lines is released. -/
def controllerWriteAck (id : Nat) (late : Bool) (s : State) : State :=
  match s.sill.heldLines.find? (fun h => h.access = id && h.addr < ownBase) with
  | none => s
  | some h =>
    let s1 := if late then lateAnswer (tileOf h.addr) (if h.addr < t0End then lateT0 else lateT1) s else s
    { s1 with sill := { s1.sill with heldLines := s1.sill.heldLines.filter (fun x => !(x.access = id && x.addr < ownBase)) } }

/-! ### The home of a pool region (R195, R196, R200 to R204) -/

/-- The ledger entry for a source and ASEQ (R203). -/
def State.ledgerEntry (s : State) (part src aseq : Nat) : Option LedgerEntry :=
  s.sill.ledger.find? (fun e => e.part = part && e.src = src && e.aseq % 512 = aseq % 512)

/-- An entry written over the one of its place. -/
def setLedger (e : LedgerEntry) (s : State) : State :=
  let others := s.sill.ledger.filter (fun x => !(x.part = e.part && x.src = e.src && x.aseq % 512 = e.aseq % 512))
  { s with sill := { s.sill with ledger := others ++ [e] } }

/-- The plaintext of a sealed line: held, never written, or as the tier gave it (R187, R191). -/
def lineNow (s : State) (part line : Nat) (given : List Byte) : List Byte :=
  match s.heldLine line with
  | some d => d
  | none => if s.minorOf part line = 0 then List.replicate 256 0 else given

/-- RESULT codes (R196). -/
abbrev rApplied : Nat := 0
abbrev rReplayed : Nat := 1
abbrev rUnknown : Nat := 2
abbrev rRefused : Nat := 3
abbrev rReused : Nat := 4

/-- A request ends at its requester (R196, R202, R204): the command's status, or the die access's data. -/
def finishRemote (q : RemoteReq) (m : PoolMsg) (s : State) : State :=
  let s1 := { s with sill := { s.sill with remote := s.sill.remote.filter (fun x => x.id ≠ q.id) } }
  let s2 :=
    match q.ref with
    | some r =>
      if m.result = rApplied || m.result = rReplayed then
        complete r stOk (resultOf [(16, 8, m.old.toNat), (24, 1, m.aflags)]) s1
      else if m.result = rUnknown then complete r stOutcomeUnknown (detailOf 0) s1
      else if m.result = rReused then complete r stWrongState (detailOf 0x0602) s1
      else complete r stNotPermitted (detailOf 0) s1
    | none =>
      if q.rop ≠ 1 then s1
      else
        match q.access.bind s1.access? with
        | none => s1
        | some a =>
          if m.result = rRefused then answerAccess a.id kRefused [] s1
          else
            let line := q.addr / 256
            let t := if q.dropFill then s1 else fillPool q.part line m.line s1
            let need := a.need.filter (fun l => l ≠ line)
            let got := a.got ++ [(256 * line, m.line)]
            let t1 := t.modAccess a.id (fun x => { x with need := need, got := got })
            if need.isEmpty then answerAccess a.id kData (assemble a.addr a.size got) t1 else t1
  pumpRemote s2

/-- The home's answer (R196): a parcel in the request's class, or the end of a request of this chip. -/
def answerPool (i : PoolIn) (part result aflags : Nat) (old : Quad) (line : List Byte) (s : State) : State :=
  let m := { i.req with result := result, aflags := aflags, old := old, compare := 0, line := line }
  if i.src = s.chip then
    match s.sill.remote.find? (fun q => q.id = i.pseq && q.part = part) with
    | some q => finishRemote q m s
    | none => s
  else
    s.addParcel (fun id => mkParcel id part .atomicResp none i.src i.cls 0 (if m.rop = 1 && result = rApplied then 288 else 32)
      0 (BitVec.ofNat 32 i.pseq) (.atomicResp m) none false s.now)

/-- A line written by the home in its own window. -/
def homeWrite (part addr cls : Nat) (data : List Byte) (s : State) : State :=
  pumpSill (addAccess none 1 part addr 256 true data cls s).2

/-- A pool atomic applied at the home (R201, R202, R203). -/
def applyAtomic (i : PoolIn) (part : Nat) (line : List Byte) (s : State) : State :=
  let w := atypeBytes i.req.atype
  let off := i.req.offset % 256
  let old := ofLeBytes ((line.drop off).take w)
  let (new, swapped) := atomicNew (i.req.rop - 0x10) i.req.atype old i.req.operand.toNat i.req.compare.toNat
  let flags := if swapped then 1 else 0
  let e : LedgerEntry := { part := part, src := i.src, aseq := i.req.aseq, context := i.req.context, aflags := flags,
                           time := s.now, old := BitVec.ofNat 64 old }
  answerPool i part rApplied flags (BitVec.ofNat 64 old) []
    (setLedger e (homeWrite part (ownBase + i.req.offset / 256 * 256) i.cls
      (splice 0 line off (leBytes w new)) s))

/-- POOL_REQUEST_HOME (R195, R196, R204): the home executes a placed request; `given` is what reading its ledger entry and
line returns. It waits while an earlier access of the line, or an earlier request with the same ASEQ, is under way. -/
def poolRequestHome (src domain pseq cls : Nat) (m : PoolMsg) (given : MemRead) (s : State) : State :=
  match s.sill.inbox.find? (fun i => i.src = src && i.domain = domain && i.pseq = pseq && i.cls = cls && i.req = m) with
  | none => s
  | some i =>
    let same (x : PoolIn) : Bool := x.src = src && x.domain = domain && x.req.rop ≥ 0x11 && m.rop ≥ 0x11 &&
      x.req.aseq = m.aseq
    let earlier := (s.sill.inbox.takeWhile (fun x => x ≠ i)).any same
    let rest := { s with sill := { s.sill with inbox := s.sill.inbox.erase i } }
    match s.partOfDomain domain with
    | none => rest
    | some part =>
      let addr := ownBase + m.offset / 256 * 256
      if earlier then
        { s with sill := { s.sill with inbox := s.sill.inbox.map (fun x => if x = i then { x with waited := true } else x) } }
      else if s.sill.accesses.any (fun a => a.open_ && a.lines.contains (addr / 256)) then s
      else if !s.sill.poolEn || !rangesCover (s.part part).t2 gran12 (m.offset / 256 * 256) 256 then
        answerPool i part rRefused 0 0 [] (plumbEvent 0x83 0 0 (some part) false src (some part) rest)
      else
        match given with
        | .ok bytes =>
          let line := lineNow s part (addr / 256) bytes
          if m.rop = 1 then answerPool i part rApplied 0 0 line rest
          else if m.rop = 2 then
            let new := (List.range 4).foldl (fun b k =>
              if bitOf m.mask k then splice 0 b (64 * k) ((m.line.drop (64 * k)).take 64) else b) line
            answerPool i part rApplied 0 0 [] (homeWrite part addr cls new rest)
          else
            match s.ledgerEntry part src m.aseq with
            | some e =>
              if e.aseq = m.aseq then
                if i.waited then answerPool i part rReplayed (e.aflags % 2 + 2) e.old [] rest
                else if !m.retry then answerPool i part rReused 0 0 [] rest
                else if s.now ≤ e.time + 100000 then answerPool i part rReplayed (e.aflags % 2 + 2) e.old [] rest
                else answerPool i part rUnknown 0 0 [] rest
              else if m.retry then answerPool i part rUnknown 0 0 [] rest
              else applyAtomic i part line rest
            | none => if m.retry then answerPool i part rUnknown 0 0 [] rest else applyAtomic i part line rest
        | bad => readFail part bad rest

/-- ANSWER_TIMEOUT (R440): 1 ms after a request settled without an answer, its job ends with cause 5. -/
def answerTimeout (id : Nat) (s0 : State) : State :=
  let due (t : Option Nat) : Bool := s0.running && t.isSome
  let s := match s0.sill.remote.find? (fun q => q.id = id), s0.pegs.signals.find? (fun x => x.parcel = id) with
    | some q, _ => if due q.settledAt then s0.atTime (q.settledAt.getD 0 + 1000000) else s0
    | none, some g => if due g.settledAt then s0.atTime (g.settledAt.getD 0 + 1000000) else s0
    | none, none => s0
  match s.sill.remote.find? (fun q => q.id = id) with
  | some q =>
    if !due q.settledAt then s
    else
      let s1 := { s with sill := { s.sill with remote := s.sill.remote.filter (fun x => x.id ≠ id) } }
      let s2 := match q.ref, q.access with
        | some r, _ => complete r stJobFaulted (detailOf 5) s1
        | none, some a => answerAccess a kFault [] s1
        | none, none => s1
      endJob q.part 5 ((q.ref.map (fun r => r.slot)).getD 0) s2
  | none =>
    match s.pegs.signals.find? (fun x => x.parcel = id) with
    | none => s
    | some g =>
      if !due g.settledAt then s
      else
        let s1 := { s with pegs := { s.pegs with signals := s.pegs.signals.filter (fun x => x.parcel ≠ id) } }
        endJob g.ref.part 5 g.ref.slot (complete g.ref stJobFaulted (detailOf 5) s1)

/-! ### Patrol and sweep (R181, R190) -/

/-- The partitions whose pages' records stand in a sector of the counter region. -/
def recordOwners (s : State) (addr : Nat) : List Nat :=
  let q := (addr - ctrBase) / ctrQuarter
  let o := (addr - ctrBase) % ctrQuarter
  (((List.range 4).filterMap (fun k =>
    let rec_ := o / 24 + k
    if 24 * rec_ < o + 64 then s.ownerOf (pageAddr (4 * rec_ + q)) else none))).eraseDups

/-- PATROL_READ (R181). -/
def patrolRead (addr : Nat) (first second : Sector) (s : State) : State :=
  let (d, s1) := decodeSector (laneOf addr) first second s
  if d.isSome then s1
  else
    let src := 0x2C + tileOf addr
    if addr < t0End then
      match s1.ownerOf addr with
      | some p => memFail p src 3 s1
      | none => plumbEvent src 0 0 none false 0 none s1
    else
      match recordOwners s1 addr with
      | [] => plumbEvent src 0 0 none false 0 none s1
      | ps => ps.foldl (fun t p => memFail p src 3 t) s1

/-- Ranges without one number. -/
def rangesWithout (rs : List Range) (n : Nat) : List Range :=
  (rs.map (fun r =>
    if r.first ≤ n && n < r.first + r.count then
      ([{ first := r.first, count := n - r.first }, { first := n + 1, count := r.first + r.count - (n + 1) }] : List Range)
    else [r])).flatten.filter (fun r => r.count ≠ 0)

/-- COUNTER_SWEEP (R190): the record of a released page rewritten to KEY_EPOCH 0, unless a live key has written it since. -/
def counterSweep (page : Nat) (s : State) : State :=
  if !inRanges s.sill.sweep page then s
  else
    let s1 := { s with sill := { s.sill with sweep := rangesWithout s.sill.sweep page } }
    let r := s.record page
    if (List.range 16).any (fun p => (s.part p).tierKey = some r.keyEpoch) then s1
    else { s1 with sill := { s1.sill with records := s1.sill.records.filter (fun x => x.page ≠ page) } }

/-! ### ATOMIC and INVALIDATE -/

def layoutAtomic (p : Packet) (_ : State) : Layout :=
  let w := atypeBytes (pf p 21 1)
  { cflags := 0xF0
    fields := [(20, 0, 8), (21, 0, 8), (24, 0, 48), (32, 0, 32), (36, 0, 8 * w)] ++ (if pf p 20 1 = 4 then [(44, 0, 64)] else [])
    ranges := [badClass p, (20, !atomicAllowed (pf p 20 1) (pf p 21 1)), (24, pf p 24 6 % w ≠ 0)] }

/-- Tier 0 and tier 1, where no pool command may go (R199, R202). -/
def inLowTiers (addr : Nat) : Bool := addr < t0End || (t1Base ≤ addr && addr < t1End)

/-- ATOMIC (R197, R200, R202). -/
def startAtomic (r : CmdRef) (p : Packet) (s : State) : State :=
  let addr := pf p 24 6
  let cls := flagClass p
  let aop := pf p 20 1
  let t := pf p 21 1
  let req (off : Nat) : PoolMsg :=
    poolReq (0x10 + aop) t 0 (bitOf p.flags.toNat 7) (pf p 32 4) off r.slot
      (BitVec.ofNat 64 (pf p 36 (atypeBytes t))) (BitVec.ofNat 64 (pf p 44 8)) []
  let go (home off : Nat) : State :=
    sendPool r.part home cls (remoteReq r.part home (some r) none addr (0x10 + aop) r.slot (pf p 32 4)) (req off)
      (dropPool r.part (addr / 256) (hold r s))
  if inLowTiers addr then complete r stWrongState (detailOf 0x0601) s
  else
    match place s r.part addr (atypeBytes t) with
    | .refused => complete r stNotPermitted (detailOf 0) s
    | .tier0 _ => complete r stWrongState (detailOf 0x0601) s
    | .sealed a => if lacksSillResv s r.part cls then complete r stWrongState (detailOf 0x0604) s else go s.chip (a - ownBase)
    | .remote home off =>
      if lacksSillResv s r.part cls then complete r stWrongState (detailOf 0x0604) s else go home off

def layoutInvalidate (p : Packet) (_ : State) : Layout :=
  { cflags := 0x70, fields := [(24, 0, 48), (32, 0, 32)],
    ranges := [badClass p, (24, pf p 24 6 % 4096 ≠ 0), (32, pf p 32 4 = 0)] }

/-- INVALIDATE (R199): lines being filled are delivered but not kept. -/
def startInvalidate (r : CmdRef) (p : Packet) (s : State) : State :=
  let lo := pf p 24 6
  let hi := lo + 4096 * pf p 32 4
  let touches (a b : Nat) : Bool := lo < b && a < hi
  let cls := flagClass p
  if touches 0 t0End || touches t1Base t1End then complete r stWrongState (detailOf 0x0601) s
  else if !s.inCarve r.part lo (hi - lo) then complete r stNotPermitted (detailOf 0) s
  else if lacksSillResv s r.part cls then complete r stWrongState (detailOf 0x0604) s
  else
    let hit (l : PoolLine) : Bool := l.part = r.part && lo ≤ l.addr && l.addr < hi
    let n := (s.sill.pool.filter hit).length
    complete r stOk (resultOf [(16, 4, n)]) { s with sill := { s.sill with
      pool := s.sill.pool.filter (fun l => !hit l)
      remote := s.sill.remote.map (fun q =>
        if q.part = r.part && q.rop = 1 && lo ≤ q.addr && q.addr < hi then { q with dropFill := true } else q) } }

end Sys2Proof.Machine
end

