-- ==== Sys2Proof/Machine/Slots.lean ====
section
/-! DEFINITION. The calendar's positions (08): free capacity, the layout of a link's tick, home links and their moves, token
buckets and best-effort gates. -/

namespace Sys2Proof.Machine

/-! ### Bundles and capacities (R259, R267, R435) -/

/-- Engines of a kind and group of indices retired (R435). -/
def State.retiredOf (s : State) (kind per tile : Nat) : Nat :=
  (s.plumb.retired.filter (fun e => e / 256 = kind && e % 256 / per = tile)).length

/-- Transit positions as they act: 1 to 13 act as 14 (R261, R286). -/
def transitEff (n : Nat) : Nat := if n = 0 then 0 else max 14 n

def State.transitRc (s : State) (b : Nat) : Nat := transitEff (s.cal.transit.getD b (0, 0)).1
def State.transitTc (s : State) (b : Nat) : Nat := transitEff (s.cal.transit.getD b (0, 0)).2

/-- Quota positions on a link in this frame (R274). -/
def State.quotaOn (s : State) (link : Nat) : Nat :=
  (s.cal.quotas.filter (fun q => q.2.1 = link)).foldl (fun n q => n + q.2.2) 0

/-- How often a reservation's positions stand on a link. -/
def Resv.on (r : Resv) (link : Nat) : Nat := (r.links.filter (fun l => l = some link)).length

/-- Link slots that reservations of RC, or of the TC classes, hold on a link. -/
def State.heldOn (s : State) (rc : Bool) (link : Nat) : Nat :=
  s.cal.resvs.foldl (fun n r => if (r.cls = 1) = rc then n + r.slots * r.on link else n) 0

/-- Positions free for a class on a link (R267): free_rc and free_tc. -/
def State.freeLink (s : State) (cls link : Nat) : Int :=
  if cls = 1 then (s.cal.p0.link : Int) - s.heldOn true link
  else 584 - (s.cal.p0.link : Int) - s.transitRc (link / 8) - s.transitTc (link / 8) - s.heldOn false link -
    s.quotaOn link

/-- Units a reservation of a resource holds on a bundle's tile, RC or TC. -/
def State.heldTile (s : State) (rc : Bool) (resource b : Nat) : Nat :=
  s.cal.resvs.foldl (fun n r => if (r.cls = 1) = rc && r.resource = resource && bitOf r.mask b then n + r.units else n) 0

/-- Injection (resource 1) or ejection (2) units free for a class on a Guyline tile (R267). -/
def State.freeSeal (s : State) (cls resource b : Nat) : Int :=
  let share := if resource = 1 then s.cal.p0.sealInj else s.cal.p0.sealEj
  if cls = 1 then (share : Int) - s.heldTile true resource b
  else 3000 - 250 * (s.retiredOf resource 12 b : Int) - 16 - share - s.heldTile false resource b

/-- Sill units held on every tile, RC or TC, of all reservations or of those with TIER. -/
def State.heldSill (s : State) (rc tier : Bool) : Nat :=
  s.cal.resvs.foldl (fun n r => if (r.cls = 1) = rc && r.resource = 3 && (!tier || r.tier) then n + r.units else n) 0

/-- Guard-lane units free for a class on a Sill tile (R267). -/
def State.freeGuard (s : State) (cls : Nat) : Int :=
  if cls = 1 then (s.cal.p0.guard : Int) - s.heldSill true false
  else 15625 - 995 - (s.cal.p0.guard : Int) - s.heldSill false false

/-- Sealed-lane units free for a class on Sill tile `t` (R267). -/
def State.freeSealed (s : State) (cls t : Nat) : Int :=
  if cls = 1 then (s.cal.p0.sealed : Int) - s.heldSill true true
  else 4500 - 250 * (s.retiredOf 3 18 t : Int) - (s.cal.p0.sealed : Int) - s.heldSill false true

/-! ### Reservations -/

/-- The reservation with an entry. -/
def State.resv? (s : State) (entry : Nat) : Option Resv := s.cal.resvs.find? (fun r => r.entry = entry)

def State.modResv (s : State) (entry : Nat) (f : Resv → Resv) : State :=
  { s with cal := { s.cal with resvs := s.cal.resvs.map (fun r => if r.entry = entry then f r else r) } }

/-- The identifier of a reservation (R266). -/
def Resv.id (r : Resv) : Nat := r.entry + 2 ^ 16 * r.gen + 2 ^ 24 * r.part + 2 ^ 28 * r.cls

/-- The reservation that a RESV names for a partition and class: entry, generation, partition and class match, and it has
not been released (R126, R266, R269). -/
def State.resvFor (s : State) (part cls id : Nat) : Option Resv :=
  (s.resv? (bitsOf id 0 10)).bind (fun r => if r.id = id && r.part = part && r.cls = cls && r.state ≠ .releasing then some r else none)

/-- A SEND reservation that a RESV names. -/
def State.sendResv (s : State) (part cls id : Nat) : Option Resv :=
  (s.resvFor part cls id).bind (fun r => if r.resource = 1 then some r else none)

/-- Copies of a SEND reservation: 2 with MIRROR. -/
def Resv.copies (r : Resv) : Nat := if r.mirror then 2 else 1

/-- Home links per bundle and copy (R263). -/
def homesOf (rate : Nat) : Nat := ceilDiv rate 64000

/-- Flits of a parcel of `len` plaintext bytes (R107). -/
def flitsOf (len : Nat) : Nat := ceilDiv (len + 64) 224

/-- H of R263: MAX_HOPS + 2 × DETOUR_MARGIN. -/
def Resv.hops (r : Resv) : Nat := r.maxHops + (if r.detour then 2 else 0)

/-- The home links of a copy, in bundle order. -/
def Resv.copyLinks (r : Resv) (mirror : Bool) : List (Option Nat) :=
  let n := homesOf r.rate
  (List.range (r.links.length / (n * r.copies))).flatMap (fun i =>
    ((r.links.drop (i * n * r.copies + (if mirror then n else 0))).take n))

/-- A copy keeps its home links. -/
def Resv.keeps (r : Resv) (mirror : Bool) : Bool := (r.copyLinks mirror).all (fun l => l.isSome)

/-- The state that a reservation's links give it (R277): a mirrored one is DEGRADED only when neither copy keeps its home
links. -/
def Resv.settleState (r : Resv) : Resv :=
  if r.state = .releasing then r
  else { r with state := if r.keeps false || (r.mirror && r.keeps true) then .active else .degraded }

/-- The bundles of a mask in rising order. -/
def bundlesOf (mask : Nat) : List Nat := (List.range 8).filter (fun b => bitOf mask b)

/-- One home link that holds no position any more, or none, is given another KEYED link of its bundle with f free slots, the
lowest (R277). -/
def replaceHome (entry i : Nat) (s : State) : State :=
  match s.resv? entry with
  | none => s
  | some r =>
    let b := (bundlesOf r.mask).getD (i / (homesOf r.rate * r.copies)) 0
    let keep : Bool := match r.links.getD i none with | some l => (s.link l).state = .keyed | none => false
    if keep then s
    else
      let s1 := s.modResv entry (fun x => { x with links := x.links.set i none })
      let free (l : Nat) : Bool := !r.links.contains (some l) && (r.slots : Int) ≤ s1.freeLink r.cls l
      match (s1.keyed b).find? free with
      | some l => s1.modResv entry (fun x => { x with links := x.links.set i (some l) })
      | none => s1

/-- Every SEND reservation's home links looked at again (R277). -/
def rehome (s : State) : State :=
  s.cal.resvs.foldl (fun t r =>
    ((List.range r.links.length).foldl (fun u i => replaceHome r.entry i u) t).modResv r.entry (fun x =>
      if x.resource = 1 then x.settleState else x)) s

/-- Reservations that no longer fit their tiles become DEGRADED, in descending entry number, until the rest fit; P0's
share is fitted first (R435). -/
def degradeTiles (s : State) : State :=
  let tight (t : State) (r : Resv) : Bool :=
    r.cls ≠ 1 &&
    (if r.resource = 3 then
      r.tier && (List.range 4).any (fun k => t.freeSealed r.cls k + (t.cal.resvs.filter (fun x =>
        x.resource = 3 && x.tier && x.cls ≠ 1 && x.state = .degraded)).foldl (fun n x => n + (x.units : Int)) 0 < 0)
    else (bundlesOf r.mask).any (fun b => t.freeSeal r.cls r.resource b + (t.cal.resvs.filter (fun x =>
        x.resource = r.resource && bitOf x.mask b && x.cls ≠ 1 && x.state = .degraded)).foldl
          (fun n x => n + (x.units : Int)) 0 < 0))
  s.cal.resvs.reverse.foldl (fun t r =>
    if r.state = .active && tight t r then t.modResv r.entry (fun x => { x with state := .degraded }) else t) s

/-! ### The layout of a tick (R259 to R261) -/

/-- What owns a position. -/
inductive Owner where
  | transitRc
  | transitTc
  | p0
  | resv (entry : Nat)
  | quota (part : Nat)
  deriving DecidableEq, Repr

/-- Whether slot `s` of link l of its bundle is reservable (R260). -/
def reservable (l s : Nat) : Bool := s % 8 ≠ l && s % 8 ≠ (l + 4) % 8

/-- Reservable slots of a tick before slot `s`. -/
def reservableBefore (l s : Nat) : Nat := ((List.range s).filter (reservable l)).length

/-- The first free place at or after `i`, round the tick. -/
def freeFrom (occ : List (Option Owner)) (i : Nat) : Option Nat :=
  ((List.range occ.length).map (fun k => (i + k) % occ.length)).find? (fun j => (occ.getD j none).isNone)

/-- `k` positions of an owner spread evenly (R261). -/
def spread (o : Owner) (k : Nat) (occ : List (Option Owner)) : List (Option Owner) :=
  (List.range k).foldl (fun l i =>
    match freeFrom l (i * l.length / k) with
    | some j => l.set j (some o)
    | none => l) occ

/-- The owners of a link's reservable slots in order (log 18). -/
def State.positions (s : State) (link : Nat) : List (Option Owner) :=
  let l := link % 8
  let rc := s.cal.resvs.filter (fun r => r.cls = 1 && r.on link ≠ 0)
  let tc := s.cal.resvs.filter (fun r => r.cls ≠ 1 && r.on link ≠ 0)
  let sets : List (Owner × Nat) :=
    [(.transitRc, s.transitRc (link / 8)), (.transitTc, s.transitTc (link / 8))] ++
      rc.map (fun r => (Owner.resv r.entry, r.slots * r.on link)) ++
      [(.p0, s.cal.p0.link - s.heldOn true link)] ++
      tc.map (fun r => (Owner.resv r.entry, r.slots * r.on link)) ++
      (s.cal.quotas.filter (fun q => q.2.1 = link)).map (fun q => (Owner.quota q.1, q.2.2))
  sets.foldl (fun occ x => spread x.1 x.2 occ) (List.replicate (reservableBefore l 781) none)

/-- The link that carries partition p's MC flits in a bundle, while one is KEYED (R260): link p mod 8, or the next KEYED
one, wrapping. -/
def State.mcLink (s : State) (b p : Nat) : Option Nat :=
  ((List.range 8).map (fun i => 8 * b + (p + i) % 8)).find? (fun n => (s.link n).state = .keyed)

/-- What a slot of a tick is for. -/
inductive SlotUse where
  | localMc (part : Nat)
  | transitMc
  | owned (o : Owner)
  | open_
  deriving DecidableEq, Repr

/-- The use of slot `slot` of a link (R260, R261). -/
def State.slotUse (s : State) (link slot : Nat) : SlotUse :=
  let l := link % 8
  let b := link / 8
  if slot % 8 = l then
    let half := slot / 8 % 2
    let own := l + 8 * half
    let moved := ((List.range 8).map (fun i => i + 8 * half)).filter (fun p => p ≠ own && s.mcLink b p = some link)
    let sharers := own :: moved
    .localMc (sharers.getD (slot / 16 % sharers.length) own)
  else if slot % 8 = (l + 4) % 8 then .transitMc
  else match (s.positions link).getD (reservableBefore l slot) none with
    | some o => .owned o
    | none => .open_

/-! ### Token buckets (R271, R272, R274) -/

/-- Fractions of the levels in quarters (R274): 0, ¼, ½, 1. -/
def levelQuarters (l : Nat) : Nat := if l = 3 then 4 else l

/-- The depth of a reservation's bucket (R271). -/
def Resv.depth (r : Resv) : Nat :=
  if r.resource = 1 then homesOf r.rate * flitsOf r.maxParcel * (4000 * r.maxParcel)
  else homesOf r.rate * 16 * (4000 * 256)

/-- What a reservation's bucket gains in one ns: RATE × (1 + quota fraction) (R271, R274). -/
def Resv.gain (r : Resv) (level : Nat) : Nat :=
  r.shaperRate * (if r.resource = 1 then flitsOf r.maxParcel else 1) * (4 + (if r.cls = 3 then levelQuarters level else 0))

/-- A bucket brought up to the present. -/
def State.refill (s : State) (r : Resv) : Resv :=
  { r with tokens := min r.depth (r.tokens + (s.now - r.tokensAt) * r.gain (s.part r.part).view.level), tokensAt := s.now }

/-- The tokens of `k` flits of a SEND reservation. -/
def Resv.flitCost (r : Resv) (k : Nat) : Nat := k * (4000 * r.maxParcel)

/-- The partition's BE shaper of a resource, if it is set (R271, R272). -/
def State.shaper? (s : State) (part resource : Nat) : Option Shaper :=
  s.cal.shapers.find? (fun h => h.part = part && h.resource = resource)

/-- A BE shaper brought up to the present: a byte is 1,000 units. -/
def State.refillShaper (s : State) (h : Shaper) : Shaper :=
  { h with tokens := min (1000 * h.depth) (h.tokens + (s.now - h.tokensAt) * h.rate), tokensAt := s.now }

def State.setShaper (s : State) (h : Shaper) : State :=
  { s with cal := { s.cal with
      shapers := s.cal.shapers.filter (fun x => !(x.part = h.part && x.resource = h.resource)) ++ [h] } }

/-! ### The Damper's part (R296, R304, R418) -/

/-- The budget tick of the frame (R290): 100 µs each. -/
def State.bt (s : State) : Nat := s.damper.btick

/-- The quota fraction of the running budget tick, in 1/96 (R418). -/
def State.fq (s : State) (p : Nat) : Nat :=
  let new := levelQuarters (s.part p).view.level
  let old := levelQuarters (s.damper.rows.getD p GrantRow.zero).oldLevel
  let k := min 24 (s.bt + 1)
  if (s.part p).view.shared then old * (24 - k) + new * k else 0

/-- The partition's best-effort grant is above zero (R304). -/
def State.beOpen (s : State) (p : Nat) : Bool :=
  let g := s.damper.rows.getD p GrantRow.zero
  96 * g.reached + (s.part p).resvW * s.fq p < 96 * g.grant

end Sys2Proof.Machine
end

