-- ==== Sys2Proof/Machine/Inline.lean ====
section
/-! DEFINITION. Reduce-forward and unfold (05): groups, collectives, chunks, and weight units. -/

namespace Sys2Proof.Machine

/-! ### Groups (R139 to R142) -/

/-- Group `num` of a partition, if it holds it. -/
def State.group? (s : State) (part num : Nat) : Option Group :=
  s.inl.groups.find? (fun g => g.part = part && g.num = num)

def State.modGroup (s : State) (part num : Nat) (f : Group → Group) : State :=
  { s with inl := { s.inl with groups := s.inl.groups.map (fun g => if g.part = part && g.num = num then f g else g) } }

/-- A group released on this member. -/
def releaseGroup (part num : Nat) (s : State) : State :=
  { s with inl := { s.inl with groups := s.inl.groups.filter (fun g => !(g.part = part && g.num = num)) } }

/-- N. -/
def Group.size (g : Group) : Nat := g.members.length

/-- The predecessor's chip (R140). -/
def Group.pred (g : Group) : Nat := g.members.getD ((g.pos + g.size - 1) % g.size) 0

/-- The successor's chip (R140). -/
def Group.succ (g : Group) : Nat := g.members.getD ((g.pos + 1) % g.size) 0

/-- The key slot of a partition that holds a usable key (R333). -/
def State.key? (s : State) (part slot : Nat) : Option KeySlot :=
  s.kp.slots.find? (fun k => k.part = part && k.slot = slot && k.state ≠ .evicting)

/-- The key a command may use: one that is being evicted too, where the command was accepted before (R347, R352). -/
def State.keyFor (s : State) (r : CmdRef) (slot : Nat) : Option KeySlot :=
  s.kp.slots.find? (fun k => k.part = r.part && k.slot = slot && (k.state ≠ .evicting || k.users.contains r))

def layoutRingSetup (p : Packet) (_ : State) : Layout :=
  { cflags := 0, fields := [(20, 0, 8), (22, 0, 16), (24, 0, 48), (32, 0, 48)],
    ranges := [(22, pf p 22 2 = 1 || 2048 < pf p 22 2), (32, pf p 32 6 % 4096 ≠ 0)] }

/-- The collective a staged packet asks for names group `num` of partition `part`. -/
def stagesGroup (part num : Nat) (x : Staged) : Bool :=
  x.ref.part = part && x.ref.cls = 5 && x.ref.op ≠ 1 && pf x.pkt 20 1 = num

/-- The list read by RING_SETUP: 2 B a member (R139). -/
def memberList (n : Nat) (bytes : List Byte) : List Nat := elems 2 n bytes

/-- A list that R140 refuses: outside the dimensions, a duplicate, or not this chip exactly once. -/
def badList (s : State) (l : List Nat) : Bool :=
  l.any (fun c => 2048 ≤ c || !s.chipInside c) || l.eraseDups.length ≠ l.length || !l.contains s.chip

/-- RING_SETUP (R139 to R141); `given` is what reading the list returns. -/
def startRingSetup (r : CmdRef) (p : Packet) (given : MemRead) (s : State) : State :=
  let num := pf p 20 1
  let n := pf p 22 2
  let listAddr := pf p 24 6
  let stage := pf p 32 6
  if n = 0 then
    match s.group? r.part num with
    | none => complete r stWrongState (detailOf 0x0513) s
    | some g =>
      if g.running.isSome || s.cmds.staged.any (stagesGroup r.part num) || !g.staged.isEmpty then
        complete r stWrongState (detailOf 0x0514) s
      else complete r stOk 0 (releaseGroup r.part num s)
  else if !s.inCarve r.part listAddr (2 * n) || !s.inCarve r.part stage 0x40000 || t0End < stage + 0x40000 then
    complete r stNotPermitted (detailOf 0) s
  else if (s.group? r.part num).isSome then complete r stWrongState (detailOf 0x0511) s
  else
    match readCause given with
    | some c => complete r stJobFaulted (detailOf c) (readFail r.part given s)
    | none =>
      let l := memberList n (readBytes given)
      if badList s l then complete r stWrongState (detailOf 0x0512) s
      else if (s.part r.part).shares.groups ≤ (s.inl.groups.filter (fun g => g.part = r.part)).length then
        complete r stNoResource (detailOf 0x0501) s
      else
        let g : Group := { part := r.part, num := num, members := l, pos := l.idxOf s.chip, stageAddr := stage, inst := 0,
                           running := none, staged := [], arrived := [], awaitConsumed := [], credits := 64 }
        complete r stOk
          (resultOf [(16, 2, g.pos), (18, 2, g.pred), (20, 2, g.succ), (22, 1, s.hopsTo s.chip g.succ)])
          { s with inl := { s.inl with groups := s.inl.groups ++ [g] } }

/-! ### Collectives (R144 to R159) -/

/-- Codes that a collective's input may have (R157). -/
def inFmts : List Nat := [0x01, 0x02, 0x03, 0x04, 0x05, 0x08, 0x09, 0x0A, 0x0B, 0x0C, 0x0D, 0x10, 0x11]

/-- A combination of R157; OP none belongs to ALL_GATHER and BROADCAST, the others to the reducing collectives (R156). -/
def comboOk (opc op i o : Nat) : Bool :=
  let gathers := opc = 4 || opc = 5
  match op with
  | 0 => gathers && inFmts.contains i && i = o
  | 1 =>
    !gathers &&
      (if i = 0x04 || i = 0x10 then [0x04, 0x05, 0x02, 0x03, 0x01, 0x10].contains o
      else if i = 0x05 || i = 0x11 then [0x05, 0x04, 0x02, 0x03, 0x01, 0x11].contains o
      else if i = 0x01 || i = 0x02 || i = 0x03 then [0x01, 0x02, 0x03].contains o
      else if i = 0x08 || i = 0x0A || i = 0x0C then o = i || o = 0x0E
      else if i = 0x09 || i = 0x0B || i = 0x0D then o = i || o = 0x0F
      else false)
  | 2 => !gathers && inFmts.contains i && i = o
  | 3 => !gathers && inFmts.contains i && i = o
  | _ => false

/-- The sizes of a collective: elements of a shard, element bytes, and units of 4,096 B (R144, R146). -/
structure Shape where
  shard : Nat
  win : Nat
  wout : Nat
  wp : Nat
  /-- Units per shard in the reduce phase, 0 without one. -/
  ur : Nat
  /-- Units per shard in the gather phase, 0 without one. -/
  ug : Nat
  deriving DecidableEq, Repr

/-- The shape of opcode `opc` over `count` elements in a group of `n`. -/
def shapeOf (opc op i o count n : Nat) : Shape :=
  let shard := if opc = 5 then count else count / n
  let wp := fmtBytes (partialFmt op i)
  { shard := shard, win := fmtBytes i, wout := fmtBytes o, wp := wp
    ur := if opc = 2 || opc = 3 then ceilDiv (shard * wp) 4096 else 0
    ug := if opc = 3 then 0 else ceilDiv (shard * fmtBytes o) 4096 }

/-- Shards a group moves: one for BROADCAST, which moves the whole buffer. -/
def shardsOf (opc n : Nat) : Nat := if opc = 5 then 1 else n

/-- Bytes a member reads at SRC_ADDR (R156). -/
def srcBytes (opc : Nat) (sh : Shape) (n : Nat) (root : Bool) : Nat :=
  if opc = 2 || opc = 3 then n * sh.shard * sh.win
  else if opc = 4 then sh.shard * sh.win
  else if root then sh.shard * sh.win else 0

/-- Bytes a member writes at DST_ADDR (R156). -/
def dstBytes (opc : Nat) (sh : Shape) (n : Nat) (root : Bool) : Nat :=
  if opc = 2 || opc = 4 then n * sh.shard * sh.wout
  else if opc = 3 then sh.shard * sh.wout
  else if root then 0 else sh.shard * sh.wout

/-- Two ranges share an address. -/
def overlaps (a la b lb : Nat) : Bool := la ≠ 0 && lb ≠ 0 && a < b + lb && b < a + la

/-- Opcode `opc` of a collective: 2 ALL_REDUCE, 3 REDUCE_SCATTER, 4 ALL_GATHER, 5 BROADCAST (R156, R157). -/
def layoutCollective (opc : Nat) (p : Packet) (s : State) : Layout :=
  let op := pf p 21 1
  let i := pf p 22 1
  let o := pf p 23 1
  let count := pf p 40 4
  let grp := s.group? (srcPart p.src) (pf p 20 1)
  let ok := comboOk opc op i o
  let countBad : Bool := match grp with
    | none => false
    | some g =>
      let sh := shapeOf opc op i o count g.size
      count = 0 || count % g.size ≠ 0 ||
        (ok && (65536 < shardsOf opc g.size * sh.ur || 65536 < shardsOf opc g.size * sh.ug))
  let clash : Bool := match grp with
    | none => false
    | some g =>
      let sh := shapeOf opc op i o count g.size
      let root := g.pos = pf p 46 2
      pf p 24 6 ≠ pf p 32 6 && overlaps (pf p 24 6) (srcBytes opc sh g.size root) (pf p 32 6) (dstBytes opc sh g.size root)
  let rootBad : Bool := match grp with
    | none => false
    | some g => opc = 5 && g.size ≤ pf p 46 2
  { cflags := 0x30
    fields := [(20, 0, 8), (21, 0, 8), (22, 0, 8), (23, 0, 8), (24, 0, 48), (32, 0, 48), (40, 0, 32), (44, 0, 8),
      (46, 0, 16), (48, 0, 32), (52, 0, 16)]
    ranges := [(21, !ok), (32, ok && clash), (40, countBad), (44, pf p 44 1 = 0 || 4 < pf p 44 1),
      (46, (opc ≠ 5 && pf p 46 2 ≠ 0) || rootBad), (48, pf p 44 1 = 4 && pf p 48 4 ≠ 0), (52, pf p 52 2 = 0)] }

/-- A collective waits in staging while one runs on its group (R159). -/
def waitsGroup (part : Nat) (p : Packet) (s : State) : Bool :=
  match s.group? part (pf p 20 1) with
  | some g => g.running.isSome
  | none => false

/-- 2^48 - 1: the end of an IV counter (R108). -/
abbrev ivMax : Nat := 0xFFFFFFFFFFFF

/-- The checks common to what a partition sends (R108, R126): its IV counter, its domain key. -/
def sendRefusal (s : State) (part : Nat) : Option (Nat × Nat) :=
  if ivMax ≤ (s.part part).ivParcel then some (stNoResource, 0x0403)
  else if (s.key? part 0).isNone then some (stKeyAbsent, 0)
  else none

/-- A collective starts (R156, R158). -/
def startCollective (opc : Nat) (r : CmdRef) (p : Packet) (s : State) : State :=
  let num := pf p 20 1
  let cls := pf p 44 1
  match s.group? r.part num with
  | none => complete r stWrongState (detailOf 0x0513) s
  | some g =>
    let sh := shapeOf opc (pf p 21 1) (pf p 22 1) (pf p 23 1) (pf p 40 4) g.size
    let root := g.pos = pf p 46 2
    let sb := srcBytes opc sh g.size root
    let db := dstBytes opc sh g.size root
    let refuse (st d : Nat) : State :=
      complete r st (detailOf d) (s.modGroup r.part num (fun q => { q with inst := (q.inst + 1) % 128 }))
    if (sb ≠ 0 && !s.inCarve r.part (pf p 24 6) sb) || (db ≠ 0 && !s.inCarve r.part (pf p 32 6) db) then
      refuse stNotPermitted 0
    else
      let resv := if cls = 4 then none else s.sendResv r.part cls (pf p 48 4)
      if cls ≠ 4 && resv.isNone then refuse stWrongState 0x0801
      else
        match sendRefusal s r.part with
        | some (st, d) => refuse st d
        | none =>
          let n := g.size
          let nr := (n - 1) * sh.ur
          let last := (g.pos + 1) % n = pf p 46 2
          let c : Collective :=
            { ref := r, op := pf p 21 1, inFmt := pf p 22 1, outFmt := pf p 23 1, srcAddr := pf p 24 6,
              dstAddr := pf p 32 6, count := pf p 40 4, cls := cls, root := pf p 46 2, resv := resv.map (fun x => x.entry),
              timeoutUs := pf p 52 2, saturate := bitOf p.flags.toNat 5, fenceSet := bitOf p.flags.toNat 4,
              received := 0, sent := 0, saturations := 0
              toWrite := if opc = 2 then sh.ur + (n - 1) * sh.ug else if opc = 3 then sh.ur
                else if opc = 4 then n * sh.ug else if root then 0 else sh.ug
              toSend := if opc = 2 then nr + (n - 1) * sh.ug else if opc = 3 then nr
                else if opc = 4 then (n - 1) * sh.ug else if root || !last then sh.ug else 0
              handled := [], ownDone := [], unsettled := 0, delay := 0, lastChunk := s.now, preempted := false }
          (hold r s).modGroup r.part num (fun q => { q with running := some c })

/-- The running collective of a group ends: the instance advances, and what it had not yet sent is dropped (R158). -/
def endCollective (part num st : Nat) (result : BitVec 128) (s : State) : State :=
  match s.group? part num with
  | none => s
  | some g =>
    match g.running with
    | none => s
    | some c =>
      let mine (x : TxParcel) : Bool := x.ref = some c.ref && x.pseq.isNone
      let s1 := s.modGroup part num (fun q => { q with running := none, arrived := [], inst := (q.inst + 1) % 128 })
      complete c.ref st result
        { s1 with gl := { s1.gl with parcels := s1.gl.parcels.filter (fun x => !mine x) } }

/-- A collective ends and its group is released (R141, R159). -/
def faultCollective (part num st d : Nat) (s : State) : State :=
  releaseGroup part num (endCollective part num st (detailOf d) s)

/-- A running collective is squashed and its group released (R141). -/
def squashCollective (part num cause : Nat) (s : State) : State :=
  match (s.group? part num).bind (fun g => g.running) with
  | none => s
  | some c =>
    let mine (x : TxParcel) : Bool := x.ref = some c.ref && x.pseq.isNone
    squash cause c.ref
      (releaseGroup part num { s with gl := { s.gl with parcels := s.gl.parcels.filter (fun x => !mine x) } })

/-- A collective completes once all is written, sent and settled (R158). -/
def finishCollective (part num : Nat) (s : State) : State :=
  match s.group? part num with
  | none => s
  | some g =>
    match g.running with
    | none => s
    | some c =>
      if c.toWrite ≠ 0 || c.toSend ≠ 0 || c.unsettled ≠ 0 then s
      else if c.delay ≠ 0 then endCollective part num stDelayed (detailOf c.delay) s
      else
        endCollective part num stOk
          (resultOf [(16, 4, c.received), (20, 4, c.sent), (24, 4, c.saturations), (28, 1, g.inst)]) s

/-! ### Chunks (R146 to R149) -/

/-- KIND_INFO of a CHUNK parcel (R147). -/
def chunkInfo (group inst unit : Nat) (gather : Bool) : Word :=
  BitVec.ofNat 32 (group % 256 + 2 ^ 8 * (inst % 128) + fldB 15 gather + 2 ^ 16 * unit)

/-- The collective of a group changed by `f` while it runs. -/
def State.modCollective (s : State) (part num : Nat) (f : Collective → Collective) : State :=
  s.modGroup part num (fun g => { g with running := g.running.map f })

/-- A unit sent to the successor as a CHUNK parcel (R146, R151). -/
def sendChunk (g : Group) (c : Collective) (unit : Nat) (gather : Bool) (bytes : List Byte) (s : State) : State :=
  let id := s.gl.nextId
  let s1 := s.addParcel (fun i => mkParcel i g.part (.chunk g.num unit gather) (some c.ref) g.succ c.cls 0 bytes.length 0
    (chunkInfo g.num g.inst unit gather) (.chunk bytes) c.resv false s.now)
  let s2 := if c.fenceSet then s1.modCtx c.ref.slot (fun x => { x with openSet := x.openSet ++ [newMember id] }) else s1
  s2.modCollective g.part g.num (fun x =>
    { x with sent := x.sent + 1, toSend := x.toSend - 1, unsettled := x.unsettled + 1 })

/-- The place in the staging area that no staged chunk holds. -/
def Group.freeStage (g : Group) : Option Nat := (List.range 64).find? (fun k => !g.staged.any (fun x => x.slot = k))

/-- A CHUNK parcel at its group (R148, R149): staged, held for the running collective, or refused with NO_BUFFER. The
answer is the PACK result's STAGED, none for NO_BUFFER. -/
def acceptChunk (part src pseq epoch cls : Nat) (info : Nat) (bytes : List Byte) (s : State) : Option Bool × State :=
  let refuse : Option Bool × State := (none, plumbEvent 0x82 0 0 (some part) false src (some part) s)
  match s.group? part (bitsOf info 0 8) with
  | none => refuse
  | some g =>
    let inst := bitsOf info 8 7
    if src ≠ g.pred || (inst ≠ g.inst && inst ≠ (g.inst + 1) % 128) then refuse
    else
      let live := inst = g.inst && (match g.running with | some c => !c.preempted | none => false)
      let x : StagedChunk := { unit := bitsOf info 16 16, gather := bitOf info 15, instance_ := inst, pseq := pseq,
                               epoch := epoch, cls := cls, slot := 0, bytes := bytes }
      if live then
        (some false, (s.modGroup part g.num (fun q => { q with arrived := q.arrived ++ [x] })).modCollective part g.num
          (fun c => { c with lastChunk := s.now }))
      else
        match g.freeStage with
        | none => refuse
        | some k =>
          (some true, (writeMem part (g.stageAddr + 4096 * k) bytes s).modGroup part g.num (fun q =>
            { q with staged := q.staged ++ [{ x with slot := k }] }))

/-- A staged unit's PACK record CONSUMED (R149). -/
def packConsumed (g : Group) (x : StagedChunk) (s : State) : State :=
  let o : PackOut := { part := g.part, dst := g.pred, domain := (s.part g.part).domain, cls := x.cls,
                       record := { pseq := x.pseq, epoch := x.epoch, result := 5, copy := false, staged := false } }
  { s with gl := { s.gl with packq := s.gl.packq ++ [o] } }

/-- The arriving chunk of a unit taken from where it waits. -/
def takeChunk (g : Group) (unit : Nat) (gather : Bool) (s : State) : Option (List Byte × State) :=
  let isIt (x : StagedChunk) : Bool := x.unit = unit && x.gather = gather && x.instance_ = g.inst
  match g.arrived.find? isIt with
  | some x => some (x.bytes, s.modGroup g.part g.num (fun q => { q with arrived := q.arrived.filter (fun y => !isIt y) }))
  | none =>
    match g.staged.find? isIt with
    | some x => some (x.bytes, packConsumed g x
        (s.modGroup g.part g.num (fun q => { q with staged := q.staged.filter (fun y => !isIt y) })))
    | none => none

/-! ### REDUCE_FORWARD_UNIT (R150) -/

/-- The opcode of a running collective. -/
def Collective.opc (c : Collective) : Nat := c.ref.op

/-- The first element of a unit within its shard, and its number of elements of `w` bytes (R146). -/
def unitSpan (shard w k : Nat) : Nat × Nat := (k * (4096 / w), min (4096 / w) (shard - k * (4096 / w)))

/-- A unit handled: what is left to write falls by one where it was written. -/
def noteUnit (g : Group) (unit : Nat) (gather wrote got : Bool) (sats : Nat) (s : State) : State :=
  s.modCollective g.part g.num (fun c => { c with
    handled := c.handled ++ [(unit, gather)]
    toWrite := if wrote then c.toWrite - 1 else c.toWrite
    received := if got then c.received + 1 else c.received
    saturations := c.saturations + sats })

/-- A reduce unit on one lane pair (R145, R150): the chain's start sends its contribution, the owner writes the result, any
other member combines and sends on. -/
def reduceUnit (g : Group) (c : Collective) (sh : Shape) (unit : Nat) (data : UnitData) (s : State) : State :=
  let j := unit / sh.ur
  let k := unit % sh.ur
  let (e0, cnt) := unitSpan sh.shard sh.wp k
  let localBytes := (readBytes data.localRead).take (cnt * sh.win)
  let start := g.pos = (j + 1) % g.size
  let owner := g.pos = j
  let go (incoming : Option (List Byte)) (t : State) : State :=
    let (part, sats) := combineBytes c.op c.inFmt incoming localBytes
    if owner then
      let (out, more) := convertBytes c.op c.inFmt c.outFmt c.saturate part
      let base := if c.opc = 3 then c.dstAddr else c.dstAddr + j * sh.shard * sh.wout
      noteUnit g unit false true true (sats + more)
        ((writeMem g.part (base + e0 * sh.wout) out t).modCollective g.part g.num (fun x =>
          { x with ownDone := x.ownDone ++ [(k, out)] }))
    else noteUnit g unit false false incoming.isSome sats (sendChunk g c unit false part t)
  if start then go none s
  else
    match takeChunk g unit false s with
    | none => s
    | some (bytes, t) =>
      if bytes.length ≠ cnt * sh.wp then endCollective g.part g.num stWrongState (detailOf 0x0516) t
      else go (some bytes) t

/-- The reduce units that hold the elements of gather unit k of the own shard are done, and its bytes. -/
def Collective.ownUnit (c : Collective) (sh : Shape) (k : Nat) : Option (List Byte) :=
  let (e0, cnt) := unitSpan sh.shard sh.wout k
  let per := 4096 / sh.wp
  let first := e0 / per
  let last := (e0 + cnt - 1) / per
  let units := (List.range (last + 1 - first)).map (fun i => first + i)
  if units.all (fun u => c.ownDone.any (fun d => d.1 = u)) then
    let bytes := units.flatMap (fun u => ((c.ownDone.find? (fun d => d.1 = u)).map (fun d => d.2)).getD [])
    some ((bytes.drop ((e0 - first * per) * sh.wout)).take (cnt * sh.wout))
  else none

/-- A gather unit (R144, R150). -/
def gatherUnit (g : Group) (c : Collective) (sh : Shape) (unit : Nat) (data : UnitData) (s : State) : State :=
  let j := unit / sh.ug
  let k := unit % sh.ug
  let (e0, cnt) := unitSpan sh.shard sh.wout k
  let first := if c.opc = 5 then c.root else j
  let start := g.pos = first
  let addr := (if c.opc = 5 then c.dstAddr else c.dstAddr + j * sh.shard * sh.wout) + e0 * sh.wout
  if start then
    if c.opc = 2 then
      match c.ownUnit sh k with
      | none => s
      | some bytes => noteUnit g unit true false false 0 (sendChunk g c unit true bytes s)
    else
      let bytes := (readBytes data.localRead).take (cnt * sh.wout)
      let s1 := if c.opc = 4 then writeMem g.part addr bytes s else s
      noteUnit g unit true (c.opc = 4) false 0 (sendChunk g c unit true bytes s1)
  else
    match takeChunk g unit true s with
    | none => s
    | some (bytes, t) =>
      if bytes.length ≠ cnt * sh.wout then endCollective g.part g.num stWrongState (detailOf 0x0516) t
      else
        let t1 := noteUnit g unit true true true 0 (writeMem g.part addr bytes t)
        if (g.pos + 1) % g.size = first then t1 else sendChunk g c unit true bytes t1

/-- The unit reads a local contribution. -/
def readsLocal (g : Group) (c : Collective) (sh : Shape) (unit : Nat) (gather : Bool) : Bool :=
  if !gather then true
  else c.opc ≠ 2 && g.pos = (if c.opc = 5 then c.root else unit / sh.ug)

/-- REDUCE_FORWARD_UNIT (R136, R150, R159): a unit of the running collective on one seal-lane pair of the tile towards the
successor. -/
def reduceForwardUnit (part num unit : Nat) (gather : Bool) (data : UnitData) (s : State) : State :=
  match s.group? part num with
  | none => s
  | some g =>
    match g.running with
    | none => s
    | some c =>
      let sh := shapeOf c.opc c.op c.inFmt c.outFmt c.count g.size
      let per := if gather then sh.ug else sh.ur
      if !s.running || c.preempted || c.handled.contains (unit, gather) || shardsOf c.opc g.size * per ≤ unit then s
      else if !data.twinsOk then
        endCollective part num stTwinMismatch (detailOf (0x100 + data.lanePair % 96))
          (twinEvent (0x10 + data.lanePair % 96 / 12) (0x100 + data.lanePair % 96) part s)
      else
        let bad := if readsLocal g c sh unit gather then readCause data.localRead else none
        match bad with
        | some cause => readFail part data.localRead (endCollective part num stJobFaulted (detailOf cause) s)
        | none =>
          finishCollective part num
            (if gather then gatherUnit g c sh unit data s else reduceUnit g c sh unit data s)

/-- COLLECTIVE_TIMEOUT (R159): no chunk for TIMEOUT_US while the collective runs and is not pre-empted. -/
def collectiveTimeout (part num : Nat) (s : State) : State :=
  match (s.group? part num).bind (fun g => g.running) with
  | none => s
  | some c =>
    if !s.running || c.preempted then s
    else endJob part 5 c.ref.slot (faultCollective part num stJobFaulted 5 (s.atTime (c.lastChunk + 1000 * c.timeoutUs)))

/-! ### UNFOLD (R162 to R168, R206) -/

/-- Output bytes of an unfold element: BF16 2, FP8 1. -/
def unfoldWidth (o : Nat) : Nat := if o = 0x02 then 2 else 1

/-- The units a block range reads: first and number (R206). -/
def unitRange (inFmt first blocks : Nat) : Nat × Nat :=
  let b := mxBlocks inFmt
  (first / b, (first + blocks - 1) / b - first / b + 1)

def layoutUnfold (p : Packet) (_ : State) : Layout :=
  let i := pf p 20 1
  let o := pf p 21 1
  let separate := pbit p 22 0
  let blocks := pf p 60 2
  let (u0, n) := unitRange i (pf p 56 4) blocks
  let outLen := 32 * blocks * unfoldWidth o
  let out := pf p 36 6
  let clash := overlaps out outLen (pf p 24 6 + 4096 * u0) (4096 * n) || overlaps out outLen (pf p 30 6 + 16 * u0) (16 * n) ||
    (separate && overlaps out outLen (pf p 42 6) blocks)
  { cflags := 0x70
    fields := [(20, 0, 8), (21, 0, 8), (22, 0, 2), (23, 0, 8), (24, 0, 48), (30, 0, 48), (36, 0, 48), (42, 0, 48),
      (48, 0, 64), (56, 0, 32), (60, 0, 16), (62, 0, 10)]
    ranges := [badClass p, (20, i < 0x20 || 0x25 < i), (21, o ≠ 0x02 && o ≠ 0x04 && o ≠ 0x05),
      (23, separate && pf p 23 1 ≠ 0), (24, pf p 24 6 % 4096 ≠ 0), (30, pf p 30 6 % 16 ≠ 0),
      (36, out % unfoldWidth o ≠ 0 || (blocks ≠ 0 && clash)), (42, !separate && pf p 42 6 ≠ 0), (60, blocks = 0)] }

/-- UNFOLD (R164, R168, R206). -/
def startUnfold (r : CmdRef) (p : Packet) (s : State) : State :=
  let i := pf p 20 1
  let blocks := pf p 60 2
  let (u0, n) := unitRange i (pf p 56 4) blocks
  let image := pf p 24 6
  let tags := pf p 30 6
  let out := pf p 36 6
  let scale := pf p 42 6
  let slot := pbits p 62 0 10
  let cls := flagClass p
  let inAp (a : Nat) : Bool := apBase ≤ a
  if !s.inCarve r.part (image + 4096 * u0) (4096 * n) || !s.inCarve r.part (tags + 16 * u0) (16 * n) ||
      !s.inCarve r.part out (32 * blocks * unfoldWidth (pf p 21 1)) ||
      (pbit p 22 0 && !s.inCarve r.part scale blocks) then complete r stNotPermitted (detailOf 0) s
  else if inAp (image + 4096 * u0) || inAp (tags + 16 * u0) then complete r stWrongState (detailOf 0x0603) s
  else if lacksSillResv s r.part cls then complete r stWrongState (detailOf 0x0604) s
  else
    match s.keyFor r slot with
    | none => complete r stKeyAbsent (detailOf slot) s
    | some k =>
      if !bitOf k.attr.toNat 3 then complete r stKeyRefused (detailOf 0x05) s
      else
        let u : Unfolding := { ref := r, desc := BitVec.ofNat 32 (pf p 20 4), imageAddr := image, tagAddr := tags,
                               outAddr := out, scaleAddr := scale, imageId := BitVec.ofNat 64 (pf p 48 8),
                               first := pf p 56 4, blocks := blocks, keySlot := slot, cls := cls,
                               pendingUnits := (List.range n).map (fun x => u0 + x), verified := 0, written := 0,
                               saturations := 0, delay := 0 }
        let s1 := hold r s
        { s1 with inl := { s1.inl with unfolds := s1.inl.unfolds ++ [u] } }

/-- An UNFOLD leaves the list of those in progress. -/
def State.dropUnfold (s : State) (r : CmdRef) : State :=
  { s with inl := { s.inl with unfolds := s.inl.unfolds.filter (fun u => u.ref ≠ r) } }

/-- The outputs of the blocks of a unit that lie in the range, and their saturations (R165, R167). -/
def unfoldBytes (u : Unfolding) (unit : Nat) (plain : List Byte) : List Byte × Nat :=
  let i := bitsOf u.desc.toNat 0 8
  let o := bitsOf u.desc.toNat 8 8
  let b := mxBlocks i
  let lo := max u.first (unit * b)
  let hi := min (u.first + u.blocks) ((unit + 1) * b)
  let rs := (List.range (hi - lo)).map (fun k =>
    mxBlock i o (!bitOf u.desc.toNat 16) (bitOf u.desc.toNat 17) (signedOf 8 (bitsOf u.desc.toNat 24 8)) plain
      (lo + k - unit * b))
  (rs.flatMap (fun x => x.1), rs.foldl (fun n x => n + x.2) 0)

/-- The last unit of an UNFOLD ends the command. The time a BE one waited for capacity is a free value: the model keeps no
clock of the lanes (R206, R280, log 7). -/
def finishUnfold (u : Unfolding) (s : State) : State :=
  let (d, s1) := if u.cls = 4 then s.draw else (0, s)
  if 1000 < d then complete u.ref stDelayed (detailOf d) (s1.dropUnfold u.ref)
  else complete u.ref stOk (resultOf [(16, 4, u.verified), (20, 4, u.written), (24, 4, u.saturations)]) (s1.dropUnfold u.ref)

/-- A verified unit's outputs written (R165, R167). -/
def writeUnit (u : Unfolding) (unit : Nat) (plain : List Byte) (s : State) : State :=
  let b := mxBlocks (bitsOf u.desc.toNat 0 8)
  let w := unfoldWidth (bitsOf u.desc.toNat 8 8)
  let lo := max u.first (unit * b)
  let hi := min (u.first + u.blocks) ((unit + 1) * b)
  let (out, sats) := unfoldBytes u unit plain
  let s1 := writeMem u.ref.part (u.outAddr + 32 * (lo - u.first) * w) out s
  let s2 := if bitOf u.desc.toNat 16 then
      writeMem u.ref.part (u.scaleAddr + (lo - u.first)) ((plain.drop (3840 + lo - unit * b)).take (hi - lo)) s1
    else s1
  let u1 := { u with pendingUnits := u.pendingUnits.filter (fun x => x ≠ unit), verified := u.verified + 1,
                     written := u.written + (hi - lo), saturations := u.saturations + sats }
  let s3 := { s2 with inl := { s2.inl with unfolds := s2.inl.unfolds.map (fun x => if x.ref = u.ref then u1 else x) } }
  if u1.pendingUnits.isEmpty && s3.inl.unfolds.any (fun x => x.ref = u.ref) then finishUnfold u1 s3 else s3

/-- UNFOLD_UNIT (R136, R165, R207, R558). -/
def unfoldUnit (part slot seq unit : Nat) (data : WeightUnit) (s : State) : State :=
  match s.inl.unfolds.find? (fun u => u.ref.part = part && u.ref.slot = slot && u.ref.seq = seq) with
  | none => s
  | some u =>
    if !s.running || !u.pendingUnits.contains unit then s
    else
      match data.uncorrectable with
      | some tile => readFail part (.uncorrectable tile) s
      | none =>
        if !data.twinsOk then
          complete u.ref stTwinMismatch (detailOf (0x300 + data.lanePair % 72))
            (twinEvent (0x18 + data.lanePair % 72 / 18) (0x300 + data.lanePair % 72) part (s.dropUnfold u.ref))
        else if !data.tagOk then
          endJob part 2 slot (complete u.ref stJobFaulted (detailOf 2) (s.dropUnfold u.ref))
        else writeUnit u unit data.plain s

end Sys2Proof.Machine
end

