-- ==== Sys2Proof/Machine/Parcels.lean ====
section
/-! DEFINITION. Parcels at their source and destination (04 R107 to R129, 08 R264, R275, R276): eligibility, settlement, broken
bounds, acceptance, and the class 0x4 commands. -/

namespace Sys2Proof.Machine

/-! ### Trace records of parcels (R495, R496) -/

/-- A PARCEL record of a command: 3 SENT, 4 SETTLED, 5 PLACED. -/
def traceParcel (r : CmdRef) (type pseq peer ptag epoch hops : Nat) (copy : Bool) (s : State) : State :=
  traceCtx r.part r.slot 1
    { r.record s.now type 0 (peer % 2 ^ 16 + 2 ^ 16 * ptag + 2 ^ 32 * epoch + 2 ^ 40 * hops + fldB 48 copy) with seq := pseq } s

/-- A UNIT record: a 4 KiB unit that starts on a lane (R495), and its engine time, which the model leaves free (R489,
log 7). -/
def traceUnit (r : CmdRef) (engine : Nat) (s : State) : State :=
  let (d, s1) := s.draw
  account r.slot (fun a => { a with unitNs := a.unitNs + d }) (traceCtx r.part r.slot 5 (r.record s1.now 0x0A 0 engine) s1)

/-! ### Class 0x4 commands (R126 to R129) -/

/-- SEND and SEND_MIRROR: what R126 calls malformed. -/
def layoutSendKind (mirror : Bool) (p : Packet) (s : State) : Layout :=
  let dst := pf p 20 2
  let cls := pf p 22 1
  { cflags := 0x10, fields := [(20, 0, 11), (22, 0, 8), (24, 0, 48), (32, 0, 32), (36, 0, 32), (40, 0, 32)]
    ranges := [(20, dst < 2048 && (dst = s.chip || !s.chipInside dst)),
      (22, cls = 0 || 4 < cls || (mirror && cls ≠ 1)), (32, pf p 32 4 = 0 || 65536 < pf p 32 4),
      (40, cls = 4 && pf p 40 4 ≠ 0)] }

def layoutSend (p : Packet) (s : State) : Layout := layoutSendKind false p s
def layoutSendMirror (p : Packet) (s : State) : Layout := layoutSendKind true p s

/-- Unsettled parcels of a partition to a chip (R113). -/
def State.unsettledTo (s : State) (part dst : Nat) : Nat :=
  (s.gl.parcels.filter (fun x => x.part = part && x.dst = dst)).length

/-- Parcels of a partition to a chip whose first flit has left (R113). -/
def State.unackedTo (s : State) (part dst : Nat) : Nat :=
  (s.gl.parcels.filter (fun x => x.part = part && x.dst = dst && x.pseq.isSome)).length

/-- Older epochs of a route with unsettled parcels (R124). -/
def State.drainingEpochs (s : State) (part dst : Nat) (mirror : Bool) : List Nat :=
  (((s.gl.parcels.filter (fun x => x.part = part && x.dst = dst && x.pseq.isSome && (!mirror || x.mirror))).map
    (fun x => if mirror then x.epochM else x.epoch)).eraseDups).filter (fun e => e ≠ s.routeEpoch part dst mirror)

/-- A route is FULL (R124). -/
def State.routeFull (s : State) (part dst : Nat) (mirror : Bool) : Bool :=
  4 ≤ (s.drainingEpochs part dst mirror).length || (mirror && 4 ≤ (s.drainingEpochs part dst false).length)

/-- A SEND waits in staging (R113, R124). -/
def waitsSend (part : Nat) (mirror : Bool) (p : Packet) (s : State) : Bool :=
  64 ≤ s.unsettledTo part (pf p 20 2) || s.routeFull part (pf p 20 2) mirror

/-- SEND and SEND_MIRROR (R108, R126, R235). -/
def startSendKind (mirror : Bool) (r : CmdRef) (p : Packet) (s : State) : State :=
  let cls := pf p 22 1
  let len := pf p 32 4
  let resv := if cls = 4 then none else s.sendResv r.part cls (pf p 40 4)
  if cls ≠ 4 && resv.isNone then complete r stWrongState (detailOf 0x0801) s
  else if !s.inCarve r.part (pf p 24 6) len then complete r stNotPermitted (detailOf 0) s
  else
    match sendRefusal s r.part with
    | some (st, d) => complete r st (detailOf d) s
    | none =>
      let id := s.gl.nextId
      let s1 := (hold r s).addParcel (fun i =>
        mkParcel i r.part .data (some r) (pf p 20 2) cls (pf p 24 6) len (pf p 36 4) 0 (.data [])
          (resv.map (fun x => x.entry)) mirror s.now)
      if bitOf p.flags.toNat 4 then s1.modCtx r.slot (fun c => { c with openSet := c.openSet ++ [newMember id] }) else s1

def startSend (r : CmdRef) (p : Packet) (s : State) : State := startSendKind false r p s
def startSendMirror (r : CmdRef) (p : Packet) (s : State) : State := startSendKind true r p s

def layoutRecvPost (p : Packet) (_ : State) : Layout :=
  { cflags := 0, fields := [(20, 0, 48), (28, 0, 32), (32, 0, 32), (36, 0, 16)]
    ranges := [(28, pf p 28 4 = 0 || 65536 < pf p 28 4), (36, pf p 36 2 ≠ 0xFFFF && 2048 ≤ pf p 36 2)] }

/-- RECV_POST (R128). -/
def startRecvPost (r : CmdRef) (p : Packet) (s : State) : State :=
  let b : Posted := { ref := r, addr := pf p 20 6, len := pf p 28 4, tag := pf p 32 4, filter := pf p 36 2 }
  if !s.inCarve r.part b.addr b.len then complete r stNotPermitted (detailOf 0) s
  else if 1024 ≤ (s.gl.posted.filter (fun x => x.ref.part = r.part)).length then
    complete r stNoResource (detailOf 0x0402) s
  else
    let s1 := hold r s
    { s1 with gl := { s1.gl with posted := s1.gl.posted ++ [b] } }

def layoutRecvCancel (p : Packet) (_ : State) : Layout :=
  { cflags := 0, fields := [(20, 0, 32), (24, 0, 16)], ranges := [(24, pf p 24 2 ≠ 0xFFFF && 2048 ≤ pf p 24 2)] }

/-- RECV_CANCEL (R129). -/
def startRecvCancel (r : CmdRef) (p : Packet) (s : State) : State :=
  match s.gl.posted.find? (fun b => b.ref.part = r.part && b.ref.slot = r.slot && b.tag = pf p 20 4 && b.filter = pf p 24 2) with
  | none => complete r stWrongState (detailOf 0) s
  | some b => complete r stOk 0 (squash 7 b.ref { s with gl := { s.gl with posted := s.gl.posted.erase b } })

/-! ### Slices (R279) -/

/-- The context that holds the slice of a partition's class. -/
def State.sliceOf (s : State) (part cls : Nat) : Option Nat :=
  (s.cal.slices.find? (fun x => x.1 = part && x.2.1 = cls)).map (fun x => x.2.2)

def State.setSlice (s : State) (part cls : Nat) (ctx : Option Nat) : State :=
  let rest := s.cal.slices.filter (fun x => !(x.1 = part && x.2.1 = cls))
  { s with cal := { s.cal with slices := match ctx with | none => rest | some c => rest ++ [(part, cls, c)] } }

/-- The context of a parcel's command. -/
def TxParcel.ctx (x : TxParcel) : Option Nat := x.ref.map (fun r => r.slot)

/-- A context has work ready in a class: a parcel not yet eligible, a running collective or unfold, or work that was
pre-empted. -/
def State.readyIn (s : State) (part cls slot : Nat) : Bool :=
  s.gl.parcels.any (fun x => x.part = part && x.cls = cls && x.ctx = some slot && x.eligibleAt.isNone) ||
  s.inl.groups.any (fun g => g.part = part && (match g.running with | some c => c.cls = cls && c.ref.slot = slot | none => false)) ||
  s.inl.unfolds.any (fun u => u.ref.part = part && u.cls = cls && u.ref.slot = slot) ||
  (match s.ctx? slot with | some c => c.part = part && c.preempted.contains cls | none => false)

/-- A context may use a class: it holds the slice, or the holder has nothing ready (R279). -/
def State.maySlice (s : State) (part cls slot : Nat) : Bool :=
  match s.sliceOf part cls with
  | none => true
  | some h => h = slot || !s.readyIn part cls h

/-! ### Broken bounds (R275) -/

/-- ST_BOUND_BROKEN for a parcel, once; its command takes no further reply for it. -/
def boundBroken (x : TxParcel) (s : State) : State :=
  if x.broken then s
  else
    let s1 := s.modParcel x.id (fun y => { y with broken := true })
    match x.kind, x.ref with
    | .chunk g _ _, some r =>
      match (s.group? x.part g).bind (fun q => q.running) with
      | some c => if c.ref = r then endCollective x.part g stBoundBroken (detailOf x.deadline) s1 else s1
      | none => s1
    | _, some r => complete r stBoundBroken (detailOf x.deadline) s1
    | _, none => s1

/-- An RC or TC parcel of a reservation that has become eligible and has not settled. -/
def TxParcel.bounded (x : TxParcel) : Bool := x.eligibleAt.isSome && x.resv.isSome && 1 ≤ x.cls && x.cls ≤ 3

/-- LDT (R275). -/
def TxParcel.ldt (x : TxParcel) (r : Resv) : Nat := x.deadline - r.hops * 250 - 200

/-- A copy that holds its reservation's positions has sent its last flit. -/
def TxParcel.gone (x : TxParcel) (r : Resv) : Bool :=
  if !x.mirror then x.flits ≤ x.sent
  else (r.keeps false && x.flits ≤ x.sent) || (r.keeps true && x.flits ≤ x.sentMirror)

/-- The parcel's departure is late (R275). -/
def State.ldtBroken (s : State) (x : TxParcel) : Bool :=
  x.bounded && (match x.resv.bind s.resv? with
    | some r => x.ldt r ≤ s.now && !x.gone r
    | none => false)

/-- LDT_PASSED: LDT has passed and the last flit has not left. -/
def ldtPassed (id : Nat) (s : State) : State :=
  match s.parcel? id with
  | none => s
  | some x =>
    let t := s.atTime ((x.resv.bind s.resv?).elim 0 (fun r => x.ldt r))
    if s.running && t.ldtBroken x then boundBroken x t else s

/-- BOUND_NOTICE_RECEIVE (R275, R276). -/
def boundNoticeReceive (n : BoundNotice) (s : State) : State :=
  if !s.running then s
  else
    match s.gl.parcels.find? (fun x => x.ptag = n.ptag && x.dst = n.dst && x.pseq.isSome && 1 ≤ x.cls && x.cls ≤ 3) with
    | none => { s with gl := { s.gl with noticesIgnored := s.gl.noticesIgnored + 1 } }
    | some x =>
      let margin := (x.resv.bind s.resv?).elim false (fun r => r.detour) && x.detourNotices = 0
      let s1 := if n.reason = 2 then s.modParcel x.id (fun y => { y with detourNotices := y.detourNotices + 1 }) else s
      if x.deadline ≤ s.now then s1
      else if n.reason = 1 || (n.reason = 2 && !margin) then boundBroken x s1
      else s1

/-! ### Eligibility (R149, R264, R275) -/

/-- No earlier parcel of the same context and class waits. -/
def State.headParcel (s : State) (x : TxParcel) : Bool :=
  match s.gl.parcels.find? (fun y => y.part = x.part && y.cls = x.cls && y.ctx = x.ctx && y.eligibleAt.isNone) with
  | some y => y.id = x.id
  | none => false

/-- The staging credits that a chunk needs are there. -/
def State.creditFor (s : State) (x : TxParcel) : Bool :=
  match x.kind with
  | .chunk g _ _ => (match s.group? x.part g with | some q => 0 < q.credits | none => false)
  | _ => true

/-- The marks of eligibility: time, deadline, slice, staging credit, and the time its command waited, which the model
leaves free (R489, log 7). -/
def markEligible (x : TxParcel) (deadline : Nat) (s : State) : State :=
  let s1 := s.modParcel x.id (fun y => { y with eligibleAt := some s.now, deadline := deadline })
  let s2 := match x.kind with
    | .chunk g _ _ => s1.modGroup x.part g (fun q => { q with credits := q.credits - 1 })
    | _ => s1
  match x.ctx with
  | none => s2
  | some slot =>
    let (d, s3) := s2.draw
    account slot (fun a => { a with queueWaitNs := a.queueWaitNs + d }) (s3.setSlice x.part x.cls (some slot))

/-- PARCEL_ELIGIBLE (R264, R271, R275). -/
def parcelEligible (id : Nat) (s : State) : State :=
  match s.parcel? id with
  | none => s
  | some x =>
    if !s.running || x.eligibleAt.isSome || (s.part x.part).struck || !s.headParcel x || !s.creditFor x ||
        (match x.ctx with | some c => !s.maySlice x.part x.cls c | none => false) then s
    else if x.cls = 4 then
      match s.shaper? x.part 1 with
      | none => markEligible x 0 s
      | some h =>
        let h1 := s.refillShaper h
        if h1.tokens < 256000 * x.flits then s
        else markEligible x 0 (s.setShaper { h1 with tokens := h1.tokens - 256000 * x.flits })
    else
      match x.resv with
      | none =>
        let (d, s1) := s.draw
        markEligible x (if x.cls = 0 then 0 else s.now + d) s1
      | some e =>
        match s.resv? e with
        | none => s
        | some r =>
          let r1 := s.refill r
          if r1.tokens < r.flitCost x.flits then s
          else
            let s1 := markEligible x (s.now + r.bound)
              (s.modResv e (fun _ => { r1 with tokens := r1.tokens - r.flitCost x.flits }))
            match s1.parcel? id with
            | some y => if r.state = .degraded then boundBroken y s1 else s1
            | none => s1

/-! ### Settlement (R115, R124, R127) -/

/-- A parcel leaves the source's list: its epoch may have drained, and a released reservation may end. -/
def State.dropParcel (s : State) (id : Nat) : State :=
  { s with gl := { s.gl with parcels := s.gl.parcels.filter (fun x => x.id ≠ id) } }

/-- A command's reply for a parcel: none after ST_BOUND_BROKEN; in P0's drain whatever the context's generation (R430). -/
def replyParcel (x : TxParcel) (st : Nat) (result : BitVec 128) (s : State) : State :=
  match x.ref with
  | none => s
  | some r => if x.broken then s else if x.drain then answer r st result s else complete r st result s

/-- A released reservation whose last parcel has left the source goes, its generation raised (R269). -/
def reapResv (s : State) : State :=
  let done (r : Resv) : Bool := r.state = .releasing && !s.gl.parcels.any (fun x => x.resv = some r.entry && x.leftAt.isNone)
  let ended := s.cal.resvs.filter done
  { s with cal := { s.cal with
      resvs := s.cal.resvs.filter (fun r => !done r)
      resvGens := ended.foldl (fun l r => assocSet l r.entry ((r.gen + 1) % 256)) s.cal.resvGens } }

/-- Fences that a lost or forged member ends (R239): those that hold the parcel, or wait for the epoch it was sent in. -/
def faultFences (x : TxParcel) (cause : Nat) (s : State) : State :=
  let waits (m : FenceMember) : Bool :=
    m.parcel = x.id || (m.settled && m.dst = x.dst && (m.epoch = x.epoch || (m.mirror && x.mirror && m.epochM = x.epochM)))
  let hit (f : Fence) : Bool := f.ref.part = x.part && f.members.any waits
  s.cmds.ctxs.foldl (fun t c =>
    let fs := c.fences.filter hit
    let hs := c.held.filter (fun h => fs.any (fun f => f.ref.seq = h.behind))
    let t1 := t.modCtx c.slot (fun q => { q with fences := q.fences.filter (fun f => !hit f),
                                                 held := q.held.filter (fun h => !hs.contains h) })
    hs.foldl (fun u h => complete h.ref stJobFaulted (detailOf cause) u)
      (fs.foldl (fun u f => complete f.ref stJobFaulted (detailOf cause) u) t1)) s

/-- A chunk's settlement (R149, R158, R159). -/
def settleChunk (x : TxParcel) (num result : Nat) (staged : Bool) (s : State) : State :=
  let s1 := s.modGroup x.part num (fun g =>
    if result = 0 && staged then { g with awaitConsumed := g.awaitConsumed ++ [x.pseq.getD 0] }
    else { g with credits := min 64 (g.credits + 1) })
  match (s1.group? x.part num).bind (fun g => g.running) with
  | none => s1
  | some c =>
    if x.ref ≠ some c.ref then s1
    else if result = 0 || result = 1 then
      finishCollective x.part num (s1.modCollective x.part num (fun q =>
        { q with unsettled := q.unsettled - 1, delay := q.delay + (if 1000 < x.delay then x.delay else 0) }))
    else if result = 2 then endCollective x.part num stBoundBroken (detailOf x.deadline) s1
    else if result = 3 then endCollective x.part num stWrongState (detailOf 0x0515) s1
    else endCollective x.part num stJobFaulted (detailOf 1) s1

/-- A pool request's settlement (R196, R202): from LATE, a die-network access goes once more in BE; an ATOMIC ends. -/
def settleRequest (x : TxParcel) (rid result : Nat) (s : State) : State :=
  match s.sill.remote.find? (fun q => q.id = rid) with
  | none => s
  | some q =>
    let drop (t : State) : State := { t with sill := { t.sill with remote := t.sill.remote.filter (fun y => y.id ≠ rid) } }
    let modReq (f : RemoteReq → RemoteReq) (t : State) : State :=
      { t with sill := { t.sill with remote := t.sill.remote.map (fun y => if y.id = rid then f y else y) } }
    if result = 0 || result = 1 then pumpRemote (modReq (fun y => { y with settledAt := some s.now }) s)
    else if result = 2 then
      match q.ref with
      | some r => complete r stBoundBroken (detailOf x.deadline) (drop s)
      | none =>
        let s1 := (modReq (fun y => { y with resentBe := true, pseq := none }) s).modView x.part (fun v =>
          { v with boundBreaks := v.boundBreaks + 1 })
        s1.addParcel (fun id => { mkParcel id x.part (.atomicReq rid) none x.dst 4 0 x.length 0 0 x.body none false s.now
          with eligibleAt := none })
    else
      match q.ref with
      | some r => complete r stJobFaulted (detailOf 1) (drop s)
      | none => (match q.access with | some a => answerAccess a kFault [] (drop s) | none => drop s)

/-- A remote signal's request has settled (R231). -/
def settleSignal (x : TxParcel) (s : State) : State :=
  match s.pegs.signals.find? (fun g => g.parcel = x.id) with
  | none => s
  | some g =>
    let g1 := { g with settledAt := some s.now }
    finishSignal g1 { s with pegs := { s.pegs with
      signals := s.pegs.signals.map (fun y => if y.ref = g.ref then g1 else y) } }

/-- The result of ST_OK for a SEND (R127). -/
def sendResult (x : TxParcel) (copy : Bool) : BitVec 128 :=
  resultOf [(16, 4, x.pseq.getD 0), (20, 1, if copy then x.epochM else x.epoch), (21, 1, x.hops), (22, 1, if copy then 1 else 0)]

/-- A SEND's settlement (R127). -/
def settleData (x : TxParcel) (result : Nat) (copy : Bool) (s : State) : State :=
  if result = 0 || result = 1 then
    if x.cls = 4 && 1000 < x.delay then replyParcel x stDelayed (detailOf x.delay) s
    else replyParcel x stOk (sendResult x copy) s
  else if result = 2 then replyParcel x stBoundBroken (detailOf x.deadline) s
  else if result = 3 then replyParcel x stNoResource (detailOf 0x0401) s
  else replyParcel x stJobFaulted (detailOf 1) s

/-- A parcel settles (R115): its command, its fence, its epoch. A tag failure ends the job. -/
def settleParcel (x : TxParcel) (result : Nat) (copy staged : Bool) (s : State) : State :=
  let placed := result = 0 || result = 1
  let s0 := match x.ref with
    | some r => traceParcel r 0x04 (x.pseq.getD 0) x.dst x.ptag (if copy then x.epochM else x.epoch) x.hops copy s
    | none => s
  let s1 := settleMember x placed (reapResv (s0.dropParcel x.id))
  let s2 := match x.kind with
    | .data => settleData x result copy s1
    | .chunk g _ _ => settleChunk x g result staged s1
    | .peg => settleSignal x s1
    | .atomicReq rid => settleRequest x rid result s1
    | .atomicResp => s1
  let s3 := if result = 4 then endJob x.part 1 (x.ctx.getD 0) (faultFences x 1 s2) else s2
  advanceAllFences s3

/-- A parcel is declared lost (R115, R434): its job ends with cause 4. -/
def declareLost (x : TxParcel) (s : State) : State :=
  let s1 := faultFences x 4 (s.dropParcel x.id)
  let s2 := match x.kind, x.ref with
    | .chunk g _ _, some r =>
      match (s1.group? x.part g).bind (fun q => q.running) with
      | some c => if c.ref = r then endCollective x.part g stJobFaulted (detailOf 4) s1 else s1
      | none => s1
    | .peg, _ =>
      match s1.pegs.signals.find? (fun g => g.parcel = x.id) with
      | some g => complete g.ref stJobFaulted (detailOf 4)
          { s1 with pegs := { s1.pegs with signals := s1.pegs.signals.filter (fun y => y.parcel ≠ x.id) } }
      | none => s1
    | .atomicReq rid, _ =>
      match s1.sill.remote.find? (fun q => q.id = rid) with
      | some q =>
        let t := { s1 with sill := { s1.sill with remote := s1.sill.remote.filter (fun y => y.id ≠ rid) } }
        (match q.ref, q.access with
          | some r, _ => complete r stJobFaulted (detailOf 4) t
          | none, some a => answerAccess a kFault [] t
          | none, none => t)
      | none => s1
    | _, _ => replyParcel x stJobFaulted (detailOf 4) s1
  advanceAllFences (reapResv (endJob x.part 4 (x.ctx.getD 0) s2))

/-- PARCEL_DECLARED_LOST (R115): 1 ms after its last flit left. -/
def parcelDeclaredLost (id : Nat) (s : State) : State :=
  match s.parcel? id with
  | none => s
  | some x =>
    match x.leftAt with
    | some t => if s.running then declareLost x (s.atTime (t + 1000000)) else s
    | none => s

/-- A CONSUMED record returns a staging credit (R149). -/
def recordConsumed (part src pseq : Nat) (s : State) : State :=
  match s.inl.groups.find? (fun g => g.part = part && g.succ = src && g.awaitConsumed.contains pseq) with
  | none => s
  | some g => s.modGroup part g.num (fun q =>
      { q with awaitConsumed := q.awaitConsumed.erase pseq, credits := min 64 (q.credits + 1) })

/-- One PACK record at the source (R115, R122). A DUPLICATE says of a mirror-sent parcel that its other copy was placed;
for any other unsettled parcel it names no placement, and is ignored (log 19). -/
def packRecord (part src cls : Nat) (k : PackRecord) (s : State) : State :=
  if k.result = 5 then recordConsumed part src k.pseq s
  else
    match s.gl.parcels.find? (fun x => x.part = part && x.dst = src && x.cls = cls && x.pseq = some k.pseq) with
    | none => s
    | some x =>
      if k.result = 1 then if x.mirror then settleParcel x 0 (!k.copy) false s else s
      else if k.result ≤ 4 then settleParcel x k.result k.copy k.staged s
      else s

/-- A misdirected parcel or PACK (R111, R114). -/
def misdirected (s : State) : State := plumbEvent 0x80 0 0 none false 0 none s

/-- PACK_RECEIVE (R114). -/
def packReceive (k : Pack) (s : State) : State :=
  if !s.running then s
  else
    match s.partOfDomain k.domain with
    | none => misdirected s
    | some part =>
      if !k.gmacOk || (s.key? part 0).isNone then misdirected s
      else k.records.foldl (fun t x => packRecord part k.src k.cls x t) s

/-! ### Acceptance at the destination (R111 to R113) -/

/-- The window of a source and partition. -/
def State.window (s : State) (part src : Nat) : RxWindow :=
  match s.gl.windows.find? (fun w => w.part = part && w.src = src) with
  | some w => w
  | none => { part := part, src := src, base := 0, received := [] }

/-- The window's base moved over the values received. -/
def slideWindow : Nat → RxWindow → RxWindow
  | 0, w => w
  | k + 1, w =>
    if w.received.contains w.base then slideWindow k { w with base := w.base + 1, received := w.received.erase w.base } else w

/-- A PSEQ received (R113). -/
def noteReceived (part src pseq : Nat) (s : State) : State :=
  let w := s.window part src
  let w1 := slideWindow 128 { w with received := w.received ++ [pseq] }
  { s with gl := { s.gl with windows := s.gl.windows.filter (fun x => !(x.part = part && x.src = src)) ++ [w1] } }

/-- A PACK record queued (R111 step 7). -/
def queuePack (part : Nat) (x : RxParcel) (result : Nat) (staged : Bool) (s : State) : State :=
  let o : PackOut := { part := part, dst := x.hdr.src, domain := x.hdr.domain, cls := x.hdr.cls,
                       record := { pseq := x.hdr.pseq, epoch := x.epoch, result := result, copy := x.mirror, staged := staged } }
  { s with gl := { s.gl with packq := s.gl.packq ++ [o] } }

/-- PKIND of a plaintext (R107). -/
def bodyKind : ParcelBody → Nat
  | .data _ => 1 | .chunk _ => 2 | .peg _ => 3 | .atomicReq _ => 4 | .atomicResp _ => 5

/-- The posted buffer a DATA parcel takes (R112). -/
def State.bufferFor (s : State) (part : Nat) (x : RxParcel) : Option Posted :=
  s.gl.posted.find? (fun b => b.ref.part = part && b.tag = x.hdr.recvTag && (b.filter = 0xFFFF || b.filter = x.hdr.src) &&
    x.hdr.length ≤ b.len)

/-- A DATA parcel placed (R112, R128), or NO_BUFFER. -/
def placeData (part : Nat) (x : RxParcel) (bytes : List Byte) (s : State) : State :=
  match s.bufferFor part x with
  | none => queuePack part x 3 false s
  | some b =>
    let s1 := { s with gl := { s.gl with posted := s.gl.posted.erase b } }
    let s2 := writeMem part b.addr bytes s1
    let s3 := traceParcel b.ref 0x05 x.hdr.pseq x.hdr.src x.ptag x.epoch 0 x.mirror s2
    queuePack part x 0 false
      (complete b.ref stOk (resultOf [(16, 4, x.hdr.length), (20, 2, x.hdr.src), (24, 4, x.hdr.pseq), (28, 1, x.hdr.cls)]) s3)

/-- An ATOMIC_RESP at its requester (R196): it names its request by home and PSEQ; one that matches none is discarded. -/
def placeResponse (part : Nat) (x : RxParcel) (m : PoolMsg) (s : State) : State :=
  match s.sill.remote.find? (fun q => q.part = part && q.home = x.hdr.src && q.pseq = some x.hdr.kindInfo.toNat && q.rop = m.rop) with
  | some q => queuePack part x 0 false (finishRemote q m s)
  | none => queuePack part x 0 false s

/-- Step 6 of R111: the plaintext placed as PKIND directs, and its PACK record. -/
def placeParcel (part : Nat) (x : RxParcel) (s : State) : State :=
  match x.placeUncorrectable with
  | some tile => readFail part (.uncorrectable tile) s
  | none =>
    match x.body with
    | .data bytes => placeData part x bytes s
    | .chunk bytes =>
      match acceptChunk part x.hdr.src x.hdr.pseq x.epoch x.hdr.cls x.hdr.kindInfo.toNat bytes s with
      | (none, t) => queuePack part x 3 false t
      | (some staged, t) => queuePack part x 0 staged t
    | .peg m =>
      queuePack part x 0 false
        { s with pegs := { s.pegs with inbox := s.pegs.inbox ++ [{ src := x.hdr.src, domain := x.hdr.domain, msg := m }] } }
    | .atomicReq m =>
      let i : PoolIn := { src := x.hdr.src, domain := x.hdr.domain, pseq := x.hdr.pseq, cls := x.hdr.cls, req := m, waited := false }
      queuePack part x 0 false { s with sill := { s.sill with inbox := s.sill.inbox ++ [i] } }
    | .atomicResp m => placeResponse part x m s

/-- The gathered flits of a parcel are released (R111 step 1). -/
def dropGather (src ptag : Nat) (mirror : Bool) (s : State) : State :=
  { s with gl := { s.gl with gathers := s.gl.gathers.filter (fun g => !(g.src = src && g.ptag = ptag && g.mirror = mirror)) } }

/-- PARCEL_ACCEPT (R110, R111, R113). Between steps 4 and 6 the PSEQ counts as received, whatever follows. -/
def parcelAccept (x : RxParcel) (s0 : State) : State :=
  if !s0.running || x.flitDst ≠ s0.chip then s0
  else
    let s := dropGather x.flitSrc x.ptag x.mirror s0
    let same := x.hdr.src = x.flitSrc && x.hdr.dst = x.flitDst && x.hdr.domain = x.flitDomain && x.hdr.cls = x.flitCls &&
      x.hdr.pkind = bodyKind x.body
    match s.partOfDomain x.hdr.domain with
    | none => misdirected s
    | some part =>
      if !same || (s.key? part 0).isNone then misdirected s
      else if !x.twinsOk then twinEvent (0x10 + x.lanePair % 96 / 12) (0x200 + x.lanePair % 96) part s
      else if !x.tagOk then endJob part 1 0 (queuePack part x 4 false s)
      else
        let w := s.window part x.hdr.src
        if x.hdr.pseq < w.base || w.received.contains x.hdr.pseq then queuePack part x 1 false s
        else if w.base + 128 ≤ x.hdr.pseq then plumbEvent 0x81 0 0 (some part) false 0 (some part) s
        else
          let s1 := noteReceived part x.hdr.src x.hdr.pseq s
          if 1 ≤ x.hdr.cls && x.hdr.cls ≤ 3 && x.hdr.deadline < s.now then queuePack part x 2 false s1
          else placeParcel part x s1

end Sys2Proof.Machine
end

