-- ==== Sys2Proof/Machine/Links.lean ====
section
/-! DEFINITION. The 64 link engines (04 R84 to R106, R116 to R119, 11 R376 to R381): states, exchanges, rotations, sending and
receiving flits. -/

namespace Sys2Proof.Machine

/-! ### Events of links -/

/-- A LINK n event (R447). -/
def linkEvent (n sub reason : Nat) (s : State) : State :=
  plumbEvent (0x40 + n) sub 1 none false (reason + 256 * ((s.link n).peer.getD 0xFFFF)) (some (0x500 + n)) s

/-- A twin mismatch in Kingpost (R325): counted, and KP_TWIN with the unit number. -/
def kpTwin (unit cls op : Nat) (s : State) : State :=
  plumbEvent 0x08 unit 1 none false (cls + 256 * op) none { s with kp := { s.kp with twin := bump 255 s.kp.twin } }

/-- A link of the torus, not of a sled (R30, R86). -/
def isTorus (n : Nat) : Bool := n < 48

/-- What a bundle's change of its KEYED set brings (R123, R277): the epochs of the routes through it rise, positions move,
and fences are looked at again. -/
def keyedChanged (b : Nat) (s : State) : State :=
  if b < 6 then
    advanceAllFences (rehome { s with gl := { s.gl with
      bundleEpochs := s.gl.bundleEpochs.modify b (fun e => (e + 1) % 256) } })
  else s

/-- A link enters a state; LOCK is set when the first torus link leaves UNKEYED (R88, R132). -/
def setLink (n : Nat) (st : LinkState) (s : State) : State :=
  let old := (s.link n).state
  let s1 := s.modLink n (fun l => { l with state := st })
  let s2 := if isTorus n && old = .unkeyed && st ≠ .unkeyed then { s1 with gl := { s1.gl with lock := true } } else s1
  if (old = .keyed) ≠ (st = .keyed) then keyedChanged (n / 8) s2 else s2

/-! ### Moving flits (R98, R119, R125) -/

/-- An unreachable flit discarded (R119). -/
def unreachable (s : State) : State := plumbEvent 0x84 0 0 none false 0 none s

/-- A buffer of a link's virtual channel freed: a credit owed to the partner (R96). -/
def oweCredit (n vc : Nat) (s : State) : State :=
  s.modLink n (fun l => { l with owed := l.owed.modify vc (fun k => min 32 (k + 1)) })

/-- The virtual channel of a header (R91). -/
def vcOf (h : FlitHdr) : Nat := 2 * h.cls + (if h.dl then 1 else 0)

/-- A flit put on the queue of the link that the routing rules select; `dim` is the dimension it was travelling in (R89 DL,
R116, R118, R119). One that no link can take is discarded. -/
def routeFlit (q : QFlit) (dim : Nat) (dl : Bool) (s : State) : State :=
  match s.wayOut q.hdr.src q.hdr.dst q.hdr.ptag q.hdr.mirror with
  | .unreachable =>
    let s1 := unreachable s
    match q.from_ with
    | some (m, vc) => oweCredit m vc s1
    | none => s1
  | .link m detour =>
    let h := { q.hdr with dl := m / 16 = dim && dl }
    s.modLink m (fun l => { l with txq := l.txq ++ [{ q with hdr := h, detoured := detour, queuedAt := s.now, noticed := false }] })

/-- Flits that a failed link leaves to others: PARCEL and PACK flits, and MGMT flits with a destination (R98). -/
def movable (s : State) (q : QFlit) : Bool :=
  q.hdr.ftype = 1 || q.hdr.ftype = 2 || (q.hdr.ftype = 4 && q.hdr.dst ≠ s.chip)

/-- A link leaves KEYED: its secret and keys go, and its unacknowledged and queued flits move in sequence order (R98, R104,
R105). -/
def leaveKeyed (n : Nat) (st : LinkState) (s : State) : State :=
  let l := s.link n
  let flits := ((l.replay.map (fun e => e.2)) ++ l.txq).filter (movable s)
  let s1 := (setLink n st s).modLink n (fun x =>
    { x with secret := false, rotating := false, rotateSent := none, newPhaseSeen := false, rotations := 0, keyPhase := false,
             rxPhase := false, txSeq := 0, rxSeq := 0, rxRefusing := false, nakOwed := false, replay := [], resend := [],
             txq := [], credits := List.replicate 10 0, owed := List.replicate 10 0 })
  flits.foldl (fun t q => routeFlit q (n / 16) q.hdr.dl t) s1

/-! ### The exchange (R377 to R381) -/

/-- A KEYX message sent. -/
def sendKeyx (n msg arg : Nat) (s : State) : State := s.emit (.keyx n msg arg)

/-- A NEIGHBOUR_KEYX that waits for the exchange of a link ends. -/
def endKeyxCmd (n st : Nat) (result : BitVec 128) (s : State) : State :=
  match (s.link n).keyxCmd with
  | none => s
  | some r => complete r st result (s.modLink n (fun l => { l with keyxCmd := none }))

/-- A fresh exchange starts with HELLO under the null hop key (R104, R105, R377). -/
def startExchange (n : Nat) (s : State) : State :=
  sendKeyx n 0x01 s.chip (s.modLink n (fun l => { l with keyx := .helloSent, keyxAt := s.now, helloReason := 0 }))

/-- The exchange is refused (R379): its secrets go, the link stays, the reason is logged. -/
def refuseExchange (n reason : Nat) (send : Bool) (s : State) : State :=
  let s1 := s.modLink n (fun l => { l with keyx := .refused, keyxAt := s.now, secret := false })
  let s2 := if send then sendKeyx n 0x06 reason s1 else s1
  endKeyxCmd n stWrongState (detailOf (0x0200 + reason)) (linkEvent n 5 reason s2)

/-- A link that may run an exchange (R88, R459 step 13). -/
def exchanging (s : State) (n : Nat) : Bool :=
  s.up && s.kp.ready && ((s.link n).state = .unkeyed || (s.link n).state = .quarantined)

/-- The pairing of links under R85: X+ with X-, and so on; a sled link has no partner number of the torus. -/
def pairLink (n : Nat) : Nat := if n / 8 % 2 = 0 then n + 8 else n - 8

/-- The reason of rows 0x03 and 0x04 of R379 that a HELLO earns, 0 for none. -/
def helloReason (s : State) (n : Nat) (m : Hello) : Nat :=
  if isTorus n then
    let dims := bitsOf m.coord.toNat 12 11 = bitsOf s.gl.coord.toNat 12 11
    let there := bitsOf m.coord.toNat 0 4 + 16 * bitsOf m.coord.toNat 4 4 + 256 * bitsOf m.coord.toNat 8 3
    if m.role ≠ 0 || !dims || there ≠ s.neighbour s.chip (n / 8) || there = s.chip then 3
    else if m.link ≠ pairLink n then 4 else 0
  else if m.role ≠ 0x80 + (n - 48) / 2 then 3 else 0

/-- KEYX_HELLO (R377, R379). -/
def keyxHello (n : Nat) (m : Hello) (s : State) : State :=
  if !exchanging s n then s
  else
    let l := s.link n
    if !m.wellFormed || !(l.keyx = .helloSent || l.keyx = .idle || l.keyx = .refused) then refuseExchange n 0x09 true s
    else
      let s1 := if l.keyx = .helloSent then s else startExchange n s
      let peer := if isTorus n then m.chip else 0x8000 + (n - 48) / 2
      sendKeyx n 0x02 0 (s1.modLink n (fun x =>
        { x with keyx := .helloSeen, keyxAt := s.now, peer := some peer, helloReason := helloReason s n m
                 initiator := !isTorus n || s.chip < m.chip }))

/-- KEYX_CERTS (R379): the rows in their order. -/
def keyxCerts (n : Nat) (c : CertsSeen) (s : State) : State :=
  if !exchanging s n then s
  else
    let l := s.link n
    if !c.wellFormed || l.keyx ≠ .helloSeen then refuseExchange n 0x09 true s
    else if !c.claimsProduction then refuseExchange n 0x02 true s
    else if !c.chainsOk || !c.modelOk then refuseExchange n 0x01 true s
    else if l.helloReason ≠ 0 then refuseExchange n l.helloReason true s
    else
      let s1 := s.modLink n (fun x => { x with keyxAt := s.now, peerId := c.idHash, keyx := if l.initiator then .kemI else .certsSeen })
      if l.initiator then sendKeyx n 0x03 0 s1 else s1

/-- A link enters KEYED (R88, R93, R96, R378); a waiting NEIGHBOUR_KEYX completes (R381). -/
def enterKeyed (n : Nat) (s : State) : State :=
  let s1 := (setLink n .keyed s).modLink n (fun l =>
    { l with keyx := .idle, secret := true, keyAt := s.now, rotations := 0, keyPhase := false, rxPhase := false, rotating := false
             newPhaseSeen := false, rotateSent := none, txSeq := 0, rxSeq := 0, rxRefusing := false, nakOwed := false
             replay := [], resend := [], credits := List.replicate 10 32, owed := List.replicate 10 0, ackAt := s.now
             rxAt := s.now })
  endKeyxCmd n stOk (resultOf [(16, 2, ((s.link n).peer.getD 0)), (18, 1, 3), (20, 8, (s.link n).peerId)]) s1

/-- A twin mismatch of Kingpost's public-key unit in an exchange, and reason 0x08 (R325, R379). -/
def keyxTwin (n : Nat) (s : State) : State :=
  let cmd := (s.link n).keyxCmd.isSome
  refuseExchange n 0x08 true (kpTwin 0xF2 (if cmd then 2 else 0) (if cmd then 4 else 0) s)

/-- KEYX_KEM_I: at the responder (R378, R379). -/
def keyxKemI (n : Nat) (k : KemSeen) (s : State) : State :=
  if !exchanging s n then s
  else if !k.wellFormed || (s.link n).keyx ≠ .certsSeen then refuseExchange n 0x09 true s
  else if !k.decapsOk then refuseExchange n 0x05 true s
  else if !k.twinsOk then keyxTwin n s
  else sendKeyx n 0x04 0 (s.modLink n (fun l => { l with keyx := .kemR, keyxAt := s.now }))

/-- KEYX_KEM_R: at the initiator, which sends CONFIRM and then uses the link (R378, R379, log 20). -/
def keyxKemR (n : Nat) (k : KemSeen) (s : State) : State :=
  if !exchanging s n then s
  else if !k.wellFormed || (s.link n).keyx ≠ .kemI then refuseExchange n 0x09 true s
  else if !k.decapsOk then refuseExchange n 0x05 true s
  else if !k.confirmOk then refuseExchange n 0x06 true s
  else if !k.twinsOk then keyxTwin n s
  else enterKeyed n (sendKeyx n 0x05 0 s)

/-- KEYX_CONFIRM: at the responder (R378, R379). -/
def keyxConfirm (n : Nat) (k : KemSeen) (s : State) : State :=
  if !exchanging s n then s
  else if !k.wellFormed || (s.link n).keyx ≠ .kemR then refuseExchange n 0x09 true s
  else if !k.confirmOk then refuseExchange n 0x06 true s
  else if !k.twinsOk then keyxTwin n s
  else enterKeyed n s

/-- KEYX_REFUSE: the peer refuses an exchange that runs (R379). -/
def keyxRefuse (n reason : Nat) (s : State) : State :=
  if !exchanging s n || (s.link n).keyx = .idle || (s.link n).keyx = .refused then s else refuseExchange n reason false s

/-- KEYX_TIMEOUT: the next message has not come within 10 ms (R379). -/
def keyxTimeout (n : Nat) (s : State) : State :=
  let l := s.link n
  if !exchanging s n || l.keyx = .idle || l.keyx = .refused then s
  else refuseExchange n 0x07 true (s.atTime (l.keyxAt + 10000000))

/-- EXCHANGE_RETRY: every 100 ms after a refusal (R88). -/
def exchangeRetry (n : Nat) (s : State) : State :=
  let l := s.link n
  if exchanging s n && l.keyx = .refused then startExchange n (s.atTime (l.keyxAt + 100000000)) else s

def layoutNeighbourKeyx (p : Packet) (_ : State) : Layout :=
  { cflags := 0, fields := [(20, 0, 8)], ranges := [(20, 63 < pf p 20 1)] }

/-- NEIGHBOUR_KEYX (R381): it replies at the end of the exchange. -/
def startNeighbourKeyx (r : CmdRef) (p : Packet) (s : State) : State :=
  let n := pf p 20 1
  match (s.link n).state with
  | .down => complete r stWrongState (detailOf 0x020A) s
  | .training => complete r stWrongState (detailOf 0x020A) s
  | .disabled => complete r stWrongState (detailOf 0x020A) s
  | .keyed => startExchange n ((hold r (leaveKeyed n .unkeyed s)).modLink n (fun l => { l with keyxCmd := some r }))
  | .unkeyed => startExchange n ((hold r (endKeyxCmd n stWrongState (detailOf 0x020A) s)).modLink n (fun l => { l with keyxCmd := some r }))
  | .quarantined => startExchange n ((hold r (endKeyxCmd n stWrongState (detailOf 0x020A) s)).modLink n (fun l => { l with keyxCmd := some r }))

/-! ### States of links (R88, R98, R133) -/

/-- The link goes DOWN, with its LINK event: 1 PCS, 2 silence, 7 ENABLE 0. -/
def linkToDown (n sub : Nat) (s : State) : State :=
  let l := s.link n
  if l.state = .down then s
  else
    let s1 := if l.state = .keyed then leaveKeyed n .down s else setLink n .down s
    endKeyxCmd n stWrongState (detailOf 0x020A)
      (linkEvent n sub 0 (s1.modLink n (fun x => { x with keyx := .idle, secret := false })))

/-- The Guyline tile of a link is powered (R41), and neither the End-of-Life wipe nor End of Life holds links DOWN (R471, R472). -/
def State.tileOn (s : State) (n : Nat) : Bool :=
  s.up && s.start.gltOn.getLsbD (n / 8) && s.fuses.wipeStep = 0 && s.fuses.lc ≠ .endOfLife

/-- LINK_UP: PCS link up rises while ENABLE is set (R88). -/
def linkUp (n : Nat) (s : State) : State :=
  let s1 := s.modLink n (fun l => { l with pcsUp := true })
  let l := s.link n
  if s.tileOn n && l.enable && l.state = .down && !l.retired then setLink n .training s1 else s1

/-- LINK_TRAINED: UNKEYED, and the exchange starts, once READY is set (R88, R104, R459 step 13). -/
def linkTrained (n : Nat) (s : State) : State :=
  if !s.up || (s.link n).state ≠ .training then s
  else
    let s1 := (setLink n .unkeyed s).modLink n (fun l => { l with secret := false, rxAt := s.now })
    if s.kp.ready then startExchange n s1 else s1

/-- LINK_DOWN: PCS link up drops (R98); a DISABLED link stays so until REARM (R88). -/
def linkDown (n : Nat) (s : State) : State :=
  let s1 := s.modLink n (fun l => { l with pcsUp := false })
  if (s.link n).state = .disabled then s1 else linkToDown n 1 s1

/-- LINK_SILENCE_TIMEOUT: no flit for 1.0 µs (R98). -/
def linkSilence (n : Nat) (s : State) : State :=
  let l := s.link n
  if s.up && (l.state = .unkeyed || l.state = .keyed || l.state = .quarantined) then linkToDown n 2 (s.atTime (l.rxAt + 1000))
  else s

/-- LINK_ENABLE_WRITE: ENABLE 0 holds the link DOWN; 1 releases it (R88, R133). -/
def linkEnableWrite (n : Nat) (on : Bool) (s : State) : State :=
  let s1 := s.modLink n (fun l => { l with enable := on })
  let l := s.link n
  if !on then linkToDown n 7 s1
  else if s.tileOn n && l.state = .down && l.pcsUp && !l.retired then setLink n .training s1
  else s1

/-- LINK_REARM: REARM takes a DISABLED link to TRAINING (R88, R133). -/
def linkRearm (n : Nat) (s : State) : State :=
  if s.up && (s.link n).state = .disabled && (s.link n).enable then setLink n .training s else s

/-- Quarantine, or DISABLED at the fourth within 60 s (R88, R105). -/
def quarantine (n : Nat) (s : State) : State :=
  let l := s.link n
  let times := (s.now :: l.quarTimes).filter (fun t => s.now < t + 60000000000)
  let s1 := s.modLink n (fun x => { x with quarTimes := times, failTimes := [] })
  if 4 ≤ times.length then linkEvent n 4 0 ((loseSettings uGl 0x01 8 (leaveKeyed n .disabled s1)).modLink n (fun x => { x with keyx := .idle }))
  else linkEvent n 3 0 (startExchange n (loseSettings uGl 0x01 8 (leaveKeyed n .quarantined s1)))

/-- One refused flit: NAK, the counts, and the 33rd failure within 1 ms (R95, R105). -/
def refuseFlit (n : Nat) (malformed : Bool) (s : State) : State :=
  let times := (s.now :: (s.link n).failTimes).take 33
  let s1 := s.modLink n (fun l =>
    { l with checkFails := l.checkFails + 1, malformed := if malformed then l.malformed + 1 else l.malformed
             failTimes := times, rxRefusing := true, nakOwed := true })
  if (s.link n).state = .keyed && times.length = 33 && s.now ≤ times.getLastD 0 + 1000000 then quarantine n s1 else s1

/-- ACK_TIMEOUT: no acknowledgement advances for 2 µs while flits are outstanding (R95). -/
def ackTimeout (n : Nat) (s0 : State) : State :=
  let l := s0.link n
  if !s0.running || l.state ≠ .keyed || l.replay.isEmpty then s0
  else
    let s := s0.atTime (l.ackAt + 2000)
    s.modLink n (fun x => { x with resend := x.replay.map (fun e => e.1), replays := x.replays + 1, ackAt := s.now })

/-! ### Rotation of hop keys (R102, R103, R380) -/

/-- 2^32 - 2^20. -/
abbrev rotateSeq : Nat := 4293918720

/-- HOP_KEY_ROTATION: the initiator starts a rotation; at n = 65,536 a fresh exchange takes its place (R102 to R104). -/
def hopKeyRotation (n : Nat) (s0 : State) : State :=
  let l := s0.link n
  let s := if l.txSeq < rotateSeq && l.rxSeq < rotateSeq then s0.atTime (l.keyAt + 60000000000) else s0
  if !s0.up || l.state ≠ .keyed || !l.initiator || l.rotateSent.isSome then s0
  else if 65535 ≤ l.rotations then startExchange n (leaveKeyed n .unkeyed s)
  else sendKeyx n 0x10 (l.rotations + 1) (s.modLink n (fun x => { x with rotating := true, rotateSent := some s.now }))

/-- Sending goes over to key n + 1 and its phase (R93, R103). -/
def switchPhase (n : Nat) (s : State) : State :=
  s.modLink n (fun l => { l with rotations := l.rotations + 1, keyPhase := !l.keyPhase, txSeq := 0, keyAt := s.now
                                 rotating := true, rotateSent := none })

/-- The previous key is destroyed once no flit of the old phase is outstanding and one of the new phase has come (R103). -/
def endRotation (n : Nat) (s : State) : State :=
  s.modLink n (fun l =>
    if l.rotating && l.rotateSent.isNone && l.newPhaseSeen && l.replay.all (fun e => e.2.hdr.keyPhase = l.keyPhase) then
      { l with rotating := false, newPhaseSeen := false }
    else l)

/-- KEYX_ROTATE at the responder (R380): a number other than n + 1 is malformed. -/
def keyxRotate (n m : Nat) (s : State) : State :=
  let l := s.link n
  if !s.up || l.state ≠ .keyed then s
  else if m ≠ l.rotations + 1 || l.initiator then refuseFlit n true s
  else switchPhase n (sendKeyx n 0x11 m s)

/-- KEYX_ROTATE_ACK at the initiator (R380). -/
def keyxRotateAck (n m : Nat) (s : State) : State :=
  let l := s.link n
  if !s.up || l.state ≠ .keyed || l.rotateSent.isNone || m ≠ l.rotations + 1 then s else switchPhase n s

/-- ROTATE_RESEND: no ROTATE_ACK within 1 ms (R380). -/
def rotateResend (n : Nat) (s : State) : State :=
  let l := s.link n
  match l.rotateSent with
  | some t =>
    if s.up && l.state = .keyed then
      let u := s.atTime (t + 1000000)
      sendKeyx n 0x10 (l.rotations + 1) (u.modLink n (fun x => { x with rotateSent := some u.now }))
    else s
  | none => s

/-! ### FLIT_RECEIVE (R91 to R100, R105, R111, R116) -/

/-- Flit types a link's role allows (R86, R90). -/
def roleAllows (n t : Nat) : Bool := if isTorus n then t ≠ 3 else t = 0 || t = 3 || t = 5 || t = 6

/-- A flit that R92 calls malformed on a KEYED link. -/
def flitMalformed (s : State) (n : Nat) (h : FlitHdr) : Bool :=
  h.reserved || 6 < h.ftype || 4 < h.cls || !s.chipInside h.src || !s.chipInside h.dst || 292 < h.fidx ||
    (9 < h.creditVc && h.creditVc ≠ 15) || 32 < h.creditCnt ||
    (h.creditVc ≤ 9 && 32 < (s.link n).credits.getD h.creditVc 0 + h.creditCnt) || !roleAllows n h.ftype

/-- The sequence the next accepted flit must carry: the expected one of the partner's phase, or 0 of its new phase. -/
def inSequence (l : Link) (h : FlitHdr) : Bool :=
  if h.keyPhase = l.rxPhase then h.lseq = l.rxSeq % 4096 else l.rotating && h.lseq = 0

/-- What an acknowledgement frees: everything up to the newest flit with its number (R93). -/
def ackReplay (ack : Nat) (rs : List (Nat × QFlit)) : Option (List (Nat × QFlit)) :=
  if rs.any (fun e => e.1 % 4096 = ack) then
    some ((rs.reverse.takeWhile (fun e => e.1 % 4096 ≠ ack)).reverse)
  else none

/-- Acknowledgement, NAK and credits of an accepted flit (R93, R95, R96). -/
def flitControl (n : Nat) (h : FlitHdr) (s : State) : State :=
  let s1 := match (if h.ackValid then ackReplay h.ackSeq (s.link n).replay else none) with
    | some left => s.modLink n (fun l =>
        { l with replay := left, resend := l.resend.filter (fun k => left.any (fun e => e.1 = k)), ackAt := s.now })
    | none => s
  let s2 := if h.nak then s1.modLink n (fun l =>
      { l with resend := l.replay.map (fun e => e.1), replays := l.replays + 1 }) else s1
  let s3 := if h.creditVc ≤ 9 then s2.modLink n (fun l =>
      { l with credits := l.credits.modify h.creditVc (fun c => c + h.creditCnt) }) else s2
  endRotation n s3

/-- A flit of a parcel for this block joins its parcel; a FIDX already held is discarded (R111). -/
def gatherFlit (h : FlitHdr) (s : State) : State :=
  let isIt (g : Gather) : Bool := g.src = h.src && g.ptag = h.ptag && g.mirror = h.mirror
  let upd (g : Gather) : Gather :=
    { g with have_ := if g.have_.contains h.fidx then g.have_ else g.have_ ++ [h.fidx]
             lastSeen := if h.last then some h.fidx else g.lastSeen }
  if s.gl.gathers.any isIt then
    { s with gl := { s.gl with gathers := s.gl.gathers.map (fun g => if isIt g then upd g else g) } }
  else
    { s with gl := { s.gl with gathers := s.gl.gathers ++
        [upd { src := h.src, ptag := h.ptag, mirror := h.mirror, have_ := [], lastSeen := none }] } }

/-- The flit came over the wrap-around link of its dimension: it arrived from beyond the edge (R89 DL). -/
def crossedWrap (s : State) (n : Nat) : Bool :=
  let d := n / 16
  if n / 8 % 2 = 1 then coord d s.chip = 0 else coord d s.chip + 1 = s.dim d

/-- An accepted flit is delivered or forwarded (R90, R106, R111, R116). -/
def deliverFlit (n : Nat) (f : RxFlit) (s : State) : State :=
  let h := f.hdr
  let vc := vcOf h
  if h.ftype = 0 || h.ftype = 5 then s
  else if h.ftype = 3 || h.ftype = 6 then oweCredit n vc s
  else if h.dst = s.chip then
    oweCredit n vc (if h.ftype = 1 then gatherFlit h s else s)
  else if h.ftype = 4 && some h.dst = (s.link n).peer then oweCredit n vc s
  else if 28 ≤ h.hops then oweCredit n vc (s.modLink n (fun l => { l with loops := l.loops + 1 }))
  else
    routeFlit { hdr := { h with hops := h.hops + 1 }, payload := f.payload, owner := none, resv := none, transit := true,
                queuedAt := s.now, noticed := false, detoured := false, from_ := some (n, vc) }
      (n / 16) (h.dl || crossedWrap s n) s

/-- FLIT_RECEIVE (R92 to R96, R100, R105). A halted block's link keeper checks and acknowledges; what it accepts waits in the
receive buffers (R500). -/
def flitReceive (n : Nat) (f : RxFlit) (s0 : State) : State :=
  let l := s0.link n
  if !s0.up then s0
  else match l.state with
  | .down => s0
  | .training => s0
  | .disabled => s0
  | .keyed =>
    let s := s0.modLink n (fun x => { x with rxAt := s0.now })
    let h := f.hdr
    if l.rxRefusing && !inSequence l h then s
    else if !f.checkOk then
      if f.nullOk && f.keyxHello then
        linkEvent n 8 0 ((loseSettings uGl 0x01 8 (leaveKeyed n .unkeyed s)).modLink n (fun x => { x with keyx := .idle }))
      else refuseFlit n false s
    else if flitMalformed s n h then refuseFlit n true s
    else if !inSequence l h then s
    else
      let s1 := s.modLink n (fun x =>
        if h.keyPhase = x.rxPhase then { x with rxSeq := (x.rxSeq + 1) % 2 ^ 32, rxRefusing := false, nakOwed := false }
        else { x with rxPhase := h.keyPhase, rxSeq := 1, newPhaseSeen := true, rxRefusing := false, nakOwed := false })
      let s2 := flitControl n h s1
      if s.scribe.halted then { s2 with gl := { s2.gl with postCut := s2.gl.postCut ++ [(n, f)] } } else deliverFlit n f s2
  | _ =>
    let s := s0.modLink n (fun x => { x with rxAt := s0.now })
    if !f.nullOk then refuseFlit n false s
    else if f.hdr.reserved || !(f.hdr.ftype = 0 || f.hdr.ftype = 5) || 4 < f.hdr.cls then refuseFlit n true s
    else s.modLink n (fun x => { x with rxRefusing := false, nakOwed := false })

/-- The flits held since the cut are processed at the restart (R500). -/
def releasePostCut (s : State) : State :=
  s.gl.postCut.foldl (fun t e => deliverFlit e.1 e.2 t) { s with gl := { s.gl with postCut := [] } }

/-! ### FLIT_SEND (R95 to R98, R255, R259 to R261) -/

/-- What a slot may serve, in the order it serves it. -/
inductive Cat where
  | mcLocal (part : Nat)
  | tail (part : Nat)
  | mcTransit
  | mcInfra
  | transitRc
  | transitTc
  | transitAny
  | resv (entry : Nat)
  | loose
  | quota (part : Nat)
  | be
  deriving DecidableEq, Repr

/-- The categories of a slot use (R95, R97, R255, R259, R268, R405, R415). A struck partition's positions carry IDLE. -/
def catsOf (s : State) (u : SlotUse) : List Cat :=
  match u with
  | .localMc p =>
    if !(s.part p).struck then [.mcLocal p]
    else if (s.part p).phase = .teardown then [.mcLocal p, .tail p] else []
  | .transitMc => [.mcTransit, .mcInfra]
  | .owned .transitRc => [.transitRc, .be]
  | .owned .transitTc => [.transitTc, .be]
  | .owned .p0 => [.be]
  | .owned (.resv e) =>
    match s.resv? e with
    | none => []
    | some r => if (s.part r.part).struck then [] else if r.part = 0 then [.resv e, .be] else [.resv e, .quota r.part, .be]
  | .owned (.quota p) => if (s.part p).struck then [] else [.quota p, .be]
  | .open_ => [.mcTransit, .mcInfra, .transitAny, .loose, .be]

/-- A reservation holds a position on a link. -/
def State.hasPosition (s : State) (resv : Option Nat) (link : Nat) : Bool :=
  match resv.bind s.resv? with
  | some r => r.on link ≠ 0
  | none => false

/-- A flit that a category takes from the replay buffer or the link's queue. -/
def catTakes (s : State) (link : Nat) (c : Cat) (q : QFlit) : Bool :=
  let k := q.hdr.cls
  match c with
  | .mcLocal p => !q.transit && q.owner = some p && k = 0
  | .tail p => !q.transit && q.owner = some p
  | .mcTransit => q.transit && k = 0
  | .mcInfra => !q.transit && q.owner = none && k = 0
  | .transitRc => q.transit && k = 1
  | .transitTc => q.transit && (k = 2 || k = 3)
  | .transitAny => q.transit && 1 ≤ k && k ≤ 3
  | .resv e => !q.transit && q.resv = some e
  | .loose => !q.transit && q.owner ≠ none && 1 ≤ k && k ≤ 3 && !s.hasPosition q.resv link
  | .quota p => !q.transit && q.owner = some p && k = 3
  | .be => k = 4

/-- PTAGs of this block's parcels in flight. -/
def State.ptagUsed (s : State) (t : Nat) : Bool := s.gl.parcels.any (fun x => x.pseq.isSome && x.ptag = t)

/-- PTAG values from the next on, unused first-fit. -/
def State.ptags (s : State) : List Nat := (List.range 4096).map (fun i => (s.gl.nextPtag + i) % 4096)

/-- The way of a flit of this block with a PTAG leads over a link. -/
def State.leadsTo (s : State) (link dst ptag : Nat) (mirror : Bool) : Bool :=
  match s.wayOut s.chip dst ptag mirror with
  | .link n _ => n = link
  | .unreachable => false

/-- The PTAG with which a parcel's copy leaves on a link (R118, R260): its own once it is in flight; else the first unused
one, or with `choose` the first unused one that leads there. -/
def copyPtag (s : State) (x : TxParcel) (mirror choose : Bool) (link : Nat) : Option Nat :=
  let lead (t : Nat) : Bool := s.leadsTo link x.dst t mirror
  if x.pseq.isSome then if lead x.ptag then some x.ptag else none
  else if choose then
    if (List.range 8).any lead then s.ptags.find? (fun t => !s.ptagUsed t && lead t) else none
  else
    match s.ptags.find? (fun t => !s.ptagUsed t) with
    | some t => if lead t then some t else none
    | none => none

/-- A parcel's first flit may leave (R108, R113, R124): 64 unacknowledged at most, no FULL route, a domain key, an IV. -/
def State.mayOpen (s : State) (x : TxParcel) : Bool :=
  x.pseq.isSome ||
    (s.unackedTo x.part x.dst < 64 && !s.routeFull x.part x.dst x.mirror && (s.key? x.part 0).isSome &&
      (s.part x.part).ivParcel < ivMax && !(s.part x.part).struck)

/-- A copy of a parcel that a category takes on a link, with its PTAG. -/
def catParcel (s : State) (link : Nat) (c : Cat) (x : TxParcel) (mirror : Bool) : Option Nat :=
  let left := if mirror then x.mirror && x.sentMirror < x.flits else x.sent < x.flits
  if !left || x.eligibleAt.isNone || !s.mayOpen x then none
  else
    let homes := match x.resv.bind s.resv? with | some r => (r.copyLinks mirror).contains (some link) | none => false
    match c with
    | .mcLocal p => if x.cls = 0 && x.part = p then copyPtag s x mirror true link else none
    | .tail p => if x.part = p && x.pseq.isSome then copyPtag s x mirror false link else none
    | .resv e => if x.resv = some e && homes then copyPtag s x mirror true link else none
    | .quota p =>
      if x.part = p && x.cls = 3 && homes && (s.part p).view.level ≠ 0 then copyPtag s x mirror true link else none
    | .loose => if 1 ≤ x.cls && x.cls ≤ 3 && !homes then copyPtag s x mirror false link else none
    | .be => if x.cls = 4 && s.beOpen x.part then copyPtag s x mirror false link else none
    | _ => none

/-- The place of a BE parcel in the context round robin: its context slot; parcels of no context after them. -/
def TxParcel.turn (x : TxParcel) : Nat := match x.ctx with | some c => c | none => 4096 + x.part

/-- The parcels of a category on a link, as parcel, copy and PTAG. -/
def catParcels (s : State) (link : Nat) (c : Cat) : List (TxParcel × Bool × Nat) :=
  s.gl.parcels.flatMap (fun x =>
    (match catParcel s link c x false with | some t => [(x, false, t)] | none => []) ++
      (match catParcel s link c x true with | some t => [(x, true, t)] | none => []))

/-- PACK records of a category that may leave on a link (R114): of one partition, destination, domain and class. -/
def catPack (s : State) (link : Nat) (c : Cat) : Option PackOut :=
  s.gl.packq.find? (fun o =>
    (match c with
      | .mcLocal p => o.cls = 0 && o.part = p
      | .loose => 1 ≤ o.cls && o.cls ≤ 3
      | .be => o.cls = 4 && s.beOpen o.part
      | _ => false) &&
    !(s.part o.part).struck && (s.key? o.part 0).isSome && (List.range 8).any (fun t => s.leadsTo link o.dst t false))

/-- What a slot sends. -/
inductive Pick where
  | again (key : Nat) (q : QFlit)
  | queued (q : QFlit)
  | parcel (x : TxParcel) (mirror : Bool) (ptag : Nat)
  | pack (o : PackOut)
  | idle

/-- A credit is there for a virtual channel (R96). -/
def Link.hasCredit (l : Link) (vc : Nat) : Bool := 0 < l.credits.getD vc 0

/-- The resent flit that goes next, if the category takes it. -/
def pickAgain (s : State) (link : Nat) (c : Cat) : Option Pick :=
  let l := s.link link
  match l.resend with
  | [] => none
  | k :: _ =>
    match l.replay.find? (fun e => e.1 = k) with
    | some (_, q) => if q.hdr.ftype = 0 || catTakes s link c q then some (.again k q) else none
    | none => none

/-- The best-effort choice: transit first, then the context after the last served, PACKs after the contexts. -/
def pickBe (s : State) (link : Nat) : Option Pick :=
  let l := s.link link
  let ps := catParcels s link .be
  let turns := (ps.map (fun e => e.1.turn)) ++ (match catPack s link .be with | some o => [4112 + o.part] | none => [])
  let next := (turns.filter (fun t => l.beLast < t)).min?
  match (match next with | some t => some t | none => turns.min?) with
  | none => none
  | some t =>
    match ps.find? (fun e => e.1.turn = t) with
    | some (x, m, g) => some (.parcel x m g)
    | none => (catPack s link .be).map Pick.pack

/-- A new flit of a category. -/
def pickNew (s : State) (link : Nat) (c : Cat) : Option Pick :=
  let l := s.link link
  match l.txq.find? (fun q => catTakes s link c q && l.hasCredit (vcOf q.hdr)) with
  | some q => some (.queued q)
  | none =>
    let clsOf : Option Nat := match c with | .be => some 4 | .mcLocal _ => some 0 | _ => none
    if (match clsOf with | some k => !l.hasCredit (2 * k) | none => false) then none
    else
      match c with
      | .be => pickBe s link
      | _ =>
        match (catParcels s link c).find? (fun e => l.hasCredit (2 * e.1.cls)) with
        | some (x, m, g) => some (.parcel x m g)
        | none =>
          match catPack s link c with
          | some o => if l.hasCredit (2 * o.cls) then some (.pack o) else none
          | none => none

/-- The first category with something to send; new flits only while the replay buffer has room (R93). -/
def pickFlit (s : State) (link : Nat) (room : Bool) : List Cat → Pick
  | [] => .idle
  | c :: cs =>
    match pickAgain s link c with
    | some p => p
    | none =>
      match (if room then pickNew s link c else none) with
      | some p => p
      | none => pickFlit s link room cs

/-- An idle header from this block. -/
def blankHdr (s : State) : FlitHdr :=
  { ftype := 0, keyPhase := false, cls := 0, lseq := 0, ackSeq := 0, ackValid := false, nak := false, last := false,
    mirror := false, hops := 0, src := s.chip, dst := s.chip, dl := false, domain := 0, routeEpoch := 0, fidx := 0,
    ptag := 0, creditVc := 15, creditCnt := 0, reserved := false }

/-- The link-level fields of a header (R93, R95, R96). -/
def linkHdr (l : Link) (credits : Bool) (h : FlitHdr) : FlitHdr :=
  let vc := if credits then (List.range 10).find? (fun v => 0 < l.owed.getD v 0) else none
  { h with keyPhase := l.keyPhase, lseq := l.txSeq % 4096, ackSeq := (l.rxSeq + 4095) % 4096
           ackValid := l.rxSeq ≠ 0 || l.rotations ≠ 0, nak := l.nakOwed
           creditVc := vc.getD 15, creditCnt := match vc with | some v => l.owed.getD v 0 | none => 0 }

/-- A flit leaves with the next link sequence and is kept for replay (R93). -/
def putFlit (n : Nat) (q : QFlit) (credits : Bool) (s : State) : State :=
  let l := s.link n
  let h := linkHdr l credits q.hdr
  let key := l.txSeq + (if l.keyPhase then 2 ^ 32 else 0)
  let s1 := s.modLink n (fun x =>
    { x with txSeq := x.txSeq + 1, nakOwed := false
             replay := if x.state = .keyed then x.replay ++ [(key, { q with hdr := h })] else x.replay
             ackAt := if x.replay.isEmpty then s.now else x.ackAt
             owed := if h.creditVc ≤ 9 then x.owed.set h.creditVc 0 else x.owed
             credits := if h.ftype = 0 then x.credits else x.credits.modify (vcOf h) (fun c => c - 1) })
  s1.emit (.flit n h l.txSeq q.payload)

/-- An IDLE flit (R97). -/
def putIdle (n : Nat) (credits : Bool) (s : State) : State :=
  putFlit n { hdr := blankHdr s, payload := .zeros, owner := none, resv := none, transit := false, queuedAt := s.now,
              noticed := false, detoured := false, from_ := none } credits s

/-- Flit i of a parcel is the first to hold bytes of a 4 KiB unit. -/
def startsUnit (i : Nat) : Bool := i = 0 || (224 * i - 48) / 4096 ≠ (224 * (i - 1) - 48) / 4096

/-- A parcel's first flit: PSEQ, PTAG, epochs, IV and hops (R108, R113, R123), APPLY_AT of a PEG message (R234), the ns a BE
parcel waited (R280). -/
def openParcel (x : TxParcel) (ptag : Nat) (s : State) : TxParcel × State :=
  let pseq := (match s.gl.pseqs.find? (fun e => e.1 = x.part && e.2.1 = x.dst) with | some e => e.2.2 | none => 0)
  let iv := (s.part x.part).ivParcel
  let h := s.hopsTo s.chip x.dst
  let body := match x.body with
    | .peg m => .peg { m with applyAt := s.now + h * (s.pegs.linkDelay + 16) + 14 }
    | b => b
  let y := { x with pseq := some pseq, ptag := ptag, epoch := s.routeEpoch x.part x.dst false
                    epochM := s.routeEpoch x.part x.dst true, iv := iv, hops := h, body := body
                    delay := if x.cls = 4 then s.now - x.eligibleAt.getD s.now else 0 }
  let s1 := s.modPart x.part (fun q => { q with ivParcel := q.ivParcel + 1 })
  let rest := s1.gl.pseqs.filter (fun e => !(e.1 = x.part && e.2.1 = x.dst))
  let s2 := { s1 with
    gl := { s1.gl with pseqs := rest ++ [(x.part, x.dst, pseq + 1)], nextPtag := (ptag + 1) % 4096 }
    sill := match x.kind with
      | .atomicReq rid => { s1.sill with remote := s1.sill.remote.map (fun q => if q.id = rid then { q with pseq := some pseq } else q) }
      | _ => s1.sill }
  let s3 := match x.ref with
    | some r => traceParcel r 0x03 pseq x.dst ptag y.epoch h false s2
    | none => s2
  (y, s3.modParcel x.id (fun _ => y))

/-- A parcel that is withheld ends its command with a status (R110, R558); an access through it is answered FAULT. -/
def withholdParcel (x : TxParcel) (st d : Nat) (s : State) : State :=
  let s1 := s.dropParcel x.id
  match x.kind, x.ref with
  | .chunk g _ _, some r =>
    match (s1.group? x.part g).bind (fun q => q.running) with
    | some c => if c.ref = r then endCollective x.part g st (detailOf d) s1 else s1
    | none => s1
  | .peg, _ =>
    match s1.pegs.signals.find? (fun g => g.parcel = x.id) with
    | some g => complete g.ref st (detailOf d)
        { s1 with pegs := { s1.pegs with signals := s1.pegs.signals.filter (fun y => y.parcel ≠ x.id) } }
    | none => s1
  | .atomicReq rid, _ =>
    match s1.sill.remote.find? (fun q => q.id = rid) with
    | some q =>
      let t := { s1 with sill := { s1.sill with remote := s1.sill.remote.filter (fun y => y.id ≠ rid) } }
      (match q.ref, q.access with
        | some r, _ => complete r st (detailOf d) t
        | none, some a => answerAccess a kFault [] t
        | none, none => t)
    | none => s1
  | _, _ => replyParcel x st (detailOf d) s1

/-- The flits of a parcel's copy counted, and the last flit of all copies (R115, R269). -/
def noteFlit (id : Nat) (mirror : Bool) (s : State) : State :=
  reapResv (s.modParcel id (fun x =>
    let y := if mirror then { x with sentMirror := x.sentMirror + 1 } else { x with sent := x.sent + 1 }
    if y.flits ≤ y.sent && (!y.mirror || y.flits ≤ y.sentMirror) then { y with leftAt := some s.now, lane := none } else y))

/-- A flit of a parcel's copy: sealing at each unit's start, then the flit (R107, R110). -/
def sendParcelFlit (n : Nat) (x : TxParcel) (mirror : Bool) (ptag : Nat) (twinsOk : Bool) (lanePair : Nat) (source : MemRead)
    (s : State) : State :=
  let engine := 0x100 + lanePair % 96
  let first := x.pseq.isNone
  let idx := if mirror then x.sentMirror else x.sent
  let bad := match x.kind with | .data => if first && x.ref.isSome then readCause source else none | _ => none
  let fresh := !mirror || x.sent = 0
  match bad with
  | some cause => readFail x.part source (withholdParcel x stJobFaulted cause s)
  | none =>
    if startsUnit idx && fresh && !twinsOk then
      withholdParcel x stTwinMismatch engine (twinEvent (0x10 + lanePair % 96 / 12) engine x.part s)
    else
      let x1 := match x.kind, first, x.ref with
        | .data, true, some _ => { x with body := .data ((readBytes source).take x.length) }
        | _, _, _ => x
      let (y, s1) := if first then openParcel x1 ptag s else (x1, s)
      let s2 := match y.ref with
        | some r => if startsUnit idx && fresh then traceUnit r engine s1 else s1
        | none => s1
      let h := { blankHdr s2 with
        ftype := 1, cls := y.cls, last := idx + 1 = y.flits, mirror := mirror, dst := y.dst, domain := (s2.part y.part).domain
        routeEpoch := if mirror then y.epochM else y.epoch, fidx := idx, ptag := y.ptag }
      let s2 := if startsUnit idx && fresh then s2.modParcel y.id (fun z => { z with lane := some (lanePair % 96) }) else s2
      let q : QFlit := { hdr := h, payload := .sealed y.id idx, owner := some y.part, resv := y.resv, transit := false,
                         queuedAt := s2.now, noticed := false, detoured := false, from_ := none }
      let s3 := putFlit n q true (s2.modView y.part (fun v => { v with linkUsed := v.linkUsed + 1 }))
      noteFlit y.id mirror (if y.cls = 4 then s3.modLink n (fun l => { l with beLast := y.turn }) else s3)

/-- A PACK flit: up to 24 records of one partition, destination, domain and class (R114); its PTAG, which the spec leaves to
the block, is a free value among those that lead over the link (R118, log 7). -/
def sendPackFlit (n : Nat) (o : PackOut) (s : State) : State :=
  let same (x : PackOut) : Bool := x.part = o.part && x.dst = o.dst && x.domain = o.domain && x.cls = o.cls
  let recs := (s.gl.packq.filter same).take 24
  let (d, s1) := s.draw
  let ptag := (((List.range 8).map (fun i => (d + i) % 4096)).find? (fun t => s.leadsTo n o.dst t false)).getD 0
  let rest := s.gl.packq.filter (fun x => !same x) ++ (s.gl.packq.filter same).drop 24
  let s2 := { s1 with gl := { s1.gl with packq := rest } }
  let s3 := s2.modPart o.part (fun q => { q with ivPack := q.ivPack + 1 })
  let h := { blankHdr s3 with ftype := 2, cls := o.cls, last := true, dst := o.dst, domain := o.domain, ptag := ptag }
  let q : QFlit := { hdr := h, payload := .pack (recs.map (fun x => x.record)), owner := some o.part, resv := none,
                     transit := false, queuedAt := s.now, noticed := false, detoured := false, from_ := none }
  let s4 := putFlit n q true s3
  if o.cls = 4 then s4.modLink n (fun l => { l with beLast := 4112 + o.part }) else s4

/-- A queued flit leaves: its buffer's credit goes back to where it came from, and with its parcel's last flit the notices
about it are forgotten (R96, R276). -/
def sendQueued (n : Nat) (q : QFlit) (s : State) : State :=
  let s1 := s.modLink n (fun l => { l with txq := l.txq.erase q })
  let s2 := putFlit n q true s1
  let s3 := match q.from_ with | some (m, vc) => oweCredit m vc s2 | none => s2
  if q.hdr.ftype = 1 && q.hdr.last then
    { s3 with gl := { s3.gl with notices := s3.gl.notices.filter (fun x => !(x.1 = q.hdr.src && x.2.1 = q.hdr.ptag)) } }
  else s3

/-- FLIT_SEND: a link port serves slot `slot` of the tick. -/
def flitSend (n slot : Nat) (twinsOk : Bool) (lanePair : Nat) (source : MemRead) (s : State) : State :=
  let l := s.link n
  if !s.up then s
  else match l.state with
  | .down => s
  | .training => s
  | .disabled => s
  | .keyed =>
    if l.txSeq = 2 ^ 32 - 1 then quarantine n s
    else if s.scribe.halted then putIdle n false s
    else
      let room := (l.replay.filter (fun e => e.2.hdr.ftype ≠ 0)).length < 256
      let cats := if isTorus n then catsOf s (s.slotUse n (slot % 781)) else [.mcInfra]
      match pickFlit s n room cats with
      | .again k q => (s.modLink n (fun x => { x with resend := x.resend.drop 1 })).emit (.flit n q.hdr (k % 2 ^ 32) q.payload)
      | .queued q => sendQueued n q s
      | .parcel x m t => sendParcelFlit n x m t twinsOk lanePair source s
      | .pack o => sendPackFlit n o s
      | .idle => putIdle n true s
  | _ => s.emit (.flit n (blankHdr s) 0 .zeros)

/-! ### Forwarder notices (R276) and flits that no link can take (R119) -/

/-- An infrastructure flit of class MC that ends at the partner leaves at once on a KEYED link (R503, R518). A halted link returns
no credits. -/
def sendMc (n ftype : Nat) (bytes : List Byte) (s : State) : State :=
  if (s.link n).state ≠ .keyed || (s.link n).txSeq = 2 ^ 32 - 1 then s
  else
    putFlit n { hdr := { blankHdr s with ftype := ftype, last := true }, payload := .bytes bytes, owner := none, resv := none,
                transit := false, queuedAt := s.now, noticed := false, detoured := false, from_ := none } (!s.scribe.halted) s

/-- The payload of a BOUND_NOTICE. -/
def noticeBytes (n : BoundNotice) : List Byte :=
  [0x21] ++ leBytes 2 n.ptag ++ leBytes 2 n.dst ++ leBytes 1 n.reason ++ List.replicate 218 0

/-- BOUND_NOTICE_SEND: for the oldest RC or TC transit PARCEL flit of a link's queue that was detoured, or has been held 78 ns
(R276). -/
def boundNoticeSend (n : Nat) (detour : Bool) (s : State) : State :=
  if !s.running then s
  else
    let reason := if detour then 2 else 1
    let due (q : QFlit) : Bool :=
      q.transit && q.hdr.ftype = 1 && 1 ≤ q.hdr.cls && q.hdr.cls ≤ 3 && !q.noticed &&
        (if detour then q.detoured else q.queuedAt + 78 ≤ s.now) &&
        !s.gl.notices.contains (q.hdr.src, q.hdr.ptag, reason)
    match (s.link n).txq.find? due with
    | none => s
    | some q =>
      let s1 := s.modLink n (fun l => { l with txq := l.txq.map (fun x => if x = q then { x with noticed := true } else x) })
      let s2 := { s1 with gl := { s1.gl with notices := s1.gl.notices ++ [(q.hdr.src, q.hdr.ptag, reason)] } }
      routeFlit { hdr := { blankHdr s with ftype := 4, dst := q.hdr.src, last := true }
                  payload := .bytes (noticeBytes { ptag := q.hdr.ptag, dst := q.hdr.dst, reason := reason }), owner := none,
                  resv := none, transit := false, queuedAt := s.now, noticed := false, detoured := false, from_ := none }
        0 false s2

/-- Eligible parcels of this block whose flits no link can take: they are discarded and counted as unreachable, and the
parcel is lost 1 ms later (R115, R119). -/
def discardUnreachable (s : State) : State :=
  if !s.running then s
  else
    s.gl.parcels.foldl (fun t x =>
      let dead (m : Bool) : Bool := t.wayOut t.chip x.dst x.ptag m = .unreachable
      if x.eligibleAt.isNone || x.leftAt.isSome || !t.mayOpen x || !dead false || (x.mirror && !dead true) then t
      else
        let tag := (t.ptags.find? (fun g => !t.ptagUsed g)).getD 0
        let (y, t1) := if x.pseq.isNone then openParcel x tag t else (x, t)
        let left := (y.flits - y.sent) + (if y.mirror then y.flits - y.sentMirror else 0)
        reapResv (((List.range left).foldl (fun u _ => unreachable u) t1).modParcel x.id (fun z =>
          { z with sent := z.flits, sentMirror := if z.mirror then z.flits else 0, leftAt := some s.now }))) s

end Sys2Proof.Machine
end

