-- ==== Sys2Proof/Machine/Calendar.lean ====
section
/-! DEFINITION. The radio calendar (08, and R415, R418, R420 of 13): admission, releases, shapers, P0's share, levels and quotas,
slices, platform time and frame lock. -/

namespace Sys2Proof.Machine

/-! ### Commands that name a partition (R389) -/

/-- The state code with which a management command naming a partition is refused: FREE, or ending. -/
def namedRefusal (s : State) (p : Nat) : Option Nat :=
  if (s.part p).pstate = .free then some 0x0301 else if (s.part p).struck then some 0x0302 else none

/-- The partition a command is about: its issuer's, or the one that the management ring names. -/
def aboutPart (r : CmdRef) (named : Nat) : Nat := if srcIsCtx r.src then r.part else named

/-- The refusal of a management command that names a partition; contexts of a partition are never refused so. -/
def mgmtRefusal (r : CmdRef) (p : Nat) (s : State) : Option Nat := if srcIsCtx r.src then none else namedRefusal s p

/-! ### ADMIT_REQUEST (R265 to R267, R420) -/

/-- The fields of an ADMIT_REQUEST. -/
structure AdmitReq where
  part : Nat
  cls : Nat
  resource : Nat
  mask : Nat
  maxHops : Nat
  detour : Bool
  mirror : Bool
  tier : Bool
  rate : Nat
  maxParcel : Nat

def admitReq (part : Nat) (p : Packet) : AdmitReq :=
  { part := part, cls := pf p 20 1, resource := pf p 21 1, mask := pf p 22 1, maxHops := pbits p 23 0 5, detour := pbit p 23 5,
    mirror := pbit p 23 6, tier := pbit p 23 7, rate := pf p 24 4, maxParcel := pf p 28 4 }

def layoutAdmitRequest (p : Packet) (_ : State) : Layout :=
  let q := admitReq 0 p
  let n := (bundlesOf q.mask).length
  let maskBad :=
    if q.resource = 1 then n = 0 || 2 < n || (1 < n && !q.mirror)
    else if q.resource = 2 then n = 0 else if q.resource = 3 then n ≠ 0 else false
  let hopsBad :=
    (q.mirror && q.cls ≠ 1) ||
    (if q.resource = 1 then q.maxHops = 0 || 20 < q.maxHops || q.tier
     else q.maxHops ≠ 0 || q.mirror || (q.resource = 2 && q.tier))
  { cflags := 0
    fields := [(20, 0, 8), (21, 0, 8), (22, 0, 8), (23, 0, 8), (24, 0, 32), (28, 0, 32), (32, 0, 4)]
    ranges := [(20, q.cls = 0 || 3 < q.cls), (21, q.resource = 0 || 3 < q.resource), (22, maskBad), (23, hopsBad),
      (24, q.rate = 0 || 512000 < q.rate), (28, q.maxParcel = 0 || 65536 < q.maxParcel || (q.resource = 3 && q.maxParcel ≠ 4096)),
      (32, srcIsCtx p.src && pf p 32 1 ≠ 0)] }

/-- Home links of all copies per bundle: n × m. -/
def AdmitReq.homes (q : AdmitReq) : Nat := homesOf q.rate * (if q.mirror then 2 else 1)

/-- f (R267): the code's integer division of RATE by n. -/
def AdmitReq.slots (q : AdmitReq) : Nat := ceilDiv (q.rate / homesOf q.rate * flitsOf q.maxParcel) q.maxParcel

/-- Units charged on each tile (R267). -/
def AdmitReq.units (q : AdmitReq) : Nat :=
  if q.resource = 1 then ceilDiv (q.rate / homesOf q.rate) 256 * q.homes
  else if q.resource = 2 then ceilDiv q.rate 256
  else ceilDiv (ceilDiv q.rate 256) 4

/-- The bound (R263, R266). -/
def AdmitReq.bound (q : AdmitReq) : Nat :=
  if q.resource = 1 then
    2000 + (q.maxHops + (if q.detour then 2 else 0)) * 250 + ceilDiv (q.maxParcel * 1000 * homesOf q.rate) q.rate
  else 2000 + ceilDiv (4096000 * homesOf q.rate) q.rate

/-- A position in the KEYED lists of every bundle fits the request (R267). -/
def admitFits (s : State) (q : AdmitReq) (pos : Nat) : Bool :=
  (bundlesOf q.mask).all (fun b =>
    let ks := ((s.keyed b).drop pos).take q.homes
    ks.length = q.homes && ks.all (fun l => (q.slots : Int) ≤ s.freeLink q.cls l) && (q.units : Int) ≤ s.freeSeal q.cls 1 b)

/-- Admission's decision (R267): the position of the first home link, or refusal. -/
def admitPos (s : State) (q : AdmitReq) : Option Nat :=
  if q.resource = 1 then (List.range (9 - q.homes)).find? (admitFits s q)
  else if q.resource = 2 then
    if (bundlesOf q.mask).all (fun b => (q.units : Int) ≤ s.freeSeal q.cls 2 b) then some 0 else none
  else if (List.range 4).all (fun t => (q.units : Int) ≤ s.freeGuard q.cls && (!q.tier || (q.units : Int) ≤ s.freeSealed q.cls t)) then
    some 0
  else none

/-- A reservation put into the list, entries rising. -/
def resvInsert (l : List Resv) (r : Resv) : List Resv :=
  match l with
  | [] => [r]
  | a :: rest => if r.entry < a.entry then r :: a :: rest else a :: resvInsert rest r

/-- The reservation that an accepted request becomes (R266, R271); its bucket starts full. -/
def mkResv (s : State) (q : AdmitReq) (entry pos : Nat) : Resv :=
  let links := if q.resource = 1 then
    (bundlesOf q.mask).flatMap (fun b => (((s.keyed b).drop pos).take q.homes).map some) else []
  let r : Resv :=
    { entry := entry, gen := assocGet s.cal.resvGens entry 0, part := q.part, cls := q.cls, resource := q.resource, mask := q.mask
      maxHops := q.maxHops, detour := q.detour, mirror := q.mirror, tier := q.tier, rate := q.rate, maxParcel := q.maxParcel
      bound := q.bound, slots := if q.resource = 1 then q.slots else 0, units := q.units, homes := homesOf q.rate, pos := pos
      state := .active, links := links, shaperRate := q.rate, tokens := 0, tokensAt := s.now }
  { r with tokens := r.depth }

/-- Reservations of a partition. -/
def State.resvsOf (s : State) (p : Nat) : List Resv := s.cal.resvs.filter (fun r => r.part = p)

/-- An accepted request (R266): a free entry, which the spec leaves to the block, is a free value (log 21). -/
def grantAdmission (r : CmdRef) (q : AdmitReq) (pos : Nat) (s : State) : State :=
  let (d, s1) := s.draw
  let entry := kthFree (s.cal.resvs.map (fun x => x.entry)) (d % (1024 - s.cal.resvs.length))
  let x := mkResv s1 q entry pos
  complete r stOk
    (resultOf [(16, 4, x.id), (20, 4, x.bound), (24, 2, x.slots), (26, 2, x.units),
      (28, 1, if q.resource = 1 then x.homes + 16 * pos else x.homes)])
    { s1 with cal := { s1.cal with resvs := resvInsert s1.cal.resvs x } }

/-- R420 holds an ADMIT_REQUEST of a tenant's context in the firmware queue until the next power epoch. -/
def waitsAdmit (r : CmdRef) (s : State) : Bool := srcIsCtx r.src && r.part ≠ 0 && (s.part r.part).view.admitted

/-- ADMIT_REQUEST (R265 to R267). -/
def startAdmitRequest (r : CmdRef) (p : Packet) (s0 : State) : State :=
  let part := aboutPart r (pbits p 32 0 4)
  let s := if srcIsCtx r.src && part ≠ 0 then s0.modView part (fun v => { v with admitted := true }) else s0
  let q := admitReq part p
  match mgmtRefusal r part s with
  | some c => complete r stWrongState (detailOf c) s
  | none =>
    if q.cls = 1 && part ≠ 0 then complete r stNotPermitted (detailOf 0) s
    else if q.cls = 3 && !(s.part part).view.shared then complete r stWrongState (detailOf 0x0808) s
    else if !s.cal.frameOk then complete r stRefusedNoFrame (detailOf 0) s
    else if (s.part part).shares.resvs ≤ (s.resvsOf part).length || 1024 ≤ s.cal.resvs.length then
      let (d, s1) := s.draw
      complete r stNoResource (detailOf d) s1
    else
      match admitPos s q with
      | none => complete r stRefusedCapacity (detailOf 0) s
      | some pos => grantAdmission r q pos s

/-! ### ADMIT_RELEASE, SHAPER_SET, P0_RESERVE, SHARED_OPT_IN, CAL_QUERY -/

/-- The partition and class that a RESV carries (R266). -/
def resvPart (id : Nat) : Nat := bitsOf id 24 4
def resvCls (id : Nat) : Nat := bitsOf id 28 3

/-- The reservation that a command may name by RESV: its own partition's; the management ring any. -/
def namedResv (src : Source) (id : Nat) (s : State) : Option Resv :=
  if srcIsCtx src && resvPart id ≠ srcPart src then none else s.resvFor (resvPart id) (resvCls id) id

def layoutAdmitRelease (_ : Packet) (_ : State) : Layout := { cflags := 0, fields := [(20, 0, 32)], ranges := [] }

/-- A reservation is released (R269): parcels that name it and are not yet eligible end under R126; it goes when the last of
the others has left. -/
def releaseResv (entry : Nat) (s : State) : State :=
  let waiting := s.gl.parcels.filter (fun x => x.resv = some entry && x.eligibleAt.isNone)
  let s1 := s.modResv entry (fun x => { x with state := .releasing })
  reapResv (waiting.foldl (fun t x => withholdParcel x stWrongState 0x0801 t) s1)

/-- ADMIT_RELEASE (R269). -/
def startAdmitRelease (r : CmdRef) (p : Packet) (s : State) : State :=
  let id := pf p 20 4
  match mgmtRefusal r (resvPart id) s with
  | some c => complete r stWrongState (detailOf c) s
  | none =>
    match namedResv r.src id s with
    | none => complete r stWrongState (detailOf 0x0801) s
    | some x => complete r stOk 0 (releaseResv x.entry s)

/-- SHAPER_SET's TARGET is the BE shaper of a resource kind: 1 to 3 (log 22). -/
def beTarget (t : Nat) : Bool := 1 ≤ t && t ≤ 3

def layoutShaperSet (p : Packet) (s : State) : Layout :=
  let t := pf p 20 4
  let rate := pf p 24 4
  let depth := pf p 28 4
  let above := match namedResv p.src t s with | some x => x.rate < rate | none => false
  { cflags := 0, fields := [(20, 0, 32), (24, 0, 32), (28, 0, 32)]
    ranges := [(24, !beTarget t && (rate = 0 || above)),
      (28, if beTarget t then depth < 256 || 16777216 < depth else depth ≠ 0)] }

/-- SHAPER_SET (R272). -/
def startShaperSet (r : CmdRef) (p : Packet) (s : State) : State :=
  let t := pf p 20 4
  let rate := pf p 24 4
  if beTarget t then
    if !srcIsCtx r.src then complete r stWrongState (detailOf 0x0801) s
    else
      let rest := s.cal.shapers.filter (fun h => !(h.part = r.part && h.resource = t))
      let new : List Shaper := if rate = 0 then [] else
        [{ part := r.part, resource := t, rate := rate, depth := pf p 28 4, tokens := 0, tokensAt := s.now }]
      complete r stOk 0 { s with cal := { s.cal with shapers := rest ++ new } }
  else
    match mgmtRefusal r (resvPart t) s with
    | some c => complete r stWrongState (detailOf c) s
    | none =>
      match namedResv r.src t s with
      | none => complete r stWrongState (detailOf 0x0801) s
      | some x => complete r stOk 0 (s.modResv x.entry (fun y =>
          { y with shaperRate := rate, tokens := if y.cls = 1 then y.depth else 0, tokensAt := s.now }))

def layoutP0Reserve (p : Packet) (_ : State) : Layout :=
  { cflags := 0, fields := [(20, 0, 16), (22, 0, 16), (24, 0, 16), (26, 0, 16), (28, 0, 16)]
    ranges := [(20, 584 < pf p 20 2), (22, 2984 < pf p 22 2), (24, 2984 < pf p 24 2), (26, 4500 < pf p 26 2),
      (28, 14630 < pf p 28 2)] }

/-- The share that a P0_RESERVE asks for. -/
def p0ShareOf (p : Packet) : P0Share :=
  { link := pf p 20 2, sealInj := pf p 22 2, sealEj := pf p 24 2, sealed := pf p 26 2, guard := pf p 28 2 }

/-- The share leaves room for the TC reservations and transit positions (R268). -/
def p0Room (s : State) (h : P0Share) : Bool :=
  (List.range 64).all (fun n => h.link + s.transitRc (n / 8) + s.transitTc (n / 8) + s.heldOn false n ≤ 584) &&
  (List.range 8).all (fun b => h.sealInj + 16 + 250 * s.retiredOf 1 12 b + s.heldTile false 1 b ≤ 3000 &&
    h.sealEj + 16 + 250 * s.retiredOf 2 12 b + s.heldTile false 2 b ≤ 3000) &&
  (List.range 4).all (fun t => h.sealed + 250 * s.retiredOf 3 18 t + s.heldSill false true ≤ 4500) &&
  h.guard + 995 + s.heldSill false false ≤ 15625

/-- The share covers P0's RC reservations (R268). -/
def p0Covers (s : State) (h : P0Share) : Bool :=
  (List.range 64).all (fun n => s.heldOn true n ≤ h.link) &&
  (List.range 8).all (fun b => s.heldTile true 1 b ≤ h.sealInj && s.heldTile true 2 b ≤ h.sealEj) &&
  s.heldSill true true ≤ h.sealed && s.heldSill true false ≤ h.guard

/-- P0_RESERVE (R268, R257). -/
def startP0Reserve (r : CmdRef) (p : Packet) (s : State) : State :=
  let h := p0ShareOf p
  if !s.cal.frameOk then complete r stRefusedNoFrame (detailOf 0) s
  else if !p0Room s h then complete r stRefusedCapacity (detailOf 0) s
  else if !p0Covers s h then complete r stWrongState (detailOf 0x0806) s
  else complete r stOk 0 { s with cal := { s.cal with p0 := h } }

def layoutSharedOptIn (p : Packet) (_ : State) : Layout :=
  { cflags := 0, fields := [(20, 0, 8)], ranges := [(20, 1 < pf p 20 1)] }

/-- SHARED_OPT_IN (R273): it takes effect at the next frame boundary. -/
def startSharedOptIn (r : CmdRef) (p : Packet) (s : State) : State :=
  if pf p 20 1 = 0 && (s.resvsOf r.part).any (fun x => x.cls = 3) then complete r stWrongState (detailOf 0x0809) s
  else complete r stOk 0 (s.modView r.part (fun v => { v with optPending := some (pf p 20 1 = 1) }))

def layoutCalQuery (_ : Packet) (_ : State) : Layout := { cflags := 0, fields := [(20, 0, 32)], ranges := [] }

/-- ResvState codes of CAL_QUERY (R270). -/
def ResvState.code : ResvState → Nat
  | .active => 0 | .degraded => 1 | .releasing => 2

/-- CAL_QUERY (R270); a released reservation is still shown while its last parcels leave. -/
def startCalQuery (r : CmdRef) (p : Packet) (s : State) : State :=
  let id := pf p 20 4
  if id = 0 then
    if srcIsCtx r.src then
      complete r stOk (resultOf [(16, 2, (s.resvsOf r.part).length), (18, 1, (s.part r.part).view.level)]) s
    else complete r stOk (resultOf [(16, 2, s.cal.resvs.length)]) s
  else
    match mgmtRefusal r (resvPart id) s with
    | some c => complete r stWrongState (detailOf c) s
    | none =>
      match (s.resv? (bitsOf id 0 10)).filter (fun x => x.id = id && (!srcIsCtx r.src || x.part = r.part)) with
      | none => complete r stWrongState (detailOf 0x0801) s
      | some x => complete r stOk (resultOf [(16, 4, x.rate), (20, 4, x.bound), (24, 2, x.slots), (26, 1, x.state.code),
          (27, 1, (s.part x.part).view.level)]) s

/-! ### Ticks, levels and quotas (R274, R277, R281, R305) -/

/-- The calendar counts from READY of a start on (R560). -/
def State.counting (s : State) : Bool := s.up && s.kp.ready

/-- CALENDAR_TICK: the next tick begins, and lost home links are tried again (R277). While locked, tick 0 is started by the
edge (R281); free-running, or before the first lock, the frame ends after its last tick (R257, R560). -/
def calendarTick (s : State) : State :=
  if !s.counting || (s.cal.locked && 9999 ≤ s.cal.tick) then s
  else if 9999 ≤ s.cal.tick then
    rehome { s with cal := { s.cal with tick := 0, tickNs := 0, frame := (s.cal.frame + 1) % 2 ^ 64 } }
  else rehome { s with cal := { s.cal with tick := s.cal.tick + 1, tickNs := 0 } }

/-- Committed power in 1/16 W: 96 W and every RESV_p (R295). -/
def State.committed (s : State) : Nat := 1536 + s.parts.foldl (fun n q => n + q.resvW) 0

/-- cap_w in W (R296). -/
def State.capW (s : State) : Nat := min s.damper.pkgLimit (min s.damper.thermLimit s.damper.alertLimit)

/-- The Damper's cap for a partition, `fitted` being the capped quota grants before it in 1/16 W × 4 (R305). -/
def levelCap (s : State) (fitted p : Nat) : Nat :=
  ((List.range 4).filter (fun l => fitted + (s.part p).resvW * levelQuarters l + 4 * s.committed ≤ 64 * s.capW)).foldl max 0

/-- Quota positions of a partition on a link at a level (R274): the fraction of f, rounded down. -/
def quotaNeed (s : State) (p level link : Nat) : Nat :=
  (s.resvsOf p).foldl (fun n r =>
    if r.cls = 3 && r.resource = 1 && r.state ≠ .releasing then n + r.slots * levelQuarters level / 4 * r.on link else n) 0

/-- Every quota of a partition at a level fits (R274). -/
def quotaFits (s : State) (p level : Nat) : Bool :=
  (List.range 64).all (fun n => (quotaNeed s p level n : Int) ≤ s.freeLink 3 n)

/-- The calendar's target level (R274). -/
def levelTarget (s : State) (p : Nat) : Nat := ((List.range 4).filter (quotaFits s p)).foldl max 0

/-- The level after a boundary (R274): up at an even frame, down at an odd one. -/
def levelStep (n t l : Nat) : Nat :=
  if l < t && n % 2 = 0 then l + 1 else if t < l && n % 2 = 1 then l - 1 else l

/-- The quota positions of a partition fixed for the frame. -/
def fixQuota (p level : Nat) (s : State) : State :=
  let new := ((List.range 64).map (fun n => (p, n, min (quotaNeed s p level n) (s.freeLink 3 n).toNat))).filter (fun q => q.2.2 ≠ 0)
  { s with cal := { s.cal with quotas := s.cal.quotas ++ new } }

/-- One partition at a frame boundary: opt-in or out, then its level and quotas (R273, R274, R281). -/
def boundaryPart (p cap : Nat) (s : State) : State :=
  let v := (s.part p).view
  let s1 := { s with damper := { s.damper with rows := s.damper.rows.modify p (fun g => { g with oldLevel := v.level }) } }
  match v.optPending with
  | some on => s1.modView p (fun w => { w with shared := on, level := 0, optPending := none })
  | none =>
    if !v.shared then s1
    else
      let l := levelStep s.cal.frame (min (levelTarget s p) cap) v.level
      fixQuota p l (s1.modView p (fun w => { w with level := l }))

/-- The caps of R305 in ascending partition number. -/
def levelCaps (s : State) : List Nat :=
  ((List.range 16).foldl (fun (acc : List Nat × Nat) p =>
    if (s.part p).view.shared then
      let c := levelCap s acc.2 p
      (acc.1 ++ [c], acc.2 + (s.part p).resvW * levelQuarters c)
    else (acc.1 ++ [0], acc.2)) ([], 0)).1

/-- FRAME_BOUNDARY: the caps, then the levels (R274, R305, R314). -/
def frameBoundary (s : State) : State :=
  if !s.counting then s
  else
    let caps := levelCaps s
    (List.range 16).foldl (fun t p => boundaryPart p (caps.getD p 0) t) { s with cal := { s.cal with quotas := [] } }

/-! ### Slices (R79, R80, R81, R279) -/

/-- The next context, in ascending slots after `h`, with work ready in a class. -/
def nextReady (s : State) (part cls h : Nat) : Option Nat :=
  let ready := ((s.cmds.ctxs.filter (fun c => c.part = part)).map (fun c => c.slot)).filter (fun x => s.readyIn part cls x)
  match (ready.filter (fun x => h < x)).min? with
  | some x => some x
  | none => ready.min?

/-- The commands of a context that run in a class: collectives and unfolds of the class, and its armed waits (R81). -/
def runningIn (s : State) (part cls slot : Nat) : List CmdRef :=
  (s.inl.groups.filterMap (fun g => if g.part = part then
    g.running.bind (fun c => if c.cls = cls && c.ref.slot = slot then some c.ref else none) else none)) ++
  ((s.inl.unfolds.filter (fun u => u.ref.part = part && u.cls = cls && u.ref.slot = slot)).map (fun u => u.ref)) ++
  ((s.pegs.waiters.filter (fun w => w.ref.part = part && w.ref.slot = slot)).map (fun w => w.ref))

/-- Marks put on commands in flight. -/
def markInflight (rs : List CmdRef) (f : Inflight → Inflight) (s : State) : State :=
  { s with cmds := { s.cmds with inflight := s.cmds.inflight.map (fun x => if rs.contains x.ref then f x else x) } }

/-- The running collectives of a context and class. -/
def modRunning (part cls slot : Nat) (f : Collective → Collective) (s : State) : State :=
  let g (c : Collective) : Collective := if c.ref.part = part && c.ref.slot = slot && c.cls = cls then f c else c
  { s with inl := { s.inl with groups := s.inl.groups.map (fun x => { x with running := x.running.map g }) } }

/-- The armed waits of a context. -/
def modWaitsOf (part slot : Nat) (f : Waiter → Waiter) (s : State) : State :=
  { s with pegs := { s.pegs with waiters := s.pegs.waiters.map (fun w => if w.ref.part = part && w.ref.slot = slot then f w else w) } }

/-- A context is pre-empted in a class (R81, R279, R489, R495). -/
def preemptCtx (part cls slot : Nat) (s : State) : State :=
  let rs := runningIn s part cls slot
  let s1 := markInflight rs (fun x => { x with preempted := true }) s
  let s2 := modWaitsOf part slot (fun w => { w with preempted := true })
    (modRunning part cls slot (fun c => { c with preempted := true }) s1)
  let s3 := s2.modCtx slot (fun c => { c with preempted := if c.preempted.contains cls then c.preempted else c.preempted ++ [cls] })
  let s4 := account slot (fun a => { a with preemptions := (a.preemptions + 1) % 2 ^ 32 }) s3
  rs.foldl (fun t r => traceCtx part slot 3 (r.record t.now 0x07 0 0) t) s4

/-- A context resumes in a class: its collectives go on, its waits are evaluated (R81, R226, R495). -/
def resumeCtx (part cls slot : Nat) (s : State) : State :=
  match s.ctx? slot with
  | none => s
  | some c =>
    if !c.preempted.contains cls then s
    else
      let rs := runningIn s part cls slot
      let s1 := s.modCtx slot (fun x => { x with preempted := x.preempted.filter (fun k => k ≠ cls) })
      let s2 := modRunning part cls slot (fun k => { k with preempted := false, lastChunk := s.now }) s1
      let s3 := rs.foldl (fun t r => traceCtx part slot 3 (r.record t.now 0x08 0 0) t) s2
      (s3.pegs.waiters.filter (fun w => w.ref.part = part && w.ref.slot = slot && w.preempted)).foldl (fun t w => resumeWait w t) s3

/-- The excess of a run that outlasted the slice is charged to the context's next one (R79). -/
def chargeOverrun (part cls slot excess : Nat) (s : State) : State :=
  if excess = 0 then s
  else
    account slot (fun a => { a with overruns := (a.overruns + 1) % 2 ^ 32 })
      ((markInflight (runningIn s part cls slot) (fun x => { x with overrun := true }) s).modCtx slot (fun c =>
        { c with overrunNs := excess }))

/-- SLICE_END (R279): the class goes to the next context with work ready; a context alone keeps it. -/
def sliceEnd (part cls excess : Nat) (s : State) : State :=
  match s.sliceOf part cls with
  | none => s
  | some h =>
    if !s.running then s
    else
      let s1 := chargeOverrun part cls h excess s
      match nextReady s1 part cls h with
      | none => s1.setSlice part cls none
      | some n =>
        if n = h then s1
        else
          let s2 := if s1.readyIn part cls h then preemptCtx part cls h s1 else s1
          resumeCtx part cls n ((s2.setSlice part cls (some n)).modCtx n (fun c => { c with overrunNs := 0 }))

/-- RUN_LIMIT_FAULT (R80): the command's context faults, and its rung follows. -/
def runLimitFault (part slot seq : Nat) (s : State) : State :=
  match s.cmds.inflight.find? (fun x => x.ref.part = part && x.ref.slot = slot && x.ref.seq = seq && !isFirmwareClass x.ref.cls) with
  | none => s
  | some x =>
    let r := x.ref
    if !s.running then s
    else
      ctxFault r 1 (complete r stContextFaulted (detailOf 1) s)

/-! ### Platform time (R256 to R258, R560) -/

/-- A stored time moved by `d`. -/
def moved (d : Int) (t : Nat) : Nat := ((t : Int) + d).toNat

/-- Every stored platform time that the block compares with the present time moves by `d` (R258 step 2, R560). -/
def shiftTimes (d : Int) (s : State) : State :=
  let m := moved d
  let z (t : Nat) : Nat := if t = 0 then 0 else m t
  { s with
    parts := s.parts.map (fun q => { q with phaseAt := m q.phaseAt, tornAt := m q.tornAt })
    cmds := { s.cmds with ctxs := s.cmds.ctxs.map (fun c => { c with
      boundary := c.boundary.map (fun b => (m b.1, b.2)) }) }
    gl := { s.gl with
      links := s.gl.links.map (fun l => { l with
        keyAt := m l.keyAt, keyxAt := m l.keyxAt, rotateSent := l.rotateSent.map m, ackAt := m l.ackAt, rxAt := m l.rxAt
        failTimes := l.failTimes.map m, quarTimes := l.quarTimes.map m, echoAt := l.echoAt.map m
        txq := l.txq.map (fun q => { q with queuedAt := m q.queuedAt }) })
      parcels := s.gl.parcels.map (fun x => { x with
        acceptedAt := m x.acceptedAt, eligibleAt := x.eligibleAt.map m, leftAt := x.leftAt.map m }) }
    inl := { s.inl with groups := s.inl.groups.map (fun g => { g with
      running := g.running.map (fun c => { c with lastChunk := m c.lastChunk }) }) }
    sill := { s.sill with
      lanes := s.sill.lanes.map (fun l => { l with seen := l.seen.map (fun e => (e.1, m e.2)) })
      accesses := s.sill.accesses.map (fun a => { a with issuedAt := m a.issuedAt })
      ledger := s.sill.ledger.map (fun e => { e with time := m e.time })
      sleds := s.sill.sleds.map (fun q => { q with sentAt := m q.sentAt })
      remote := s.sill.remote.map (fun q => { q with settledAt := q.settledAt.map m }) }
    pegs := { s.pegs with
      waiters := s.pegs.waiters.map (fun w => { w with deadline := z w.deadline })
      remote := s.pegs.remote.map (fun w => { w with deadline := z w.deadline })
      signals := s.pegs.signals.map (fun g => { g with settledAt := g.settledAt.map m })
      inbox := s.pegs.inbox.map (fun i => { i with msg := { i.msg with applyAt := m i.msg.applyAt } }) }
    cal := { s.cal with
      resvs := s.cal.resvs.map (fun r => { r with tokensAt := m r.tokensAt })
      shapers := s.cal.shapers.map (fun h => { h with tokensAt := m h.tokensAt }) }
    plumb := { s.plumb with
      srcs := s.plumb.srcs.map (fun e => (e.1, { e.2 with times := e.2.times.map m }))
      rungs := s.plumb.rungs.map (fun r => { r with startedAt := m r.startedAt, timerFrom := r.timerFrom.map m })
      watched := s.plumb.watched.map (fun w => (w.1, w.2.1, m w.2.2)) }
    scribe := { s.scribe with
      cutAt := s.scribe.cutAt.map (fun c => (m c.1, c.2))
      restartAt := s.scribe.restartAt.map (fun c => (m c.1, c.2))
      traces := s.scribe.traces.map (fun t => { t with sampledAt := m t.sampledAt }) }
    damper := { s.damper with ramps := s.damper.ramps.map (fun r => { r with start := m r.start }) }
    debugs := { s.debugs with challenge := s.debugs.challenge.map (fun c => (c.1, m c.2)) }
    tests := { s.tests with
      runs := s.tests.runs.map (fun t => { t with startedAt := m t.startedAt })
      injections := s.tests.injections.map (fun i => { i with armedAt := m i.armedAt }) }
    mail := { s.mail with chans := s.mail.chans.map (fun c => { c with inAt := c.inAt.map m }) } }

/-- Bounds whose DEADLINE platform time has stepped past (R257, R275). -/
def breakPassed (s : State) : State :=
  (s.gl.parcels.filter (fun x => x.bounded && x.deadline < s.now)).foldl (fun t x => boundBroken x t) s

/-- Platform time, frame and tick at an accepted edge of time `t` (R256). -/
def atEdge (t : Nat) (s : State) : State :=
  { s with cal := { s.cal with tick := 0, tickNs := 0, frame := t / 10000000, expectAt := t + 10000000, lastTod := t
                               locked := true, freeRun := false, firstEdge := true, relock := (0, 0, 0) } }

/-- The first edge after a start (R560). -/
def firstLock (tod : Nat) (s : State) : State :=
  let s1 := shiftTimes ((tod : Int) - s.now) s
  atEdge tod { s1 with cal := { s1.cal with now := tod, slow := 0, slowPhase := false, todOk := true } }

/-- An edge accepted while locked (R257): forward at once, backward absorbed at half rate. -/
def acceptEdge (t : Nat) (todValid : Bool) (s : State) : State :=
  let s1 := { s with cal := { s.cal with todOk := todValid, frameOk := true } }
  if s.now ≤ t then breakPassed (atEdge t { s1 with cal := { s1.cal with now := t, slow := 0, slowPhase := false } })
  else atEdge t { s1 with cal := { s1.cal with slow := 2 * (s.now - t), slowPhase := false } }

/-- The re-lock of a free-running block at a third consistent edge (R257, R258). -/
def relockEdge (tod count : Nat) (s : State) : State :=
  if s.now ≤ tod then
    breakPassed (atEdge tod { s with cal := { s.cal with now := tod, slow := 0, slowPhase := false, todOk := true, frameOk := true,
                                                         backPending := false } })
  else if s.cal.backOk then
    let sent := s.gl.parcels.filter (fun x => x.pseq.isSome && 1 ≤ x.cls && x.cls ≤ 3)
    let s1 := shiftTimes ((tod : Int) - s.now) (sent.foldl (fun t x => boundBroken x t) s)
    let s2 := atEdge tod { s1 with cal := { s1.cal with now := tod, slow := 0, slowPhase := false, todOk := true, frameOk := true
                                                        backPending := false, backOk := false } }
    plumbEvent 0x02 3 0 none false tod none s2
  else
    let s1 := { s with cal := { s.cal with relock := (count, s.now, tod), backPending := true } }
    if s.cal.backPending then s1 else plumbEvent 0x02 2 0 none false tod none s1

/-- Two times within 100 ns of each other. -/
def within100 (a b : Nat) : Bool := a ≤ b + 100 && b ≤ a + 100

/-- FRAME_P_EDGE (R256 to R258, R560). -/
def framePEdge (tod : Nat) (todValid : Bool) (s : State) : State :=
  if !s.counting then s
  else if !s.cal.firstEdge then if todValid then firstLock tod s else s
  else if s.cal.locked then
    let due := s.cal.lastTod + 10000000
    if within100 s.now s.cal.expectAt && (!todValid || tod = due) then acceptEdge due todValid s else s
  else if !todValid then { s with cal := { s.cal with relock := (0, 0, 0) } }
  else
    let (k, at_, last) := s.cal.relock
    let count := if k ≠ 0 && within100 s.now (at_ + 10000000) && tod = last + 10000000 then k + 1 else 1
    if 3 ≤ count then relockEdge tod count s else { s with cal := { s.cal with relock := (count, s.now, tod) } }

/-- FRAME_LOCK_LOST: no edge was accepted by 100 ns after the expected time (R257). -/
def frameLockLost (s : State) : State :=
  if !s.counting || !s.cal.locked then s
  else
    let t := s.atTime (s.cal.expectAt + 100)
    plumbEvent 0x02 1 0 none false 0 none
      { t with cal := { t.cal with locked := false, freeRun := true, frameOk := false, slips := bump 255 t.cal.slips
                                   frame := (t.cal.frame + 1) % 2 ^ 64, tick := 0, tickNs := 0, relock := (0, 0, 0) } }

/-- One KCLK cycle: the always-on count, and platform time (R37, R256, R257, R446, R560; log 3). -/
def kclk (s : State) : State :=
  if !s.start.pwrAon then s
  else
    let period := if s.start.aonOnSosc then 40 else 32
    let done := period ≤ s.start.aonPhase + 1
    let s1 := { s with start := { s.start with
      aonCount := if done then s.start.aonCount + period else s.start.aonCount
      aonPhase := if done then 0 else s.start.aonPhase + 1 } }
    if !s1.cal.firstEdge then
      { s1 with cal := { s1.cal with now := s1.start.aonCount, tickNs := if s1.counting then s1.cal.tickNs + 1 else s1.cal.tickNs } }
    else if !s1.counting then s1
    else if 0 < s1.cal.slow then
      if s1.cal.slowPhase then
        { s1 with cal := { s1.cal with slow := s1.cal.slow - 1, slowPhase := false, now := s1.cal.now + 1, tickNs := s1.cal.tickNs + 1 } }
      else { s1 with cal := { s1.cal with slow := s1.cal.slow - 1, slowPhase := true } }
    else { s1 with cal := { s1.cal with now := s1.cal.now + 1, tickNs := s1.cal.tickNs + 1 } }

end Sys2Proof.Machine
end

