-- ==== Sys2Proof/Machine/Damper.lean ====
section
/-! DEFINITION. The Damper (09, and R418, R419 of 13): telemetry, grants, heat, ballast, lane groups, and the queries of class
0x9. Watts are held in 1/16 W. -/

namespace Sys2Proof.Machine

/-! ### Ballast (R294, R301, R302, R306, R307) -/

/-- What a ramp draws at a time. -/
def Ramp.at (r : Ramp) (t : Nat) : Nat :=
  let e := min r.length (t - r.start)
  if r.length = 0 then 0 else if r.up then r.amount * e / r.length else r.amount * (r.length - e) / r.length

/-- A ramp runs. -/
def Ramp.runs (r : Ramp) (t : Nat) : Bool := r.start ≤ t && t < r.start + r.length

/-- The ns that a drop takes at the DM_RAMP slope. -/
def State.slopeNs (s : State) (amount : Nat) : Nat := ceilDiv (amount * 1000) (16 * s.damper.slope)

/-- A ramp starts. -/
def addRamp (amount length : Nat) (up halt : Bool) (s : State) : State :=
  { s with damper := { s.damper with ramps := s.damper.ramps ++
      [{ amount := amount, start := s.now, length := length, up := up, halt := halt }] } }

/-- A partition's PART_ENERGY as power. -/
def GrantRow.draw (g : GrantRow) : Nat := g.energy * 16 / 100

/-- What the ballast banks draw now: the ramps, and the shares of struck partitions (R307). -/
def State.ballast (s : State) : Nat :=
  s.damper.ramps.foldl (fun n r => n + r.at s.now) 0 +
    s.damper.rows.foldl (fun n g => match g.frozen with | some f => n + (f - g.draw) | none => n) 0

/-- Ballast capacity, in 1/16 W (R294). -/
def State.ballastCapacity (s : State) : Nat := 4 * s.damper.rated.foldl (fun n r => n + r) 0

/-- CODE of every bank (R294, R322). -/
def State.ballastCode (s : State) : Nat :=
  if s.ballastCapacity = 0 then 0 else min 255 (ceilDiv (s.ballast * 255) s.ballastCapacity)

/-- DM_STATUS.HALT_RAMP (R319). -/
def State.haltRamp (s : State) : Bool := s.damper.ramps.any (fun r => r.halt && r.runs s.now)

/-- The drop of a halt, in 1/16 W (R306). -/
def State.haltDrop (s : State) : Nat := s.damper.pkgPower * 16 / 10 - 16 * s.damper.idleW

/-- The length of a halt's or resume's ramp (R306). -/
def State.haltRampNs (s : State) : Nat := max 50000 (s.slopeNs s.haltDrop)

/-! ### Grants (R295 to R298, R418) -/

def State.grantRow (s : State) (p : Nat) : GrantRow := s.damper.rows.getD p GrantRow.zero

def State.modRow (s : State) (p : Nat) (f : GrantRow → GrantRow) : State :=
  { s with damper := { s.damper with rows := s.damper.rows.modify p f } }

/-- A partition's quota power in 1/96 of 1/16 W. -/
def State.quota96 (s : State) (p : Nat) : Nat := (s.part p).resvW * s.fq p

/-- Quota power of all partitions, in 1/96 of 1/16 W. -/
def State.quotaSum (s : State) : Nat := (List.range 16).foldl (fun n p => n + s.quota96 p) 0

/-- eff of R296, in 1/96 of 1/16 W. -/
def State.eff96 (s : State) : Nat := max (1536 * s.capW) (96 * s.committed + s.quotaSum)

/-- The pool of R296, in 1/96 of 1/16 W. -/
def State.pool96 (s : State) : Nat := if s.damper.telemLost then 0 else s.eff96 - 96 * s.committed - s.quotaSum

/-- A partition that shares the pool. -/
def State.wantsPool (s : State) (p : Nat) : Bool := (s.part p).view.beWeight ≠ 0 && (s.grantRow p).demand

/-- The reserved part moved towards RESV_p, in budget ticks 24 to 99 (R296). -/
def stepReached (k resv rg : Nat) : Nat :=
  if k < 24 then rg else if rg ≤ resv then min resv (rg + 400) else max resv (rg - 400)

/-- A partition's part of a tick: reserved part reached, target, and the parts by which it may rise. -/
structure Want where
  reached : Nat
  down : Nat
  upResv : Nat
  upQuota : Nat
  upBe : Nat

/-- The target of a partition and its step, clamped to 25 W (R296). While its reserved part is still short of RESV_p in ticks
0 to 23, its quota waits too (R419, log 23). -/
def wantOf (s : State) (wsum p : Nat) : Want :=
  let g := s.grantRow p
  let rg := stepReached s.bt (s.part p).resvW g.reached
  let q := if s.bt < 24 && rg < (s.part p).resvW then 0 else s.quota96 p
  let be := if s.wantsPool p && wsum ≠ 0 then s.pool96 * (s.part p).view.beWeight / wsum else 0
  let target := if s.damper.tripped || (s.damper.emergency && p ≠ 0) then 0 else (96 * rg + q + be) / 96
  if g.frozen.isSome || s.damper.tripped then { reached := rg, down := 0, upResv := 0, upQuota := 0, upBe := 0 }
  else
    let up := min 400 (target - g.grant)
    let r := min up (rg - g.grant)
    let qq := min (up - r) ((96 * rg + q) / 96 - max g.grant rg)
    { reached := if s.damper.emergency && p ≠ 0 then 0 else rg, down := min 400 (g.grant - target), upResv := r, upQuota := qq
      upBe := up - r - qq }

/-- Rises taken in priority order while they fit (R296). -/
def takeRises : Nat → List (Nat × Nat) → List (Nat × Nat)
  | _, [] => []
  | budget, (p, n) :: rest => (p, min budget n) :: takeRises (budget - n) rest

/-- The grants of a budget tick (R296, R297). -/
def computeGrants (s : State) : State :=
  let wsum := (List.range 16).foldl (fun n p => if s.wantsPool p then n + (s.part p).view.beWeight else n) 0
  let ws := (List.range 16).map (fun p => (p, wantOf s wsum p))
  let up := ws.foldl (fun n w => n + w.2.upResv + w.2.upQuota + w.2.upBe) 0
  let down := ws.foldl (fun n w => n + w.2.down) 0
  let p0 := ws.filter (fun w => w.1 = 0)
  let rest := ws.filter (fun w => w.1 ≠ 0)
  let order := p0.map (fun w => (w.1, w.2.upResv + w.2.upQuota + w.2.upBe)) ++ rest.map (fun w => (w.1, w.2.upResv)) ++
    rest.map (fun w => (w.1, w.2.upQuota)) ++ rest.map (fun w => (w.1, w.2.upBe))
  let rises := takeRises (down + 400) order
  let fall (n : Nat) : Nat := if up + 400 < down then n * (up + 400) / down else n
  let rise (p : Nat) : Nat := (rises.filter (fun r => r.1 = p)).foldl (fun n r => n + r.2) 0
  ws.foldl (fun t w => t.modRow w.1 (fun g =>
    { g with reached := w.2.reached, lastGrant := g.grant, grant := g.grant + rise w.1 - fall w.2.down })) s

/-- alert_limit at a tick (R300). -/
def alertStep (s : State) : Nat :=
  if s.damper.alert then s.damper.pkgPower / 10 - 25 else min s.damper.pkgLimit (s.damper.alertLimit + 25)

/-- BUDGET_TICK (R290, R296, R300, R303, R313): it stands still during a halt (R501). -/
def budgetTick (s0 : State) : State :=
  if !s0.counting || s0.scribe.halted then s0
  else
    let d := s0.damper
    let s := { s0 with damper := { d with
      btick := s0.cal.tick / 100
      pkgLimit := d.pkgNext.getD d.pkgLimit
      pkgNext := none
      missed := if d.tickEnd then 0 else d.missed + 1
      telemLost := if d.tickEnd then false else d.telemLost
      tickEnd := false
      ramps := d.ramps.filter (fun r => r.runs s0.now) } }
    let s1 := { s with damper := { s.damper with alertLimit := alertStep s } }
    let s2 := computeGrants s1
    { s2 with damper := { s2.damper with
      effLimit := s1.eff96 / 1536
      overLimit := 1536 * s1.capW < 96 * s1.committed + s1.quotaSum
      pool := s1.pool96 / 96
      alertSince := if s1.damper.alert && s1.pool96 = 0 then some ((s1.damper.alertSince.getD 0) + 1) else
        if s1.damper.alert then some 0 else none } }

/-! ### Telemetry and heat (R291, R293, R299 to R303) -/

/-- DM_STATUS.EVENTS (R319). -/
def dmEvent (s : State) : State := { s with damper := { s.damper with events := bump 255 s.damper.events } }

/-- The thermal emergency begins (R301). -/
def thermEmergency (s : State) : State :=
  if s.damper.emergency || s.damper.tripped then s
  else
    let drop := (s.damper.rows.drop 1).foldl (fun n g => n + min g.draw g.grant) 0
    let zero (p : Nat) (g : GrantRow) : GrantRow :=
      if p = 0 then g else { g with grant := 0, reached := 0, frozen := g.frozen.map (fun _ => 0) }
    let s1 := { s with damper := { s.damper with emergency := true, touched := true, coolEpoch := false,
                                                 rows := s.damper.rows.mapIdx zero } }
    plumbEvent 0x05 0 1 none false 0 none (dmEvent (addRamp drop (s.slopeNs drop) false false s1))

/-- The thermal trip (R302); the tray rung follows. -/
def thermTrip (s : State) : State :=
  if s.damper.tripped then s
  else
    let drop := s.damper.pkgPower * 16 / 10
    let s1 := { s with damper := { s.damper with
      tripped := true, rows := s.damper.rows.map (fun g => { g with grant := 0, reached := 0, frozen := g.frozen.map (fun _ => 0) }) } }
    plumbEvent 0x06 0 7 none false 0 none { (addRamp drop (max 50000 (s.slopeNs drop)) false false s1) with
      plumb := { s1.plumb with trayAsked := some 0x06 } }

/-- A TEMP reading (R299, R301, R302). -/
def tempWord (sensor : Nat) (t : Int) (s : State) : State :=
  let d := s.damper
  let s1 := { s with damper := { d with
    temps := d.temps.filter (fun e => e.1 ≠ sensor) ++ [(sensor, t)]
    coolEpoch := d.coolEpoch && decide (t < 16 * ((d.tCrit : Int) - 5)) } }
  if 16 * (d.tTrip : Int) ≤ t then thermTrip s1
  else if 16 * (d.tCrit : Int) ≤ t then thermEmergency s1
  else s1

/-- A PART_ENERGY reading (R292, R293, R311): it describes the tick that has just ended. -/
def energyWord (p v : Nat) (s : State) : State :=
  let e := bitsOf v 0 23
  let dem := bitOf v 23
  s.modRow p (fun g => { g with
    energy := e, demand := dem, demandTicks := if dem then g.demandTicks + 1 else g.demandTicks
    overTicks := if 105 * g.lastGrant < 16 * e then g.overTicks + 1 else 0 })

/-- TELEM_WORD (R291). -/
def telemWord (w : Word) (s : State) : State :=
  let type := bitsOf w.toNat 28 4
  let idx := bitsOf w.toNat 24 4
  let v := bitsOf w.toNat 0 24
  if !s.up then s
  else if type = 1 then { s with damper := { s.damper with pkgPower := v } }
  else if type = 2 then { s with damper := { s.damper with rails := assocSet s.damper.rails idx v } }
  else if type = 3 then tempWord idx (signedOf 16 (bitsOf v 0 16)) s
  else if type = 4 then energyWord idx v s
  else if type = 5 then { s with damper := { s.damper with tickEnd := true } }
  else dmEvent s

/-- TELEM_LOST: no TICK_END for two consecutive budget ticks (R303). -/
def telemLost (s : State) : State :=
  if !s.up || s.damper.telemLost || s.damper.missed < 2 then s
  else plumbEvent 0x03 0 1 none false 0 none { s with damper := { s.damper with telemLost := true, coolEpoch := false, pool := 0 } }

/-- GRANT_VIOLATION: PART_ENERGY above the grant by more than 5% in three consecutive ticks (R293). -/
def grantViolation (p : Nat) (s : State) : State :=
  if !s.up || (s.grantRow p).overTicks < 3 then s
  else plumbEvent 0x07 0 1 (some p) false 0 (some p) (dmEvent (s.modRow p (fun g => { g with overTicks := 0 })))

/-- LIMIT_ALERT_CHANGE (R300). -/
def limitAlertChange (high : Bool) (s : State) : State :=
  if !s.up then s
  else { s with damper := { s.damper with alert := high, alertSince := if high then some 0 else none } }

/-- REGULATOR_ALERT: LIMIT_ALERT high for 10 ms with a zero pool (R300). -/
def regulatorAlert (s : State) : State :=
  match s.damper.alertSince with
  | some n => if s.up && 100 ≤ n then plumbEvent 0x04 0 1 none false 0 none { s with damper := { s.damper with alertSince := some 0 } } else s
  | none => s

/-- therm_limit at an epoch boundary (R299). -/
def thermStep (s : State) : Nat × Bool :=
  let d := s.damper
  match (d.temps.map (fun e => e.2)).max? with
  | none => (d.thermLimit, false)
  | some t =>
    if 16 * (d.tHot : Int) ≤ t then (d.thermLimit - 25, true)
    else if t < 16 * ((d.tHot : Int) - 3) then (min d.pkgLimit (d.thermLimit + 25), false)
    else (d.thermLimit, false)

/-- PACE of R311. -/
def paceOf (ticks : Nat) : Nat := if ticks = 0 then 0 else if ticks ≤ 3 then 1 else if ticks ≤ 7 then 2 else 3

/-- Used ÷ reserved × 255 (R403). -/
def occupancy (used reserved : Nat) : Nat := if reserved = 0 then 0 else min 255 (used * 255 / reserved)

/-- Link slots and Sill units a partition has reserved in one power epoch of 1,000 ticks. -/
def State.reservedLink (s : State) (p : Nat) : Nat :=
  1000 * (s.resvsOf p).foldl (fun n r => n + r.slots * (r.links.filter (fun l => l.isSome)).length) 0
def State.reservedSill (s : State) (p : Nat) : Nat :=
  1000 * (s.resvsOf p).foldl (fun n r => if r.resource = 3 then n + 4 * r.units else n) 0

/-- A partition's figures of the epoch that ends (R301, R311, R403, R420). -/
def epochPart (p : Nat) (s : State) : State :=
  let touched := s.damper.touched && p ≠ 0
  (s.modView p (fun v => { v with
    pace := paceOf (s.grantRow p).demandTicks, emergency := touched
    completedLast := v.completed, completed := 0
    linkOcc := occupancy v.linkUsed (s.reservedLink p), linkUsed := 0
    sillOcc := occupancy v.sillUsed (s.reservedSill p), sillUsed := 0
    admitted := false })).modRow p (fun g => { g with demandTicks := 0 })

/-- The Damper's part of POWER_EPOCH_BOUNDARY (R299, R301, R311): an emergency ends after a whole cool epoch. -/
def damperEpoch (s : State) : State :=
  let (limit, hot) := thermStep s
  let s1 := (List.range 16).foldl (fun t p => epochPart p t) s
  let ends := s.damper.emergency && s.damper.coolEpoch && !s.damper.telemLost
  let still := s.damper.emergency && !ends
  { s1 with damper := { s1.damper with thermLimit := limit, hot := hot, emergency := still, touched := still,
                                       coolEpoch := !s.damper.telemLost } }

/-! ### Lane groups (R308) -/

/-- An RC, TC or quota position stands on a tile's lanes: 0 to 7 Guyline, 8 to 11 Sill (log 24). -/
def State.tileHeld (s : State) (tile : Nat) : Bool :=
  if tile < 8 then
    s.cal.p0.sealInj ≠ 0 || s.cal.p0.sealEj ≠ 0 ||
      s.cal.resvs.any (fun r => r.resource ≠ 3 && bitOf r.mask tile) || s.cal.quotas.any (fun q => q.2.1 / 8 = tile)
  else s.cal.p0.sealed ≠ 0 || s.cal.resvs.any (fun r => r.resource = 3 && r.tier)

/-- LANE_GROUP_GATE: in L1, a group idle for 10 µs, unless it holds a position or carries MC units. -/
def laneGroupGate (tile group : Nat) (s : State) : State :=
  if !s.up || s.damper.lstate ≠ .l1 || 12 ≤ tile || 3 ≤ group || (tile < 8 && group = 0) || s.tileHeld tile ||
      s.damper.gated.contains (tile, group) then s
  else { s with damper := { s.damper with gated := s.damper.gated ++ [(tile, group)] } }

/-- LANE_GROUP_WAKE. -/
def laneGroupWake (tile group : Nat) (s : State) : State :=
  { s with damper := { s.damper with gated := s.damper.gated.filter (fun g => g ≠ (tile, group)) } }

/-! ### Class 0x9 commands (R311 to R313) -/

def layoutSetPkgLimit (p : Packet) (_ : State) : Layout :=
  { cflags := 0, fields := [(20, 0, 16)], ranges := [(20, pf p 20 2 < 300 || 1200 < pf p 20 2)] }

/-- Levels by which the partition furthest above its cap must fall under a new limit (R305, R313). -/
def levelExcess (s : State) (limit : Nat) : Nat :=
  let t := { s with damper := { s.damper with pkgLimit := limit } }
  let caps := levelCaps t
  (List.range 16).foldl (fun n p => max n ((s.part p).view.level - caps.getD p 0)) 0

/-- The frame by which eff equals a new limit: levels fall by one at odd frames (R274, R313). -/
def limitFrame (s : State) (limit : Nat) : Nat :=
  let d := levelExcess s limit
  let n := s.cal.frame
  if d = 0 then n else (if n % 2 = 0 then n + 1 else n + 2) + 2 * (d - 1)

/-- SET_PKG_LIMIT (R295, R313). -/
def startSetPkgLimit (r : CmdRef) (p : Packet) (s : State) : State :=
  let limit := pf p 20 2
  if 16 * limit < s.committed then complete r stWrongState (detailOf 0x0901) s
  else if s.ballastCapacity + 16 * s.damper.idleW < 16 * limit then complete r stWrongState (detailOf 0x0902) s
  else complete r stOk (resultOf [(16, 2, s.damper.effLimit), (20, 8, limitFrame s limit)])
    { s with damper := { s.damper with pkgNext := some limit } }

/-- The layout of a query that takes a partition number from the management ring (R311, R312). -/
def layoutPartQuery9 (p : Packet) : Layout :=
  { cflags := 0, fields := [(20, 0, 4)], ranges := [(20, srcIsCtx p.src && pf p 20 1 ≠ 0)] }

def layoutGrantQuery (p : Packet) (_ : State) : Layout := layoutPartQuery9 p
def layoutThrottleQuery (p : Packet) (_ : State) : Layout := layoutPartQuery9 p

/-- GRANT_QUERY (R312). -/
def startGrantQuery (r : CmdRef) (p : Packet) (s : State) : State :=
  let part := aboutPart r (pbits p 20 0 4)
  match mgmtRefusal r part s with
  | some c => complete r stWrongState (detailOf c) s
  | none =>
    let q := s.part part
    let g := s.grantRow part
    let own := [(16, 2, q.resvW), (18, 2, if q.view.shared then q.resvW * levelQuarters q.view.level / 4 else 0)]
    if srcIsCtx r.src then complete r stOk (resultOf own) s
    else complete r stOk (resultOf (own ++
      [(20, 2, (96 * g.grant - 96 * g.reached - s.quota96 part) / 96), (22, 2, g.grant), (24, 2, s.damper.effLimit),
        (26, 2, s.committed / 16)])) s

/-- THROTTLE_QUERY (R311). -/
def startThrottleQuery (r : CmdRef) (p : Packet) (s : State) : State :=
  let part := aboutPart r (pbits p 20 0 4)
  match mgmtRefusal r part s with
  | some c => complete r stWrongState (detailOf c) s
  | none =>
    let v := (s.part part).view
    complete r stOk (resultOf [(16, 1, v.pace), (17, 1, if v.shared then v.level else 0xFF),
      (18, 1, (if v.emergency then 1 else 0) + (if v.beWeight ≠ 0 then 2 else 0))]) s

end Sys2Proof.Machine
end

