-- ==== Sys2Proof/Machine/Keys.lean ====
section
/-! DEFINITION. Kingpost's key cache and the key commands (10): blobs, loads, generation, eviction, queries, binding sets (R382,
R383 of 11). -/

namespace Sys2Proof.Machine

/-! ### Blobs (R334 to R338) -/

/-- Bytes of a blob header (R334). -/
def hdrBytes (b : Blob) (off len : Nat) : Nat := bitsOf b.header.toNat (8 * off) (8 * len)

def blobKind (b : Blob) : Nat := hdrBytes b 1 1
def blobUsage (b : Blob) : Nat := hdrBytes b 2 1
def blobAttr (b : Blob) : Nat := hdrBytes b 4 4
def blobDomain (b : Blob) : Nat := hdrBytes b 8 3
def blobPrefix (b : Blob) : Nat := hdrBytes b 12 6
def blobKeyId (b : Blob) : Nat := hdrBytes b 20 4

/-- Step 1 of R338: FORMAT, KIND, ALG and reserved bytes, and the length that KIND gives (R334 to R336). -/
def blobForm (b : Blob) (len : Nat) : Bool :=
  hdrBytes b 0 1 = 1 && hdrBytes b 3 1 = 1 && hdrBytes b 11 1 = 0 && hdrBytes b 18 2 = 0 &&
  (if blobUsage b = 1 then blobPrefix b < 2 ^ 44 else blobPrefix b = 0) &&
  ((blobKind b = 1 && len = 1796 && b.padZero) || (blobKind b = 2 && len = 140))

/-- ATTR meets R337 for its USAGE. -/
def attrOk (usage attr : Nat) : Bool :=
  bitsOf attr 4 4 = 0 && bitsOf attr 11 21 = 0 &&
  (if usage = 1 then bitsOf attr 0 4 = 7 else bitsOf attr 0 4 = 8 && !bitOf attr 10)

/-- What an opcode accepts (R339): USAGE, KIND, and PINNABLE for KEY_PIN_RC. -/
structure Accepts where
  usage : Nat
  kind : Nat
  pin : Bool

/-- Steps 1 to 7 of R338: the status and reason of the first that fails. `slot` is SLOT as given. -/
def blobEarly (s : State) (part : Nat) (a : Accepts) (slot len : Nat) (b : Blob) : Option (Nat × Nat) :=
  let attr := blobAttr b
  let na := hdrBytes b 24 8
  if !blobForm b len then some (stKeyRefused, 0x01)
  else if blobUsage b ≠ a.usage || blobKind b ≠ a.kind || (a.pin && !bitOf attr 10) ||
      (if blobUsage b = 1 then slot ≠ 0 else slot = 0) then some (stKeyRefused, 0x08)
  else if blobKind b = 1 && (bitOf attr 8 || bitOf attr 9) then some (stKeyRefused, 0x09)
  else if !attrOk (blobUsage b) attr then some (stKeyRefused, 0x05)
  else if blobDomain b ≠ (s.part part).domain then some (stKeyRefused, 0x04)
  else if na ≠ 0 && na < s.now then some (stKeyRefused, 0x06)
  else if !b.targetOk then some (stKeyRefused, 0x02)
  else if blobKind b = 2 && (s.key? part 0).isNone then some (stKeyAbsent, 0)
  else none

/-- Weight keys the Sill tiles hold (R342). -/
def State.weightKeys (s : State) : Nat := (s.kp.slots.filter (fun k => k.usage = 2)).length

/-- Steps 9 and 10 of R338, once the key is unwrapped. -/
def blobLate (s : State) (part : Nat) (vid : Hash) (key : Key) (b : Blob) : Option (Nat × Nat) :=
  if blobUsage b = 1 then
    match s.key? part 0 with
    | none => none
    | some k =>
      if ((s.part part).verifierId.getD 0) ≠ vid then some (stKeyRefused, 0x0A)
      else if k.key ≠ key || k.prefix_ = blobPrefix b then some (stKeyRefused, 0x07)
      else none
  else if 256 ≤ s.weightKeys then some (stNoResource, 0x0102)
  else none

/-! ### Slots (R339, R344, R345) -/

/-- The slots of a partition's share, in use or being evicted. -/
def State.slot? (s : State) (part slot : Nat) : Option KeySlot := s.kp.slots.find? (fun k => k.part = part && k.slot = slot)

/-- The slot checks 1 to 3 of R345: the slot to be loaded, or the refusal. -/
def slotCheck (s : State) (part slot : Nat) : Except (Nat × Nat) Nat :=
  let share := (s.part part).shares.keySlots
  if slot = 0xFFFF then
    match (List.range share).find? (fun k => k ≠ 0 && (s.slot? part k).isNone) with
    | some k => .ok k
    | none => .error (stNoResource, 0x0101)
  else if share ≤ slot then .error (stNoResource, 0x0101)
  else if slot ≠ 0 && (s.slot? part slot).isSome then .error (stWrongState, 0x0102)
  else .ok slot

/-- Slots in order of partition and slot number. -/
def slotInsert (l : List KeySlot) (k : KeySlot) : List KeySlot :=
  match l with
  | [] => [k]
  | a :: rest => if k.part * 1024 + k.slot < a.part * 1024 + a.slot then k :: a :: rest else a :: slotInsert rest k

def State.putSlot (s : State) (k : KeySlot) : State :=
  { s with kp := { s.kp with slots := slotInsert (s.kp.slots.filter (fun x => !(x.part = k.part && x.slot = k.slot))) k } }

/-- A slot and its tile copies erased (R344). -/
def eraseSlot (part slot : Nat) (s : State) : State :=
  ({ s with kp := { s.kp with slots := s.kp.slots.filter (fun x => !(x.part = part && x.slot = slot)) } }).emit (.erase part slot)

/-- The result of a load (R345). -/
def loadResult (k : KeySlot) : BitVec 128 :=
  resultOf [(16, 2, k.slot), (18, 1, k.usage), (20, 4, k.attr.toNat), (24, 4, k.keyId),
    (28, 4, bitsOf (Config.keyCommit k.key).toNat 0 32)]

/-- ST_KEY_REFUSED and its reason: counted in KP_FAULTS (R355). Other statuses end the command as they are. -/
def refuseKey (r : CmdRef) (e : Nat × Nat) (s : State) : State :=
  complete r e.1 (detailOf e.2)
    (if e.1 = stKeyRefused then { s with kp := { s.kp with refused := bump 255 s.kp.refused } } else s)

/-- A twin mismatch in a Kingpost unit ends the command (R325); which of the `k` first units it was is a free value. -/
def keyTwin (r : CmdRef) (k : Nat) (s : State) : State :=
  let (d, s1) := s.draw
  complete r stTwinMismatch (detailOf (0xF0 + d % k)) (kpTwin (0xF0 + d % k) r.cls r.op s1)

/-- A failed read of the command's own blob or set ends the job and the command (R558). -/
def keyReadFail (r : CmdRef) (m : MemRead) (s : State) : State :=
  complete r stJobFaulted (detailOf ((readCause m).getD 3)) (readFail r.part m s)

/-- The unwrapped key placed and delivered (R340 to R343); a DOMAIN load into an occupied slot 0 replaces only the prefix. -/
def placeKey (r : CmdRef) (part slot : Nat) (a : Accepts) (vid : Option Hash) (noDebug : Bool) (key : Key) (b : Blob)
    (s : State) : State :=
  let fresh : KeySlot :=
    { part := part, slot := slot, state := if a.pin then .pinned else .loaded, usage := blobUsage b,
      attr := BitVec.ofNat 32 (blobAttr b), keyId := blobKeyId b, domain := blobDomain b, prefix_ := blobPrefix b,
      key := key, noDebug := noDebug, evict := none, users := [] }
  let k : KeySlot := match s.slot? part slot with | some old => { old with prefix_ := blobPrefix b } | none => fresh
  let s1 := s.putSlot k
  let s2 := if blobUsage b = 1 then s1.modPart part (fun q => { q with
      ivParcel := 0, ivPack := 0, verifierId := match q.verifierId with | some v => some v | none => vid }) else s1
  complete r stOk (loadResult k) s2

/-- The checks of R338 on a blob, and what follows them. -/
def loadBlob (r : CmdRef) (part slot given len : Nat) (a : Accepts) (vid : Option Hash) (noDebug macOk : Bool) (b : Blob)
    (s : State) : State :=
  match blobEarly s part a given len b with
  | some e => refuseKey r e s
  | none =>
    if !b.twinsOk then keyTwin r (if a.kind = 1 then 3 else 2) s
    else
      match b.key with
      | none => refuseKey r (stKeyRefused, 0x03) s
      | some key =>
        if !macOk then refuseKey r (stKeyRefused, 0x03) s
        else
          match blobLate s part (vid.getD 0) key b with
          | some e => refuseKey r e s
          | none => placeKey r part slot a vid noDebug key b s

/-! ### KEY_LOAD and KEY_PIN_RC (R340, R343, R345) -/

def srcSession : Source → Option Nat
  | .session id => some id
  | _ => none

/-- The session a command came in on. -/
def State.session? (s : State) (src : Source) : Option Session :=
  (srcSession src).bind (fun id => s.vs.sessions.find? (fun x => x.id = id))

def layoutKeyLoad (p : Packet) (_ : State) : Layout :=
  let ses := (srcSession p.src).isSome
  { cflags := 0
    fields := [(20, 0, 48), (28, 0, 16), (30, 0, 4), (32, 0, 16)]
    ranges := [(20, ses && pf p 20 8 ≠ 0), (28, pf p 28 2 ≠ 140 && pf p 28 2 ≠ 1796), (30, !ses && pf p 30 1 ≠ 0)] }

def layoutKeyPinRc (p : Packet) (s : State) : Layout := layoutKeyLoad p s

/-- The slot checks, the carve-out check and the read, then the blob (R345). -/
def checkAndLoad (r : CmdRef) (p : Packet) (part : Nat) (a : Accepts) (vid : Option Hash) (b : Blob) (s : State) : State :=
  match slotCheck s part (pf p 32 2) with
  | .error e => complete r e.1 (detailOf e.2) s
  | .ok slot =>
    if srcIsCtx r.src && !s.inCarve part (pf p 20 6) (pf p 28 2) then complete r stNotPermitted (detailOf 0) s
    else if srcIsCtx r.src && (readCause b.read).isSome then keyReadFail r b.read s
    else loadBlob r part slot (pf p 32 2) (pf p 28 2) a vid false true b s

/-- KEY_LOAD: from a verifier session a DOMAIN blob for a tenant partition; from a context a WEIGHT blob (R339, R340, R345,
R562). -/
def startKeyLoad (r : CmdRef) (p : Packet) (b : Blob) (s : State) : State :=
  match s.session? r.src with
  | none => checkAndLoad r p r.part { usage := 2, kind := 2, pin := false } none b s
  | some x =>
    let part := pbits p 30 0 4
    if !x.mutualAuth || part = 0 then complete r stNotPermitted (detailOf 0) s
    else if (s.part part).pstate = .free then refuseKey r (stKeyRefused, 0x04) s
    else if (s.part part).pstate = .created then complete r stWrongState (detailOf 0x0308) s
    else checkAndLoad r p part { usage := 1, kind := 1, pin := false } (some x.verifierId) b s

/-- KEY_PIN_RC: P0's domain key, pinned (R343, R345). -/
def startKeyPinRc (r : CmdRef) (p : Packet) (b : Blob) (s : State) : State :=
  checkAndLoad r p r.part { usage := 1, kind := 1, pin := true } none b s

/-! ### KEY_GENERATE (R346) -/

def layoutKeyGenerate (_ : Packet) (_ : State) : Layout :=
  { cflags := 0, fields := [(20, 0, 16), (24, 0, 48)], ranges := [] }

/-- ATTR of a generated key: UNFOLD, NONEXPORT, ORIGIN_INT (R346). -/
abbrev genAttr : Nat := 0x308

/-- `k` free bytes (log 7). -/
def State.drawBytes (s : State) (k : Nat) : List Byte × State :=
  (leBytes k (Config.freeHash s.fresh).toNat, { s with fresh := s.fresh + 1 })

/-- The 140 B internal blob of a generated key: its header in clear; TARGET, IV, wrapped key and tag are free values (R334,
R336). -/
def internalBlob (domain keyId : Nat) (s : State) : List Byte × State :=
  let (target, s1) := s.drawBytes 48
  let (iv, s2) := s1.drawBytes 12
  let (wrapped, s3) := s2.drawBytes 32
  let (tag, s4) := s3.drawBytes 16
  (leBytes 4 0x01020201 ++ leBytes 4 genAttr ++ leBytes 3 domain ++ leBytes 9 0 ++ leBytes 4 keyId ++ leBytes 8 0 ++
    target ++ iv ++ wrapped ++ tag, s4)

/-- The generated key in its slot, with its blob written (R346). -/
def generateKey (r : CmdRef) (slot addr : Nat) (s : State) : State :=
  let part := r.part
  let k : KeySlot :=
    { part := part, slot := slot, state := .loaded, usage := 2, attr := BitVec.ofNat 32 genAttr, keyId := r.seq,
      domain := (s.part part).domain, prefix_ := 0, key := Config.freeKey s.kp.draws, noDebug := false, evict := none,
      users := [] }
  let s1 := { s with kp := { s.kp with draws := s.kp.draws + 1 } }
  let (blob, s2) := internalBlob k.domain k.keyId (s1.putSlot k)
  complete r stOk (loadResult k) (writeMem part addr blob s2)

/-- KEY_GENERATE (R345, R346). -/
def startKeyGenerate (r : CmdRef) (p : Packet) (twinsOk : Bool) (s : State) : State :=
  let part := r.part
  let addr := pf p 24 6
  if s.kp.entropyFail then complete r stNoResource (detailOf 0x0103) s
  else
    match slotCheck s part (pf p 20 2) with
    | .error e => complete r e.1 (detailOf e.2) s
    | .ok slot =>
      if !s.inCarve part addr 140 then complete r stNotPermitted (detailOf 0) s
      else if slot = 0 then refuseKey r (stKeyRefused, 0x08) s
      else if (s.key? part 0).isNone then complete r stKeyAbsent (detailOf 0) s
      else if 256 ≤ s.weightKeys then complete r stNoResource (detailOf 0x0102) s
      else if !twinsOk then keyTwin r 2 s
      else generateKey r slot addr s

/-! ### KEY_EVICT (R347) and KEY_QUERY (R348) -/

/-- PARTITION stands in byte 22 from the management ring or a session only (R347). -/
def layoutSlotNamed (p : Packet) : Layout :=
  { cflags := 0, fields := [(20, 0, 16), (22, 0, 4)], ranges := [(22, srcIsCtx p.src && pf p 22 1 ≠ 0)] }

def layoutKeyEvict (p : Packet) (_ : State) : Layout := layoutSlotNamed p
def layoutKeyQuery (p : Packet) (_ : State) : Layout := layoutSlotNamed p

/-- A session reaches a partition whose VERIFIER_ID equals its own (R347, R364, R562). -/
def State.sessionReaches (s : State) (x : Session) (part : Nat) : Bool :=
  (s.part part).pstate ≠ .free && (s.part part).verifierId = some x.verifierId

/-- UNFOLDs that name a slot and have been accepted: staged or running (R347). -/
def slotUsers (s : State) (part slot : Nat) : List CmdRef :=
  (s.cmds.staged.filter (fun x => x.ref.cls = 6 && x.ref.op = 1 && x.ref.part = part && pbits x.pkt 62 0 10 = slot)).map
    (fun x => x.ref) ++
  (s.inl.unfolds.filter (fun u => u.ref.part = part && u.keySlot = slot)).map (fun u => u.ref)

/-- Whether a command is still staged or in flight. -/
def State.pendingRef (s : State) (r : CmdRef) : Bool :=
  s.cmds.staged.any (fun x => x.ref = r) || s.cmds.inflight.any (fun x => x.ref = r)

/-- Slots whose last user has ended are erased, and their KEY_EVICT replies (R347, R352). -/
def finishEvictions (s : State) : State :=
  s.kp.slots.foldl (fun t k =>
    if k.state = .evicting && !(k.users.any (fun u => t.pendingRef u)) then
      let t1 := eraseSlot k.part k.slot t
      match k.evict with
      | some r => complete r stOk 0 t1
      | none => t1
    else t) s

/-- A slot evicted: at once, or once the commands that use it have ended (R347). -/
def evictSlot (r : CmdRef) (k : KeySlot) (s : State) : State :=
  finishEvictions ((hold r s).putSlot { k with state := .evicting, evict := some r, users := slotUsers s k.part k.slot })

/-- KEY_EVICT (R343, R347). -/
def startKeyEvict (r : CmdRef) (p : Packet) (s : State) : State :=
  let slot := pf p 20 2
  let part := aboutPart r (pbits p 22 0 4)
  let hidden : Bool := match s.session? r.src with | some x => !s.sessionReaches x part | none => false
  if hidden then complete r stKeyAbsent (detailOf slot) s
  else
    match mgmtRefusal r part s with
    | some c => complete r stWrongState (detailOf c) s
    | none =>
      if (s.part part).pstate = .created then complete r stWrongState (detailOf 0x0308) s
      else if slot = 0 then
        complete r stWrongState (detailOf (if (s.slot? part 0).map (fun k => k.state) = some .pinned then 0x0103 else 0x0101)) s
      else
        match s.slot? part slot with
        | none => complete r stKeyAbsent (detailOf slot) s
        | some k =>
          if k.state = .evicting then complete r stWrongState (detailOf 0x0104) s
          else evictSlot r k s

/-- State codes of KEY_QUERY and of claims (R348). -/
def SlotState.code : SlotState → Nat
  | .loaded => 1 | .pinned => 2 | .evicting => 3

/-- KEY_QUERY (R339, R348): an empty slot of the share answers state 0 (log 25). -/
def startKeyQuery (r : CmdRef) (p : Packet) (s : State) : State :=
  let slot := pf p 20 2
  let part := aboutPart r (pbits p 22 0 4)
  match mgmtRefusal r part s with
  | some c => complete r stWrongState (detailOf c) s
  | none =>
    if (s.part part).pstate = .created then complete r stWrongState (detailOf 0x0308) s
    else if (s.part part).shares.keySlots ≤ slot then complete r stKeyAbsent (detailOf slot) s
    else
      let vid := if srcIsCtx r.src && slot = 0 && (s.part part).verifierId.isSome then 1 else 0
      match s.slot? part slot with
      | none => complete r stOk 0 s
      | some k => complete r stOk (resultOf [(16, 1, k.state.code), (17, 1, k.usage), (19, 1, vid), (20, 4, k.attr.toNat),
          (24, 4, k.keyId), (28, 3, k.domain)]) s

/-! ### BIND_UNWRAP (R349, R382, R383) -/

def layoutBindUnwrap (p : Packet) (_ : State) : Layout :=
  let n := pf p 28 4
  { cflags := 0, fields := [(20, 0, 48), (28, 0, 32), (32, 0, 16)],
    ranges := [(28, n < 1972 || 1048576 < n || (n - 128) % 1844 ≠ 0)] }

/-- The set's policy on the block and the partition (R382, R383). -/
def policyOk (s : State) (part len : Nat) (b : BindSet) : Bool :=
  let q := s.part part
  b.format = 1 && b.flags.toNat < 4 && b.zerosOk && b.minSvn ≤ 64 && b.count * 1844 + 128 = len &&
  (bitOf b.flags.toNat 0 || b.verifierId = 0) &&
  s.fuses.lc = .production && !s.debugs.full && b.minSvn ≤ s.kp.svn && (!q.tenantDebug || bitOf b.flags.toNat 1) &&
  (!bitOf b.flags.toNat 0 || q.verifierId = some b.verifierId)

/-- BIND_UNWRAP. -/
def startBindUnwrap (r : CmdRef) (p : Packet) (b : BindSet) (s : State) : State :=
  let part := r.part
  let len := pf p 28 4
  match slotCheck s part (pf p 32 2) with
  | .error e => complete r e.1 (detailOf e.2) s
  | .ok slot =>
    if !s.inCarve part (pf p 20 6) len then complete r stNotPermitted (detailOf 0) s
    else if (s.key? part 0).isNone then complete r stKeyAbsent (detailOf 0) s
    else if (readCause b.read).isSome then keyReadFail r b.read s
    else
      match b.entry with
      | none => complete r stNotBound (detailOf 0) s
      | some e =>
        if !policyOk s part len b then complete r stNotBound (detailOf 0) s
        else loadBlob r part slot (pf p 32 2) 1796 { usage := 2, kind := 1, pin := false } none (!bitOf b.flags.toNat 1)
          b.policyMacOk e s

end Sys2Proof.Machine
end

