-- ==== Sys2Proof/Machine/Attest.lean ====
section
/-! DEFINITION. Attestation (11 R357 to R364), the entropy source and the signature monitor (10 R326, R346), SPDM sessions, IDE
streams and TDISP (11 R365 to R373). -/

namespace Sys2Proof.Machine

/-! ### Facts that evidence reports -/

/-- How a fuse row of 32 cells reads (R467): 0 BLANK, 1 PARTIAL, 2 PROGRAMMED. -/
def rowReads (cells : Nat) : Nat := if cells ≤ 2 then 0 else if cells ≤ 28 then 1 else 2

/-- Readings of the intent and the completion row of transition k + 1. -/
def State.intentRow (s : State) (k : Nat) : Nat := rowReads (s.fuses.intent.getD k 0)
def State.completionRow (s : State) (k : Nat) : Nat := rowReads (s.fuses.completion.getD k 0)

/-- The transition whose intent row is not BLANK while its completion row is not PROGRAMMED (R468, R469). -/
def State.lcPendingRow (s : State) : Option Nat := (List.range 3).find? (fun k => s.intentRow k ≠ 0 && s.completionRow k ≠ 2)

/-- The target state code of transition k + 1 (R466). -/
def lcTarget (k : Nat) : Nat := 2 ^ (k + 1)

/-- LC_PENDING: the target of a pending transition, or 0 (R361, R469). -/
def State.lcPending (s : State) : Nat := s.lcPendingRow.elim 0 lcTarget

/-- Full debug is open: by state in Blank and Test, else by DEBUG_RESPONSE (R473, R481). -/
def State.fullDebug (s : State) : Bool := s.debugs.full || s.fuses.lc = .blank || s.fuses.lc = .test

/-- DEBUG of evidence (R361). -/
def State.debugBits (s : State) : Nat := (if s.fullDebug then 1 else 0) + (if s.debugs.operator then 2 else 0)

/-- GB_PARAM0 (R43) and GB_PARAM1 (R44). -/
abbrev gbParam0 : Nat := 0x8 + 0x40 * 2 ^ 4 + 0x60 * 2 ^ 12 + 0x58 * 2 ^ 20
abbrev gbParam1 : Nat := 16 + 10 * 2 ^ 5 + 12 * 2 ^ 10 + 15 * 2 ^ 15 + 16 * 2 ^ 19 + 1 * 2 ^ 24

/-- GL_COORD as read (R132). -/
def State.coordRead (s : State) : Nat := bitsOf s.gl.coord.toNat 0 23 + fldB 31 s.gl.lock

/-- Evidence bytes 36 to 47, which are also measurement 6 (R360, R361). -/
def manifest (s : State) : List Byte :=
  leBytes 4 s.coordRead ++ leBytes 1 s.fuses.lc.code ++ leBytes 1 s.debugBits ++ leBytes 1 s.kp.svn ++
    leBytes 1 s.fuses.svnMin ++ leBytes 1 s.lcPending ++
    leBytes 1 ((if s.fuses.bankLost then 1 else 0) + (if s.kp.endorsed then 2 else 0)) ++ leBytes 2 0

/-- The key commitment of a held key (R351). -/
def commitOf (k : Option KeySlot) : Nat := k.elim 0 (fun x => (Config.keyCommit x.key).toNat)

/-- The partition record (R361). -/
def partRecord (s : State) (p : Nat) : List Byte :=
  let q := s.part p
  let k := s.key? p 0
  let flags := (if q.tenantDebug then 1 else 0) + (if k.isSome then 2 else 0) + (if q.verifierId.isSome then 4 else 0) +
    (if k.map (fun x => x.state) = some .pinned then 8 else 0)
  leBytes 1 (p + 128) ++ leBytes 1 q.pstate.code ++ leBytes 1 q.tdi.code ++ leBytes 1 flags ++ leBytes 3 q.domain ++
    leBytes 1 0 ++ leBytes 16 (commitOf k) ++ leBytes 48 (q.verifierId.getD 0).toNat ++ leBytes 8 0

/-- Bytes 0 to 383 of a record: its digests and TARGET are free values (R360, R361, log 6). -/
def evidenceBody (kind len nonce : Nat) (part : Option Nat) (s : State) : List Byte × State :=
  let (digests, s1) := s.drawBytes 48
  let (image, s2) := s1.drawBytes 48
  let (config, s3) := s2.drawBytes 48
  let (ht, s4) := s3.drawBytes 48
  let (target, s5) := s4.drawBytes 48
  (leBytes 1 1 ++ leBytes 1 kind ++ leBytes 2 len ++ leBytes 32 nonce ++ manifest s ++ digests ++ image ++ config ++ ht ++
    target ++ leBytes 8 s.now ++ leBytes 4 gbParam0 ++ leBytes 4 gbParam1 ++
    (match part with | some p => partRecord s p | none => leBytes 80 0), s5)

/-- Where the output of a class 0x2 command goes (R364, R368): the carve-outs, a bus address, or the response message. -/
def putOut (r : CmdRef) (addr : Nat) (bytes : List Byte) (s : State) : State :=
  match r.src with
  | .cmd _ => writeMem r.part addr bytes s
  | .ring _ => writeMem r.part addr bytes s
  | .mgmt => s.emit (.busWrite addr bytes)
  | .session _ => s.emit (.document r.src bytes)

/-- A context's output range lies outside its carve-outs (R364). -/
def outRefused (s : State) (r : CmdRef) (addr len : Nat) : Bool := srcIsCtx r.src && !s.inCarve r.part addr len

/-- Bytes of both signatures: free values (R362, log 6). -/
abbrev sigBytes : Nat := 96 + 4627

def signatures (s : State) : List Byte × State :=
  let (d, s1) := s.draw
  (leBytes sigBytes d, s1)

/-! ### GET_EVIDENCE and KEY_CLAIM (R361 to R364) -/

def srcIsSession (src : Source) : Bool := (srcSession src).isSome

def layoutGetEvidence (p : Packet) (_ : State) : Layout :=
  { cflags := 0
    fields := [(20, 0, 256), (52, 0, 4), (52, 7, 1), (53, 0, 24), (56, 0, 48)]
    ranges := [(52, srcIsCtx p.src && pbits p 52 0 4 ≠ 0), (53, !srcIsSession p.src && pf p 53 3 ≠ 0),
      (56, srcIsSession p.src && pf p 56 6 ≠ 0)] }

/-- The partition whose record the issuer gets (R363). -/
def evidencePart (s : State) (r : CmdRef) (p : Packet) : Option Nat :=
  let part := aboutPart r (pbits p 52 0 4)
  let q := s.part part
  if !pbit p 52 7 then none
  else
    match s.session? r.src with
    | none => some part
    | some x =>
      if s.sessionReaches x part || (q.pstate ≠ .free && q.verifierId.isNone && pf p 53 3 = q.domain) then some part else none

/-- A record with its signatures delivered, and the result (R362, R364). -/
def putRecord (r : CmdRef) (addr kind : Nat) (body : List Byte) (s : State) : State :=
  let (sigs, s1) := signatures s
  complete r stOk (resultOf [(16, 2, body.length + sigBytes), (18, 1, kind)]) (putOut r addr (body ++ sigs) s1)

/-- ST_TWIN_MISMATCH of the public-key unit (R325, R362). -/
def signTwin (r : CmdRef) (s : State) : State :=
  complete r stTwinMismatch (detailOf 0xF2) (kpTwin 0xF2 r.cls r.op s)

/-- GET_EVIDENCE. -/
def startGetEvidence (r : CmdRef) (p : Packet) (twinsOk : Bool) (s : State) : State :=
  let refusal := if pbit p 52 7 && r.src = .mgmt then namedRefusal s (pbits p 52 0 4) else none
  match refusal with
  | some c => complete r stWrongState (detailOf c) s
  | none =>
    if outRefused s r (pf p 56 6) (384 + sigBytes) then complete r stNotPermitted (detailOf 0) s
    else if !twinsOk then signTwin r s
    else
      let (body, s1) := evidenceBody 1 384 (pf p 20 32) (evidencePart s r p) s
      putRecord r (pf p 56 6) 1 body s1

def layoutKeyClaim (p : Packet) (_ : State) : Layout :=
  { cflags := 0
    fields := [(20, 0, 256), (52, 0, 4), (54, 0, 16), (56, 0, 48)]
    ranges := [(52, srcIsCtx p.src && pf p 52 1 ≠ 0), (56, srcIsSession p.src && pf p 56 6 ≠ 0)] }

/-- CLAIM, bytes 384 to 415 (R361). -/
def claimBytes (k : KeySlot) : List Byte :=
  leBytes 2 k.slot ++ leBytes 1 k.state.code ++ leBytes 1 k.usage ++ leBytes 4 k.attr.toNat ++ leBytes 4 k.keyId ++
    leBytes 16 (commitOf (some k)) ++ leBytes 4 0

/-- KEY_CLAIM (R339, R351, R364). -/
def startKeyClaim (r : CmdRef) (p : Packet) (twinsOk : Bool) (s : State) : State :=
  let slot := pf p 54 2
  let part := aboutPart r (pbits p 52 0 4)
  let hidden : Bool := match s.session? r.src with | some x => !s.sessionReaches x part | none => false
  match (if hidden then none else s.key? part slot) with
  | none => complete r stKeyAbsent (detailOf slot) s
  | some k =>
    if outRefused s r (pf p 56 6) (416 + sigBytes) then complete r stNotPermitted (detailOf 0) s
    else if !twinsOk then signTwin r s
    else
      let (body, s1) := evidenceBody 2 416 (pf p 20 32) (some part) s
      putRecord r (pf p 56 6) 2 (body ++ claimBytes k) s1

/-! ### GET_CERTS and GET_MEASUREMENTS (R360, R364) -/

def layoutGetCerts (p : Packet) (_ : State) : Layout :=
  { cflags := 0, fields := [(20, 0, 8), (24, 0, 48), (30, 0, 32)]
    ranges := [(20, 1 < pf p 20 1), (24, srcIsSession p.src && pf p 24 6 ≠ 0)] }

def layoutGetMeasurements (p : Packet) (_ : State) : Layout :=
  let i := pf p 20 1
  { cflags := 0, fields := [(20, 0, 8), (24, 0, 48), (30, 0, 32)]
    ranges := [(20, i = 0 || (8 ≤ i && i ≤ 0xFE)), (24, srcIsSession p.src && pf p 24 6 ≠ 0)] }

/-- A document of at most MAX_LEN bytes delivered with its length in the result (R364). -/
def putDocument (r : CmdRef) (p : Packet) (bytes : List Byte) (s : State) : State :=
  if pf p 30 4 < bytes.length then complete r stNoResource (detailOf 0x0201) s
  else if outRefused s r (pf p 24 6) bytes.length then complete r stNotPermitted (detailOf 0) s
  else complete r stOk (resultOf [(16, 4, bytes.length)]) (putOut r (pf p 24 6) bytes s)

/-- GET_CERTS: the chain's length, at most 32,768 B, and its bytes are free values (R357 to R359, log 6). -/
def startGetCerts (r : CmdRef) (p : Packet) (s : State) : State :=
  let (len, s1) := s.draw
  let (d, s2) := s1.draw
  putDocument r p (leBytes (len % 32769) d) s2

/-- The value of a measurement with its DMTF value type (R360, log 27); digests are free values. -/
def measureValue (i : Nat) (digest : List Byte) (s : State) : Nat × List Byte :=
  let mode : Nat := match s.fuses.lc with | .blank => 1 | .test => 1 | .production => 4 | .endOfLife => 32
  let dbg := (if s.debugs.operator then 1 else 0) + (if s.fullDebug then 2 else 0)
  match i with
  | 1 => (0x00, digest)
  | 2 => (0x01, digest)
  | 3 => (0x03, digest)
  | 4 => (0x87, leBytes 8 s.kp.svn)
  | 5 => (0x85, leBytes 4 37 ++ leBytes 4 mode ++ leBytes 4 3 ++ leBytes 4 dbg)
  | 6 => (0x84, manifest s)
  | _ => (0x82, leBytes 4 gbParam0 ++ leBytes 4 gbParam1)

/-- A DMTF measurement block: index, specification 1, size, value type, value size, value (log 27). -/
def measureBlock (i : Nat) (s : State) : List Byte × State :=
  let (digest, s1) := s.drawBytes 48
  let (t, v) := measureValue i digest s
  (leBytes 1 i ++ leBytes 1 1 ++ leBytes 2 (v.length + 3) ++ leBytes 1 t ++ leBytes 2 v.length ++ v, s1)

/-- GET_MEASUREMENTS. -/
def startGetMeasurements (r : CmdRef) (p : Packet) (s : State) : State :=
  let i := pf p 20 1
  let l := if i = 0xFF then [1, 2, 3, 4, 5, 6, 7] else [i]
  let (bytes, s1) := l.foldl (fun a k => let (b, t) := measureBlock k a.2; (a.1 ++ b, t)) (([] : List Byte), s)
  putDocument r p bytes s1

/-! ### Entropy source and signature monitor (R326, R346) -/

/-- ENTROPY_HEALTH_FAIL. -/
def entropyFail (s : State) : State :=
  if !s.up then s
  else plumbEvent 0x0B 0 1 none false 0 none
    { s with kp := { s.kp with entropyFail := true, entropy := bump 255 s.kp.entropy } }

/-- RESEED_COMPLETE: a reseed that passes clears ENTROPY_FAIL; one that fails raises the source again and is repeated. -/
def reseedComplete (passed : Bool) (s : State) : State :=
  if !s.up || !s.kp.entropyFail then s
  else if passed then { s with kp := { s.kp with entropyFail := false } }
  else entropyFail s

/-- KP_CFLOW: the firmware core halts, the release gate freezes, and the chip rung is asked for (R326). -/
def kpCflow (s : State) : State :=
  if !s.up || s.kp.halted then s
  else
    requestRung .chip 0 0x09 (plumbMark 0x09 { s with kp := { s.kp with halted := true, cfs := bump 255 s.kp.cfs } })

/-! ### SPDM (R365 to R368, R373) -/

/-- SPDM ERROR codes (log 28). -/
abbrev eInvalid : Nat := 0x01
abbrev eUnexpected : Nat := 0x04
abbrev eUnspecified : Nat := 0x05
abbrev eDecrypt : Nat := 0x06
abbrev eUnsupported : Nat := 0x07
abbrev eSessionLimit : Nat := 0x0A
abbrev eSessionRequired : Nat := 0x0B

/-- An SPDM or TDISP error response is counted (R385). -/
def countSpdm (s : State) : State := { s with vs := { s.vs with errors := bump 255 s.vs.errors } }

/-- An SPDM ERROR. -/
def spdmError (code : Nat) (s : State) : State := (countSpdm s).emit (.spdm code)

/-- An SPDM response that is no ERROR. -/
def spdmOk (s : State) : State := s.emit (.spdm 0)

/-- DOE_DISCOVERY (R365): data object types 0 Discovery, 1 CMA/SPDM, 2 Secured CMA/SPDM, with the next index. -/
def doeDiscovery (index : Nat) (s : State) : State :=
  if !s.up then s else s.emit (.doe index (if index ≤ 2 then index else 0xFF) (if index < 2 then index + 1 else 0))

/-- A session ends. -/
def endSession (id : Nat) (s : State) : State :=
  { s with vs := { s.vs with sessions := s.vs.sessions.filter (fun x => x.id ≠ id) } }

/-- A message that came outside a session (number 0), or on one that is not open, is answered so (R373, R384). -/
def sessionError (s : State) (id : Nat) : Option Nat :=
  if id = 0 then some eSessionRequired
  else if s.vs.sessions.any (fun x => x.id = id) then none
  else some eDecrypt

/-- The responder moves on from a phase of its negotiation (R373: out of order is UnexpectedRequest). -/
def spdmPhase (need next : Nat) (s : State) : State :=
  if s.vs.spdmPhase ≠ need then spdmError eUnexpected s else spdmOk { s with vs := { s.vs with spdmPhase := next } }

/-- A request that needs the negotiation complete. -/
def spdmAfter (f : State → State) (s : State) : State :=
  if s.vs.spdmPhase ≠ 3 then spdmError eUnexpected s else f s

/-- A message inside a session. -/
def spdmSession (id : Nat) (f : State → State) (s : State) : State :=
  match sessionError s id with
  | some e => spdmError e s
  | none => f s

/-- SPDM_REQUEST (R366, R373, R472): before READY and in End of Life only versions and capabilities are answered. -/
def spdmRequest (req : SpdmReq) (s : State) : State :=
  if !s.up then s
  else if req = .getVersion then spdmOk { s with vs := { s.vs with spdmPhase := 1 } }
  else if req = .getCapabilities then spdmPhase 1 2 s
  else if s.fuses.lc = .endOfLife || !s.kp.ready then spdmError eUnspecified s
  else
    match req with
    | .getVersion => spdmOk s
    | .getCapabilities => spdmOk s
    | .negotiateAlgorithms => spdmPhase 2 3 s
    | .getDigests => spdmAfter spdmOk s
    | .getCertificate slot => spdmAfter (if slot = 0 then spdmOk else spdmError eInvalid) s
    | .challenge => spdmAfter spdmOk s
    | .getMeasurements => spdmAfter spdmOk s
    | .keyUpdate id => spdmSession id spdmOk s
    | .heartbeat id => spdmSession id spdmOk s
    | .endSession id => spdmSession id (fun t => spdmOk (endSession id t)) s
    | .unsupported => spdmError eUnsupported s
    | .malformed => spdmError eInvalid s
    | .aeadFailure id => spdmError eDecrypt (endSession id s)

/-- SPDM_SESSION_ESTABLISH (R340, R366, R367, R373). -/
def spdmSessionEstablish (id : Nat) (mutualAuth chainOk : Bool) (leaf : Hash) (s : State) : State :=
  if !s.up then s
  else if s.fuses.lc = .endOfLife || !s.kp.ready then spdmError eUnspecified s
  else if s.vs.spdmPhase ≠ 3 then spdmError eUnexpected s
  else if 32 ≤ s.vs.sessions.length then spdmError eSessionLimit s
  else if id = 0 || s.vs.sessions.any (fun x => x.id = id) || (mutualAuth && !chainOk) then spdmError eInvalid s
  else
    let x : Session := { id := id, tsm := false, mutualAuth := mutualAuth, verifierId := if mutualAuth then leaf else 0,
                         expected := 0 }
    spdmOk { s with vs := { s.vs with sessions := s.vs.sessions ++ [x] } }

/-- SPDM_HEARTBEAT_TIMEOUT (R366). -/
def spdmHeartbeatTimeout (id : Nat) (s : State) : State := if s.up then endSession id s else s

/-! ### IDE (R369) -/

/-- The session that a message of the TSM may come on: the first such message makes its session the TSM's (R367); the error of
any other. -/
def tsmGate (id : Nat) (s : State) : Except Nat State :=
  match sessionError s id with
  | some e => .error e
  | none =>
    match s.vs.sessions.find? (fun x => x.tsm) with
    | some x => if x.id = id then .ok s else .error eUnexpected
    | none => .ok { s with vs := { s.vs with
        sessions := s.vs.sessions.map (fun x => if x.id = id then { x with tsm := true } else x) } }

/-- A message of the TSM: its effect, or the SPDM ERROR. -/
def onTsm (id : Nat) (f : State → State) (s : State) : State :=
  if !s.up then s
  else
    match tsmGate id s with
    | .error e => spdmError e s
    | .ok t => f t

def State.stream (s : State) (n : Nat) : IdeStream := s.vs.streams.getD n IdeStream.reset

def State.modStream (s : State) (n : Nat) (f : IdeStream → IdeStream) : State :=
  { s with vs := { s.vs with streams := s.vs.streams.modify n f } }

/-- A stream, sub-stream and key set that exist (R369). -/
def ideExists (stream sub keySet : Nat) : Bool := stream ≤ 8 && sub ≤ 2 && keySet ≤ 1

/-- The link IDE stream leaving the secure state empties every unassigned secure channel (18 R554). -/
def linkIdeLost (s : State) : State :=
  (List.range 4).foldl (fun t c => if (t.chanAssigned c).isNone then t.modChan c emptyChannel else t) s

/-- A stream goes to the insecure state. -/
def streamInsecure (n : Nat) (s : State) : State :=
  let s1 := s.modStream n (fun x => { x with secure := false, going := [] })
  if n = 0 && (s.stream 0).secure then linkIdeLost s1 else s1

/-- IDE_KM messages: 0 QUERY, 2 KEY_PROG, 4 K_SET_GO, 5 K_SET_STOP; status 0 is success. -/
def ideKmQuery (id : Nat) (s : State) : State := onTsm id (fun t => t.emit (.ideKm id 0 0)) s

def ideKmKeyProg (id stream sub keySet streamId : Nat) (tee pcrc : Bool) (s : State) : State :=
  onTsm id (fun t =>
    if !ideExists stream sub keySet then t.emit (.ideKm id 2 1)
    else (t.modStream stream (fun x => { x with
      keys := if x.keys.contains (sub, keySet) then x.keys else x.keys ++ [(sub, keySet)]
      streamId := streamId % 256, tee := tee, pcrc := pcrc })).emit (.ideKm id 2 0)) s

/-- K_SET_GO: the stream is secure once its three sub-streams run with programmed keys (log 29). -/
def ideKmKSetGo (id stream sub keySet : Nat) (s : State) : State :=
  onTsm id (fun t =>
    if !ideExists stream sub keySet || !(t.stream stream).keys.contains (sub, keySet) then t.emit (.ideKm id 4 1)
    else
      (t.modStream stream (fun x =>
        let going := if x.going.contains sub then x.going else x.going ++ [sub]
        { x with going := going, keySet := keySet, secure := x.secure || going.length = 3 })).emit (.ideKm id 4 0)) s

/-- K_SET_STOP: the key set is no longer used, and a stream whose active set it was leaves the secure state (log 29). -/
def ideKmKSetStop (id stream sub keySet : Nat) (s : State) : State :=
  onTsm id (fun t =>
    if !ideExists stream sub keySet then t.emit (.ideKm id 5 1)
    else
      let t1 := t.modStream stream (fun x => { x with keys := x.keys.filter (fun k => k ≠ (sub, keySet)) })
      (if (t.stream stream).keySet = keySet then streamInsecure stream t1 else t1).emit (.ideKm id 5 0)) s

/-- Every TDI bound to a stream goes to ERROR (R369). -/
def streamTdisError (stream : Nat) (s : State) : State :=
  (List.range 16).foldl (fun t p =>
    if (t.part p).tdiBound && (t.part p).tdiStream = stream && stream ≠ 0 then setTdi p .error t else t) s

/-- IDE_CHECK_FAILURE. -/
def ideCheckFailure (stream : Nat) (s : State) : State :=
  if !s.up || 8 < stream then s
  else streamTdisError stream ((streamInsecure stream s).modStream stream (fun x => { x with fails := bump 255 x.fails }))

/-- TDI_BAD_REQUEST (R371). -/
def tdiBadRequest (p : Nat) (s : State) : State :=
  if !s.up || (s.part p).tdi ≠ .run then s else setTdi p .error (s.emit (.unsupportedRequest p))

/-! ### TDISP (R370, R372, R373) -/

/-- TDISP error codes (log 28). -/
abbrev tInvalidRequest : Nat := 0x01
abbrev tBusy : Nat := 0x03
abbrev tInvalidState : Nat := 0x04
abbrev tInvalidInterface : Nat := 0x101

/-- A TDISP response: message code and value. -/
def tdispOk (tdi msg value : Nat) (s : State) : State := s.emit (.tdisp tdi msg value)

/-- TDISP ERROR, message 0x7F. -/
def tdispError (tdi code : Nat) (s : State) : State := (countSpdm s).emit (.tdisp tdi 0x7F code)

/-- A TDISP request on a TDI: BUSY while its partition is struck (R373). -/
def onTdi (id tdi : Nat) (f : State → State) (s : State) : State :=
  onTsm id (fun t =>
    if 16 ≤ tdi then tdispError tdi tInvalidInterface t
    else if (t.part tdi).struck then tdispError tdi tBusy t
    else f t) s

/-- GET_TDISP_VERSION: version 1.0. -/
def getTdispVersion (id tdi : Nat) (s : State) : State := onTsm id (tdispOk tdi 0x01 0x10) s

/-- GET_TDISP_CAPABILITIES: the messages supported, as a mask of their codes 0x01 to 0x07. -/
def getTdispCapabilities (id tdi : Nat) (s : State) : State := onTsm id (tdispOk tdi 0x02 0xFE) s

/-- LOCK_INTERFACE_REQUEST. -/
def lockInterface (id tdi : Nat) (noFwUpdate lockMsix bindP2p redirect : Bool) (s : State) : State :=
  onTdi id tdi (fun t =>
    let q := t.part tdi
    if !noFwUpdate || bindP2p || redirect then tdispError tdi tInvalidRequest t
    else if q.tdi ≠ .unlocked || !q.tdiBound || !(q.pstate = .sealed || q.pstate = .faulted) then tdispError tdi tInvalidState t
    else
      let t1 := setTdi tdi .locked t
      tdispOk tdi 0x03 0 { t1 with vs := { t1.vs with
        msixLocked := if lockMsix then tdi :: t1.vs.msixLocked.filter (fun x => x ≠ tdi) else t1.vs.msixLocked } }) s

/-- START_INTERFACE_REQUEST. -/
def startInterface (id tdi : Nat) (s : State) : State :=
  onTdi id tdi (fun t =>
    if (t.part tdi).tdi ≠ .locked then tdispError tdi tInvalidState t else tdispOk tdi 0x06 0 (setTdi tdi .run t)) s

/-- GET_DEVICE_INTERFACE_STATE. -/
def interfaceState (id tdi : Nat) (s : State) : State :=
  onTsm id (fun t =>
    if 16 ≤ tdi then tdispError tdi tInvalidInterface t else tdispOk tdi 0x05 (t.part tdi).tdi.code t) s

/-- GET_DEVICE_INTERFACE_REPORT: one range, BAR0 of 256 KiB, and the partition record; of a locked TDI (log 28). -/
def interfaceReport (id tdi : Nat) (s : State) : State :=
  onTdi id tdi (fun t =>
    if (t.part tdi).tdi ≠ .locked && (t.part tdi).tdi ≠ .run then tdispError tdi tInvalidState t
    else tdispOk tdi 0x04 0x40000 (t.emit (.document (.session id) (partRecord t tdi)))) s

/-- STOP_INTERFACE_REQUEST: it completes when the ring's commands have replied (R372). -/
def stopInterface (id tdi : Nat) (s : State) : State :=
  onTdi id tdi (fun t =>
    { t with vs := { t.vs with stopping := if t.vs.stopping.contains tdi then t.vs.stopping else t.vs.stopping ++ [tdi] } }) s

/-- A partition ring owes nothing: no command of it is waiting or in progress, and no reply is held (R372). -/
def State.ringIdle (s : State) (p : Nat) : Bool :=
  !s.cmds.staged.any (fun x => x.ref.src = .ring p) && !s.cmds.firmware.any (fun x => x.ref.src = .ring p) &&
    !s.cmds.inflight.any (fun x => x.ref.src = .ring p) && (s.part p).ring.held.isEmpty

/-- The TDI of a stopped interface is CONFIG_UNLOCKED and ENABLE 0 (R372). -/
def tdiStopped (p : Nat) (s : State) : State :=
  let s1 := (setTdi p .unlocked s).modPart p (fun q => { q with ring := { q.ring with enable := false } })
  tdispOk p 0x07 0 { s1 with vs := { s1.vs with stopping := s1.vs.stopping.filter (fun x => x ≠ p),
                                                msixLocked := s1.vs.msixLocked.filter (fun x => x ≠ p) } }

/-- Replies held only for the TDI's ERROR are written once the interface is being stopped. -/
def releaseRing (ring : RingId) (s : State) : Nat → State
  | 0 => s
  | k + 1 =>
    let r := s.ringOf ring
    match r.held with
    | [] => s
    | rep :: rest =>
      if r.cqFull || s.ringHeld ring then s
      else releaseRing ring (writeCompletion ring rep (s.modRing ring (fun q => { q with held := rest }))) k

/-- STOP_INTERFACE_REQUESTs that can complete do so (R372). -/
def finishStops (s : State) : State :=
  s.vs.stopping.foldl (fun t p =>
    let u := releaseRing (.part p) t (t.part p).ring.held.length
    if u.ringIdle p then tdiStopped p u else u) s

end Sys2Proof.Machine
end

