-- ==== Sys2Proof/Machine/Partitions.lean ====
section
/-! DEFINITION. Partitions, contexts and strike (12): creation, sealing, binding, contexts, resets and releases, scrubbing, queries,
teardown and the phases of a strike. -/

namespace Sys2Proof.Machine

/-! ### PART_CREATE (R390 to R393) -/

/-- What a descriptor asks for (R390). -/
structure PartDesc where
  domain : Nat
  resvW : Nat
  shares : Shares
  ledger : Nat
  t0 : List Range
  t1 : List Range
  t2 : List Range
  deriving DecidableEq, Repr

/-- A little-endian field of a document. -/
def docField (d : List Byte) (off len : Nat) : Nat := ofLeBytes ((d.drop off).take len)

/-- The used range entries from an offset, with the offset of each. -/
def descRanges (d : List Byte) (off : Nat) : List (Nat × Range) :=
  ((List.range 8).map (fun i =>
    (off + 8 * i, ({ first := docField d (off + 8 * i) 4, count := docField d (off + 8 * i + 4) 4 } : Range)))).filter
      (fun e => e.2.count ≠ 0)

def partDesc (d : List Byte) : PartDesc :=
  let rs (off : Nat) : List Range := (descRanges d off).map (fun e => e.2)
  { domain := docField d 0 3, resvW := docField d 4 2, ledger := docField d 32 8, t0 := rs 64, t1 := rs 128, t2 := rs 192
    shares := { keySlots := docField d 6 2, contexts := docField d 8 2, pegs := docField d 10 4, handles := docField d 14 4,
                waiters := docField d 18 2, groups := docField d 20 2, resvs := docField d 22 2, ctrWays := docField d 24 1,
                poolWays := docField d 25 1, ctxBase := docField d 26 2 } }

/-- Two ranges overlap. -/
def Range.meets (a b : Range) : Bool := a.first < b.first + b.count && b.first < a.first + a.count

/-- Offsets of entries that reach beyond their tier or overlap an earlier entry. -/
def badRanges (limit : Nat) : List (Nat × Range) → List Range → List Nat
  | [], _ => []
  | (off, r) :: rest, seen =>
    (if limit < r.first + r.count || seen.any (fun x => x.meets r) then [off] else []) ++ badRanges limit rest (r :: seen)

/-- The ledger rules (R390, R391 step 2). -/
def ledgerOk (s : State) (d : PartDesc) : Bool :=
  if d.t2.isEmpty then d.ledger = 0
  else
    d.ledger ≠ 0 && d.ledger % 16384 = 0 &&
      rangesCover d.t0 gran0 d.ledger (16384 * (s.dims.1 * s.dims.2.1 * s.dims.2.2))

/-- The first offending field of a descriptor (R391 step 2). -/
def descOffence (s : State) (bytes : List Byte) : Option Nat :=
  let d := partDesc bytes
  let h := d.shares
  let checks : List (Nat × Bool) :=
    [(6, h.keySlots = 0 || 1024 < h.keySlots), (8, h.contexts = 0 || 4096 < h.contexts), (10, 65536 < h.pegs),
      (14, 131072 < h.handles), (18, 16384 < h.waiters), (20, 256 < h.groups), (22, 1024 < h.resvs),
      (24, 16 < h.ctrWays || (h.ctrWays = 0 && !(d.t1.isEmpty && d.t2.isEmpty))), (25, 16 < h.poolWays),
      (26, 4095 < h.ctxBase || 4096 < h.ctxBase + h.contexts), (32, !ledgerOk s d)]
  let zeros := ([3] ++ (List.range 4).map (fun i => 28 + i) ++ (List.range 24).map (fun i => 40 + i)).filter
    (fun i => docField bytes i 1 ≠ 0)
  let bad := (checks.filter (fun c => c.2)).map (fun c => c.1) ++ zeros ++ badRanges 2994 (descRanges bytes 64) [] ++
    badRanges 1280 (descRanges bytes 128) [] ++ badRanges 2048 (descRanges bytes 192) []
  bad.foldl (fun m o => minAt m (some o)) none

/-- Partitions other than p that hold ranges and shares. -/
def State.othersHeld (s : State) (p : Nat) : List Part :=
  ((List.range 16).filter (fun q => q ≠ p && (s.part q).pstate ≠ .free)).map s.part

/-- The granules that a test holds: M_STACK and M_TIER1 of a loop-back, and a memory test (R520, R527). -/
def TestRun.granules (t : TestRun) : Option (Nat × Range) :=
  if t.kind = 2 then some (t.point, { first := t.target, count := t.count })
  else if t.point = 0x22 then some (0, { first := t.target, count := 1 })
  else if t.point = 0x24 then some (1, { first := t.target, count := 1 })
  else none

/-- A range of a tier is under test. -/
def State.rangeTested (s : State) (tier : Nat) (r : Range) : Bool :=
  s.tests.runs.any (fun t => match t.granules with | some (k, x) => k = tier && x.meets r | none => false)

/-- Memory or context ranges overlap another partition's, or those under test (R391 step 4, R520). -/
def rangesTaken (s : State) (p : Nat) (d : PartDesc) : Bool :=
  d.t0.any (s.rangeTested 0) || d.t1.any (s.rangeTested 1) || (s.othersHeld p).any (fun q =>
    d.t0.any (fun r => q.t0.any (fun x => x.meets r)) || d.t1.any (fun r => q.t1.any (fun x => x.meets r)) ||
      d.t2.any (fun r => q.t2.any (fun x => x.meets r)) ||
      (q.shares.ctxBase < d.shares.ctxBase + d.shares.contexts && d.shares.ctxBase < q.shares.ctxBase + q.shares.contexts))

/-- The first share that does not fit beside the others (R392). -/
def shareShort (s : State) (p : Nat) (d : PartDesc) : Option Nat :=
  let over_ (total : Nat) (f : Shares → Nat) : Bool := total < (s.othersHeld p).foldl (fun n q => n + f q.shares) (f d.shares)
  ([(0x0311, over_ 1024 (fun h => h.keySlots)), (0x0312, over_ 4096 (fun h => h.contexts)),
    (0x0313, over_ 65536 (fun h => h.pegs)), (0x0314, over_ 131072 (fun h => h.handles)),
    (0x0315, over_ 16384 (fun h => h.waiters)), (0x0316, over_ 256 (fun h => h.groups)),
    (0x0317, over_ 1024 (fun h => h.resvs)), (0x0318, over_ 16 (fun h => h.ctrWays)),
    (0x0319, over_ 16 (fun h => h.poolWays))].find? (fun e => e.2)).map (fun e => e.1)

def layoutPartCreate (p : Packet) (_ : State) : Layout :=
  { cflags := 0, fields := [(20, 0, 4), (24, 0, 64)], ranges := [(24, pf p 24 8 % 256 ≠ 0)] }

/-- The counters that begin anew with a partition (R393 step 5). -/
def clearCounters (p : Nat) (s : State) : State :=
  { s with
    gl := { s.gl with pseqs := s.gl.pseqs.filter (fun e => e.1 ≠ p), windows := s.gl.windows.filter (fun w => w.part ≠ p) }
    inl := { s.inl with groups := s.inl.groups.filter (fun g => g.part ≠ p) } }

/-- A partition created (R393). -/
def createPart (p : Nat) (d : PartDesc) (s : State) : State :=
  let sealed_ := !(d.t1.isEmpty && d.t2.isEmpty)
  let e := s.sill.nextEpoch
  let s1 := (clearCounters p s).modPart p (fun q => { q with
    domain := d.domain, resvW := d.resvW, shares := d.shares, t0 := d.t0, t1 := d.t1, t2 := d.t2, ledger := d.ledger
    tierKey := if sealed_ then some e else none, tdi := .unlocked, tdiBound := false, tdiStream := 0
    ivParcel := 0, ivPack := 0, epochBase := s.gl.bundleEpochs })
  let s2 := { s1 with sill := { s1.sill with nextEpoch := if !sealed_ then e else if e = 65535 then 1 else e + 1 } }
  setPState p .created (s2.modRow p (fun g => { g with reached := 0, frozen := none }))

/-- PART_CREATE (R391). -/
def startPartCreate (r : CmdRef) (p : Packet) (given : MemRead) (s : State) : State :=
  let part := pbits p 20 0 4
  let bytes := readBytes given
  let d := partDesc bytes
  if s.debugs.opening.isSome && part ≠ 0 then complete r stWrongState (detailOf 0x0A03) s
  else if (s.part part).struck then complete r stWrongState (detailOf 0x0302) s
  else if (s.part part).pstate ≠ .free then complete r stWrongState (detailOf 0x0301) s
  else
    match descOffence s bytes with
    | some o => complete r stWrongState (detailOf (0x0310 + 2 ^ 32 * o)) s
    | none =>
      if d.domain = 0 || (s.othersHeld part).any (fun q => q.domain = d.domain) then complete r stBadDomain (detailOf 0) s
      else if rangesTaken s part d then complete r stNoResource (detailOf 0x0304) s
      else if d.t0.any (fun x => s.sill.unclean.any (fun y => y.meets x)) then complete r stNoResource (detailOf 0x0305) s
      else
        match shareShort s part d with
        | some c => complete r stNoResource (detailOf c) s
        | none =>
          if 16 * s.damper.pkgLimit < s.committed + d.resvW then complete r stRefusedCapacity (detailOf 0) s
          else if s.kp.entropyFail then complete r stNoResource (detailOf 0x0103) s
          else if s.sill.records.any (fun x => x.keyEpoch = s.sill.nextEpoch) then complete r stNoResource (detailOf 0x0602) s
          else complete r stOk (resultOf [(16, 1, part), (17, 1, PState.created.code)]) (createPart part d s)

/-! ### PART_SEAL, TDI_BIND and PART_QUERY (R395, R396, R403) -/

/-- A layout with a partition in byte 20 [3:0] alone. -/
def layoutPart20 : Layout := { cflags := 0, fields := [(20, 0, 4)], ranges := [] }

def layoutPartSeal (_ : Packet) (_ : State) : Layout := layoutPart20

/-- PART_SEAL. -/
def startPartSeal (r : CmdRef) (p : Packet) (s : State) : State :=
  let part := pbits p 20 0 4
  match namedRefusal s part with
  | some c => complete r stWrongState (detailOf c) s
  | none =>
    if (s.part part).pstate ≠ .created then complete r stWrongState (detailOf 0x0309) s
    else complete r stOk 0 (setPState part .sealed s)

def layoutTdiBind (p : Packet) (_ : State) : Layout :=
  { cflags := 0, fields := [(20, 0, 4), (21, 0, 8)], ranges := [(21, 8 < pf p 21 1)] }

/-- TDI_BIND. -/
def startTdiBind (r : CmdRef) (p : Packet) (s : State) : State :=
  let part := pbits p 20 0 4
  let st := pf p 21 1
  let q := s.part part
  match namedRefusal s part with
  | some c => complete r stWrongState (detailOf c) s
  | none =>
    if q.pstate = .faulted then complete r stWrongState (detailOf 0x0301) s
    else if q.tdi ≠ .unlocked ||
        (st ≠ 0 && (List.range 16).any (fun k => k ≠ part && (s.part k).tdiBound && (s.part k).tdiStream = st)) then
      complete r stWrongState (detailOf 0x0307) s
    else if st ≠ 0 && !((s.stream st).secure && (s.stream st).tee) then complete r stWrongState (detailOf 0x0306) s
    else complete r stOk 0 (s.modPart part (fun x => { x with tdiBound := st ≠ 0, tdiStream := st }))

def layoutPartQuery (p : Packet) (_ : State) : Layout :=
  { cflags := 0, fields := [(20, 0, 4), (21, 0, 8)]
    ranges := [(20, srcIsCtx p.src && pf p 20 1 ≠ 0), (21, 1 < pf p 21 1)] }

/-- The lowest number of a set of ranges. -/
def lowestOf (rs : List Range) : Option Nat := rs.foldl (fun m r => minAt m (some r.first)) none

/-- PART_QUERY. -/
def startPartQuery (r : CmdRef) (p : Packet) (s : State) : State :=
  let ctx := srcIsCtx r.src
  let part := aboutPart r (pbits p 20 0 4)
  let q := s.part part
  if pf p 21 1 = 1 then
    if ctx then complete r stNotPermitted (detailOf 0) s
    else complete r stOk (resultOf [(16, 2, granules s.sill.unclean), (18, 2, (lowestOf s.sill.unclean).getD 0xFFFF)]) s
  else
    let coarse (n : Nat) : Nat := if !ctx && part ≠ 0 then n / 32 * 32 else n
    complete r stOk (resultOf
      [(16, 1, q.pstate.code), (17, 1, q.tdi.code),
        (18, 1, (if q.view.shared then 1 else 0) + (if (s.key? part 0).isSome then 2 else 0) + (if q.tenantDebug then 4 else 0)),
        (20, 4, q.view.completedLast), (24, 1, coarse q.view.linkOcc), (25, 1, coarse q.view.sillOcc),
        (26, 2, (s.cmds.ctxs.filter (fun c => c.part = part)).length), (28, 4, s.pegsLive part)]) s

/-! ### CTX_REGISTER (R397) -/

def layoutCtxRegister (p : Packet) (_ : State) : Layout :=
  { cflags := 0, fields := [(20, 0, 8), (21, 0, 4)]
    ranges := [(20, pf p 20 1 < 4 || 12 < pf p 20 1), (21, srcIsCtx p.src && pf p 21 1 ≠ 0)] }

/-- Contexts in order of slots. -/
def ctxInsert (l : List Ctx) (c : Ctx) : List Ctx :=
  match l with
  | [] => [c]
  | a :: rest => if c.slot < a.slot then c :: a :: rest else a :: ctxInsert rest c

/-- A context newly registered. -/
def newCtx (slot part htLog2 now : Nat) : Ctx :=
  { slot := slot, part := part, expected := 0, htLog2 := htLog2, handles := [], openSet := [], fences := [], held := [],
    accounting := { Accounting.zero with openedAt := now }, cmdWindow := Accounting.zero, stepWindow := Accounting.zero,
    epochSet := Accounting.zero, boundary := none, sampled := Accounting.zero, overrunNs := 0, preempted := [] }

/-- CTX_REGISTER. -/
def startCtxRegister (r : CmdRef) (p : Packet) (s : State) : State :=
  let part := aboutPart r (pbits p 21 0 4)
  let h := (s.part part).shares
  let mine := s.cmds.ctxs.filter (fun c => c.part = part)
  match mgmtRefusal r part s with
  | some c => complete r stWrongState (detailOf c) s
  | none =>
    match ((List.range h.contexts).map (fun i => h.ctxBase + i)).find? (fun k => (s.ctx? k).isNone) with
    | none => complete r stNoResource (detailOf 0x0301) s
    | some slot =>
      if h.handles < mine.foldl (fun n c => n + 2 ^ c.htLog2) (2 ^ pf p 20 1) then complete r stNoResource (detailOf 0x0302) s
      else
        complete r stOk (resultOf [(16, 4, mkHandle slot (s.genOf slot))])
          { s with cmds := { s.cmds with ctxs := ctxInsert s.cmds.ctxs (newCtx slot part (pf p 20 1) s.now) } }

/-! ### The work of a context (R398, R400, R402) -/

/-- Commands of a context that have started and not replied. -/
def State.ctxInflight (s : State) (slot : Nat) : List CmdRef :=
  (s.cmds.inflight.filter (fun x => srcIsCtx x.ref.src && x.ref.slot = slot)).map (fun x => x.ref)

/-- Commands of a context that have not started. -/
def State.ctxStaged (s : State) (slot : Nat) : List CmdRef :=
  ((s.cmds.staged ++ s.cmds.firmware).filter (fun x => srcIsCtx x.ref.src && x.ref.slot = slot)).map (fun x => x.ref)

/-- A SEND of P0 one of whose parcels is eligible: it drains (R398, R402). -/
def State.drains (s : State) (r : CmdRef) : Bool :=
  r.part = 0 && s.gl.parcels.any (fun x => x.ref = some r && x.kind = .data && x.eligibleAt.isSome)

/-- What the units hold of a context's commands dropped: buffers, waits, unfolds, parcels and requests not yet sent. `keep`
names the commands that drain. -/
def dropObjects (slot : Nat) (keep : CmdRef → Bool) (s : State) : State :=
  let of_ (r : CmdRef) : Bool := srcIsCtx r.src && r.slot = slot && !keep r
  let unsent (x : TxParcel) : Bool := (match x.ref with | some r => of_ r | none => false) && x.pseq.isNone
  let waits := s.pegs.waiters.filter (fun w => of_ w.ref)
  let gone := s.gl.parcels.filter unsent
  let s1 := { s with
    gl := { s.gl with
      posted := s.gl.posted.filter (fun b => !of_ b.ref)
      parcels := (s.gl.parcels.filter (fun x => !unsent x)).map (fun x =>
        match x.ref with
        | some r => if srcIsCtx r.src && r.slot = slot && keep r then { x with drain := true } else x
        | none => x) }
    inl := { s.inl with unfolds := s.inl.unfolds.filter (fun u => !of_ u.ref) }
    sill := { s.sill with remote := s.sill.remote.filter (fun q =>
      !(match q.ref with | some r => of_ r && q.pseq.isNone | none => false)) }
    pegs := { s.pegs with waiters := s.pegs.waiters.filter (fun w => !of_ w.ref)
                          signals := s.pegs.signals.filter (fun g => !(of_ g.ref && gone.any (fun x => x.id = g.parcel))) }
    cal := { s.cal with slices := s.cal.slices.filter (fun x => x.2.2 ≠ slot) } }
  waits.foldl (fun t w => cancelRemote w t) s1

/-- A context's staged and executing commands end with ST_SQUASHED (R398, R400); how many they were, and the state. -/
def dropWork (slot cause : Nat) (keep : CmdRef → Bool) (s : State) : Nat × State :=
  let staged := (s.ctxStaged slot).filter (fun r => !keep r)
  let running := (s.ctxInflight slot).filter (fun r => !keep r)
  let out_ (x : Staged) : Bool := !staged.contains x.ref
  let s1 := { s with cmds := { s.cmds with staged := s.cmds.staged.filter out_, firmware := s.cmds.firmware.filter out_ } }
  let s2 := s1.inl.groups.foldl (fun t g =>
    match g.running with
    | some c => if c.ref.slot = slot then squashCollective g.part g.num cause t else t
    | none => t) s1
  let s3 := dropObjects slot keep (dropFences slot cause s2)
  let s4 := running.foldl (fun t r => if (t.inflight? r).isSome then squash cause r t else t) s3
  (staged.length + running.length, staged.foldl (fun t r => squash cause r t) s4)

/-- A context reset (R398): its handle table and pegs stay. -/
def resetCtx (slot cause : Nat) (keep : CmdRef → Bool) (s : State) : State :=
  ((dropWork slot cause keep s).2.raiseGen slot).modCtx slot (fun c =>
    { c with expected := 0, preempted := [], overrunNs := 0, boundary := none })

/-- The handle a context now has. -/
def State.handleOf (s : State) (slot : Nat) : Nat := mkHandle slot (s.genOf slot)

/-! ### The context rung (R430) -/

/-- Parcels of P0 that a reset still waits for: of one context, or of all (R402). -/
def State.draining (s : State) (slot : Option Nat) : Bool :=
  s.gl.parcels.any (fun x => x.drain && (slot.isNone || x.ctx = slot) && (x.deadline = 0 || s.now < x.deadline))

/-- A rung leaves the list of those running. -/
def endRung (g : RunningRung) (s : State) : State :=
  { s with plumb := { s.plumb with rungs := s.plumb.rungs.filter (fun x => !(x.rung = g.rung && x.scope = g.scope)) } }

def State.modRung (s : State) (g : RunningRung) (f : RunningRung → RunningRung) : State :=
  { s with plumb := { s.plumb with rungs := s.plumb.rungs.map (fun x => if x.rung = g.rung && x.scope = g.scope then f x else x) } }

/-- The engines are watched until 200 µs after a context rung began (R431). -/
def watchRung (slot part : Nat) (s : State) : State :=
  { s with plumb := { s.plumb with
      watched := (s.plumb.watched.filter (fun w => w.1 ≠ slot && s.now ≤ w.2.2 + 200000)) ++ [(slot, part, s.now)] } }

/-- A context rung: at once complete, but for P0's drain (R402, R430). -/
def contextRung (g : RunningRung) (cause : Nat) (s : State) : State :=
  match s.ctx? g.scope with
  | none => endRung g s
  | some c =>
    let t := watchRung g.scope c.part (resetCtx g.scope cause s.drains s)
    if t.draining (some g.scope) then t.modRung g (fun x => { x with begun := true, timerFrom := none }) else endRung g t

/-- Context rungs that faults and thresholds have asked for (R80, R219, R428); a context fault squashes with cause 6. -/
def runContextRungs (s : State) : State :=
  (s.plumb.rungs.filter (fun x => x.rung = Rung.context && !x.begun)).foldl (fun t g =>
    contextRung g (if 0xA0 ≤ g.src && g.src ≤ 0xAF then 6 else 1) t) s

/-- Rungs that wait for P0's drain: a context rung completes when it ends, and a CTX_RESET replies; of others the timeout
begins (R402, R430). -/
def finishDrains (s : State) : State :=
  (s.plumb.rungs.filter (fun x => x.begun && x.timerFrom.isNone)).foldl (fun t g =>
    let scope := if g.rung = Rung.context then some g.scope else none
    if t.draining scope then t
    else if g.rung = Rung.context then
      let t1 := endRung g t
      match g.cmd with
      | some r => if (t1.inflight? r).isSome then answer r stOk (resultOf [(16, 4, t1.handleOf g.scope)]) t1 else t1
      | none => t1
    else t.modRung g (fun x => { x with timerFrom := some t.now })) s

/-- P0_DRAIN_DEADLINE: an eligible P0 parcel of a drain passes its DEADLINE (R402); `finishDrains` looks for the end. -/
def p0DrainDeadline (id : Nat) (s : State) : State :=
  match s.parcel? id with
  | none => s
  | some x => if s.running && x.drain && x.deadline ≠ 0 then s.atTime x.deadline else s

/-! ### CTX_RESET (R398) and CTX_RELEASE (R399 to R401) -/

/-- The context a handle names for a command: registered, of the issuer's partition where the issuer is a context, current. -/
def namedCtx (s : State) (src : Source) (h : Nat) : Option Ctx :=
  (s.ctx? (bitsOf h 0 12)).bind (fun c =>
    if bitsOf h 12 12 = 0 && bitsOf h 24 8 = s.genOf c.slot && (!srcIsCtx src || c.part = srcPart src) then some c else none)

def layoutCtxReset (_ : Packet) (_ : State) : Layout := { cflags := 0, fields := [(20, 0, 32)], ranges := [] }

/-- CTX_RESET: absorbed by a wider rung of its partition (R443); for P0 it replies when the drain ends. Its reply is written even
where the target is the issuing context. -/
def startCtxReset (r : CmdRef) (p : Packet) (s : State) : State :=
  match namedCtx s r.src (pf p 20 4) with
  | none => complete r stWrongState (detailOf 0x0312) s
  | some c =>
    match mgmtRefusal r c.part s with
    | some e => complete r stWrongState (detailOf e) s
    | none =>
      let done (t : State) : State := answer r stOk (resultOf [(16, 4, t.handleOf c.slot)]) t
      match s.coveredBy .context c.slot with
      | some _ => done (requestRung .context c.slot 0x100 s)
      | none =>
        let t := watchRung c.slot c.part (resetCtx c.slot 1 s.drains s)
        if t.draining (some c.slot) then
          let u := hold r t
          { u with plumb := { u.plumb with rungs := u.plumb.rungs ++
            [{ rung := .context, scope := c.slot, src := 0x100, begun := true, startedAt := u.now, timerFrom := none,
               cmd := some r, tenant := c.part ≠ 0, work := [] }] } }
        else done t

def layoutCtxRelease (p : Packet) (_ : State) : Layout :=
  { cflags := 0, fields := [(20, 0, 32), (24, 0, 1), (26, 0, 16), (32, 0, 48)]
    ranges := [(26, 256 < pf p 26 2 || (pf p 26 2 ≠ 0 && !pbit p 24 0))] }

/-- A scrub entry (R401): address and pages. -/
def scrubEntry (d : List Byte) (i : Nat) : Nat × Nat := (docField d (16 * i) 6, docField d (16 * i + 8) 4)

/-- An entry that R401 allows. -/
def scrubOk (s : State) (part : Nat) (d : List Byte) (i : Nat) : Bool :=
  let (a, n) := scrubEntry d i
  a % 4096 = 0 && n ≠ 0 && docField d (16 * i + 6) 2 = 0 && docField d (16 * i + 12) 4 = 0 &&
    (match place s part a (4096 * n) with
      | .tier0 _ => true
      | .sealed _ => a < apBase
      | _ => false)

/-- A sealed page scrubbed: its record's MAJOR raised, every minor 0, the present epoch; at 2^64 - 1 the job ends (R188, R401). -/
def scrubPage (part page : Nat) (s : State) : State :=
  let r := s.keyRecord part page
  if r.major = pegMax then memFail part (0x30 + page % 4) 2 s
  else s.setRecord { r with major := r.major + 1, minors := List.replicate 16 0 }

/-- A range scrubbed (R401). -/
def scrubRange (part a n : Nat) (s : State) : State :=
  let s1 := { s with sill := { s.sill with
    pool := s.sill.pool.filter (fun l => !(l.part = part && a ≤ l.addr && l.addr < a + 4096 * n)) } }
  if a < t0End then s1.emit (.zero part a (4096 * n))
  else (List.range n).foldl (fun t i => scrubPage part (pageOf a + i) t) s1

/-- A context released (R400 steps 1 to 6 and 8): commands squashed and pegs orphaned. -/
def releaseCtx (slot cause : Nat) (keep : CmdRef → Bool) (s : State) : Nat × Nat × State :=
  let (n, s1) := dropWork slot cause keep (s.raiseGen slot)
  let own := (s1.pegs.slots.filter (fun g => g.state = .live && g.ownerCtx = slot &&
    (s.ctx? slot).map (fun c => c.part) = some g.ownerPart)).map (fun g => g.idx)
  let s2 := own.foldl (fun t i => orphanPeg i t) s1
  (n, own.length, { s2 with cmds := { s2.cmds with ctxs := s2.cmds.ctxs.filter (fun c => c.slot ≠ slot) } })

/-- CTX_RELEASE. -/
def startCtxRelease (r : CmdRef) (p : Packet) (given : MemRead) (s : State) : State :=
  let died := pbit p 24 0
  let k := pf p 26 2
  let list := readBytes given
  match namedCtx s r.src (pf p 20 4) with
  | none => complete r stWrongState (detailOf 0x0312) s
  | some c =>
    match mgmtRefusal r c.part s with
    | some e => complete r stWrongState (detailOf e) s
    | none =>
      if srcIsCtx r.src && c.slot = r.slot then complete r stWrongState (detailOf 0x0304) s
      else if !died && !((s.ctxStaged c.slot).isEmpty && (s.ctxInflight c.slot).isEmpty) then
        complete r stWrongState (detailOf 0x0303) s
      else if srcIsCtx r.src && k ≠ 0 && !s.inCarve c.part (pf p 32 6) (16 * k) then complete r stWrongState (detailOf 0x0311) s
      else if srcIsCtx r.src && k ≠ 0 && (readCause given).isSome then keyReadFail r given s
      else if !(List.range k).all (scrubOk s c.part list) then complete r stWrongState (detailOf 0x0311) s
      else
        let (n, pegs, s1) := releaseCtx c.slot (if died then 5 else 1) (fun _ => false) s
        let pages := (List.range k).foldl (fun m i => m + (scrubEntry list i).2) 0
        let s2 := (List.range k).foldl (fun t i => scrubRange c.part (scrubEntry list i).1 (scrubEntry list i).2 t) s1
        complete r stOk (resultOf [(16, 4, n), (20, 4, pegs), (24, 4, pages)]) s2

/-! ### Ending a partition (R404, R405) -/

/-- ceil(268.32 × G) µs (R406). -/
def zeroUs (g : Nat) : Nat := ceilDiv (26832 * g) 100

/-- Parcels of a partition none of whose flits has left, and its queued acknowledgements of contexts, are no longer sent (R405). -/
def dropUnsent (part : Nat) (s : State) : State :=
  { s with gl := { s.gl with parcels := s.gl.parcels.filter (fun x => x.part ≠ part || x.pseq.isSome) } }

/-- PART_ENDING on the assigned channel (R545, R555). -/
def partEnding (part : Nat) (s : State) : State :=
  (List.range 4).foldl (fun t c =>
    if t.chanAssigned c = some part then t.modChan c (fun q => { q with dbOut := q.dbOut ||| 16 }) else t) s

/-- A partition becomes ENDING: teardown begins (R404, R405). Rungs of the partition and its contexts are abandoned (R443).
The trace slot stops (R507). `keep` is the PART_RELEASE that replies at the end of teardown. -/
def beginEnding (part : Nat) (destroy release : Option CmdRef) (s : State) : State :=
  let keep (r : CmdRef) : Bool := release = some r
  let s1 := partEnding part (setPState part .ending s)
  let inside (x : RunningRung) : Bool :=
    (x.rung = Rung.partition && x.scope = part) ||
      (x.rung = Rung.context && (s.ctx? x.scope).map (fun c => c.part) = some part)
  let s2 := (s1.modTrace part (fun t => { t with active := false, queued := [], lostQueued := 0 }))
  let s2 := { s2 with plumb := { s2.plumb with
    rungs := s1.plumb.rungs.filter (fun x => !inside x), watched := s1.plumb.watched.filter (fun w => w.2.1 ≠ part) } }
  let late := (s1.plumb.rungs.filter inside).filterMap (fun x => x.cmd)
  let s2 := late.foldl (fun t r => if (t.inflight? r).isSome then squash 4 r t else t) s2
  let s3 := dropUnsent part (s2.modPart part (fun q => { q with
    phase := .teardown, phaseAt := s.now, endDestroy := destroy, endRelease := release
    view := { q.view with rungActive := false } }))
  let slots := (s3.cmds.ctxs.filter (fun c => c.part = part)).map (fun c => c.slot)
  let s4 := slots.foldl (fun t k => (releaseCtx k 4 keep t).2.2) s3
  let own := (s4.pegs.slots.filter (fun g => g.state = .live && g.ownerPart = part)).map (fun g => g.idx)
  own.foldl (fun t i => orphanPeg i t) s4

def layoutPartDestroy (_ : Packet) (_ : State) : Layout := layoutPart20

/-- PART_DESTROY (R404). -/
def startPartDestroy (r : CmdRef) (p : Packet) (s : State) : State :=
  let part := pbits p 20 0 4
  match namedRefusal s part with
  | some c => complete r stWrongState (detailOf c) s
  | none => beginEnding part (some r) none (hold r s)

def layoutPartRelease (_ : Packet) (_ : State) : Layout := { cflags := 0, fields := [], ranges := [] }

/-- PART_RELEASE (R404). -/
def startPartRelease (r : CmdRef) (_ : Packet) (s : State) : State := beginEnding r.part none (some r) (hold r s)

/-! ### Strike (R406 to R408) -/

/-- A STRIKE record of the infrastructure trace (R407, R495, R496): a tenant's with quantised time. -/
def traceStrike (part : Nat) (s : State) : State :=
  pushTrace 16 { time := if part = 0 then s.now else s.epochStart, type := 0x0E, flags := if part = 0 then 0 else 0x80,
                 ctx := 0, seq := 0, layer := 0, operator := 0, step := 0, info := 0 } s

/-- The key slots of a partition erased (R344, R406). -/
def eraseKeys (part : Nat) (s : State) : State :=
  (s.kp.slots.filter (fun k => k.part = part)).foldl (fun t k => eraseSlot k.part k.slot t) s

/-- Sill's part of the crypto-erase (R190 steps 1 to 3), and the end of the partition's accesses. -/
def eraseSill (part : Nat) (s : State) : State :=
  let s1 := (s.sill.accesses.filter (fun a => a.part = part)).foldl (fun t a => answerAccess a.id kFault [] t) s
  { s1 with sill := { s1.sill with
      pool := s1.sill.pool.filter (fun l => l.part ≠ part)
      heldLines := s1.sill.heldLines.filter (fun l => l.part ≠ part)
      remote := s1.sill.remote.filter (fun q => q.part ≠ part) } }

/-- What S1 zeroes outside Kingpost and Sill (R406). -/
def eraseWork (part : Nat) (s : State) : State :=
  let s1 := clearCounters part s
  { s1 with
    gl := { s1.gl with parcels := s1.gl.parcels.filter (fun x => x.part ≠ part)
                       posted := s1.gl.posted.filter (fun b => b.ref.part ≠ part)
                       packq := s1.gl.packq.filter (fun k => k.part ≠ part) }
    pegs := { s1.pegs with slots := s1.pegs.slots.filter (fun g => g.ownerPart ≠ part)
                           waiters := s1.pegs.waiters.filter (fun w => w.ref.part ≠ part)
                           remote := s1.pegs.remote.filter (fun w => w.part ≠ part)
                           signals := s1.pegs.signals.filter (fun g => g.ref.part ≠ part) }
    vs := { s1.vs with stopping := s1.vs.stopping.filter (fun x => x ≠ part) } }

/-- S1 begins: the crypto-erase (R406). -/
def beginS1 (part : Nat) (s : State) : State :=
  let s1 := traceStrike part (setTdi part .error s)
  let s2 := (eraseWork part (eraseSill part (eraseKeys part s1))).modPart part (fun q => { q with
    domain := 0, tierKey := none, verifierId := none, tenantDebug := false, ivParcel := 0, ivPack := 0
    phase := .s1, phaseAt := s.now, tornAt := s.now, endRelease := none })
  let s3 := s2.modRow part (fun g => { g with frozen := some g.grant })
  loseSettings uSl 0x01 5 (loseSettings uKp 0x12 5 s3)

/-- A flit of the partition still has to leave (R405). -/
def State.teardownOpen (s : State) (part : Nat) : Bool :=
  s.gl.parcels.any (fun x => x.part = part && x.leftAt.isNone) ||
    s.gl.links.any (fun l => l.txq.any (fun q => q.owner = some part))

/-- TEARDOWN_COMPLETE (R404 to R406). -/
def teardownComplete (part : Nat) (s : State) : State :=
  let q := s.part part
  if !s.running || q.phase ≠ .teardown || s.teardownOpen part then s
  else
    let s1 := match q.endRelease with
      | some r => answer r stOk (resultOf [(16, 4, 2000 + zeroUs (granules q.t0) + 20)]) s
      | none => s
    beginS1 part (setPState part .striking s1)

/-- A partition enters a phase of its strike. -/
def setPhase (part : Nat) (ph : Phase) (s : State) : State := s.modPart part (fun q => { q with phase := ph, phaseAt := s.now })

/-- STRIKE_S1_END: 2,000 µs exactly. -/
def strikeS1End (part : Nat) (s : State) : State :=
  let q := s.part part
  if !s.running || q.phase ≠ .s1 then s else setPhase part .s2 (s.atTime (q.phaseAt + 2000000))

/-- Another strike holds the reserve or comes before (R406, R409): in the order teardowns ended, then by number. -/
def reserveBlocked (s : State) (part : Nat) : Bool :=
  let q := s.part part
  (List.range 16).any (fun k =>
    let x := s.part k
    k ≠ part && (x.phase = .s3 ||
      ((x.phase = .s1 || x.phase = .s2) && (x.tornAt < q.tornAt || (x.tornAt = q.tornAt && k < part)))))

/-- STRIKE_RESERVE_GRANT. -/
def strikeReserveGrant (part : Nat) (s : State) : State :=
  if !s.running || (s.part part).phase ≠ .s2 || reserveBlocked s part then s else setPhase part .s3 s

/-- STRIKE_S3_END: the tier 0 ranges are zero (R406). -/
def strikeS3End (part : Nat) (s : State) : State :=
  let q := s.part part
  if !s.running || q.phase ≠ .s3 then s
  else
    let t := s.atTime (q.phaseAt + 1000 * zeroUs (granules q.t0))
    let t1 := q.t0.foldl (fun u r => u.emit (.stackZero r.first r.count)) t
    setPhase part .s4 { t1 with sill := { t1.sill with ledger := t1.sill.ledger.filter (fun e => e.part ≠ part) } }

/-- Pages of a granule of 1 GiB. -/
abbrev granPages : Nat := 262144

/-- The pages of a partition's sealed ranges, as the sweep takes them (R190). -/
def sweepOf (q : Part) : List Range :=
  q.t1.map (fun r => ({ first := r.first * granPages, count := r.count * granPages } : Range)) ++
    q.t2.map (fun r => ({ first := 335544320 + r.first * granPages, count := r.count * granPages } : Range))

/-- Every reservation and shaper of a partition released (R269, R406). -/
def releaseResvs (part : Nat) (s : State) : State :=
  let ended := s.cal.resvs.filter (fun r => r.part = part)
  { s with cal := { s.cal with
      resvs := s.cal.resvs.filter (fun r => r.part ≠ part)
      resvGens := ended.foldl (fun l r => assocSet l r.entry ((r.gen + 1) % 256)) s.cal.resvGens
      shapers := s.cal.shapers.filter (fun h => h.part ≠ part)
      quotas := s.cal.quotas.filter (fun q => q.1 ≠ part)
      slices := s.cal.slices.filter (fun x => x.1 ≠ part) } }

/-- The assignment of a struck partition's channel returns to zero (R555, R556). -/
def unassign (part : Nat) (s : State) : State :=
  if s.mail.assign.contains (part, true) then
    loseSettings uMb 0x01 5
      { s with mail := { s.mail with assign := s.mail.assign.map (fun a => if a = (part, true) then (0, false) else a) } }
  else s

/-- S4: release (R406). Generations of the context range return to 0 (R58). -/
def releasePart (part : Nat) (s : State) : State :=
  let q := s.part part
  let inRange (k : Nat) : Bool := q.shares.ctxBase ≤ k && k < q.shares.ctxBase + q.shares.contexts
  let s1 := traceStrike part (unassign part (setPState part .free (releaseResvs part s)))
  let s2 := s1.modPart part (fun _ => Part.reset)
  (({ s2 with
    cmds := { s2.cmds with gens := s2.cmds.gens.filter (fun e => !inRange e.1) }
    sill := { s2.sill with sweep := s2.sill.sweep ++ sweepOf q }
    vs := { s2.vs with msixLocked := s2.vs.msixLocked.filter (fun x => x ≠ part) }
    scribe := { s2.scribe with traces := s2.scribe.traces.filter (fun t => t.slot ≠ part) } }).modRow part
      (fun g => { g with frozen := none }))

/-- STRIKE_S4_END: 20 µs exactly; PART_DESTROY replies. -/
def strikeS4End (part : Nat) (s : State) : State :=
  let q := s.part part
  if !s.running || q.phase ≠ .s4 then s
  else
    let t := releasePart part (s.atTime (q.phaseAt + 20000))
    match q.endDestroy with
    | some r => answer r stOk 0 t
    | none => t

/-! ### Unclean granules (R394) -/

/-- GRANULE_CLEANED: the lowest unclean granule is zero and clean; not while a strike takes the reserve. -/
def granuleCleaned (s : State) : State :=
  if !s.running || (List.range 16).any (fun k => (s.part k).phase = .s2 || (s.part k).phase = .s3) then s
  else
    match lowestOf s.sill.unclean with
    | none => s
    | some g =>
      ({ s with sill := { s.sill with unclean := rangesWithout s.sill.unclean g } }).emit (.stackZero g 1)

end Sys2Proof.Machine
end

