-- ==== Sys2Proof/Machine/Ladder.lean ====
section
/-! DEFINITION. The reset ladder (14 R430 to R438, R455 to R457, R559) and the crash dump's marks (R448): engine, partition, chip and
tray rungs, their timeouts, and what a chip reset leaves (15 R458, R482). -/

namespace Sys2Proof.Machine

/-! ### Engines (R433) -/

/-- The kind of an engine number, and its index. -/
def engineKind (e : Nat) : Nat := e / 256
def engineIdx (e : Nat) : Nat := e % 256

/-- An engine this member has. -/
def engineExists (e : Nat) : Bool :=
  (engineKind e = 1 && engineIdx e < 96) || (engineKind e = 2 && engineIdx e < 96) || (engineKind e = 3 && engineIdx e < 72) ||
    (engineKind e = 4 && engineIdx e < 16) || (engineKind e = 5 && engineIdx e < 64) || (engineKind e = 6 && engineIdx e < 8) ||
    e = 0x700

/-- The engine numbers of this member, rising. -/
def allEngines : List Nat :=
  (List.range 96).map (fun i => 0x100 + i) ++ (List.range 96).map (fun i => 0x200 + i) ++
    (List.range 72).map (fun i => 0x300 + i) ++ (List.range 16).map (fun i => 0x400 + i) ++
    (List.range 64).map (fun i => 0x500 + i) ++ (List.range 8).map (fun i => 0x600 + i) ++ [0x700]

/-- An engine that is retired, or under its rung, serves nothing (R435). -/
def State.outOfService (s : State) (e : Nat) : Bool :=
  s.plumb.retired.contains e || s.plumb.rungs.any (fun x => x.rung = Rung.engine && x.scope = e && x.begun)

/-- A link of kind 5 taken to TRAINING with its outstanding flits moved (R98, R104, R433). -/
def retrainLink (n : Nat) (s : State) : State :=
  let l := s.link n
  if l.state = .down || l.state = .disabled then s
  else
    let s1 := if l.state = .keyed then loseSettings uGl 0x01 4 (leaveKeyed n .training s) else setLink n .training s
    endKeyxCmd n stWrongState (detailOf 0x020A) (s1.modLink n (fun x => { x with keyx := .idle, secret := false }))

/-- Partly sent parcels whose unit an injection pair holds are declared lost (R434). -/
def flushInjection (idx : Nat) (s : State) : State :=
  (s.gl.parcels.filter (fun x => x.lane = some idx && x.pseq.isSome && x.leftAt.isNone)).foldl (fun t x => declareLost x t) s

/-- The queue of a guard lane flushed: the tier 0 accesses it holds are answered FAULT (R433, R559, log 30). -/
def flushGuard (idx : Nat) (s : State) : State :=
  pumpSill ((s.sill.accesses.filter (fun a => a.begun && a.answer.isNone && a.addr < ctrEnd && laneOf a.addr = idx)).foldl
    (fun t a => answerAccess a.id kFault [] t) s)

/-- The firmware executive restarted: the command Tlatriward is running, an exchange it waits for, ends (R433, log 31). -/
def restartFirmware (s : State) : State :=
  match (List.range 64).find? (fun n => (s.link n).keyxCmd.isSome) with
  | none => s
  | some n =>
    match (s.link n).keyxCmd with
    | none => s
    | some r => squash 2 r (s.modLink n (fun l => { l with keyxCmd := none }))

/-- The partitions that have work in an engine (R431). -/
def engineWork (s : State) (e : Nat) : List Nat :=
  let idx := engineIdx e
  let ps : List Nat := match engineKind e with
    | 1 => (s.gl.parcels.filter (fun x => x.lane = some idx && x.pseq.isSome && x.leftAt.isNone)).map (fun x => x.part)
    | 4 => (s.sill.accesses.filter (fun a => a.begun && a.answer.isNone && a.addr < ctrEnd && laneOf a.addr = idx)).map
        (fun a => a.part)
    | 5 => ((s.link idx).txq ++ (s.link idx).replay.map (fun x => x.2)).filterMap (fun q => q.owner)
    | 7 => (s.cmds.inflight.filter (fun x => isFirmwareClass x.ref.cls && srcIsCtx x.ref.src)).map (fun x => x.ref.part)
    | _ => []
  ps.eraseDups

/-- What an engine rung does to its engine (R433, R434). -/
def flushEngine (e : Nat) (s : State) : State :=
  match engineKind e with
  | 1 => flushInjection (engineIdx e) s
  | 4 => flushGuard (engineIdx e) s
  | 5 => retrainLink (engineIdx e) s
  | 7 => restartFirmware s
  | _ => s

/-- The rung asked for or running with a scope. -/
def State.rung? (s : State) (r : Rung) (scope : Nat) (begun : Bool) : Option RunningRung :=
  s.plumb.rungs.find? (fun x => x.rung = r && x.scope = scope && x.begun = begun)

/-- ENGINE_RUNG: the forced flush (R433, R434, R559). A retired engine has no rung. -/
def engineRung (e : Nat) (s : State) : State :=
  match s.rung? .engine e false with
  | none => s
  | some g =>
    if !s.up then s
    else if s.plumb.retired.contains e then endRung g s
    else
      let s1 := s.modRung g (fun x => { x with begun := true, timerFrom := some s.now, work := engineWork s e })
      flushEngine e { s1 with plumb := { s1.plumb with
        engineGens := assocSet s1.plumb.engineGens e (assocGet s1.plumb.engineGens e 0 + 1) } }

/-- The source and SUB under which a retired engine is recorded (R435, R447); a peg bank and the firmware executive have none. -/
def retiredSource (e : Nat) : Option (Nat × Nat) :=
  match engineKind e with
  | 1 => some (0x10 + engineIdx e / 12, 2)
  | 2 => some (0x10 + engineIdx e / 12, 2)
  | 3 => some (0x18 + engineIdx e / 18, 2)
  | 4 => some (0x1C + engineIdx e, 2)
  | 5 => some (0x40 + engineIdx e, 6)
  | _ => none

/-- DETAIL of a RETIRED entry (R447). -/
def retiredDetail (s : State) (e : Nat) : Nat :=
  match engineKind e with
  | 4 => e
  | 5 => 256 * ((s.link (engineIdx e)).peer.getD 0xFFFF)
  | _ => e + 2 ^ 32 * (assocGet s.plumb.mismatches e 0 % 2 ^ 32)

/-- An engine retired until the next chip reset; the calendar loses its share (R435). A retired link is DOWN. -/
def retireEngine (e : Nat) (tenant : Bool) (s : State) : State :=
  if s.plumb.retired.contains e then s
  else
    let s1 := { s with plumb := { s.plumb with retired := s.plumb.retired ++ [e] } }
    let s2 := if engineKind e = 5 then
        let n := engineIdx e
        let t := if (s.link n).state = .keyed then leaveKeyed n .down s1 else setLink n .down s1
        endKeyxCmd n stWrongState (detailOf 0x020A) (t.modLink n (fun l => { l with retired := true, keyx := .idle, secret := false }))
      else s1
    let s3 := match retiredSource e with
      | some (src, sub) => plumbEvent src sub 9 none tenant (retiredDetail s e) none s2
      | none => s2
    if 1 ≤ engineKind e && engineKind e ≤ 3 then degradeTiles s3 else s3

/-- What the check of a link engine or of the firmware executive waits for (R433). -/
def checkReady (s : State) (e : Nat) : Bool :=
  engineKind e ≠ 5 || (s.link (engineIdx e)).state = .keyed || (s.link (engineIdx e)).state = .disabled

/-- ENGINE_CHECK_DONE (R435, R559): the engine returns to service, or is retired. The firmware executive's check has not passed
until it passes. -/
def engineCheckDone (e : Nat) (passed : Bool) (s : State) : State :=
  match s.rung? .engine e true with
  | none => s
  | some g =>
    if !s.up then s
    else if passed then (if checkReady s e then endRung g s else s)
    else if engineKind e = 7 then s
    else retireEngine e g.tenant (endRung g s)

/-! ### Partition rung (R436) -/

/-- The contexts of a partition. -/
def State.slotsOf (s : State) (p : Nat) : List Nat := (s.cmds.ctxs.filter (fun c => c.part = p)).map (fun c => c.slot)

/-- Steps 1 to 3. -/
def rungSteps (p : Nat) (s : State) : State :=
  let s1 := (s.slotsOf p).foldl (fun t k => resetCtx k 3 s.drains t) s
  let own := (s1.pegs.slots.filter (fun g => g.state = .live && g.ownerPart = p)).map (fun g => g.idx)
  let s2 := own.foldl (fun t i => orphanPeg i t) s1
  let s3 := (s.slotsOf p).foldl (fun t k => t.modCtx k (fun c => { c with handles := [], openSet := [] })) s2
  { s3 with
    gl := { s3.gl with
      posted := s3.gl.posted.filter (fun b => b.ref.part ≠ p)
      parcels := s3.gl.parcels.filter (fun x => x.part ≠ p || x.pseq.isSome || x.drain) }
    inl := { s3.inl with groups := s3.inl.groups.filter (fun g => g.part ≠ p) } }

/-- PARTITION_RUNG: steps 1 to 3; a partition that is FREE or being struck has none. -/
def partitionRung (p : Nat) (s : State) : State :=
  match s.rung? .partition p false with
  | none => s
  | some g =>
    if !s.up then s
    else if (s.part p).pstate = .free || (s.part p).struck then endRung g s
    else
      let s1 := loseSettings uPg 0x01 7 (rungSteps p (s.modView p (fun v => { v with rungActive := true })))
      let s2 := { s1 with plumb := { s1.plumb with watched := s1.plumb.watched.filter (fun w => w.2.1 ≠ p) } }
      s2.modRung g (fun x => { x with begun := true, timerFrom := if p = 0 && s2.draining none then none else some s2.now })

/-- Parcels of the rung's partition whose first flit has left still run to their end (step 4), or P0 drains (R402). -/
def rungOpen (s : State) (p : Nat) : Bool :=
  s.gl.parcels.any (fun x => x.part = p && !x.drain && x.pseq.isSome && x.leftAt.isNone) || (p = 0 && s.draining none)

/-- PARTITION_RUNG_COMPLETE: step 5. -/
def partitionRungComplete (p : Nat) (s : State) : State :=
  match s.rung? .partition p true with
  | none => s
  | some g =>
    if !s.running || rungOpen s p then s
    else
      let s1 := if (s.part p).pstate = .created then s else setPState p .sealed s
      endRung g (s1.modView p (fun v => { v with rungActive := false, restarts := bump 255 v.restarts }))

/-! ### Chip reset (R437, R394, 15 R458, R482) -/

/-- Ranges put in rising order. -/
def rangeInsert (l : List Range) (r : Range) : List Range :=
  match l with
  | [] => [r]
  | a :: rest => if r.first ≤ a.first then r :: a :: rest else a :: rangeInsert rest r

/-- The unclean granules after a chip reset: those of every partition join them (R394). -/
def uncleanAfter (s : State) : List Range :=
  ((s.parts.filter (fun q => q.pstate ≠ .free)).flatMap (fun q => q.t0)).foldl rangeInsert s.sill.unclean

/-- The settings a chip reset clears (R482); `image` where code memory has lost the image. LAST is 2, the warm start. -/
def chipLosses (image : Bool) (s : State) : State :=
  [(uKp, if image then (0x3F : BitVec 8) else 0x1F), (uGl, 0x03), (uSl, 0x07), (uPg, 0x03), (uDm, 0x03), (uPl, 0x01), (uSc, 0x01),
    (uMb, 0x01), (uGb, 0x1B)].foldl (fun t e => loseSettings e.1 e.2 2 t) s

/-- What a reset of the VDD_CORE domains leaves (R41, R437, R458): every register at its CHIP reset value; the always-on island
keeps its own. Platform time is the always-on count until the first edge (R446, R560). -/
def clearCore (s : State) : State :=
  let z := State.reset
  { s with
    parts := z.parts
    cmds := { z.cmds with cmdReady := s.cmds.cmdReady }
    gl := z.gl
    inl := z.inl
    sill := { z.sill with unclean := uncleanAfter s }
    pegs := z.pegs
    cal := { z.cal with now := s.start.aonCount }
    damper := { z.damper with ramps := s.damper.ramps }
    kp := { z.kp with twin := s.kp.twin, cfs := s.kp.cfs, entropy := s.kp.entropy, draws := s.kp.draws }
    vs := { z.vs with tap := s.vs.tap }
    plumb := { s.plumb with srcs := [], rungs := [], watched := [], retired := [], engineGens := [], mismatches := [], discards := 0 }
    start := { s.start with step := 0, kind := 0, waiting := false, stopped := false, rootOk := false, rootCount := 0,
                            inReset := true, findings := none }
    debugs := z.debugs
    scribe := z.scribe
    tests := z.tests
    mail := z.mail }

/-- The firmware command at the cause permits the dump's excerpt of data memory (R449). -/
def dumpExcerpt (s : State) : Bool :=
  match s.cmds.inflight.find? (fun x => isFirmwareClass x.ref.cls) with
  | some x => x.ref.src = .mgmt || x.ref.part = 0 || x.ref.cls = 0xB || x.ref.cls = 0xC
  | none => false

/-- The flags of the newest entry of a source. -/
def markEntry (src : Nat) (f : LogEntry → LogEntry) (s : State) : State :=
  match s.plumb.log.findIdx? (fun e => e.source = src) with
  | some k => { s with plumb := { s.plumb with log := s.plumb.log.modify k f } }
  | none => s

/-- The header of a dump for the newest entry of a source (R448). -/
def dumpHeader (src : Nat) (s : State) : DumpHeader :=
  let k := (s.plumb.log.findIdx? (fun e => e.source = src)).getD 0
  let e := s.plumb.log[k]?
  { source := src, sub := e.elim 0 (fun x => x.sub), chipResets := s.plumb.chipResets, time := e.elim s.now (fun x => x.time)
    index := (s.plumb.next + 1022 - 1 - k) % 1022, excerpt := dumpExcerpt s
    queue := s.cmds.firmware.map (fun x => (x.ref.cls, x.ref.op, x.ref.part % 16, x.ref.slot, x.ref.seq % 65536))
    links := (List.range 64).map s.linkStatus, draw := s.fresh }

/-- The crash dump at the start of a chip or tray rung (R437, R448): kept and counted as skipped where one is unacknowledged or
cannot be written in time. The marks go to the newest entry of the source. -/
def takeDump (src : Nat) (possible : Bool) (s : State) : State :=
  if possible && !s.plumb.dumpValid then
    markEntry src (fun e => { e with dumpWritten := true })
      (({ s with plumb := { s.plumb with dumpValid := true, dump := some (dumpHeader src s) }, fresh := s.fresh + 1 }).emit (.dump src false (dumpExcerpt s)))
  else
    markEntry src (fun e => { e with dumpSkipped := true })
      { s with plumb := { s.plumb with dumpSkips := bump 255 s.plumb.dumpSkips } }

/-- The whole draw moves onto ballast and ramps to zero (R437 step 2). -/
def rampDown (s : State) : State :=
  let drop := s.damper.pkgPower * 16 / 10
  let s1 := addRamp drop (max 50000 (s.slopeNs drop)) false false s
  { s1 with damper := { s1.damper with rows := s1.damper.rows.map (fun g => { g with grant := 0, reached := 0 }) } }

/-- The chip rung's entry (R444, R447). -/
def chipEntry (g : RunningRung) (s : State) : State :=
  let idx := s.plumb.next
  let s1 := logEntry g.src 0 6 none g.tenant false (chipDetail s.plumb.causes) s
  { s1 with plumb := { s1.plumb with
      log := s1.plumb.log.modify 0 (fun e => { e with merged := 1 < s.plumb.causes.length })
      chipResets := bump 0xFFFFFFFF s.plumb.chipResets
      lastResetTime := (s1.plumb.log.head?).elim 0 (fun e => e.time)
      lastResetEntry := idx } }

/-- CHIP_RUNG (R437): the entry, the dump, the ballast, and the reset of the VDD_CORE domains. A dump cannot be written once ROOTCLK
is lost. In a core already held in reset nothing is left to clear but the image in code memory. -/
def chipRung (cause : Nat) (dumpDone : Bool) (s : State) : State :=
  match s.plumb.rungs.find? (fun x => x.rung = Rung.chip && !x.begun) with
  | none => s
  | some g =>
    if !s.start.pwrAon || g.src ≠ cause then s
    else
      let s1 := takeDump g.src (dumpDone && !s.plumb.causes.contains 0x01) (chipEntry g s)
      let lost := s.plumb.causes.contains 0x0E
      let s2 := if s.start.inReset then (if lost then loseSettings uKp 0x20 2 s1 else s1)
        else chipLosses lost (clearCore (rampDown s1))
      { s2 with plumb := { s2.plumb with rungs := [{ g with begun := true, startedAt := s2.now, timerFrom := some s2.now }] } }

/-! ### Tray rung (R438) -/

/-- The core held in reset and TRAY_REQ asserted. -/
def trayBegin (src : Nat) (s : State) : State :=
  let s1 := takeDump src true s
  let s2 := if s.start.inReset then s1 else chipLosses false (clearCore (rampDown s1))
  { s2 with
    plumb := { s2.plumb with rungs := [], causes := [], trayAsked := none }
    start := { s2.start with trayReq := true, inReset := true } }

/-- TRAY_RUNG: once THERM_TRIP or the chip rung's timeout has asked for it. -/
def trayRung (cause : Nat) (s : State) : State :=
  if s.start.pwrAon && !s.start.trayReq && s.plumb.trayAsked = some cause then trayBegin cause s else s

/-! ### Timeouts (R431, R432) -/

/-- How long each rung may take (R430). -/
def Rung.limit : Rung → Nat
  | .context => 200000
  | .engine => 2000000
  | .partition => 20000000
  | .chip => 200000000

/-- LADDER_TIMEOUT raised: the count, the entry and its detail (R431, R447, R454). -/
def noteTimeout (r : Rung) (scope units action : Nat) (part : Option Nat) (tenant : Bool) (s : State) : State :=
  let p := s.plumb
  let s1 := { s with plumb := match r with
    | .context => { p with contextTo := bump 255 p.contextTo }
    | .engine => { p with engineTo := bump 255 p.engineTo }
    | .partition => { p with partitionTo := bump 255 p.partitionTo }
    | .chip => { p with chipTo := bump 255 p.chipTo } }
  thresholdChip 0x0C
    (plumbLog 0x0C r.code action part tenant (r.code - 1 + 2 ^ 16 * scope + 2 ^ 32 * (units % 2 ^ 64)) s1)

/-- A context rung that has timed out: the engine rungs of the engines named, else the partition rung (R431). -/
def contextTimeout (slot part units : Nat) (engines : List Nat) (s : State) : State :=
  let tenant : Bool := part ≠ 0
  let s1 := noteTimeout .context slot units (if engines.isEmpty then 5 else 3) (some part) tenant s
  if engines.isEmpty then requestRungFor .partition part 0x0C tenant s1
  else engines.foldl (fun t e => if engineExists e then requestRungFor .engine e 0x0C tenant t else t) s1

/-- A rung that has timed out is abandoned, and the next one asked for (R431). -/
def rungTimeout (g : RunningRung) (units : Nat) (engines : List Nat) (s : State) : State :=
  match g.rung with
  | .context => contextTimeout g.scope ((s.ctx? g.scope).elim 0 (fun c => c.part)) units engines (endRung g s)
  | .engine =>
    let s1 := noteTimeout .engine g.scope units (if g.work.isEmpty then 6 else 5) none g.tenant (endRung g s)
    if g.work.isEmpty then requestRungFor .chip 0 0x0C g.tenant s1
    else g.work.foldl (fun t p => requestRungFor .partition p 0x0C (p ≠ 0) t) s1
  | .partition =>
    requestRungFor .chip 0 0x0C g.tenant
      (noteTimeout .partition g.scope units 6 (some g.scope) g.tenant
        ((endRung g s).modView g.scope (fun v => { v with rungActive := false })))
  | .chip =>
    let s1 := noteTimeout .chip 0 units 7 none g.tenant (endRung g s)
    { s1 with plumb := { s1.plumb with trayAsked := some 0x0C, causes := [] } }

/-- The rung a code of R447 names. -/
def rungOfCode (c : Nat) : Option Rung :=
  if c = 1 then some .context else if c = 2 then some .engine else if c = 3 then some .partition
  else if c = 4 then some .chip else none

/-- LADDER_TIMEOUT: a rung that has begun and whose timer runs, or a context rung that has reported complete while an engine still
holds its work; timers stop during a halt. -/
def ladderTimeout (code scope units : Nat) (engines : List Nat) (s : State) : State :=
  if !s.start.pwrAon || s.scribe.halted then s
  else
    match rungOfCode code with
    | none => s
    | some r =>
      match s.rung? r scope true with
      | some g =>
        match g.timerFrom with
        | some t => rungTimeout g units engines (s.atTime (t + r.limit))
        | none => s
      | none =>
        match r, s.plumb.watched.find? (fun w => w.1 = scope) with
        | .context, some (slot, part, from_) =>
          if engines.isEmpty then s
          else
            contextTimeout slot part units engines
              ({ s with plumb := { s.plumb with watched := s.plumb.watched.filter (fun w => w.1 ≠ slot) } }.atTime (from_ + 200000))
        | _, _ => s

/-! ### Requests of software (R455 to R457) -/

/-- The SW_RESET event (R447, R455). -/
def swReset (kind target : Nat) (viaPart : Bool) (part : Option Nat) (s : State) : State :=
  thresholdChip 0x87 (plumbLog 0x87 kind (match kind with | 1 => 3 | 2 => 5 | _ => 6) part false
    (target + (if viaPart then 2 ^ 12 else 0)) s)

/-- PL_RESET_REQ with KIND 1. -/
def resetReqEngine (target : Nat) (s : State) : State :=
  if !s.up then s
  else if !engineExists target then countMalformed s
  else requestRung .engine target 0x87 (swReset 1 target false none s)

/-- A partition the rung can act on. -/
def rungPartition (s : State) (p : Nat) : Bool := p < 16 && (s.part p).pstate ≠ .free

/-- PL_RESET_REQ with KIND 2. -/
def resetReqPartition (target : Nat) (s : State) : State :=
  if !s.up then s
  else if !rungPartition s target then countMalformed s
  else requestRung .partition target 0x87 (swReset 2 target false (some target) s)

/-- PL_RESET_REQ with KIND 3. -/
def resetReqChip (target : Nat) (s : State) : State :=
  if !s.up then s
  else if target ≠ 0 then countMalformed s
  else requestRung .chip 0 0x87 (swReset 3 target false none s)

/-- PL_PART_RESET.REQ of a view. -/
def partResetReq (p : Nat) (s : State) : State :=
  if !s.up || !rungPartition s p then s
  else requestRung .partition p 0x87 (swReset 2 p true (some p) s)

/-- PL_DUMP.ACK (R456). -/
def dumpAck (s : State) : State := if s.up then { s with plumb := { s.plumb with dumpValid := false } } else s

end Sys2Proof.Machine
end

