-- ==== Sys2Proof/Machine/Starts.lean ====
section
/-! DEFINITION. Starts, clocks and power (02, 15, R309, R310), life cycle (R466 to R472) and debug (R473 to R480). -/

namespace Sys2Proof.Machine

/-! ### Root monitor, pins and power (R39, R40, R42) -/

/-- A count of the monitor in range (R39). -/
def rootInRange (n : Nat) : Bool := 31094 ≤ n && n ≤ 31406

/-- ROOT_MONITOR_CHECK: a root loss asks for a chip reset; three checks in range end the wait for ROOTCLK. In L3 the Damper has
ordered the stop, and the monitor ignores it. -/
def rootMonitorCheck (count : Nat) (s : State) : State :=
  if !s.start.pwrAon || s.damper.lstate = .l3 then s
  else
    let ok := rootInRange count
    let good := if ok then s.start.rootGood + 1 else 0
    let s1 := { s with start := { s.start with rootOk := ok, rootCount := count % 65536, rootGood := min 3 good } }
    if ok then
      if s.start.rootWait && 3 ≤ good then { s1 with start := { s1.start with rootWait := false, aonOnSosc := false } } else s1
    else if s.start.rootWait then s1
    else
      requestChip 0x01 false (plumbMark 0x01
        { s1 with start := { s1.start with rootWait := true, aonOnSosc := true, rootLoss := true } })

/-- CHIP_RST_REQ: a rise leaves L3, or asks for a chip reset (R309, R430). -/
def chipRstReq (s : State) : State :=
  if !s.start.pwrAon then s
  else if s.damper.lstate = .l3 then { s with damper := { s.damper with moving := some (.l3, .l0) } }
  else requestChip 0x0D false (plumbMark 0x0D s)

/-- CORE_POWER_FALL: the VDD_CORE domains are off and code memory has lost the image; TRAY_REQ ends (R42, R438, R482). -/
def corePowerFall (s : State) : State :=
  if !s.start.pwrAon || !s.start.pwrCore then s
  else
    requestChip 0x0E false (plumbMark 0x0E
      { s with start := { s.start with pwrCore := false, trayReq := false, image := none, ctlOn := false, gltOn := 0, sltOn := 0 } })

/-- POWER_LOSS: everything but the fuses is lost (R42, R467). -/
def powerLoss (s : State) : State :=
  { State.reset with
    fuses := { s.fuses with rollWaiting := false, wipeStep := 0, wipeAt := 0 }
    out := s.out, fresh := s.fresh, pending := s.pending }

/-! ### The End-of-Life wipe (R471) -/

/-- ns of each wipe step. -/
def wipeNs (step : Nat) : Nat :=
  match step with
  | 1 => 269400000
  | 2 => 51500000
  | 3 => 614400000
  | 4 => 9600000
  | _ => 0

/-- The wipe starts: from the start of W1 both RS banks are unusable (R469). -/
def beginWipe (s : State) : State :=
  { s with fuses := { s.fuses with wipeStep := 1, wipeAt := s.start.aonCount + wipeNs 1, rollWaiting := false, bankA := .unusable,
                                   bankB := .unusable, inUse := none }
           start := { s.start with waiting := false, findings := none } }

/-- What a wipe step has done at its end, and the next step. -/
def endWipeStep (s : State) : State :=
  let f := s.fuses
  match f.wipeStep with
  | 1 => { s with fuses := { f with wipeStep := 2, wipeAt := f.wipeAt + wipeNs 2 } }
  | 2 =>
    let s1 := loseSettings uPl 0x02 9 { s with
      fuses := { f with wipeStep := 3, wipeAt := f.wipeAt + wipeNs 3 }
      sill := { s.sill with unclean := [], records := [] }
      plumb := { s.plumb with log := [], next := 0, wraps := 0, lost := 0, chipResets := 0, lastResetTime := 0, lastResetEntry := 0,
                              dumpValid := false } }
    s1.emit (.stackZero 0 3072)
  | 3 => { s with fuses := { f with wipeStep := 4, wipeAt := f.wipeAt + wipeNs 4, svnMin := 64, manuf := 0x7FF } }
  | 4 => { s with fuses := { f with wipeStep := 0, wipeAt := 0, completion := f.completion.set 2 32, lc := .endOfLife }
                  start := { s.start with step := 6 } }
  | _ => s

/-- The wipe goes on with the always-on count. -/
def wipeTick (s : State) : State :=
  if s.start.pwrAon && s.fuses.wipeStep ≠ 0 && s.fuses.wipeAt ≤ s.start.aonCount then endWipeStep s else s

/-! ### Starts (R459 to R463) -/

/-- GB_START (R537). -/
def State.startWord (s : State) : Nat :=
  fld 0 4 s.start.step + fld 4 2 s.start.kind + fldB 6 s.start.waiting + fldB 7 s.start.stopped

/-- The parallel steps 12 to 14 once READY is set: links trained, links keyed, tier 0 clean (R459, R537, log 33). -/
def advanceStart (s : State) : State :=
  if !s.kp.ready || s.start.step < 11 then s
  else
    let trained := s.gl.links.all (fun l => l.state ≠ .training)
    let keyed := s.gl.links.all (fun l => l.state ≠ .unkeyed)
    let n := if !trained then 11 else if !keyed then 12 else if !s.sill.unclean.isEmpty then 13 else 14
    { s with start := { s.start with step := max s.start.step n } }

/-- The start stops at a step with a Plumb event (R33, R330, R459). -/
def stopStart (step src sub detail : Nat) (s : State) : State :=
  plumbEvent src sub 8 none false detail none
    { s with start := { s.start with stopped := true, step := step, findings := none } }

/-- The first purlin channel with more than 24 stages, or whose two directions differ (R33). -/
def badChannel (a b : List Nat) : Option Nat :=
  (List.range 72).find? (fun i => 24 < a.getD i 0 || 24 < b.getD i 0 || a.getD i 0 ≠ b.getD i 0)

/-- Step 5: the RS banks (R330, R331); none where Kingpost stops. In Blank a fresh RS is fused only with VPP_FUSE (R329). -/
def rsBanks (f : Fuses) (blank : Bool) (aOk bOk : Bool) : Option Fuses :=
  let useB (x : Fuses) : Option Fuses :=
    match f.bankB with
    | .blank => some (if f.vpp then { x with bankB := .complete, inUse := some true, bankLost := true }
        else { x with inUse := none, bankLost := true })
    | .complete => if bOk then some { x with inUse := some true, bankLost := true } else none
    | _ => none
  if blank then
    match f.bankA with
    | .blank => some (if f.vpp then { f with bankA := .complete, inUse := some false } else { f with inUse := none })
    | .programming => useB f
    | .complete => if aOk then some { f with inUse := some false } else useB { f with bankA := .unusable }
    | .unusable => useB f
  else
    match f.inUse with
    | some false => if aOk then some f else none
    | some true => if bOk then some f else none
    | none => none

/-- Life-cycle states in order. -/
def lcOf (k : Nat) : LcState := if k = 0 then .blank else if k = 1 then .test else if k = 2 then .production else .endOfLife

/-- What step 6 finds (R470). -/
inductive Resolved where
  | state (lc : LcState)
  | roll (k : Nat)
  deriving DecidableEq, Repr

/-- The highest transition whose intent row is not BLANK. -/
def resolveLc (s : State) : Resolved :=
  match ([2, 1, 0].find? (fun k => s.intentRow k ≠ 0)) with
  | none => .state .blank
  | some k => if s.intentRow k = 2 && s.completionRow k = 2 then .state (lcOf (k + 1)) else .roll k

/-- A pair that a warm start tests (R459 step 8). -/
def warmTested (phase e : Nat) : Bool :=
  let idx := engineIdx e
  (idx % 8 = phase) || (if engineKind e = 3 then idx % 18 = 0 else idx % 12 = 0)

/-- Pairs whose known-answer test fails are retired (R435, R459). -/
def retireFailed (cold : Bool) (es : List Nat) (s : State) : State :=
  (es.filter (fun e => engineExists e && 1 ≤ engineKind e && engineKind e ≤ 3 && (cold || warmTested s.start.warmPhase e))).foldl
    (fun t e => retireEngine e false t) s

/-- Step 11: the ladder derived and READY set; the chip rung completes, and trained links begin
their exchanges (R332, R358, R430, R459). -/
def setReady (i : BootImage) (s : State) : State :=
  let s1 := { s with
    kp := { s.kp with ready := true, svn := i.svn, endorsed := i.endorsed && s.fuses.lc = .production, dbgKeys := s.fullDebug }
    plumb := { s.plumb with rungs := s.plumb.rungs.filter (fun x => x.rung ≠ Rung.chip), causes := [] }
    start := { s.start with step := 11, waiting := false, bootState := 3, findings := none } }
  let trained := (List.range 64).filter (fun n => (s1.link n).state = .unkeyed)
  let s2 := advanceStart (trained.foldl (fun t n => startExchange n t) s1)
  let words : List Word := [BitVec.ofNat 32 s2.startWord, BitVec.ofNat 32 (s2.ret.getD uGb { epoch := 0, last := 0, lost := 0 }).epoch]
  (List.range 8).foldl (fun t c => queueNotice c { service := 0x83, part := none, payload := words } t) s2

/-- Step 10: the image in code memory serves, or the start waits for one (R459, R462, R465). -/
def imageStep (s : State) : State :=
  match s.start.image with
  | some i =>
    if s.start.reload then { s with start := { s.start with step := 9, waiting := !s.start.go, bootState := 0 } }
    else setReady i s
  | none => { s with start := { s.start with step := 9, waiting := !s.start.go, bootState := 0 } }

/-- Steps 7 to 10: SRAM, known-answer tests and the counter region (R186, R459). -/
def testsStep (cold : Bool) (f : StartFindings) (s : State) : State :=
  match f.failedUnits.find? (fun u => 0xF0 ≤ u && u ≤ 0xF3) with
  | some u => stopStart 7 0x08 u 0 { s with kp := { s.kp with twin := bump 255 s.kp.twin } }
  | none =>
    let s1 := retireFailed cold f.failedEngines s
    let s2 := { s1 with
      start := { s1.start with warmPhase := if cold then s1.start.warmPhase else (s1.start.warmPhase + 1) % 8 }
      sill := { s1.sill with records := [] } }
    imageStep s2

/-- Step 6 resolved: a roll forward needs VPP_FUSE, and into End of Life runs the wipe first (R470, R471). -/
def rollForward (cold : Bool) (k : Nat) (f : StartFindings) (s : State) : State :=
  if !s.fuses.vpp then
    { s with fuses := { s.fuses with lc := lcOf k, rollWaiting := true }
             start := { s.start with step := 5, waiting := true, findings := some f } }
  else
    let s1 := { s with fuses := { s.fuses with intent := s.fuses.intent.set k 32, lc := lcOf k, rollWaiting := false }
                       start := { s.start with waiting := false } }
    if k = 2 then beginWipe { s1 with start := { s1.start with step := 5 } }
    else
      testsStep cold f { s1 with fuses := { s1.fuses with completion := s1.fuses.completion.set k 32, lc := lcOf (k + 1) } }

/-- Steps 5 and 6. While T3's intent row is not BLANK, R330 is not applied (R471). -/
def fuseStep (cold : Bool) (f : StartFindings) (s0 : State) : State :=
  let s := { s0 with fuses := { s0.fuses with vpp := f.vppFuse } }
  let res := resolveLc s
  let blank : Bool := res = .state .blank || res = .roll 0
  let banks := if s.intentRow 2 ≠ 0 then some s.fuses else rsBanks s.fuses blank f.rsCheckAOk f.rsCheckBOk
  match banks with
  | none => stopStart 4 0x0A 0 0 s
  | some fu =>
    let s1 := { s with fuses := fu }
    match res with
    | .state lc =>
      if lc = .endOfLife then { s1 with fuses := { s1.fuses with lc := lc }, start := { s1.start with step := 6 } }
      else testsStep cold f { s1 with fuses := { s1.fuses with lc := lc } }
    | .roll k => rollForward cold k f s1

/-- The core domains powered and out of reset. -/
def powerOn (kind : Nat) (s : State) : State :=
  { s with start := { s.start with
      pwrAon := true, pwrCore := true, ctlOn := true, gltOn := 0xFF, sltOn := 0xF, inReset := false, kind := kind, aonOnSosc := false
      rootWait := false } }

/-- COLD_START: PWR_OK_AON rises (R459). The count of the last of the three root checks is a free value in range (log 7). -/
def coldStart (f : StartFindings) (s : State) : State :=
  if s.start.pwrAon then s
  else
    let (d, s1) := (powerOn 1 s).draw
    let s2 := { s1 with start := { s1.start with rootOk := true, rootCount := 31094 + d % 313, rootGood := 3 } }
    match badChannel f.purlinA f.purlinB with
    | some c => stopStart 3 0x00 0 c { s2 with start := { s2.start with inReset := true, purlin := [] } }
    | none => fuseStep true f { s2 with start := { s2.start with purlin := f.purlinA } }

/-- WARM_START: after a chip reset or out of L3, once ROOTCLK has been found in range (R39, R40, R459). A PCS that has lost its
coefficients is reported (R461). -/
def warmStart (f : StartFindings) (s : State) : State :=
  let reset := s.plumb.rungs.any (fun x => x.rung = Rung.chip && x.begun)
  let leaves := s.damper.lstate = .l3 && s.damper.moving = some (.l3, .l0)
  if !s.start.pwrAon || !s.start.inReset || s.start.trayReq || s.start.rootWait || !(reset || leaves) then s
  else
    let s1 := powerOn 2 { s with damper := { s.damper with lstate := .l0, moving := none }
                                 start := { s.start with pcsKept := !f.pcsCoefficientsLost } }
    let s2 := if f.pcsCoefficientsLost then loseSettings uGl 0x04 2 s1 else s1
    if s2.start.purlin.isEmpty then { s2 with start := { s2.start with inReset := true, stopped := true, step := 3 } }
    else fuseStep false f s2

/-- VPP_FUSE_RECHECK: a waiting roll forward goes on once VPP_FUSE is present (R470). -/
def vppFuseRecheck (present : Bool) (s : State) : State :=
  if !s.up || !s.fuses.rollWaiting then s
  else
    let s1 := { s with fuses := { s.fuses with vpp := present } }
    match present, resolveLc s1, s1.start.findings with
    | true, .roll k, some f => rollForward (s1.start.kind = 1) k f s1
    | _, _, _ => s1

/-- The start waits for its image: step 10 reached, none fetched (R465). -/
def State.awaitsImage (s : State) : Bool :=
  s.up && !s.kp.ready && !s.start.stopped && !s.fuses.rollWaiting && s.fuses.wipeStep = 0 && s.fuses.lc ≠ .endOfLife &&
    s.start.step = 9

/-- IMAGE_FETCH: once GO is set, the ROM fetches the image and verifies it; COMMIT_SVN raises SVN_MIN with VPP_FUSE (R328, R463,
R465). -/
def imageFetch (i : BootImage) (s : State) : State :=
  if !s.awaitsImage || !s.start.go then s
  else
    let s1 := { s with start := { s.start with reload := false, waiting := false } }
    if !i.formatOk || !i.sigsOk || 64 < i.svn then { s1 with start := { s1.start with image := none, bootState := 4 } }
    else if i.svn < s.fuses.svnMin then { s1 with start := { s1.start with image := none, bootState := 5 } }
    else
      let min_ := if i.commitSvn && s.fuses.vpp then max s.fuses.svnMin i.svn else s.fuses.svnMin
      setReady i { s1 with start := { s1.start with image := some i }, fuses := { s1.fuses with svnMin := min_ } }

/-- A write of GB_BOOT_CTRL: LEN, GO and RELOAD (R465). -/
def bootCtrlWrite (v : Nat) (s : State) : State :=
  if s.start.bootState = 1 || s.start.bootState = 2 then { s with start := { s.start with reload := bitOf v 10 } }
  else
    let s1 := { s with start := { s.start with bootLen := bitsOf v 0 9, go := bitOf v 9, reload := bitOf v 10 } }
    if s1.awaitsImage then { s1 with start := { s1.start with waiting := !s1.start.go } } else s1

/-! ### Low-power states (R309, R310, R480) -/

/-- Codes of DM_STATUS.LSTATE (R319). -/
def LState.code : LState → Nat
  | .l0 => 0 | .l1 => 1 | .l2 => 2 | .l3 => 3

def layoutEnterState (p : Packet) (_ : State) : Layout :=
  { cflags := 0, fields := [(20, 0, 8)], ranges := [(20, 3 < pf p 20 1)] }

/-- The state a number names. -/
def lstateOf (n : Nat) : LState := if n = 0 then .l0 else if n = 1 then .l1 else if n = 2 then .l2 else .l3

/-- ENTER_STATE (R310). Leaving L2 powers the tiles at once and completes with L2_EXIT_COMPLETE. -/
def startEnterState (r : CmdRef) (p : Packet) (s : State) : State :=
  let cur := s.damper.lstate
  let goal := lstateOf (pf p 20 1)
  let ok (t : State) : State := complete r stOk (resultOf [(16, 1, cur.code)]) t
  if goal = cur then ok s
  else if (goal = .l2 || goal = .l3) && s.parts.any (fun q => q.pstate ≠ .free) then complete r stWrongState (detailOf 0x0903) s
  else if s.scribe.halted || s.damper.emergency || s.damper.moving.isSome then complete r stWrongState (detailOf 0x0904) s
  else if goal = .l2 || goal = .l3 then ok { s with damper := { s.damper with moving := some (cur, goal) } }
  else if cur = .l2 then
    ok { s with damper := { s.damper with moving := some (.l2, goal) }, start := { s.start with gltOn := 0xFF, sltOn := 0xF } }
  else ok { s with damper := { s.damper with lstate := goal, gated := if goal = .l0 then [] else s.damper.gated } }

/-- Every link DOWN by order of the Damper, without an event (R309). -/
def linksOff (s : State) : State :=
  (List.range 64).foldl (fun t n =>
    if (t.link n).state = .down then t
    else
      let u := if (t.link n).state = .keyed then leaveKeyed n .down t else setLink n .down t
      endKeyxCmd n stWrongState (detailOf 0x020A) (u.modLink n (fun l => { l with keyx := .idle, secret := false }))) s

/-- Full debug closes (R480); in Test it stays open by state. -/
def closeFullDebug (last : Nat) (s : State) : State :=
  if !s.debugs.full then s
  else
    let s1 := loseSettings uKp 0x05 last { s with debugs := { s.debugs with full := false } }
    { s1 with kp := { s1.kp with dbgKeys := s1.fullDebug } }

/-- LOW_POWER_ENTRY: an accepted entry to L2 or L3 completes (R309, R480, R482). -/
def lowPowerEntry (s : State) : State :=
  if !s.running then s
  else
    match s.damper.moving with
    | some (_, .l2) =>
      let s1 := loseSettings uGl 0x01 3 (linksOff (closeFullDebug 3 s))
      { s1 with damper := { s1.damper with lstate := .l2, moving := none }, start := { s1.start with gltOn := 0, sltOn := 0 } }
    | some (_, .l3) =>
      let s1 := chipLosses true (clearCore s)
      { s1 with damper := { s1.damper with lstate := .l3 }
                start := { s1.start with image := none, ctlOn := false, gltOn := 0, sltOn := 0, aonOnSosc := true } }
    | _ => s

/-- L2_EXIT_COMPLETE. -/
def l2ExitComplete (s : State) : State :=
  match s.damper.moving with
  | some (.l2, goal) =>
    if s.running && (goal = .l0 || goal = .l1) then { s with damper := { s.damper with lstate := goal, moving := none } } else s
  | _ => s

/-! ### Life cycle (R468, R469) -/

def layoutNone (_ : Packet) (_ : State) : Layout := { cflags := 0, fields := [], ranges := [] }

def layoutLcQuery (p : Packet) (s : State) : Layout := layoutNone p s
def layoutLcStatus (p : Packet) (s : State) : Layout := layoutNone p s

/-- LC_QUERY. -/
def startLcQuery (r : CmdRef) (_ : Packet) (s : State) : State :=
  let flags := fldB 0 s.fullDebug + fldB 1 s.debugs.operator + fldB 2 (s.fuses.wipeStep ≠ 0) + fldB 3 s.fuses.inUse.isSome
  complete r stOk (resultOf [(16, 1, s.fuses.lc.code), (17, 1, s.lcPending), (18, 1, s.fuses.svnMin), (19, 1, flags)]) s

/-- The code of an RS bank (R469). -/
def bankCode (s : State) (b : Bool) : Nat :=
  match (if b then s.fuses.bankB else s.fuses.bankA) with
  | .blank => 0
  | .programming => 1
  | .complete => if s.fuses.inUse = some b then 2 else 3
  | .unusable => 3

/-- LC_STATUS. -/
def startLcStatus (r : CmdRef) (_ : Packet) (s : State) : State :=
  let row (k : Nat) : Nat := s.intentRow k + 4 * s.completionRow k
  complete r stOk (resultOf
    [(16, 1, row 0), (17, 1, row 1), (18, 1, row 2), (19, 1, s.fuses.svnMin), (20, 1, bankCode s false + 4 * bankCode s true),
      (21, 1, fldB 0 s.fuses.vpp + fldB 1 (s.fuses.wipeStep ≠ 0)), (22, 2, s.fuses.wipeStep)]) s

def layoutLcTransition (p : Packet) (_ : State) : Layout :=
  { cflags := 0, fields := [(20, 0, 8), (21, 0, 8)], ranges := [(21, pf p 21 1 ≠ 255 - pf p 20 1)] }

/-- The transition that reaches a target from the present state (R466). -/
def transitionTo (lc : LcState) (target : Nat) : Option Nat :=
  if lc = .blank && target = 2 then some 0
  else if lc = .test && target = 4 then some 1
  else if lc = .production && target = 8 then some 2
  else none

/-- LC_TRANSITION: the intent row is programmed; the state stays until the next start. -/
def startLcTransition (r : CmdRef) (p : Packet) (s : State) : State :=
  let target := pf p 20 1
  if s.lcPendingRow.isSome then complete r stWrongState (detailOf 0x0B01) s
  else if target = 2 && s.fuses.inUse.isNone then complete r stWrongState (detailOf 0x0B02) s
  else if !s.fuses.vpp then complete r stWrongState (detailOf 0x0B03) s
  else
    match transitionTo s.fuses.lc target with
    | none => complete r stWrongState (detailOf 0x0B04) s
    | some k =>
      complete r stOk (resultOf [(16, 1, target), (17, 1, k + 1), (18, 1, 32)])
        { s with fuses := { s.fuses with intent := s.fuses.intent.set k 32 } }

/-! ### Debug (R473 to R479) -/

def layoutDebugOpenOperator (p : Packet) (s : State) : Layout := layoutNone p s

/-- DEBUG_OPEN_OPERATOR. -/
def startDebugOpenOperator (r : CmdRef) (_ : Packet) (s : State) : State :=
  complete r stOk 0 { s with debugs := { s.debugs with operator := true } }

def layoutDebugOpenTenant (p : Packet) (_ : State) : Layout :=
  { cflags := 0, fields := [(24, 0, 48), (32, 0, 16)], ranges := [(32, pf p 32 2 ≠ 288)] }

/-- A token that opens this partition (R475). -/
def tokenOk (s : State) (part : Nat) (t : DebugToken) : Bool :=
  let q := s.part part
  t.wellFormed && q.verifierId = some t.spkiHash && t.targetOk && t.domain = q.domain && t.part = part &&
    t.commit = commitOf (s.key? part 0) && t.sigOk

/-- DEBUG_OPEN_TENANT. -/
def startDebugOpenTenant (r : CmdRef) (p : Packet) (t : DebugToken) (s : State) : State :=
  if (s.part r.part).tenantDebug then complete r stOk 0 s
  else if !s.inCarve r.part (pf p 24 6) 288 then complete r stNotPermitted (detailOf 0) s
  else if (readCause t.read).isSome then keyReadFail r t.read s
  else if !tokenOk s r.part t then complete r stDebugRefused (detailOf 0) s
  else
    let gone := s.kp.slots.filter (fun k => k.part = r.part && k.noDebug)
    let s1 := gone.foldl (fun u k => eraseSlot k.part k.slot u) s
    complete r stOk 0 (s1.modPart r.part (fun q => { q with tenantDebug := true }))

def layoutDebugChallenge (_ : Packet) (_ : State) : Layout :=
  { cflags := 0, fields := [(24, 0, 48), (30, 0, 32)], ranges := [] }

/-- The body of a challenge record (R477). -/
def challengeBody (s : State) : List Byte × State :=
  let (challenge, s1) := s.drawBytes 32
  let (device, s2) := s1.drawBytes 48
  let (ht, s3) := s2.drawBytes 48
  (leBytes 1 1 ++ leBytes 1 3 ++ leBytes 2 256 ++ challenge ++ leBytes 4 s.coordRead ++ leBytes 1 s.fuses.lc.code ++
    leBytes 1 s.debugBits ++ leBytes 1 s.kp.svn ++ leBytes 1 s.fuses.svnMin ++ leBytes 4 s.plumb.chipResets ++ device ++ ht ++
    leBytes 8 s.now ++ leBytes 8 (s.now + 600000000000) ++ List.replicate 96 0, s3)

/-- DEBUG_CHALLENGE: it replaces the challenge before. -/
def startDebugChallenge (r : CmdRef) (p : Packet) (twinsOk : Bool) (s : State) : State :=
  if pf p 30 4 < 256 + sigBytes then complete r stNoResource (detailOf 0x0201) s
  else if !twinsOk then signTwin r s
  else
    let (body, s1) := challengeBody s
    let (sigs, s2) := signatures s1
    complete r stOk 0 (({ s2 with debugs := { s2.debugs with challenge := some (s.fresh, s.now + 600000000000) } }).emit
      (.busWrite (pf p 24 6) (body ++ sigs)))

def layoutDebugResponse (p : Packet) (_ : State) : Layout :=
  { cflags := 0, fields := [(24, 0, 48), (30, 0, 16)], ranges := [(30, pf p 30 2 ≠ 4851)] }

/-- DEBUG_RESPONSE (R479): every tenant partition ends, and the reply follows the last strike. -/
def startDebugResponse (r : CmdRef) (_ : Packet) (d : DebugResp) (s : State) : State :=
  if s.fullDebug then complete r stWrongState (detailOf 0x0A02) s
  else
    let s1 := { s with debugs := { s.debugs with challenge := none } }
    if !(match s.debugs.challenge with | some (_, e) => decide (s.now < e) | none => false) then
      complete r stWrongState (detailOf 0x0A01) s1
    else if !(d.challengeHashOk && d.deviceIdOk && d.scope = 1 && d.sigsOk) then complete r stDebugRefused (detailOf 0) s1
    else
      let tenants := (List.range 16).filter (fun p => p ≠ 0 && (s1.part p).pstate ≠ .free && !(s1.part p).struck)
      let s2 := tenants.foldl (fun t p => beginEnding p none none t) (hold r s1)
      { s2 with debugs := { s2.debugs with opening := some r } }

/-- Once no tenant partition is being struck, full debug opens and DEBUG_RESPONSE replies (R479). -/
def finishDebugOpen (s : State) : State :=
  match s.debugs.opening with
  | none => s
  | some r =>
    if (List.range 16).any (fun p => p ≠ 0 && (s.part p).struck) then s
    else
      answer r stOk 0 (loseSettings uKp 0x01 6
        { s with debugs := { s.debugs with opening := none, full := true }, kp := { s.kp with dbgKeys := true }
                 vs := { s.vs with sessions := [] } })

end Sys2Proof.Machine
end

