-- ==== Sys2Proof/Machine/Scribe.lean ====
section
/-! DEFINITION. Scribe (16): samples, traces, halt and resume. -/

namespace Sys2Proof.Machine

/-! ### Who may observe (R491) -/

/-- Operator or full debug is open. -/
def State.opDebug (s : State) : Bool := s.debugs.operator || s.fullDebug

/-- Accounts and windows: live, only as they stood at the last power-epoch boundary, or not at all. -/
def accountView (s : State) (src : Source) (part what : Nat) : Option Bool :=
  if srcIsCtx src || part = 0 || s.fullDebug then some false else if what = 0 then some true else none

/-- Engine counters: unfiltered, or filtered to a partition. -/
def engineView (s : State) (src : Source) (part what : Nat) : Bool :=
  if srcIsCtx src then what = 4 && (s.part part).tenantDebug else what = 3 || part = 0 || s.fullDebug

/-- A trace slot with an event mask. -/
def traceView (s : State) (src : Source) (slot events : Nat) : Bool :=
  let unit := bitOf events 5
  if srcIsCtx src then slot ≠ 16 && (!unit || (s.part slot).tenantDebug)
  else if slot = 16 then s.opDebug
  else s.fullDebug || (slot = 0 && (!unit || s.debugs.operator))

/-! ### COUNTER_SAMPLE (R487 to R493) -/

/-- QUEUE_WAIT_NS brought up to the present: the model leaves the time open (log 7). -/
def noteWait (slot : Nat) (s : State) : State :=
  let (a, s1) := s.draw
  let (b, s2) := s1.draw
  let (c, s3) := s2.draw
  let add (d : Nat) (x : Accounting) : Accounting := { x with queueWaitNs := x.queueWaitNs + d }
  s3.modCtx slot (fun x => { x with
    accounting := add a x.accounting, cmdWindow := add b x.cmdWindow, stepWindow := add c x.stepWindow })

/-- The 64 B of R493. -/
def accountBytes (a : Accounting) (time what slot : Nat) (boundary epoch : Bool) : List Byte :=
  leBytes 8 time ++ leBytes 4 a.seq ++ leBytes 2 a.layer ++ leBytes 2 a.operator ++ leBytes 4 a.step ++ leBytes 1 what ++
    leBytes 1 (fldB 0 boundary + fldB 1 epoch) ++ leBytes 2 slot ++ leBytes 8 a.openedAt ++ leBytes 8 a.queueWaitNs ++
    leBytes 4 a.preemptions ++ leBytes 4 a.overruns ++ leBytes 8 a.unitNs ++ leBytes 4 a.commands ++ leBytes 4 a.discards

/-- The set that a sample returns, and whether it is the closed one of R490. -/
def sampledSet (c : Ctx) (what : Nat) (epoch : Bool) (now : Nat) : Accounting × Bool :=
  let shut := c.boundary.bind (fun b => if b.1 = now then some b.2 else none)
  match what, shut with
  | 0, _ => (if epoch then c.epochSet else c.accounting, false)
  | 1, some (w, _) => (w, true)
  | 1, none => (c.cmdWindow, false)
  | _, some (_, some v) => (v, true)
  | _, _ => (c.stepWindow, false)

/-- An engine's counters, of its whole work or of one partition's (R487, R488). -/
def State.engineCount (s : State) (e : Nat) (part : Option Nat) : EngineCount :=
  (s.scribe.engines.find? (fun x => x.engine = e && x.part = part)).getD
    { engine := e, part := part, busy := 0, idle := 0, stalls := List.replicate 16 0 }

/-- The stall codes that a partition-filtered count reports under their own code (R487). -/
def filteredStall (c : Nat) : Bool := [0, 4, 5, 7, 8, 9, 10, 12, 13, 15].contains c

/-- The counts advanced by what the model leaves open: how many cycles fell to each (log 7). -/
def advanceStalls (filtered : Bool) : Nat → List Nat → State → List Nat × State
  | _, [], s => ([], s)
  | c, n :: rest, s =>
    let (d, s1) := if filtered && !filteredStall c then (0, s) else s.draw
    let (l, s2) := advanceStalls filtered (c + 1) rest s1
    ((n + d) % 2 ^ 64 :: l, s2)

def advanceEngine (e : Nat) (part : Option Nat) (s : State) : EngineCount × State :=
  let k := s.engineCount e part
  let (b, s1) := s.draw
  let (i, s2) := if part.isSome then (0, s1) else s1.draw
  let (st, s3) := advanceStalls part.isSome 0 k.stalls s2
  let k1 := { k with busy := (k.busy + b) % 2 ^ 64, idle := (k.idle + i) % 2 ^ 64, stalls := st }
  (k1, { s3 with scribe := { s3.scribe with
    engines := s3.scribe.engines.filter (fun x => !(x.engine = e && x.part = part)) ++ [k1] } })

/-- The 144 B of an engine (R492). -/
def EngineCount.bytes (k : EngineCount) : List Byte := leBytes 8 k.busy ++ leBytes 8 k.idle ++ (k.stalls.map (leBytes 8)).flatten

/-- The records of several engines, in order. -/
def sampleEngines (part : Option Nat) : List Nat → State → List Byte × State
  | [], s => ([], s)
  | e :: rest, s =>
    let (k, s1) := advanceEngine e part s
    let (l, s2) := sampleEngines part rest s1
    (k.bytes ++ l, s2)

def layoutCounterSample (p : Packet) (_ : State) : Layout :=
  let what := pf p 20 1
  { cflags := 0, fields := [(20, 0, 8), (21, 0, 4), (22, 0, 16), (24, 0, 32), (32, 0, 48), (40, 0, 32)]
    ranges := [(20, 4 < what), (21, srcIsCtx p.src && pf p 21 1 ≠ 0),
      (22, 3 ≤ what && pf p 22 2 ≠ 0xFFFF && !engineExists (pf p 22 2))] }

/-- The sample of an account or window. -/
def sampleAccount (r : CmdRef) (p : Packet) (c : Ctx) (epoch : Bool) (s : State) : State :=
  let what := pf p 20 1
  let s1 := if epoch then s else noteWait c.slot s
  let (a, boundary) := sampledSet ((s1.ctx? c.slot).getD c) what epoch s.now
  answerOr r stOk boundary (resultOf [(16, 4, 64), (20, 4, a.seq)])
    (putOut r (pf p 32 6) (accountBytes a (if epoch then s.epochStart else s.now) what c.slot boundary epoch) s1)
where
  /-- The reply with BOUNDARY of R60, discarded where the issuing context has moved on (R58). -/
  answerOr (r : CmdRef) (st : Nat) (boundary : Bool) (res : BitVec 128) (s : State) : State :=
    if s.staleRef r then complete r st res s else answerWith r st boundary res s

/-- COUNTER_SAMPLE. -/
def startCounterSample (r : CmdRef) (p : Packet) (s : State) : State :=
  let what := pf p 20 1
  let part := aboutPart r (pbits p 21 0 4)
  let out := pf p 32 6
  if what < 3 then
    match mgmtRefusal r part s, accountView s r.src part what with
    | some c, _ => complete r stWrongState (detailOf c) s
    | none, none => complete r stWrongState (detailOf 0x0A08) s
    | none, some epoch =>
      match namedCtx s r.src (pf p 24 4) with
      | none => complete r stWrongState (detailOf 0x0312) s
      | some c =>
        if c.part ≠ part then complete r stWrongState (detailOf 0x0312) s
        else if outRefused s r out 64 then complete r stNotPermitted (detailOf 0) s
        else if pf p 40 4 < 64 then complete r stNoResource (detailOf 0x0201) s
        else sampleAccount r p c epoch s
  else
    let es := if pf p 22 2 = 0xFFFF then allEngines else [pf p 22 2]
    match (if what = 4 then mgmtRefusal r part s else none) with
    | some c => complete r stWrongState (detailOf c) s
    | none =>
      if !engineView s r.src part what then complete r stWrongState (detailOf 0x0A08) s
      else if outRefused s r out (144 * es.length) then complete r stNotPermitted (detailOf 0) s
      else if pf p 40 4 < 144 * es.length then complete r stNoResource (detailOf 0x0201) s
      else
        let (bytes, s1) := sampleEngines (if what = 4 then some part else none) es s
        complete r stOk (resultOf [(16, 4, 144 * es.length)]) (putOut r out bytes s1)

/-! ### Traces (R494 to R497) -/

def layoutTraceStart (p : Packet) (s : State) : Layout :=
  let scope := pf p 20 1
  let ctx := srcIsCtx p.src
  let exports := pbit p 36 1 && scope ≠ 2
  let addr := pf p 24 6
  let len := pf p 32 4
  let us := pf p 48 4
  { cflags := 0
    fields := [(20, 0, 8), (21, 0, 4), (22, 0, 6), (24, 0, 48), (32, 0, 32), (36, 0, 2), (38, 0, 11), (40, 0, 32), (44, 0, 32),
      (48, 0, 32)]
    ranges := [(20, 2 < scope || (scope = 0 && !ctx)), (21, ctx && pf p 21 1 ≠ 0),
      (24, !exports && (addr % 4096 ≠ 0 || (scope ≠ 2 && t0End < addr + len))),
      (32, !exports && (len < 4096 || 2 ^ 30 < len || len % 4096 ≠ 0)),
      (38, exports && pf p 38 2 < 2048 && (pf p 38 2 = s.chip || !s.chipInside (pf p 38 2))),
      (48, if pbit p 22 4 then us < 10 || 1000000 < us else us ≠ 0)] }

/-- The slot that a TRACE_START names. -/
def traceSlotOf (r : CmdRef) (p : Packet) : Nat := if pf p 20 1 = 2 then 16 else aboutPart r (pbits p 21 0 4)

/-- The trace slot started. -/
def openTrace (r : CmdRef) (p : Packet) (s : State) : State :=
  let n := traceSlotOf r p
  let t : TraceSlot :=
    { slot := n, scope := pf p 20 1, ctx := r.slot, events := pbits p 22 0 6, bufAddr := pf p 24 6, bufLen := pf p 32 4
      wrap := pbit p 36 0, export_ := pbit p 36 1 && n ≠ 16, exportDst := pf p 38 2, exportTag := pf p 40 4, resv := pf p 44 4
      sampleUs := pf p 48 4, sampledAt := s.now, queued := [], lostQueued := 0, written := 0, lost := 0, active := true }
  { s with scribe := { s.scribe with traces := s.scribe.traces.filter (fun x => x.slot ≠ n) ++ [t] } }

/-- TRACE_START. -/
def startTraceStart (r : CmdRef) (p : Packet) (s : State) : State :=
  let n := traceSlotOf r p
  let exports := pbit p 36 1 && n ≠ 16
  let id := pf p 44 4
  match (if n = 16 then none else mgmtRefusal r n s) with
  | some c => complete r stWrongState (detailOf c) s
  | none =>
    if !traceView s r.src n (pbits p 22 0 6) then complete r stWrongState (detailOf 0x0A08) s
    else if (s.traceSlot? n).isSome then complete r stWrongState (detailOf 0x0A05) s
    else if n ≠ 16 && !exports && !s.inCarve n (pf p 24 6) (pf p 32 4) then complete r stNotPermitted (detailOf 0) s
    else if exports && id ≠ 0 && (s.sendResv n (resvCls id) id).isNone then complete r stWrongState (detailOf 0x0801) s
    else complete r stOk (resultOf [(16, 1, n)]) (openTrace r p s)

def layoutTraceStop (p : Packet) (_ : State) : Layout :=
  { cflags := 0, fields := [(20, 0, 8)], ranges := [(20, if srcIsCtx p.src then pf p 20 1 ≠ 0 else 16 < pf p 20 1)] }

/-- TRACE_STOP: the queued records leave, and the slot stops. -/
def startTraceStop (r : CmdRef) (p : Packet) (s : State) : State :=
  let n := aboutPart r (pf p 20 1)
  match (if n = 16 then none else mgmtRefusal r n s) with
  | some c => complete r stWrongState (detailOf c) s
  | none =>
    if !traceView s r.src n 0 then complete r stWrongState (detailOf 0x0A08) s
    else
      match s.traceSlot? n with
      | none => complete r stWrongState (detailOf 0x0A09) s
      | some t =>
        let s1 := if t.queued.isEmpty then s else writeTrace n t.queued (s.modTrace n (fun x => { x with queued := [] }))
        let u := (s1.traceSlot? n).getD t
        complete r stOk (resultOf [(16, 4, u.written), (20, 4, u.lost)]) (s1.modTrace n (fun x => { x with active := false }))

/-- The context has been active since the last SAMPLE. -/
def activeSince (t : TraceSlot) (c : Ctx) : Bool := c.accounting ≠ c.sampled || (c.cmdWindow.isOpen && t.sampledAt ≤ c.cmdWindow.openedAt)

/-- One SAMPLE record (R495, R496). -/
def sampleCtx (t : TraceSlot) (slot : Nat) (s : State) : State :=
  match s.ctx? slot with
  | none => s
  | some c =>
    if !activeSince t c then s
    else
      let s1 := noteWait slot s
      let a := ((s1.ctx? slot).getD c).accounting
      let w := c.cmdWindow
      let rec_ : TraceRec :=
        { time := s1.now, type := 0x09, flags := 0, ctx := slot, seq := w.seq, layer := w.layer, operator := w.operator, step := w.step
          info := (a.unitNs - c.sampled.unitNs) % 2 ^ 32 + (a.queueWaitNs - c.sampled.queueWaitNs) % 2 ^ 32 * 2 ^ 32 }
      pushTrace t.slot rec_ (s1.modCtx slot (fun x => { x with sampled := a }))

/-- TRACE_SAMPLE: a slot's period has passed. -/
def traceSample (n : Nat) (s : State) : State :=
  match s.traceSlot? n with
  | none => s
  | some t =>
    if !s.running || !bitOf t.events 4 then s
    else
      let s0 := s.atTime (t.sampledAt + 1000 * t.sampleUs)
      let slots := (s0.cmds.ctxs.filter (fun c => c.part = n && (t.scope ≠ 0 || c.slot = t.ctx))).map (fun c => c.slot)
      (slots.foldl (fun u k => sampleCtx t k u) s0).modTrace n (fun x => { x with sampledAt := s0.now })

/-! ### Halt (R499 to R505) -/

/-- The payload of a HALT or RESUME flit. -/
def haltBytes (resume : Bool) (f : HaltFlit) : List Byte :=
  [if resume then 0x31 else 0x30, 0, 0, 0] ++ leBytes 4 f.haltId ++ leBytes 3 f.domain ++ leBytes 1 (fldB 0 f.atValid) ++
    leBytes 8 f.time ++ List.replicate 204 0

/-- A HALT or RESUME flit sent on the lowest KEYED link of every torus bundle but `but` (R503, R504). -/
def flood (resume : Bool) (but : Option Nat) (f : HaltFlit) (s : State) : State :=
  ((List.range 6).filter (fun b => some b ≠ but)).foldl (fun t b =>
    match (s.keyed b).head? with
    | some n => sendMc n 4 (haltBytes resume f) t
    | none => t) s

/-- A HALT_ID is recorded as seen: the last 16 (R504). -/
def noteSeen (id : Nat) (resume : Bool) (s : State) : State :=
  { s with scribe := { s.scribe with seen := ((id, resume) :: s.scribe.seen).take 16 } }

def bumpSecondary (s : State) : State := { s with scribe := { s.scribe with secondary := bump 255 s.scribe.secondary } }

/-- The cut edge for a request decided at `base`: the time AT where it lies 24 ns ahead, else `soon`, and whether that is late
(R499). -/
def cutTime (base soon : Nat) (at_ : Option Nat) : Nat × Bool :=
  match at_ with
  | some t => if base + 24 ≤ t then (t, false) else (soon, true)
  | none => (soon, false)

/-- A cut becomes pending. -/
def scheduleCut (cut : Nat × Bool) (id : Nat) (cmd : Option CmdRef) (s : State) : State :=
  { s with scribe := { s.scribe with cutAt := some (cut.1, id, cmd), late := cut.2 } }

/-- A halt that this block originates (R499, R502, R503). -/
def originate (job : Bool) (domain base : Nat) (at_ : Option Nat) (cmd : Option CmdRef) (s : State) : State :=
  let id := s.chip + 2048 * (s.scribe.haltCount % 2 ^ 21)
  let s1 := noteSeen id false { s with scribe := { s.scribe with haltCount := (s.scribe.haltCount + 1) % 2 ^ 21 } }
  let s2 := scheduleCut (cutTime base (base + 24) at_) id cmd s1
  if job then flood false none { haltId := id, domain := domain, atValid := at_.isSome, time := at_.getD 0 } s2 else s2

def layoutHalt (_ : Packet) (_ : State) : Layout :=
  { cflags := 0, fields := [(20, 0, 2), (21, 0, 24), (24, 0, 64)], ranges := [] }

/-- The restart that a RESUME of this same KCLK cycle has set (R507). -/
def resumedNow (s : State) : Option Nat :=
  match s.scribe.restartAt with
  | some (t, some r) => if r.start = s.now then some t else none
  | _ => none

/-- HALT: a further one before the cut or during the halt answers with the cut that stands. -/
def startHalt (r : CmdRef) (p : Packet) (s : State) : State :=
  let at_ := if pbit p 20 1 then some (pf p 24 8) else none
  if !s.opDebug then complete r stWrongState (detailOf 0x0A04) s
  else
    match s.scribe.cutAt, resumedNow s with
    | some (t, id, _), _ => complete r stOk (resultOf [(16, 8, t), (24, 4, id)]) (bumpSecondary s)
    | none, some t => originate (pbit p 20 0) (pf p 21 3) t at_ (some r) (hold r s)
    | none, none =>
      if s.scribe.halted then complete r stOk (resultOf [(16, 8, s.scribe.cut), (24, 4, s.scribe.haltId)]) s
      else originate (pbit p 20 0) (pf p 21 3) s.now at_ (some r) (hold r s)

/-- HALT_CUT: the units freeze, and the Damper raises its ballast (R306, R499, R505). -/
def haltCut (s : State) : State :=
  match s.scribe.cutAt with
  | none => s
  | some (t, id, cmd) =>
    if !s.running then s
    else
      let s0 := s.atTime t
      let s1 := { s0 with scribe := { s0.scribe with
        halted := true, cutAt := none, cut := s0.now, haltId := id, origin := id % 2048 = s0.chip } }
      let s2 := traceAll 0x0B id (addRamp s1.haltDrop s1.haltRampNs false true s1)
      match cmd with
      | some r => complete r stOk (resultOf [(16, 8, s2.scribe.cut), (24, 4, id)]) s2
      | none => s2

/-- A block acts on a flooded request only with debug open, and for itself or a partition of its own (R504). -/
def actsOn (s : State) (f : HaltFlit) : Bool := s.opDebug && (f.domain = 0 || (s.partOfDomain f.domain).isSome)

/-- A torus link that carries halt flits. -/
def haltLink (s : State) (n : Nat) : Bool := s.up && isTorus n && (s.link n).state = .keyed

/-- HALT_FLIT_RECEIVE (R504, R505): an immediate cut comes within 10 ns, which the model leaves free (log 7). -/
def haltFlitReceive (n : Nat) (f : HaltFlit) (s : State) : State :=
  if !haltLink s n || s.scribe.seen.contains (f.haltId, false) then s
  else
    let s1 := flood false (some (n / 8)) f (noteSeen f.haltId false s)
    if !actsOn s f then { s1 with scribe := { s1.scribe with ignored := bump 255 s1.scribe.ignored } }
    else if s.scribe.halted || s.scribe.cutAt.isSome then bumpSecondary s1
    else
      let (d, s2) := s1.draw
      scheduleCut (cutTime s.now (s.now + d % 11) (if f.atValid then some f.time else none)) f.haltId none s2

/-! ### Resume (R506) -/

/-- The drop that the present halt's ballast took over (R306). -/
def State.heldDrop (s : State) : Nat :=
  (((s.damper.ramps.filter (fun r => r.halt && !r.up)).getLast?).map (fun r => r.amount)).getD s.haltDrop

/-- The length of the ramp-up. -/
def State.rampUpNs (s : State) : Nat := max 50000 (s.slopeNs s.heldDrop)

/-- A restart becomes pending: its ramp-up begins at RT - ramp, or at once where that has passed. -/
def scheduleRestart (rt : Nat) (cmd : Option CmdRef) (s : State) : State :=
  let ramp := s.rampUpNs
  let late := rt < s.now + ramp
  let at_ := if late then s.now + ramp else rt
  { s with
    scribe := { s.scribe with restartAt := some (at_, cmd), late := late }
    damper := { s.damper with ramps := s.damper.ramps ++
      [{ amount := s.heldDrop, start := at_ - ramp, length := ramp, up := true, halt := true }] } }

def layoutResume (p : Packet) (_ : State) : Layout :=
  { cflags := 0, fields := [(20, 0, 1), (24, 0, 32), (28, 0, 16)]
    ranges := [(28, pf p 28 2 ≠ 0 && (pf p 28 2 < 50 || 10000 < pf p 28 2))] }

/-- The block is halted and no restart is pending. -/
def State.canResume (s : State) : Bool := s.scribe.halted && s.scribe.restartAt.isNone

/-- A resume that this block originates. -/
def originResume (job : Bool) (domain rt : Nat) (cmd : Option CmdRef) (s : State) : State :=
  let id := s.scribe.haltId
  let s1 := scheduleRestart rt cmd (noteSeen id true s)
  if job then flood true none { haltId := id, domain := domain, atValid := false, time := rt } s1 else s1

/-- RESUME. -/
def startResume (r : CmdRef) (p : Packet) (s : State) : State :=
  let lead := if pf p 28 2 = 0 then 200 else pf p 28 2
  if !s.opDebug then complete r stWrongState (detailOf 0x0A08) s
  else if !s.canResume || pf p 24 4 ≠ s.scribe.haltId then complete r stWrongState (detailOf 0x0A06) s
  else originResume (pbit p 20 0) 0 (s.now + 1000 * lead) (some r) (hold r s)

/-- RESUME_FLIT_RECEIVE. -/
def resumeFlitReceive (n : Nat) (f : HaltFlit) (s : State) : State :=
  if !haltLink s n || s.scribe.seen.contains (f.haltId, true) then s
  else
    let s1 := flood true (some (n / 8)) f (noteSeen f.haltId true s)
    if !actsOn s f then { s1 with scribe := { s1.scribe with ignored := bump 255 s1.scribe.ignored } }
    else if s.canResume && f.haltId = s.scribe.haltId then scheduleRestart f.time none s1
    else s1

/-- The timers that stood still while halted (R501). -/
def extendTimers (d : Nat) (s : State) : State :=
  let z (t : Nat) : Nat := if t = 0 then 0 else t + d
  let m (t : Option Nat) : Option Nat := t.map (fun x => x + d)
  { s with
    parts := s.parts.map (fun q => { q with phaseAt := if q.phase = .none then q.phaseAt else q.phaseAt + d })
    gl := { s.gl with parcels := s.gl.parcels.map (fun x => { x with leftAt := m x.leftAt }) }
    inl := { s.inl with groups := s.inl.groups.map (fun g => { g with
      running := g.running.map (fun c => { c with lastChunk := c.lastChunk + d }) }) }
    sill := { s.sill with remote := s.sill.remote.map (fun q => { q with settledAt := m q.settledAt }) }
    pegs := { s.pegs with
      waiters := s.pegs.waiters.map (fun w => { w with deadline := z w.deadline })
      remote := s.pegs.remote.map (fun w => { w with deadline := z w.deadline })
      signals := s.pegs.signals.map (fun g => { g with settledAt := m g.settledAt }) }
    plumb := { s.plumb with
      rungs := s.plumb.rungs.map (fun r => { r with timerFrom := m r.timerFrom })
      watched := s.plumb.watched.map (fun w => (w.1, w.2.1, w.2.2 + d)) } }

/-- HALT_RESTART (R306, R501, R506): bounds that passed during the halt are reported, and the flits received after the cut are
taken. -/
def haltRestart (s : State) : State :=
  match s.scribe.restartAt with
  | none => s
  | some (t, cmd) =>
    if !s.up || !s.scribe.halted then s
    else
      let s0 := s.atTime t
      let len := s0.now - s0.scribe.cut
      let s1 := extendTimers len { s0 with
        scribe := { s0.scribe with halted := false, restartAt := none, restart := s0.now }
        damper := { s0.damper with ramps := s0.damper.ramps.filter (fun r => !r.halt) } }
      let s2 := releasePostCut (breakPassed (traceAll 0x0C s0.scribe.haltId s1))
      match cmd with
      | some r => complete r stOk (resultOf [(16, 8, s0.now), (24, 8, len)]) s2
      | none => s2

/-! ### SC_HALT_CTRL (R512) -/

/-- The register takes effect only through the TAP with full debug open. -/
def ctrlAllowed (via : Access) (s : State) : Bool := via = .tap && s.fullDebug

def haltCtrlHalt (via : Access) (job : Bool) (domain : Nat) (s : State) : State :=
  if !s.up then s
  else if !ctrlAllowed via s then countMalformed s
  else if s.scribe.cutAt.isSome || s.scribe.halted then bumpSecondary s
  else originate job domain s.now none none s

def haltCtrlResume (via : Access) (job : Bool) (domain : Nat) (s : State) : State :=
  if !s.up then s
  else if !ctrlAllowed via s then countMalformed s
  else if s.canResume then originResume job domain (s.now + 200000) none s
  else s

end Sys2Proof.Machine
end

