-- ==== Sys2Proof/Machine/Tests.lean ====
section
/-! DEFINITION. Loop-backs, known-answer tests, fault injection and memory tests (17), and how an armed injection forces the verdicts
of later events. -/

namespace Sys2Proof.Machine

/-! ### What is under test -/

def State.modRun (s : State) (point target : Nat) (f : TestRun → TestRun) : State :=
  { s with tests := { s.tests with runs := s.tests.runs.map (fun t =>
      if t.kind = 0 && t.point = point && t.target = target then f t else t) } }

def State.dropRun (s : State) (kind point target : Nat) : State :=
  { s with tests := { s.tests with runs := s.tests.runs.filter (fun t =>
      !(t.kind = kind && t.point = point && t.target = target)) } }

/-- A link carries a loop-back of any point. -/
def State.linkTested (s : State) (n : Nat) : Bool := s.portTest n || (s.loopRun? 3 n).isSome

/-- The target of a loop-back is under test (R527). -/
def State.pointTested (s : State) (point target : Nat) : Bool :=
  if point ≤ 3 then s.linkTested target
  else if point = 0x22 then s.rangeTested 0 { first := target, count := 1 }
  else if point = 0x24 then s.rangeTested 1 { first := target, count := 1 }
  else (s.loopRun? point target).isSome

/-- A granule of a tier is held by a partition. -/
def State.rangeHeld (s : State) (tier : Nat) (r : Range) : Bool :=
  s.parts.any (fun q => q.pstate ≠ .free && (if tier = 0 then q.t0 else q.t1).any (fun x => x.meets r))

/-- Granules of a tier that a descriptor may name. -/
def tierGranules (tier : Nat) : Nat := if tier = 0 then 2994 else 1280

/-! ### LOOPBACK (R515 to R520) -/

/-- How many targets a point has; none for a code that names no point. -/
def pointTargets (point : Nat) : Option Nat :=
  match point with
  | 0x01 => some 64
  | 0x02 => some 64
  | 0x03 => some 64
  | 0x11 => some 9
  | 0x21 => some 16
  | 0x22 => some 2994
  | 0x23 => some 72
  | 0x24 => some 1280
  | _ => none

def layoutLoopback (p : Packet) (_ : State) : Layout :=
  let runs := pf p 20 1 = 1
  { cflags := 0, fields := [(20, 0, 8), (21, 0, 8), (22, 0, 16), (24, 0, 8), (26, 0, 16)]
    ranges := [(20, 1 < pf p 20 1), (21, (pointTargets (pf p 21 1)).isNone),
      (22, match pointTargets (pf p 21 1) with | some n => decide (n ≤ pf p 22 2) | none => false),
      (24, 4 < pf p 24 1), (26, runs && pf p 26 2 = 0)] }

/-- The engine that a point tests, where it is one of R433. -/
def pointEngine (point target : Nat) : Option Nat :=
  if point ≤ 3 then some (0x500 + target)
  else if point = 0x21 then some (0x400 + target)
  else if point = 0x23 then some (0x300 + target)
  else none

/-- Why a loop-back cannot run (R527, R528). -/
def loopRefusal (s : State) (point target : Nat) : Option Nat :=
  let l := s.link target
  let g : Range := { first := target, count := 1 }
  if s.pointTested point target then some 0x0C04
  else if (match pointEngine point target with | some e => s.plumb.retired.contains e | none => false) then some 0x0C02
  else if (point = 1 || point = 2) && l.enable then some 0x0C01
  else if point = 3 && l.state ≠ .keyed then some 0x0C01
  else if point = 0x22 && (s.rangeHeld 0 g || s.sill.unclean.any (fun x => x.meets g)) then some 0x0C03
  else if point = 0x24 && s.rangeHeld 1 g then some 0x0C03
  else none

/-- LOOPBACK. A stop replies at once; the stopped run replies at its own end. -/
def startLoopback (r : CmdRef) (p : Packet) (s : State) : State :=
  let point := pf p 21 1
  let target := pf p 22 2
  if pf p 20 1 = 0 then complete r stOk 0 (s.modRun point target (fun t => { t with stopped := true }))
  else
    match loopRefusal s point target with
    | some c => complete r stWrongState (detailOf c) s
    | none =>
      let t : TestRun :=
        { ref := some r, kind := 0, point := point, target := target, count := pf p 26 2, pattern := pf p 24 1, arg := 0
          startedAt := s.now, sent := 0, answered := 0, replayed := 0, lMin := 0, lMax := 0, enableAfter := false, stopped := false }
      let s1 := hold r s
      { s1 with tests := { s1.tests with runs := s1.tests.runs ++ [t] } }

/-- A class 0xC command ends. -/
def endTest (r : Option CmdRef) (st : Nat) (result : BitVec 128) (s : State) : State :=
  match r with
  | some c => complete c st result s
  | none => s

/-- The counter records of a granule of tier 1 return to KEY_EPOCH 0, so that its pages read as zero (R187, R520). -/
def clearRecords (first count : Nat) (s : State) : State :=
  { s with sill := { s.sill with records := s.sill.records.map (fun r =>
      if first * granPages ≤ r.page && r.page < (first + count) * granPages then { r with keyEpoch := 0 } else r) } }

/-- The counts of an L_ECHO run (R516). -/
def echoResult (t : TestRun) : BitVec 128 :=
  resultOf [(16, 4, t.sent), (20, 4, t.answered), (24, 4, t.replayed), (28, 2, min 65535 t.lMin), (30, 2, min 65535 t.lMax)]

/-- What the end of a run leaves: a link whose ENABLE was written meanwhile trains (R517), a tier 0 granule is zero and clean, a
tier 1 granule reads as zero (R520). -/
def afterRun (t : TestRun) (s : State) : State :=
  if t.point = 1 || t.point = 2 then if t.enableAfter then linkEnableWrite t.target true s else s
  else if t.point = 0x22 then s.emit (.stackZero t.target 1)
  else if t.point = 0x24 then clearRecords t.target 1 s
  else s

/-- LOOPBACK_RUN_END: a run reaches its COUNT or has been stopped, or no link comes up for L_PCS within 100 µs (R516, R527). The
counts are what the path returned. -/
def loopbackRunEnd (point target r0 r1 r2 r3 : Nat) (noLink : Bool) (s : State) : State :=
  match s.loopRun? point target with
  | none => s
  | some t =>
    if !s.running || (point = 3 && !t.stopped && t.sent < t.count) then s
    else
      let s0 := afterRun t (s.dropRun 0 point target)
      if noLink && point = 2 then
        endTest t.ref stWrongState (detailOf 0x0C05) (afterRun t ((s.atTime (t.startedAt + 100000)).dropRun 0 point target))
      else if point = 3 then endTest t.ref stOk (echoResult t) s0
      else
        let sent := if t.stopped then min r0 t.count else t.count
        let units := point = 0x21 || point = 0x22 || point = 0x23 || point = 0x24
        if units then endTest t.ref stOk (resultOf [(16, 4, r0), (20, 4, min r1 r0), (24, 4, r2)]) s0
        else if point = 0x11 then endTest t.ref stOk (resultOf [(16, 4, sent), (20, 4, min r1 sent), (24, 4, r2)]) s0
        else endTest t.ref stOk (resultOf [(16, 4, sent), (20, 4, min r1 sent), (24, 4, r2), (28, 4, r3)]) s0

/-! ### L_ECHO (R518, R519) -/

/-- A byte of the fixed patterns at a place of their stream (R516; log 34). -/
def patternByte (pattern i : Nat) : Byte :=
  match pattern with
  | 1 => 0x00
  | 2 => 0xFF
  | 3 => if i % 2 = 0 then 0x55 else 0xAA
  | _ => BitVec.ofNat 8 (2 ^ (i % 8))

/-- The 204 B of pattern data of the k-th PROBE flit; PRBS31 is left open (log 34). -/
def patternData (pattern k : Nat) (s : State) : List Byte × State :=
  if pattern = 0 then s.drawBytes 204
  else ((List.range 204).map (fun i => patternByte pattern (204 * k + i)), s)

/-- The payload of a PROBE flit. -/
def probeBytes (p : Probe) : List Byte :=
  leBytes 1 p.kind ++ leBytes 1 p.pattern ++ [0, 0] ++ leBytes 4 p.seq ++ leBytes 8 p.leftAt ++ leBytes 4 p.turn ++ p.data

/-- An ECHO_REQ of a run: one leaves in each µs, at a time in it that the model leaves open (log 7). -/
def sendEcho (t : TestRun) (s : State) : State :=
  let (d, s1) := s.draw
  let (data, s2) := patternData t.pattern t.sent s1
  let probe : Probe := { kind := 1, pattern := t.pattern, seq := t.sent, leftAt := s.now + d % 1000, turn := 0, replayed := false, data := data }
  (sendMc t.target 6 (probeBytes probe) s2).modRun 3 t.target (fun x => { x with sent := x.sent + 1 })

/-- The ECHO_REQs of a tick of 1 µs (R519). -/
def echoTick (s : State) : State :=
  if !s.running then s
  else (s.tests.runs.filter (fun t => t.kind = 0 && t.point = 3 && !t.stopped && t.sent < t.count)).foldl (fun u t => sendEcho t u) s

/-- ECHO_REQUEST_RECEIVE: answered in Production, one a µs; TURN is left open (log 7). -/
def echoRequestReceive (n : Nat) (p : Probe) (s : State) : State :=
  let l := s.link n
  let due := match l.echoAt with | some t => decide (t + 1000 ≤ s.now) | none => true
  if !s.running || s.fuses.lc ≠ .production || l.state ≠ .keyed || p.kind ≠ 1 || !due then s
  else
    let (d, s1) := s.draw
    sendMc n 6 (probeBytes { p with kind := 2, turn := d % 2 ^ 32 }) (s1.modLink n (fun x => { x with echoAt := some s.now }))

/-- ECHO_RESPONSE_RECEIVE: L of an answer that needed no replay, in 0.5 ns. -/
def echoResponseReceive (n : Nat) (p : Probe) (s : State) : State :=
  match s.loopRun? 3 n with
  | none => s
  | some t =>
    if !s.running || p.kind ≠ 2 || (s.link n).state ≠ .keyed || t.sent ≤ p.seq then s
    else
      let l := s.now - p.leftAt - p.turn
      let first := t.answered = t.replayed
      s.modRun 3 n (fun x =>
        if p.replayed then { x with answered := x.answered + 1, replayed := x.replayed + 1 }
        else { x with answered := x.answered + 1, lMin := if first then l else min x.lMin l, lMax := max x.lMax l })

/-- L_ECHO runs whose link has left KEYED end with the counts reached (R519). -/
def finishEcho (s : State) : State :=
  (s.tests.runs.filter (fun t => t.kind = 0 && t.point = 3 && (s.link t.target).state ≠ .keyed)).foldl (fun u t =>
    endTest t.ref stWrongState (detailOf 0x0C01 ||| resultOf [(24, 4, t.replayed), (28, 2, min 65535 t.lMin), (30, 2, min 65535 t.lMax)])
      (u.dropRun 0 3 t.target)) s

/-! ### KAT_RUN (R521) -/

/-- The engines of a KIND, as engine numbers and Kingpost units. -/
def katEngines (kind : Nat) : List Nat :=
  match kind with
  | 1 => (List.range 96).map (fun i => 0x100 + i)
  | 2 => (List.range 96).map (fun i => 0x200 + i)
  | 3 => (List.range 72).map (fun i => 0x300 + i)
  | 8 => (List.range 64).map (fun i => 0x500 + i)
  | 9 => [0xF0, 0xF1, 0xF2, 0xF3]
  | _ => []

/-- The engine that KIND and INDEX name. -/
def katEngine (kind index : Nat) : Nat :=
  if kind = 9 then index else if kind = 8 then 0x500 + index else 256 * kind + index

def layoutKatRun (p : Packet) (_ : State) : Layout :=
  let kind := pf p 20 1
  let index := pf p 22 2
  { cflags := 0, fields := [(20, 0, 8), (22, 0, 16)]
    ranges := [(20, (katEngines kind).isEmpty),
      (22, !(katEngines kind).isEmpty && index ≠ 0xFFFF && !(katEngines kind).contains (katEngine kind index))] }

/-- A tile cannot spare one of its engines (R521): fewer than one engine's units lie free. -/
def katSkipped (s : State) (e : Nat) : Bool :=
  match e / 256 with
  | 1 => s.freeSeal 2 1 (e % 256 / 12) < 250
  | 2 => s.freeSeal 2 2 (e % 256 / 12) < 250
  | 3 => s.freeSealed 2 (e % 256 / 18) < 250
  | _ => false

/-- An engine is under a loop-back. -/
def engineTested (s : State) (e : Nat) : Bool :=
  match e / 256 with
  | 3 => (s.loopRun? 0x23 (e % 256)).isSome
  | 5 => s.linkTested (e % 256)
  | _ => false

/-- What a failed engine leads to: it is retired, or KP_TWIN is raised with its unit. -/
def katFailed (e : Nat) (s : State) : State :=
  if e < 0x100 then kpTwin e 0xC 1 s else retireEngine e false s

/-- KAT_RUN; `failed` are the engines whose test or comparator fails. -/
def startKatRun (r : CmdRef) (p : Packet) (failed : List Nat) (s : State) : State :=
  let kind := pf p 20 1
  let index := pf p 22 2
  let one := index ≠ 0xFFFF
  let named := if one then [katEngine kind index] else (katEngines kind).filter (fun e => !s.plumb.retired.contains e)
  if named.any (engineTested s) then complete r stWrongState (detailOf 0x0C04) s
  else if one && named.any (fun e => s.plumb.retired.contains e) then complete r stWrongState (detailOf 0x0C02) s
  else
    let tested := named.filter (fun e => !katSkipped s e)
    let bad := tested.filter (fun e => failed.contains e)
    complete r stOk (resultOf [(16, 4, tested.length), (20, 4, bad.length), (24, 2, bad.headD 0), (26, 2, named.length - tested.length)])
      (bad.foldl (fun t e => katFailed e t) s)

/-! ### FAULT_INJECT (R523) -/

/-- A source that can be raised. -/
def sourceExists (n : Nat) : Bool := n < 0xC0 && !(0x88 ≤ n && n ≤ 0x8F)

def layoutFaultInject (p : Packet) (_ : State) : Layout :=
  let kind := pf p 20 1
  let target := pf p 22 2
  let arg := pf p 28 4
  let kinds13 := engineExists target && 1 ≤ engineKind target && engineKind target ≤ 3
  { cflags := 0, fields := [(20, 0, 8), (22, 0, 16), (24, 0, 32), (28, 0, 32)]
    ranges := [(20, kind = 0 || 9 < kind),
      (22, match kind with
        | 1 => !kinds13
        | 2 => decide (16 ≤ target)
        | 3 => decide (72 ≤ target)
        | 4 => decide (64 ≤ target)
        | 5 => decide (64 ≤ target)
        | 6 => !engineExists target
        | 8 => !sourceExists target
        | 9 => target < 0xF0 || 0xF3 < target
        | _ => false),
      (28, kind = 2 && (71 < bitsOf arg 8 7 || bitsOf arg 4 4 ≠ 0 || bitsOf arg 15 17 ≠ 0))] }

/-- A source raised by injection: its every-event action and threshold (R427, R523). What its events name beyond the source is not
there to name, but for the engine of a lane source, which is left open (log 7). -/
def raiseSource (n : Nat) (s : State) : State :=
  if n = 0x01 || n = 0x0D || n = 0x0E then requestChip n false (plumbMark n s)
  else if n = 0x06 then
    let s1 := plumbEvent n 0 7 none false 0 none s
    { s1 with plumb := { s1.plumb with trayAsked := some 6 } }
  else if n = 0x08 then kpTwin 0xF0 0xC 3 s
  else if n = 0x09 then kpCflow s
  else if n = 0x0B then entropyFail s
  else if 0x10 ≤ n && n ≤ 0x17 then
    let (d, s1) := s.draw
    twinEvent n (0x100 + 12 * (n - 0x10) + d % 12) 0 s1
  else if 0x18 ≤ n && n ≤ 0x1B then
    let (d, s1) := s.draw
    twinEvent n (0x300 + 18 * (n - 0x18) + d % 18) 0 s1
  else if 0x1C ≤ n && n ≤ 0x2B then plumbEvent n 1 0 none false 0 (some (0x400 + (n - 0x1C))) s
  else if 0x40 ≤ n && n ≤ 0x7F then linkEvent (n - 0x40) 0 0 s
  else if n = 0x0C || n = 0x86 || n = 0x87 then thresholdChip n (plumbLog n 0 0 none false 0 s)
  else if 0x90 ≤ n && n ≤ 0x9F then endJob (n - 0x90) 0 0 s
  else if 0xA0 ≤ n then plumbEvent n 0 0 (some (n % 16)) false 0 (some (n % 16)) s
  else plumbEvent n 0 (if srcNotifies n then 1 else 0) none false 0 none s

/-- An injection armed; kind 8 acts at once. -/
def armInjection (p : Packet) (s : State) : State :=
  let kind := pf p 20 1
  let i : Injection := { kind := kind, target := pf p 22 2, count := pf p 24 4, arg := pf p 28 4, armedAt := s.now }
  if kind = 8 then (List.range i.count).foldl (fun t _ => raiseSource i.target t) s
  else { s with tests := { s.tests with injections := s.tests.injections ++ [i] } }

/-- FAULT_INJECT: the reply says that it is armed. -/
def startFaultInject (r : CmdRef) (p : Packet) (s : State) : State := armInjection p (complete r stOk 0 s)

/-! ### What armed injections do -/

/-- The first injection of a kind on a target that has something left. -/
def State.armed (s : State) (kind target : Nat) : Option Injection :=
  s.tests.injections.find? (fun i => i.kind = kind && i.target = target && 0 < i.count)

/-- `k` events of an injection consumed. -/
def useUp (i : Injection) (k : Nat) (s : State) : State :=
  { s with tests := { s.tests with injections :=
      (s.tests.injections.map (fun x => if x = i then { x with count := x.count - k } else x)).filter (fun x =>
        x.kind = 5 || x.kind = 6 || x.kind = 7 || x.count ≠ 0) } }

/-- An engine is kept from advancing (kind 6). -/
def State.stalled (s : State) (e : Nat) : Bool :=
  s.tests.injections.any (fun i => i.kind = 6 && i.target = e && s.now < i.armedAt + 1000 * i.arg)

/-- A link is kept from sending (kind 5). -/
def State.silenced (s : State) (n : Nat) : Bool :=
  s.tests.injections.any (fun i => i.kind = 5 && i.target = n && s.now < i.armedAt + 1000 * i.arg)

/-- TELEM words are ignored (kind 7). -/
def State.telemDeaf (s : State) : Bool := s.tests.injections.any (fun i => i.kind = 7 && 0 < i.arg)

/-- A budget tick of the injections of kind 7. -/
def injectionTick (s : State) : State :=
  { s with tests := { s.tests with injections :=
      (s.tests.injections.map (fun i => if i.kind = 7 then { i with arg := i.arg - 1 } else i)).filter (fun i => i.kind ≠ 7 || i.arg ≠ 0) } }

/-- An engine that serves nothing: retired, under its rung, or kept from advancing (R435, R523). -/
def State.blocked (s : State) (e : Nat) : Bool := s.outOfService e || s.stalled e

/-- An event with a twin verdict in an engine or unit: an armed injection makes it a mismatch where the verdict matters, and is
consumed (R523 kinds 1 and 9). -/
def withTwins (kind : Nat) (targets : List Nat) (ok : Bool) (f : Bool → State → State) (s : State) : State :=
  match targets.findSome? (s.armed kind) with
  | none => f ok s
  | some i => if ok && f false s ≠ f true s then f false (useUp i 1 s) else f ok s

/-- A check field sent wrong (kind 4): what leaves on the link next does not verify at the partner. -/
def spoilCheck (n : Nat) (s : State) : State :=
  match s.armed 4 n with
  | some i => if (s.link n).state = .keyed then (useUp i 1 s).emit (.badCheck n) else s
  | none => s

/-- FLIT_SEND with its engines (R435, R523). -/
def flitSendTested (n slot : Nat) (twinsOk : Bool) (lanePair : Nat) (source : MemRead) (s : State) : State :=
  let lane := 0x100 + lanePair % 96
  if s.silenced n || s.stalled (0x500 + n) || s.blocked lane then s
  else spoilCheck n (withTwins 1 [lane] twinsOk (fun ok t => flitSend n slot ok lanePair source t) s)

/-- PARCEL_ACCEPT with its ejection pair. -/
def parcelAcceptTested (x : RxParcel) (s : State) : State :=
  let lane := 0x200 + x.lanePair % 96
  if s.blocked lane then s else withTwins 1 [lane] x.twinsOk (fun ok t => parcelAccept { x with twinsOk := ok } t) s

/-- REDUCE_FORWARD_UNIT with its injection pair. -/
def reduceForwardTested (part group unit : Nat) (gather : Bool) (d : UnitData) (s : State) : State :=
  let lane := 0x100 + d.lanePair % 96
  if s.blocked lane then s
  else withTwins 1 [lane] d.twinsOk (fun ok t => reduceForwardUnit part group unit gather { d with twinsOk := ok } t) s

/-- UNFOLD_UNIT with its sealed-lane pair. -/
def unfoldTested (part slot seq unit : Nat) (d : WeightUnit) (s : State) : State :=
  let lane := 0x300 + d.lanePair % 72
  if s.blocked lane then s
  else withTwins 1 [lane] d.twinsOk (fun ok t => unfoldUnit part slot seq unit { d with twinsOk := ok } t) s

/-- The sealed-lane pairs of a Sill tile. -/
def tilePairs (tile : Nat) : List Nat := (List.range 18).map (fun i => 18 * tile + i)

/-- The check value and twin verdict of a sealed line of a tile under injections of kinds 1 and 3. -/
def withSealed (tile : Nat) (checkOk twinsOk : Bool) (f : Bool → Bool → State → State) (s : State) : State :=
  let twins (ck : Bool) : State → State :=
    withTwins 1 ((tilePairs tile).map (fun i => 0x300 + i)) twinsOk (fun ok t => f ck ok t)
  match (tilePairs tile).findSome? (s.armed 3) with
  | none => twins checkOk s
  | some i => if checkOk && f false twinsOk s ≠ f true twinsOk s then f false twinsOk (useUp i 1 s) else twins checkOk s

/-- TIER1_ANSWER. -/
def tier1AnswerTested (id : Nat) (line : List Byte) (checkOk twinsOk late : Bool) (s : State) : State :=
  match s.access? id with
  | none => s
  | some a => withSealed (tileOf a.addr) checkOk twinsOk (fun ck tw t => tier1Answer id line ck tw late t) s

/-- SLED_ANSWER. -/
def sledAnswerTested (link tag status : Nat) (line : List Byte) (checkOk twinsOk late : Bool) (s : State) : State :=
  match s.sill.sleds.find? (fun q => q.link = link && q.tag = tag) with
  | none => s
  | some q => withSealed (tileOf (256 * q.line)) checkOk twinsOk (fun ck tw t => sledAnswer link tag status line ck tw late t) s

/-- A sector with symbols in error from a position upward (kind 2): each by a non-zero value that is left open (log 7). -/
def spoilSector (arg : Nat) (sec : Sector) (s : State) : Sector × State :=
  let (d, s1) := s.draw
  let lo := bitsOf arg 8 7
  (sec.mapIdx (fun i b => if lo ≤ i && i < lo + bitsOf arg 0 4 then b ^^^ BitVec.ofNat 8 (1 + d % 255) else b), s1)

/-- The first `k` sectors of a read spoiled, in both of its readings. -/
def spoilSectors (arg : Nat) : Nat → List Sector → State → List Sector × State
  | 0, l, s => (l, s)
  | _, [], s => ([], s)
  | k + 1, x :: rest, s =>
    let (y, s1) := spoilSector arg x s
    let (l, s2) := spoilSectors arg k rest s1
    (y :: l, s2)

/-- STACK_ANSWER with its guard lane: kinds 2 and 6. -/
def stackAnswerTested (id : Nat) (first second : List Sector) (late : Bool) (s : State) : State :=
  match s.access? id with
  | none => s
  | some a =>
    let lane := laneOf a.addr
    if s.stalled (0x400 + lane) then s
    else
      match (if a.recordWait then none else s.armed 2 lane) with
      | none => stackAnswer id first second late s
      | some i =>
        let (f, s1) := spoilSectors i.arg i.count first s
        let (g, s2) := spoilSectors i.arg i.count second s1
        stackAnswer id f g late (useUp i first.length s2)

/-- PEG_REQUEST_APPLY with its bank (kind 6): slot number modulo 8. -/
def pegRequestTested (src domain : Nat) (m : PegMsg) (s : State) : State :=
  if s.stalled (0x600 + m.slot % 8) then s else applyPegRequest src domain m s

/-- TELEM_WORD (kind 7). -/
def telemWordTested (w : Word) (s : State) : State := if s.telemDeaf then s else telemWord w s

/-- The neighbour exchange's verdicts (kind 9, unit 0xF2). -/
def kemTested (k : KemSeen) (f : KemSeen → State → State) (s : State) : State :=
  withTwins 9 [0xF2] k.twinsOk (fun ok t => f { k with twinsOk := ok } t) s

/-- LINK_ENABLE_WRITE on a link under L_PORT or L_PCS waits for the run's end (R517). -/
def linkEnableTested (n : Nat) (on : Bool) (s : State) : State :=
  if s.portTest n then
    { s with tests := { s.tests with runs := s.tests.runs.map (fun t =>
        if t.kind = 0 && (t.point = 1 || t.point = 2) && t.target = n then { t with enableAfter := on } else t) } }
  else linkEnableWrite n on s

/-! ### MEMTEST (R524) -/

def layoutMemtest (p : Packet) (_ : State) : Layout :=
  let tier := pf p 21 1
  let first := pf p 24 4
  let count := pf p 28 4
  { cflags := 0, fields := [(20, 0, 8), (21, 0, 8), (24, 0, 32), (28, 0, 32), (32, 0, 32)]
    ranges := [(20, pf p 20 1 = 0 || 3 < pf p 20 1), (21, 1 < tier), (24, tier ≤ 1 && tierGranules tier ≤ first),
      (28, count = 0 || (tier ≤ 1 && first < tierGranules tier && tierGranules tier < first + count)),
      (32, pf p 20 1 = 2 && (pf p 32 4 = 0 || 10000 < pf p 32 4))] }

/-- Why a memory test cannot run. -/
def memtestRefusal (p : Packet) (s : State) : Option Nat :=
  let tier := pf p 21 1
  let g : Range := { first := pf p 24 4, count := pf p 28 4 }
  if s.rangeTested tier g then some 0x0C04 else if s.rangeHeld tier g then some 0x0C03 else none

/-- A memory test begins. -/
def beginMemtest (r : Option CmdRef) (p : Packet) (s : State) : State :=
  let t : TestRun :=
    { ref := r, kind := 2, point := pf p 21 1, target := pf p 24 4, count := pf p 28 4, pattern := pf p 20 1, arg := pf p 32 4
      startedAt := s.now, sent := 0, answered := 0, replayed := 0, lMin := 0, lMax := 0, enableAfter := false, stopped := false }
  { s with tests := { s.tests with runs := s.tests.runs ++ [t] } }

/-- MEMTEST. -/
def startMemtest (r : CmdRef) (p : Packet) (s : State) : State :=
  match memtestRefusal p s with
  | some c => complete r stWrongState (detailOf c) s
  | none => beginMemtest (some r) p (hold r s)

/-- MEMTEST_END: a RETENTION test at the end of its hold at the earliest; the granules become unclean, or the records return to
KEY_EPOCH 0. -/
def memtestEnd (tier first tested failing firstFail : Nat) (s : State) : State :=
  match s.tests.runs.find? (fun t => t.kind = 2 && t.point = tier && t.target = first) with
  | none => s
  | some t =>
    if !s.running then s
    else
      let s0 := (if t.pattern = 2 then s.atTime (t.startedAt + 1000000 * t.arg) else s).dropRun 2 tier first
      let s1 := if tier = 0 then
          { s0 with sill := { s0.sill with unclean := (List.range t.count).foldl (fun l i =>
            let g : Range := { first := first + i, count := 1 }
            if l.any (fun x => x.meets g) then l else rangeInsert l g) s0.sill.unclean } }
        else clearRecords first t.count s0
      endTest t.ref stOk (resultOf [(16, 4, tested), (20, 4, min failing tested), (24, 4, firstFail)]) s1

/-! ### The TAP's factory functions (R474, R522) -/

/-- MBIST: MEMTEST under the same checks, without a command to reply to. -/
def tapMemtest (p : Packet) (s : State) : State :=
  if !s.up || s.fuses.lc ≠ .test || ((layoutMemtest p s).offence p).isSome || (memtestRefusal p s).isSome then s
  else beginMemtest none p s

/-- FAULT: FAULT_INJECT under the same checks. -/
def tapInject (p : Packet) (s : State) : State :=
  if !s.up || s.fuses.lc ≠ .test || ((layoutFaultInject p s).offence p).isSome then s else armInjection p s

/-! ### Host Loopback (R515) -/

/-- PCIE_LOOPBACK_ENTRY: the link leaves L0, so every IDE stream is insecure and every TDI in CONFIG_LOCKED or RUN in ERROR. -/
def pcieLoopbackEntry (s : State) : State :=
  if !s.up then s
  else
    let s1 := (List.range 9).foldl (fun t n => streamInsecure n t) s
    (List.range 16).foldl (fun t p => if (t.part p).tdi = .locked || (t.part p).tdi = .run then setTdi p .error t else t) s1

end Sys2Proof.Machine
end

