-- ==== Sys2Proof/Machine/Mail.lean ====
section
/-! DEFINITION. The mailboxes (18 R540 to R557): queues, doorbells, requests, notices, and what an absent peer does to a channel. -/

namespace Sys2Proof.Machine

/-! ### Access (R541) -/

/-- A channel is reached by an access. -/
def chanAccess (via : Access) (c : Nat) (s : State) : Bool :=
  if 8 ≤ c then false
  else
    match via, s.chanAssigned c with
    | .pf ide, none => 4 ≤ c || (ide && (s.stream 0).secure)
    | .tap, none => s.opDebug
    | .vf p, some q => p = q && (s.part p).tdi ≠ .error
    | .tap, some _ => s.fullDebug
    | _, _ => false

/-- An access through a VF whose TDI is in ERROR completes as Unsupported Request (R533). -/
def vfClosed (via : Access) (s : State) : Option Nat :=
  match via with
  | .vf p => if (s.part p).tdi = .error then some p else none
  | _ => none

/-- A refused access counted (R541). -/
def countVia (via : Access) (s : State) : State :=
  match via with
  | .vf p => countPartMalformed p s
  | _ => countMalformed s

/-- A mailbox event counted: with the partition of an assigned channel, else in GB_MALFORMED (R534, R552). -/
def countChan (c : Nat) (s : State) : State :=
  match s.chanAssigned c with
  | some p => countPartMalformed p s
  | none => countMalformed s

/-- An access to a channel's register: refused and counted where the channel is not reached. -/
def onChan (via : Access) (c : Nat) (f : Channel → Channel) (s : State) : State :=
  if !s.up then s
  else
    match vfClosed via s with
    | some p => s.emit (.unsupportedRequest p)
    | none => if chanAccess via c s then s.modChan c f else countVia via s

/-! ### Queues and doorbells (R543, R545) -/

/-- A push of MB_IN_DATA. -/
def mbInPush (via : Access) (c : Nat) (w : Word) (s : State) : State :=
  onChan via c (fun q =>
    if q.inq.length < 16 then { q with inq := q.inq ++ [w], inAt := q.inAt ++ [s.now] } else { q with overflow := true }) s

/-- A pop of MB_OUT_DATA. -/
def mbOutPop (via : Access) (c : Nat) (s : State) : State :=
  if s.up && chanAccess via c s then
    (s.modChan c popOut).emit (.readData (((s.chan c).outq.headD 0).setWidth 64))
  else onChan via c (fun q => q) s

/-- A write of MB_DB_IN: bits 4 to 2 are ignored. -/
def ringDoorbells (via : Access) (c : Nat) (bits : Word) (s : State) : State :=
  onChan via c (fun q => { q with dbIn := q.dbIn ||| (bits &&& 0xFFFFFFE3) }) s

/-- MB_TEST_DOORBELL of bit n. -/
def mbTestDoorbell (via : Access) (c n : Nat) (s : State) : State :=
  if 5 ≤ n && n ≤ 31 then ringDoorbells via c (BitVec.ofNat 32 (2 ^ n)) s else onChan via c (fun q => q) s

/-- NOTICE_LOST joins the waiting notices: of eight it replaces the oldest, which is counted as dropped (R550, R557). -/
def queueLost (c : Nat) (s : State) : State :=
  s.modChan c (fun q =>
    let full := 8 ≤ q.waiting.length
    let n := if full then q.noticesDropped + 1 else q.noticesDropped
    { q with waiting := (if full then q.waiting.drop 1 else q.waiting) ++ [{ service := 0x84, part := none, payload := [BitVec.ofNat 32 n] }]
             noticesDropped := 0 })

/-- The side that serves doorbells and requests is there (R553). -/
def State.mailServed (s : State) : Bool := s.up && !s.scribe.halted && !s.kp.halted

/-- A look at a channel's doorbells (R545, R551; log 35): TEST is answered, RESYNC sends NOTICE_LOST, and IN_READY of an empty IN is
cleared. -/
def lookChan (c : Nat) (s : State) : State :=
  let q := s.chan c
  if q.dbIn = 0 then s
  else
    let stays : Word := if q.inq.isEmpty then 0 else q.dbIn &&& 1
    let s1 := if q.dbIn.getLsbD 1 && q.lost ≠ 0 then (queueLost c s).modChan c (fun x => { x with lost := 0 }) else s
    s1.modChan c (fun x => { x with dbIn := stays, dbOut := x.dbOut ||| (q.dbIn &&& 0xFFFFFFE0) })

/-- The look that follows every command (log 35). -/
def lookAll (s : State) : State :=
  if s.mailServed && s.mail.chans.any (fun q => q.dbIn ≠ 0) then (List.range 8).foldl (fun t c => lookChan c t) s else s

/-! ### Assignment (R540) -/

/-- Byte c of MB_ASSIGN as a write gives it. -/
def assignByte (v : Word) (c : Nat) : Nat × Bool := (bitsOf v.toNat (8 * c) 4, bitOf v.toNat (8 * c + 7))

/-- MB_ASSIGN_WRITE. -/
def mbAssignWrite (v : Word) (s : State) : State :=
  let new := (List.range 4).map (assignByte v)
  let parts := (new.filter (fun b => b.2)).map (fun b => b.1)
  let changed := (List.range 4).filter (fun c => new.getD c (0, false) ≠ s.mail.assign.getD c (0, false))
  let bad (c : Nat) : Bool :=
    (match new.getD c (0, false) with | (p, true) => (s.part p).pstate ≠ .created | _ => false) ||
      (match s.chanAssigned c with | some p => (s.part p).pstate ≠ .created && (s.part p).pstate ≠ .free | none => false)
  if !s.up then s
  else if parts.eraseDups.length ≠ parts.length || changed.any bad then countMalformed s
  else { s with mail := { s.mail with assign := new } }

/-! ### Requests (R548, R549, R551 to R553) -/

/-- A header that Tlatriward does not take (R552). NOTICE_MASK has one word of payload. -/
def badHeader (w : Word) : Bool :=
  let n := w.toNat
  let len := bitsOf n 16 4
  bitsOf n 13 3 ≠ 0 ||
    (match bitsOf n 0 8 with
      | 1 => decide (14 < len)
      | 2 => decide (len ≠ 0)
      | 3 => decide (len ≠ 0)
      | 4 => decide (len ≠ 1)
      | _ => true)

/-- The words of a status. -/
def statusWords (st code : Nat) : List Word :=
  if code = 0 then [BitVec.ofNat 32 st] else [BitVec.ofNat 32 st, BitVec.ofNat 32 code]

/-- BLOCK_STATE's words. -/
def blockWords (s : State) : List Word :=
  [BitVec.ofNat 32 (s.fuses.lc.code + fldB 8 s.kp.ready + fld 9 2 s.damper.lstate.code + fldB 11 s.scribe.halted + fldB 12 s.fullDebug +
      fldB 13 s.debugs.operator + fld 16 16 (s.ret.getD uGb { epoch := 0, last := 0, lost := 0 }).epoch),
    BitVec.ofNat 32 s.startWord]

/-- Why every service but PING and BLOCK_STATE is refused (R553). -/
def mailRefusal (s : State) : Option (List Word) :=
  if s.fuses.lc = .endOfLife || s.fuses.wipeStep ≠ 0 || s.fuses.rollWaiting then some (statusWords stLifecycle 0)
  else if !s.kp.ready then some (statusWords stWrongState 0x0B07)
  else none

/-- The payload of a reply, and what the request does to its channel; none while the request has to wait. -/
def mailAnswer (c : Nat) (w : Word) (payload : List Word) (s : State) : Option (List Word × (Channel → Channel)) :=
  let svc := bitsOf w.toNat 0 8
  let part := bitsOf w.toNat 8 4
  let named := bitOf w.toNat 12
  let plain (l : List Word) : Option (List Word × (Channel → Channel)) := some (l, fun q => q)
  let foreign := match s.chanAssigned c with | some p => named && p ≠ part | none => false
  if foreign && (svc = 1 || svc = 2) then plain (statusWords stNotPermitted 0)
  else if svc = 1 then plain (BitVec.ofNat 32 stOk :: payload)
  else if svc = 2 then plain (BitVec.ofNat 32 stOk :: blockWords s)
  else if s.scribe.halted then none
  else
    match mailRefusal s with
    | some l => plain l
    | none =>
      if foreign then plain (statusWords stNotPermitted 0)
      else if svc = 4 then some ([BitVec.ofNat 32 stOk], fun q => { q with noticeMask := (payload.headD 0).toNat % 8 })
      else if !named then plain (statusWords stNotPermitted 0)
      else
        let q := s.part part
        if q.struck then plain (statusWords stBusyStrike 0)
        else if q.pstate = .free then plain (statusWords stWrongState 0x0301)
        else plain [BitVec.ofNat 32 stOk, BitVec.ofNat 32 (q.pstate.code + fld 8 2 q.tdi.code + fldB 10 (s.key? part 0).isSome)]

/-- A message placed whole in OUT with its doorbell (R551). -/
def placeMsg (c doorbell : Nat) (msg : List Word) (f : Channel → Channel) (s : State) : State :=
  s.modChan c (fun q => let x := f q; { x with outq := x.outq ++ msg, dbOut := x.dbOut ||| BitVec.ofNat 32 (2 ^ doorbell) })

/-- The front message of IN taken. -/
def takeIn (k : Nat) (q : Channel) : Channel :=
  { q with inq := q.inq.drop k, inAt := q.inAt.drop k, dbIn := q.dbIn &&& 0xFFFFFFFE }

/-- IN emptied (R552). -/
def discardIn (q : Channel) : Channel := { q with inq := [], inAt := [], dbIn := q.dbIn &&& 0xFFFFFFFE, discarded := true }

/-- The header of a reply: SERVICE, PART and PART_VALID, LEN, TAG. -/
def replyHeader (w : Word) (len : Nat) : Word := BitVec.ofNat 32 (bitsOf w.toNat 0 13 + fld 16 4 len + fld 20 12 (bitsOf w.toNat 20 12))

/-- A look at channel c for a request of a service. The boot ROM and the halt controller look too (R553). -/
def serveMail (svc c : Nat) (s : State) : State :=
  let q := s.chan c
  if !s.up || s.kp.halted || 8 ≤ c then s
  else
    match q.inq with
    | [] => s
    | w :: rest =>
      let len := bitsOf w.toNat 16 4
      if badHeader w then
        if s.scribe.halted || 16 < q.outq.length + 2 then s
        else
          countChan c (placeMsg c 0
            [BitVec.ofNat 32 (bitsOf w.toNat 0 8 + fld 16 4 1 + fld 20 12 (bitsOf w.toNat 20 12)), BitVec.ofNat 32 stMalformed] discardIn s)
      else if bitsOf w.toNat 0 8 ≠ svc || rest.length < len then s
      else
        match mailAnswer c w (rest.take len) s with
        | none => s
        | some (words, f) =>
          if 16 < q.outq.length + 1 + words.length then s
          else placeMsg c 0 (replyHeader w words.length :: words) (fun x => f (takeIn (1 + len) x)) s

/-- MB_MESSAGE_TIMEOUT: the payload is not there 1 ms after its header. -/
def mbMessageTimeout (c : Nat) (s : State) : State :=
  let q := s.chan c
  if !s.mailServed || 8 ≤ c then s
  else
    match q.inq, q.inAt with
    | w :: rest, t :: _ =>
      if rest.length < bitsOf w.toNat 16 4 then countChan c ((s.atTime (t + 1000000)).modChan c discardIn) else s
    | _, _ => s

/-! ### Notices (R550, R551, R553) -/

/-- Notices are sent: not before READY, in a halt, in End of Life, or on the way to L3. -/
def State.noticesSent (s : State) : Bool :=
  s.mailServed && s.kp.ready && s.fuses.lc ≠ .endOfLife && s.fuses.wipeStep = 0 &&
    (match s.damper.moving with | some (_, .l3) => false | _ => true)

/-- A request of channel c can be answered now: replies go ahead of notices (R551). -/
def replyDue (c : Nat) (s : State) : Bool :=
  let q := s.chan c
  match q.inq with
  | [] => false
  | w :: rest =>
    !badHeader w && bitsOf w.toNat 16 4 ≤ rest.length &&
      (match mailAnswer c w (rest.take (bitsOf w.toNat 16 4)) s with
        | some (words, _) => q.outq.length + 1 + words.length ≤ 16
        | none => false)

/-- The header of a notice (R548). -/
def noticeHeader (n : Notice) (tag : Nat) : Word :=
  BitVec.ofNat 32 (n.service + (match n.part with | some p => fld 8 4 p + 2 ^ 12 | none => 0) + fld 16 4 n.payload.length + fld 20 12 tag)

/-- The oldest waiting notice of channel c placed in OUT, where it is of the service. -/
def sendNotice (svc c : Nat) (s : State) : State :=
  let q := s.chan c
  if !s.noticesSent || 8 ≤ c || replyDue c s then s
  else
    match q.waiting with
    | n :: rest =>
      if n.service ≠ svc || 16 < q.outq.length + 1 + n.payload.length then s
      else
        placeMsg c 1 (noticeHeader n q.noticeTag :: n.payload)
          (fun x => { x with waiting := rest, noticeTag := (x.noticeTag + 1) % 4096 }) s
    | [] => s

/-- NOTICE_LOST: placed where it is the oldest; else, once room has returned, it joins those that wait (R550). -/
def sendLostNotice (c : Nat) (s : State) : State :=
  let q := s.chan c
  if s.noticesSent && c < 8 && q.noticesDropped ≠ 0 && q.waiting.length < 8 && !q.waiting.any (fun n => n.service = 0x84) then
    sendNotice 0x84 c (queueLost c s)
  else sendNotice 0x84 c s

/-! ### Absent peers (R554) -/

/-- The channels of operator software are emptied: 4 to 7 and every unassigned secure channel. -/
def emptyOperator (s : State) : State :=
  (List.range 8).foldl (fun t c => if 4 ≤ c || (t.chanAssigned c).isNone then t.modChan c emptyChannel else t) s

/-- FUNCTION_LEVEL_RESET of function 0, or of VF p + 1. -/
def functionLevelReset (fn : Option Nat) (s : State) : State :=
  if !s.up then s
  else
    match fn with
    | none => emptyOperator s
    | some p => (List.range 4).foldl (fun t c => if t.chanAssigned c = some p then t.modChan c emptyChannel else t) s

/-- PCIE_LINK_RESET. -/
def pcieLinkReset (s : State) : State := if s.up then emptyOperator s else s

end Sys2Proof.Machine
end

