-- ==== Sys2Proof/Machine/Registers.lean ====
section
/-! DEFINITION. The register window (18 R529 to R542): what each register reads, what a write of it does, who reaches it, and the
EVT lines. -/

namespace Sys2Proof.Machine

/-! ### Values of registers -/

/-- A register as a read finds it: whether it has 64 bits, and its value. -/
abbrev Reg := Bool × Nat

/-- Which of `n` registers, `step` bytes apart from `base`, an offset names. -/
def regIdx (o base step n : Nat) : Option Nat :=
  if base ≤ o && o < base + step * n && (o - base) % step = 0 then some ((o - base) / step) else none

/-- Bits cleared by writing 1 (R7). -/
def clearBits (n v : Nat) : Nat := n - (n &&& v)

/-- The six registers of a ring pair, by offset (R61 to R67). -/
def ringReg (r : RingRegs) (k : Nat) : Option Reg :=
  match k with
  | 0x00 => some (true, r.sqBase)
  | 0x08 => some (true, r.cqBase)
  | 0x10 => some (false, r.sqLog2 + fld 4 4 r.cqLog2 + fldB 8 r.enable)
  | 0x14 => some (false, r.sqTail + fld 16 16 r.sqHead)
  | 0x18 => some (false, r.cqTail + fld 16 16 r.cqHead)
  | 0x1C => some (false, min 64 r.held.length + fldB 7 r.fetchStopped + fldB 8 r.badTail)
  | _ => none

/-- BLOCK of MB_CH_STATUS (R546): 0 serving, 1 starting, 2 halted, 3 entering L3. -/
def State.blockSide (s : State) : Nat :=
  if !s.up || s.start.step < 14 then 1
  else if s.scribe.halted then 2
  else match s.damper.moving with
    | some (_, .l3) => 3
    | _ => 0

/-- The registers of a channel, by offset (R542 to R546). -/
def chanReg (s : State) (c k : Nat) : Option Reg :=
  let q := s.chan c
  match k with
  | 0x00 => some (false, 0)
  | 0x04 => some (false, 16 - q.inq.length + fldB 8 q.overflow + fldB 9 q.discarded)
  | 0x08 => some (false, (q.outq.headD 0).toNat)
  | 0x0C => some (false, q.outq.length + fldB 5 q.msgReady + fld 8 8 q.lost + fldB 16 q.underflow)
  | 0x10 => some (false, q.dbIn.toNat)
  | 0x14 => some (false, q.dbOut.toNat)
  | 0x18 => some (false, q.dbMask.toNat)
  | 0x1C => some (false, s.blockSide + fldB 2 (c < 4) + fldB 3 (s.chanAssigned c).isSome +
      fld 4 4 ((s.chanAssigned c).getD 0) + fldB 8 q.peerReset)
  | _ => none

/-- GB_ID (R536). -/
def State.gbId (s : State) : Nat := 1 + fld 1 11 s.fuses.manuf + 0x0D08 * 2 ^ 12 + 1 * 2 ^ 28

/-- GB_CLK_STATUS (R45). -/
def State.clkStatus (s : State) : Nat :=
  fldB 0 s.start.rootOk + fldB 1 s.start.aonOnSosc + fldB 2 s.start.rootLoss + fldB 3 s.cal.frameOk + fldB 4 s.cal.todOk +
    fld 16 16 s.start.rootCount

/-- GB_BOOT_CTRL (R465). -/
def State.bootCtrl (s : State) : Nat :=
  fld 0 9 s.start.bootLen + fldB 9 s.start.go + fldB 10 s.start.reload + fld 11 3 s.start.bootState

/-- The retention pair of a unit, at 0xFF00 and 0xFF04 of its base (R483, R484, R539). -/
def retReg (s : State) (unit k : Nat) : Option Reg :=
  match s.ret[unit]?, k with
  | some r, 0xFF00 => some (false, r.epoch + fld 16 4 r.last)
  | some r, 0xFF04 => some (false, r.lost.toNat)
  | _, _ => none

/-- Global registers (R535). -/
def globalReg (s : State) (o : Nat) : Option Reg :=
  match o with
  | 0x0000 => some (false, s.gbId)
  | 0x0008 => some (false, s.startWord)
  | 0x0010 => some (false, gbParam0)
  | 0x0014 => some (false, gbParam1)
  | 0x0020 => some (false, s.clkStatus)
  | 0x0024 => some (false, fldB 0 s.start.ctlOn + fld 1 8 s.start.gltOn.toNat + fld 9 4 s.start.sltOn.toNat)
  | 0x0030 => some (false, s.vs.malformed)
  | 0x0100 => some (true, s.start.bootAddr)
  | 0x0108 => some (false, s.bootCtrl)
  | 0x2000 => some (false, s.vs.sessions.length + fldB 6 (s.vs.sessions.any (fun x => x.tsm)) + fld 8 8 s.vs.errors)
  | 0x4000 => some (false, s.cal.tick + fldB 14 s.cal.locked + fldB 15 s.cal.freeRun + fld 16 8 s.cal.slips +
      fldB 24 s.cal.backPending)
  | 0x4004 => some (false, 0)
  | 0x4008 => some (true, s.cal.frame)
  | 0x4010 => some (false, 1024 - s.cal.resvs.length)
  | _ =>
    if 0x1000 ≤ o && o < 0x1020 then ringReg s.cmds.mgmtRing (o - 0x1000)
    else match regIdx o 0x2010 4 9 with
    | some i =>
      let x := s.stream i
      some (false, fldB 0 x.secure + fld 1 1 x.keySet + fldB 2 x.pcrc + fldB 3 x.tee + fld 8 8 x.streamId + fld 16 8 x.fails)
    | none => match regIdx o 0x2040 4 16 with
      | some p => some (false, (s.part p).tdi.code + fldB 2 (s.part p).tdiBound + fld 8 4 (s.part p).tdiStream)
      | none => match regIdx o 0x4100 4 8 with
        | some b => some (false, (s.cal.transit.getD b (0, 0)).1 + fld 10 10 (s.cal.transit.getD b (0, 0)).2)
        | none => retReg s uGb o

/-- Kingpost registers (R353 to R355). -/
def kpReg (s : State) (o : Nat) : Option Reg :=
  match o with
  | 0x0 => some (false, fldB 0 s.kp.ready + fldB 1 (s.fuses.inUse = some true) + fldB 2 s.fuses.bankLost + fldB 3 s.kp.dbgKeys +
      fldB 4 s.kp.entropyFail + fld 5 7 s.kp.svn + fld 12 7 s.fuses.svnMin)
  | 0x4 => some (false, 1024 - s.parts.foldl (fun n q => n + q.shares.keySlots) 0 + fld 16 9 (256 - s.weightKeys))
  | 0x8 => some (false, s.kp.twin + fld 8 8 s.kp.cfs + fld 16 8 s.kp.entropy + fld 24 8 s.kp.refused)
  | _ => retReg s uKp o

/-- Guyline registers (R132 to R135). -/
def glReg (s : State) (o : Nat) : Option Reg :=
  if o = 0 then some (false, s.coordRead)
  else match regIdx o 0x1000 4 64 with
  | some n => some (false, fldB 0 (s.link n).enable)
  | none => match regIdx o 0x1100 4 64 with
    | some n => some (false, s.linkStatus n)
    | none => match regIdx o 0x1200 4 64 with
      | some n =>
        let l := s.link n
        some (false, roundP2 l.checkFails + fld 5 5 (roundP2 l.malformed) + fld 10 5 (roundP2 l.replays))
      | none => retReg s uGl o

/-- SL_RETIRE of a lane (R210). -/
def retireWord (l : GuardLane) : Nat := ofLeBytes ((l.retired.take 4).map (fun p => BitVec.ofNat 8 (p % 128 + 128)))

/-- Sill registers (R209 to R212). -/
def slReg (s : State) (o : Nat) : Option Reg :=
  match o with
  | 0x000 => some (false, fld 0 5 s.sill.rackSlot + fldB 5 s.sill.poolEn)
  | 0x200 => some (false, s.sill.corrected + fld 16 8 s.sill.uncorrectable + fld 24 8 s.sill.checkFail)
  | 0x204 => some (false, s.sill.t0Late + fld 12 10 s.sill.t1Late + fld 22 10 s.sill.sledLate)
  | _ => match regIdx o 0x100 4 16 with
    | some g => some (false, retireWord (s.lane g))
    | none => retReg s uSl o

/-- Peg slots in the FREE state (R247). -/
def State.pegsFree (s : State) : Nat := 65536 - (s.pegs.slots.filter (fun g => g.state ≠ .free)).length

/-- Waiter entries not in use (R248). -/
def State.waitersFree (s : State) : Nat :=
  16384 - (s.pegs.waiters.filter (fun w => w.remoteChip.isNone)).length - s.pegs.remote.length

/-- Pegs registers (R247 to R250). -/
def pgReg (s : State) (o : Nat) : Option Reg :=
  match o with
  | 0x0 => some (false, fld 0 17 s.pegsFree)
  | 0x4 => some (false, fld 0 15 s.waitersFree)
  | 0x8 => some (false, s.pegs.linkDelay)
  | 0xC => some (false, s.pegs.late)
  | _ => retReg s uPg o

/-- DM_STATUS (R319). -/
def State.dmStatus (s : State) : Nat :=
  s.damper.lstate.code + fldB 2 s.damper.hot + fldB 3 s.damper.emergency + fldB 4 s.damper.alert + fldB 5 s.damper.telemLost +
    fldB 6 s.haltRamp + fldB 7 s.damper.overLimit + fld 8 7 s.damper.btick + fld 16 8 s.damper.events

/-- Damper registers (R315 to R322). -/
def dmReg (s : State) (o : Nat) : Option Reg :=
  match o with
  | 0x00 => some (false, fld 0 11 s.damper.pkgLimit + fld 16 11 s.damper.effLimit)
  | 0x04 => some (false, fld 0 8 s.damper.tHot + fld 8 8 s.damper.tCrit + fld 16 8 s.damper.tTrip)
  | 0x08 => some (false, s.damper.slope)
  | 0x0C => some (false, s.damper.idleW)
  | 0x10 => some (false, s.dmStatus)
  | _ => match regIdx o 0x100 4 16 with
    | some p => some (false, fld 0 16 (s.grantRow p).grant + fld 16 16 (s.part p).resvW)
    | none => match regIdx o 0x140 4 16 with
      | some p => some (false, (s.part p).view.beWeight)
      | none => match regIdx o 0x200 4 32 with
        | some b => some (false, fld 0 8 (s.damper.rated.getD b 0) + fld 8 8 s.ballastCode)
        | none => retReg s uDm o

/-- PL_LADDER (R453): the widest rung that runs. -/
def State.ladderWord (s : State) : Nat :=
  let pick (r : Rung) : Option RunningRung := s.plumb.rungs.find? (fun x => x.rung = r)
  let word := match (pick .partition).orElse (fun _ => (pick .engine).orElse (fun _ => pick .context)) with
    | some g => g.rung.code + fld 8 12 g.scope
    | none => 0
  word + fldB 20 s.scribe.halted

/-- PL_SRC_CFG of a source (R451). -/
def srcWord (c : SrcCfg) : Nat := fld 0 3 c.action + fldB 3 c.notify + fld 4 3 c.window + fld 8 8 c.thresh

/-! ### The always-on SRAM (R444, R445, R448) -/

/-- CRC-32C over one bit. -/
def crcBit (c : Word) : Word := if c.getLsbD 0 then (c >>> 1) ^^^ 0x82F63B78 else c >>> 1

/-- CRC-32C over one byte. -/
def crcByte (c : Word) (b : Byte) : Word :=
  crcBit (crcBit (crcBit (crcBit (crcBit (crcBit (crcBit (crcBit (c ^^^ b.setWidth 32))))))))

/-- CRC-32C of bytes (PRESUMED Castagnoli's usual form, log 5). -/
def crc32c (bs : List Byte) : Word := ~~~ (bs.foldl crcByte 0xFFFFFFFF)

/-- Bytes followed by their CHECK. -/
def withCheck (bs : List Byte) : List Byte := bs ++ leBytes 4 (crc32c bs).toNat

/-- The error log's header (R444). -/
def logHeader (p : Plumb) : List Byte :=
  withCheck ([1, 0, 0, 0] ++ leBytes 2 p.next ++ [0, 0] ++ leBytes 4 p.wraps ++ leBytes 4 p.lost ++ leBytes 4 p.chipResets ++
    leBytes 8 p.lastResetTime ++ leBytes 2 p.lastResetEntry ++ List.replicate 30 0)

/-- An error-log entry (R445). -/
def LogEntry.bytes (e : LogEntry) : List Byte :=
  withCheck (leBytes 8 e.time ++ leBytes 1 e.source ++ leBytes 1 e.sub ++ leBytes 1 e.action ++
    leBytes 1 (fldB 0 e.quantised + fldB 1 e.dumpWritten + fldB 2 e.merged + fldB 3 e.timeInvalid + fldB 4 e.dumpSkipped) ++
    leBytes 1 (e.part.getD 0 % 16 + fldB 4 e.part.isSome) ++ [0] ++ leBytes 2 e.epoch ++ leBytes 12 e.detail)

/-- The entry at an index of the ring, zeros where none has been written. -/
def entryBytes (p : Plumb) (i : Nat) : List Byte :=
  match p.log[(p.next + 1021 - i) % 1022]? with
  | some e => e.bytes
  | none => List.replicate 32 0

/-- A byte of the crash dump (R448, R449; log 5). -/
def dumpByte (p : Plumb) (a : Nat) : Byte :=
  match p.dump with
  | none => 0
  | some d =>
    let head := [1, BitVec.ofNat 8 (fldB 0 p.dumpValid), BitVec.ofNat 8 d.source, BitVec.ofNat 8 d.sub] ++
      leBytes 4 d.chipResets ++ leBytes 8 d.time ++ leBytes 2 d.index
    if a < 18 then head.getD a 0
    else if 0x140 ≤ a && a < 0x940 then
      match d.queue[(a - 0x140) / 8]? with
      | some (c, o, q, slot, seq) =>
        if a % 8 = 7 then Config.dumpByte d.draw a
        else (leBytes 1 c ++ leBytes 1 o ++ leBytes 1 q ++ leBytes 2 slot ++ leBytes 2 seq).getD (a % 8) 0
      | none => Config.dumpByte d.draw a
    else if 0xC80 ≤ a && a < 0xD80 then (leBytes 4 (d.links.getD ((a - 0xC80) / 4) 0)).getD (a % 4) 0
    else if (0xDC0 ≤ a && a < 0x1000) || 0x7000 ≤ a then 0
    else if 0x1000 ≤ a && !d.excerpt then 0
    else Config.dumpByte d.draw a

/-- Bytes of the log and the dump at 0x8_0000 of Plumb's base. -/
def sramWord (p : Plumb) (a : Nat) : Nat :=
  if a < 64 then ofLeBytes (((logHeader p).drop a).take 4)
  else if a < 0x8000 then ofLeBytes (((entryBytes p ((a - 64) / 32)).drop ((a - 64) % 32)).take 4)
  else ofLeBytes ((List.range 4).map (fun i => dumpByte p (a - 0x8000 + i)))

/-- Plumb registers (R450 to R456). -/
def plReg (s : State) (o : Nat) : Option Reg :=
  match o with
  | 0x900 => some (false, s.ladderWord)
  | 0x904 => some (false, s.plumb.contextTo + fld 8 8 s.plumb.engineTo + fld 16 8 s.plumb.partitionTo + fld 24 8 s.plumb.chipTo)
  | 0x908 => some (false, 0)
  | 0x910 => some (false, fldB 0 s.plumb.dumpValid + fld 8 8 s.plumb.dumpSkips)
  | _ => match regIdx o 0 4 8 with
    | some w => some (false, bitsOf s.plumb.sticky.toNat (32 * w) 32)
    | none => match regIdx o 0x100 4 256 with
      | some n => some (false, srcWord (s.src n))
      | none => match regIdx o 0x500 4 256 with
        | some n => some (false, (s.src n).count)
        | none => retReg s uPl o

/-- Scribe registers (R508 to R512). RAMP: a resume's ramp-up runs. -/
def scReg (s : State) (o : Nat) : Option Reg :=
  match o with
  | 0x00 => some (false, fldB 0 s.scribe.halted + fldB 1 (s.damper.ramps.any (fun r => r.halt && r.up && r.runs s.now)) +
      fldB 2 s.scribe.late + fldB 3 s.scribe.origin + fld 8 8 s.scribe.secondary + fld 16 8 s.scribe.ignored)
  | 0x04 => some (false, s.scribe.haltId)
  | 0x08 => some (true, s.scribe.cut)
  | 0x10 => some (true, s.scribe.restart)
  | 0x18 => some (false, 0)
  | _ => retReg s uSc o

/-- Mailbox registers: the channels and MB_ASSIGN (R540, R542). -/
def mbReg (s : State) (o : Nat) : Option Reg :=
  if o < 0x800 then chanReg s (o / 0x100) (o % 0x100)
  else if o = 0x800 then
    some (false, ((List.range 4).map (fun c =>
      let b := s.mail.assign.getD c (0, false)
      fld (8 * c) 4 b.1 + fldB (8 * c + 7) b.2)).foldl (fun n x => n + x) 0)
  else retReg s uMb o

/-! ### Views (R532) -/

/-- The channel assigned to a partition (R540). -/
def State.chanOf (s : State) (p : Nat) : Option Nat := (List.range 4).find? (fun c => s.chanAssigned c = some p)

/-- The registers of a view, the channel's aside. -/
def viewReg (s : State) (p o : Nat) : Option Reg :=
  let q := s.part p
  let v := q.view
  match o with
  | 0x0020 => some (false, q.tdi.code + fldB 2 q.tdiBound)
  | 0x0400 =>
    let used := s.kp.slots.filter (fun k => k.part = p)
    some (false, fld 0 11 q.shares.keySlots + fld 11 11 used.length + fldB 22 (used.any (fun k => k.slot = 0)) +
      fldB 23 q.verifierId.isSome)
  | 0x0A00 => some (false, fld 0 17 (s.pegsLive p))
  | 0x0A04 => some (false, fld 0 15 (s.waitersUsed p) + fld 16 14
      ((s.cmds.ctxs.filter (fun c => c.part = p)).foldl (fun n c => n + c.fences.length) 0))
  | 0x0A08 => some (false, v.stale + fld 8 8 v.saturated + fld 16 8 v.overrun + fld 24 8 v.timeout)
  | 0x0C00 => some (false, v.sliceQ)
  | 0x0C04 => some (false, v.level + fldB 2 v.shared)
  | 0x0C08 => some (false, fld 0 11 (s.resvsOf p).length + fld 16 8 v.broken + fld 24 8 v.delayed)
  | 0x0D00 =>
    match s.scribe.traces.find? (fun t => t.slot = p) with
    | some t => some (false, fldB 0 t.active + fldB 1 t.wrap + fldB 2 t.export_ + fld 16 16 t.lost)
    | none => some (false, 0)
  | 0x0D08 => some (false, (s.scribe.traces.find? (fun t => t.slot = p)).elim 0 (fun t => t.written))
  | 0x0E00 => some (false, v.pace + fldB 2 v.emergency + fldB 3 (v.beWeight ≠ 0))
  | 0x0F00 => some (false, fldB 1 v.rungActive + fldB 2 (q.pstate = .faulted) + fld 8 8 v.restarts)
  | 0x0F80 => some (false, v.malformed)
  | _ =>
    if o < 0x20 then ringReg q.ring o
    else match regIdx o 0x800 8 64 with
    | some k =>
      match v.poolMap.find? (fun e => e.1 = k) with
      | some e => some (true, fld 0 11 e.2.1 + fldB 63 e.2.2)
      | none => some (true, 0)
    | none => none

/-- A register of a view or of the channel assigned to it. -/
def viewOrChan (s : State) (p o : Nat) : Option Reg :=
  if 0x1000 ≤ o && o < 0x1020 then
    match s.chanOf p with
    | some c => chanReg s c (o - 0x1000)
    | none => none
  else viewReg s p o

/-- Offsets of a view's registers, the pool map last. -/
def viewOffsets : List Nat :=
  [0x00, 0x08, 0x10, 0x14, 0x18, 0x1C, 0x20, 0x400, 0xA00, 0xA04, 0xA08, 0xC00, 0xC04, 0xC08, 0xD00, 0xD08, 0xE00, 0xF00, 0xF80] ++
    (List.range 64).map (fun k => 0x800 + 8 * k)

/-- What an unlisted latched register reads: the reset value (R287). -/
def latchDefault (o : Nat) : Nat := if o = 0xC00 then 16 else 0

/-- The view's registers latched for function 0 (R533). -/
def latchView (p : Nat) (s : State) : State :=
  s.modView p (fun v => { v with
    latched := viewOffsets.filterMap (fun o =>
      match viewReg s p o with
      | some r => if r.2 = latchDefault o then none else some (o, BitVec.ofNat 64 r.2)
      | none => none) })

/-- A view reads as latched for function 0: a tenant's, while its TDI is CONFIG_LOCKED or RUN (R533). -/
def State.viewLatched (s : State) (p : Nat) : Bool := p ≠ 0 && ((s.part p).tdi = .locked || (s.part p).tdi = .run)

/-! ### The window (R529) -/

/-- The partition whose view an offset lies in, and the offset in the view. -/
def viewOf (o : Nat) : Option (Nat × Nat) :=
  if 0xC00000 ≤ o && o < 0x1000000 then some ((o - 0xC00000) / 0x40000, o % 0x40000) else none

/-- The register at an offset of the window as it stands. -/
def regAt (s : State) (o : Nat) : Option Reg :=
  if o < 0x100000 then globalReg s o
  else if o < 0x200000 then kpReg s (o - 0x100000)
  else if o < 0x400000 then glReg s (o - 0x200000)
  else if o < 0x600000 then slReg s (o - 0x400000)
  else if o < 0x800000 then pgReg s (o - 0x600000)
  else if o < 0x900000 then dmReg s (o - 0x800000)
  else if o < 0xA00000 then
    (if 0x980000 ≤ o && o < 0x990000 then (if o % 4 = 0 then some (false, sramWord s.plumb (o - 0x980000)) else none)
     else plReg s (o - 0x900000))
  else if o < 0xB00000 then scReg s (o - 0xA00000)
  else if o < 0xC00000 then mbReg s (o - 0xB00000)
  else match viewOf o with
    | some (p, k) => viewOrChan s p k
    | none => none

/-- The window offset an access names: a VF maps its own view (R371). -/
def windowOf (via : Access) (o : Nat) : Nat :=
  match via with
  | .vf p => if o < 0x40000 then 0xC00000 + 0x40000 * p + o else 0x1000000
  | _ => o

/-- What a register reads to an access (R407, R533), the channels' registers as R541 lets the access reach them. -/
def readVia (via : Access) (o : Nat) (s : State) : Nat :=
  let w := windowOf via o
  let value := (regAt s w).elim 0 (fun r => r.2)
  let chan : Option Nat := match viewOf w with
    | some (p, k) => if 0x1000 ≤ k && k < 0x1020 then s.chanOf p else none
    | none => if 0xB00000 ≤ w && w < 0xB00800 then some ((w - 0xB00000) / 0x100) else none
  match via, viewOf w with
  | .pf _, some (p, k) =>
    if (s.part p).struck then 0
    else if s.viewLatched p then
      (if 0x1000 ≤ k then 0
       else match (s.part p).view.latched.find? (fun e => e.1 = k) with
         | some e => e.2.toNat
         | none => if (viewReg s p k).isSome then latchDefault k else 0)
    else if chan.isSome then 0 else value
  | _, _ =>
    match chan with
    | some c => if chanAccess via c s then value else 0
    | none => value

/-- An access that does nothing and is counted (R530): a size other than 4 or 8, an unaligned one, a 64-bit access to a 32-bit
register, or a write to a reserved offset. -/
def malformedAccess (s : State) (w size : Nat) (write : Bool) : Bool :=
  let narrow (o : Nat) : Bool := match regAt s o with | some (false, _) => !(0x980000 ≤ o && o < 0x990000) | _ => false
  (size ≠ 4 && size ≠ 8) || w % size ≠ 0 || (write && 0x1000000 ≤ w) || (size = 8 && (narrow w || narrow (w + 4)))

/-- A malformed access counted (R530): in GB_PART_MALFORMED when it came through a view; none during a strike through
function 0 (R407). -/
def countAt (via : Access) (w : Nat) (s : State) : State :=
  match via, viewOf w with
  | .vf p, _ => countPartMalformed p s
  | .pf _, some (p, _) => if (s.part p).struck then s else countPartMalformed p s
  | .tap, some (p, _) => countPartMalformed p s
  | _, none => countMalformed s

/-! ### EVT lines (R35, R70, R319, R407, R429, R547) -/

/-- Line n of EVT. -/
def State.evt (s : State) (n : Nat) : Bool :=
  if n < 16 then !(s.part n).struck && ((s.part n).ring.cqUsed ≠ 0 || !(s.part n).ring.held.isEmpty)
  else if n < 24 then (s.chan (n - 16)).wants
  else if n = 24 then (List.range 192).any (fun i => s.plumb.sticky.getLsbD i && ((s.src i).notify || (s.src i).notified))
  else if n = 25 then s.scribe.halted
  else if n = 26 then s.damper.emergency || s.damper.alert || s.damper.telemLost || s.damper.events ≠ 0
  else false

/-! ### Writes of ring registers (R61 to R69) -/

/-- Replies a ring is owed: commands of it waiting or in progress, and replies held (R69). -/
def ringOwed (ring : RingId) (s : State) : Nat :=
  let src : Source := match ring with | .part p => .ring p | .mgmt => .mgmt
  (s.cmds.staged.filter (fun x => x.ref.src = src)).length + (s.cmds.firmware.filter (fun x => x.ref.src = src)).length +
    (s.cmds.inflight.filter (fun x => x.ref.src = src)).length + (s.ringOf ring).held.length

/-- The reply-space rule (R69): the replies owed are fewer than the free completion entries plus 64. -/
def State.ringRoom (s : State) (ring : RingId) : Bool :=
  ringOwed ring s < 2 ^ (s.ringOf ring).cqLog2 - (s.ringOf ring).cqUsed + 64

/-- Events that a ring's rules send to the partition's malformed-access counter (R68); the management ring's go to
GB_MALFORMED. -/
def countRing (ring : RingId) (s : State) : State :=
  match ring with
  | .part p => countPartMalformed p s
  | .mgmt => countMalformed s

/-- RWL fields no longer take writes (R7): from the partition's sealing on. -/
def State.sealedFrom (s : State) (p : Nat) : Bool := (s.part p).pstate ≠ .free && (s.part p).pstate ≠ .created

def State.ringLocked (s : State) (ring : RingId) : Bool :=
  match ring with
  | .part p => s.sealedFrom p
  | .mgmt => false

/-- A write of TAIL: the doorbell, or ignored and counted (R68). -/
def writeTail (ring : RingId) (tail : Nat) (s : State) : State :=
  let r := s.ringOf ring
  if 2 ^ r.sqLog2 < (tail % 65536 + 65536 - r.sqHead) % 65536 then
    countRing ring (s.modRing ring (fun q => { q with badTail := true }))
  else s.modRing ring (fun q => { q with sqTail := tail % 65536 })

/-- A write of the completion HEAD: fetching may resume (R69). -/
def writeHead (ring : RingId) (head : Nat) (s : State) : State :=
  let s1 := s.modRing ring (fun q => { q with cqHead := head % 65536 })
  if s1.ringRoom ring then s1.modRing ring (fun q => { q with fetchStopped := false }) else s1

/-- A write of VS_RING_CTRL or GB_MRING_CTRL: RWL depths and ENABLE (R63, R68); enabling the management ring starts its sequence (R73). -/
def writeRingCtrl (ring : RingId) (v : Nat) (s : State) : State :=
  let r := s.ringOf ring
  let locked := s.ringLocked ring
  let sq := if locked then r.sqLog2 else bitsOf v 0 4
  let cq := if locked then r.cqLog2 else bitsOf v 4 4
  let s1 := if locked && (bitsOf v 0 4 ≠ r.sqLog2 || bitsOf v 4 4 ≠ r.cqLog2) then countRing ring s else s
  let bad := bitOf v 8 && (sq < 6 || cq < 6)
  let s2 := s1.modRing ring (fun q => { q with sqLog2 := sq, cqLog2 := cq, enable := bitOf v 8 && !bad })
  let s3 := if ring = .mgmt && !r.enable && bitOf v 8 && !bad then { s2 with cmds := { s2.cmds with mgmtExpected := 0 } } else s2
  if bad then countRing ring s3 else s3

/-- A write of a ring register. -/
def writeRing (ring : RingId) (k v : Nat) (s : State) : State :=
  let r := s.ringOf ring
  match k with
  | 0x00 =>
    let a := v / 64 * 64
    if s.ringLocked ring then (if a = r.sqBase then s else countRing ring s) else s.modRing ring (fun q => { q with sqBase := a })
  | 0x08 =>
    let a := v / 32 * 32
    if s.ringLocked ring then (if a = r.cqBase then s else countRing ring s) else s.modRing ring (fun q => { q with cqBase := a })
  | 0x10 => writeRingCtrl ring v s
  | 0x14 => writeTail ring (bitsOf v 0 16) s
  | 0x18 => writeHead ring (bitsOf v 16 16) s
  | 0x1C => s.modRing ring (fun q => { q with badTail := q.badTail && !bitOf v 8 })
  | _ => s

/-! ### Writes of the units' registers -/

/-- RW1C of xx_SETTINGS_LOST (R484). -/
def writeRet (unit o v : Nat) (s : State) : State :=
  if o = 0xFF04 then { s with ret := s.ret.modify unit (fun r => { r with lost := r.lost &&& ~~~ (BitVec.ofNat 8 v) }) } else s

/-- CA_TRANSIT b (R286): ignored where it would leave more than 584 reserved slots on a link of the bundle. -/
def writeTransit (b v : Nat) (s : State) : State :=
  let t := s.cal.transit.set b (bitsOf v 0 10, bitsOf v 10 10)
  let n := s.cal.p0.link + transitEff (bitsOf v 0 10) + transitEff (bitsOf v 10 10)
  if (List.range 8).any (fun i => 584 < n + s.heldOn false (8 * b + i)) then countMalformed s
  else { s with cal := { s.cal with transit := t } }

/-- BACK_OK (R283). -/
def backOkWrite (s : State) : State := if s.up then { s with cal := { s.cal with backOk := true } } else s

/-- Writes of global registers (R535). -/
def writeGlobal (o v : Nat) (s : State) : State :=
  match o with
  | 0x0020 => { s with start := { s.start with rootLoss := s.start.rootLoss && !bitOf v 2 } }
  | 0x0030 => { s with vs := { s.vs with malformed := clearBits s.vs.malformed (bitsOf v 0 16) } }
  | 0x0100 =>
    if s.start.bootState = 1 || s.start.bootState = 2 then s
    else { s with start := { s.start with bootAddr := v / 4096 * 4096 } }
  | 0x0108 => bootCtrlWrite v s
  | 0x2000 => { s with vs := { s.vs with errors := clearBits s.vs.errors (bitsOf v 8 8) } }
  | 0x4000 => { s with cal := { s.cal with slips := clearBits s.cal.slips (bitsOf v 16 8) } }
  | 0x4004 => if bitOf v 0 then backOkWrite s else s
  | _ =>
    if 0x1000 ≤ o && o < 0x1020 then writeRing .mgmt (o - 0x1000) v s
    else match regIdx o 0x2010 4 9 with
    | some i => s.modStream i (fun x => { x with fails := clearBits x.fails (bitsOf v 16 8) })
    | none => match regIdx o 0x4100 4 8 with
      | some b => writeTransit b v s
      | none => writeRet uGb o v s

/-- Writes of Kingpost registers (R355). -/
def writeKp (o v : Nat) (s : State) : State :=
  if o = 8 then
    { s with kp := { s.kp with
        twin := clearBits s.kp.twin (bitsOf v 0 8), cfs := clearBits s.kp.cfs (bitsOf v 8 8)
        entropy := clearBits s.kp.entropy (bitsOf v 16 8), refused := clearBits s.kp.refused (bitsOf v 24 8) } }
  else writeRet uKp o v s

/-- Writes of Guyline registers (R132, R133). -/
def writeGl (o v : Nat) (s : State) : State :=
  if o = 0 then
    (if s.gl.lock then s else { s with gl := { s.gl with coord := BitVec.ofNat 32 (v &&& 0x7FF7FF) } })
  else match regIdx o 0x1000 4 64 with
  | some n =>
    let s1 := if (s.link n).enable = bitOf v 0 && !s.portTest n then s else linkEnableTested n (bitOf v 0) s
    if bitOf v 1 then linkRearm n s1 else s1
  | none => writeRet uGl o v s

/-- Writes of Sill registers (R209, R211, R212). -/
def writeSl (o v : Nat) (s : State) : State :=
  match o with
  | 0x000 => { s with sill := { s.sill with
      rackSlot := if s.sill.poolEn then s.sill.rackSlot else bitsOf v 0 5, poolEn := bitOf v 5 } }
  | 0x200 => { s with sill := { s.sill with
      corrected := clearBits s.sill.corrected (bitsOf v 0 16), uncorrectable := clearBits s.sill.uncorrectable (bitsOf v 16 8)
      checkFail := clearBits s.sill.checkFail (bitsOf v 24 8) } }
  | 0x204 => { s with sill := { s.sill with
      t0Late := clearBits s.sill.t0Late (bitsOf v 0 12), t1Late := clearBits s.sill.t1Late (bitsOf v 12 10)
      sledLate := clearBits s.sill.sledLate (bitsOf v 22 10) } }
  | _ => writeRet uSl o v s

/-- Writes of Pegs registers (R249, R250). -/
def writePg (o v : Nat) (s : State) : State :=
  match o with
  | 0x8 =>
    let lp := bitsOf v 0 8
    if lp = 0 || 120 < lp then countMalformed s else { s with pegs := { s.pegs with linkDelay := lp } }
  | 0xC => { s with pegs := { s.pegs with late := clearBits s.pegs.late (bitsOf v 0 16) } }
  | _ => writeRet uPg o v s

/-- DM_THERM (R316). -/
def writeTherm (v : Nat) (s : State) : State :=
  let h := bitsOf v 0 8
  let c := bitsOf v 8 8
  let t := bitsOf v 16 8
  if h < c && c < t && t ≤ 125 then { s with damper := { s.damper with tHot := h, tCrit := c, tTrip := t } } else countMalformed s

/-- Writes of Damper registers (R316 to R322). -/
def writeDm (o v : Nat) (s : State) : State :=
  match o with
  | 0x04 => writeTherm v s
  | 0x08 =>
    let k := bitsOf v 0 6
    if k = 0 || 40 < k then s else { s with damper := { s.damper with slope := k } }
  | 0x0C => { s with damper := { s.damper with idleW := bitsOf v 0 11 } }
  | 0x10 => { s with damper := { s.damper with events := clearBits s.damper.events (bitsOf v 16 8) } }
  | _ => match regIdx o 0x140 4 16 with
    | some p => s.modView p (fun x => { x with beWeight := bitsOf v 0 8 })
    | none => match regIdx o 0x200 4 32 with
      | some b => { s with damper := { s.damper with rated := s.damper.rated.set b (bitsOf v 0 8) } }
      | none => writeRet uDm o v s

/-- The threshold actions a source's events can name (R428): what CONTEXT, ENGINE and PARTITION act on. -/
def actionNamed (n action : Nat) : Bool :=
  match action with
  | 2 => 0xA0 ≤ n && n ≤ 0xAF
  | 3 => (0x10 ≤ n && n ≤ 0x2B) || (0x40 ≤ n && n ≤ 0x7F) || n = 0x85
  | 4 => n = 0x07 || (0x2C ≤ n && n ≤ 0x3B) || (0x90 ≤ n && n ≤ 0xBF)
  | _ => true

/-- PL_SRC_CFG n (R428, R451). -/
def writeSrc (n v : Nat) (s : State) : State :=
  let a := bitsOf v 0 3
  let w := bitsOf v 4 3
  let t := bitsOf v 8 8
  if 5 < a || 5 < w || (t = 0 && a ≠ 0) || !actionNamed n a then countMalformed s
  else s.setSrc n { s.src n with action := a, notify := bitOf v 3, notified := false, window := w, thresh := t }

/-- PL_RESET_REQ (R455). -/
def writeReset (v : Nat) (s : State) : State :=
  let t := bitsOf v 8 12
  match bitsOf v 0 2 with
  | 1 => resetReqEngine t s
  | 2 => resetReqPartition t s
  | 3 => resetReqChip t s
  | _ => countMalformed s

/-- Writes of Plumb registers (R450 to R456). -/
def writePl (o v : Nat) (s : State) : State :=
  match o with
  | 0x904 => { s with plumb := { s.plumb with
      contextTo := clearBits s.plumb.contextTo (bitsOf v 0 8), engineTo := clearBits s.plumb.engineTo (bitsOf v 8 8)
      partitionTo := clearBits s.plumb.partitionTo (bitsOf v 16 8), chipTo := clearBits s.plumb.chipTo (bitsOf v 24 8) } }
  | 0x908 => writeReset v s
  | 0x910 => if bitOf v 1 then dumpAck s else s
  | _ => match regIdx o 0 4 8 with
    | some w => { s with plumb := { s.plumb with sticky := s.plumb.sticky &&& ~~~ (BitVec.ofNat 256 (v * 2 ^ (32 * w))) } }
    | none => match regIdx o 0x100 4 256 with
      | some n => writeSrc n v s
      | none => writeRet uPl o v s

/-- Writes of Scribe registers (R508, R512); RESUME before HALT (R507). -/
def writeSc (via : Access) (o v : Nat) (s : State) : State :=
  match o with
  | 0x00 => { s with scribe := { s.scribe with
      secondary := clearBits s.scribe.secondary (bitsOf v 8 8), ignored := clearBits s.scribe.ignored (bitsOf v 16 8) } }
  | 0x18 =>
    if !ctrlAllowed via s then countMalformed s
    else
      let s1 := if bitOf v 1 then haltCtrlResume via (bitOf v 2) (bitsOf v 8 24) s else s
      if bitOf v 0 then haltCtrlHalt via (bitOf v 2) (bitsOf v 8 24) s1 else s1
  | _ => writeRet uSc o v s

/-- A write of a channel's register (R541 to R546). -/
def writeChan (via : Access) (c k v : Nat) (s : State) : State :=
  let w := BitVec.ofNat 32 v
  match k with
  | 0x00 => mbInPush via c w s
  | 0x04 => onChan via c (fun q => { q with overflow := q.overflow && !bitOf v 8, discarded := q.discarded && !bitOf v 9 }) s
  | 0x0C => onChan via c (fun q => { q with lost := clearBits q.lost (bitsOf v 8 8), underflow := q.underflow && !bitOf v 16 }) s
  | 0x10 => ringDoorbells via c w s
  | 0x14 => onChan via c (fun q => { q with dbOut := q.dbOut &&& ~~~ w }) s
  | 0x18 => onChan via c (fun q => { q with dbMask := w }) s
  | 0x1C => onChan via c (fun q => { q with peerReset := q.peerReset && !bitOf v 8 }) s
  | _ => onChan via c (fun q => q) s

/-- Writes of mailbox registers. -/
def writeMb (via : Access) (o v : Nat) (s : State) : State :=
  if o < 0x800 then (if (chanReg s (o / 0x100) (o % 0x100)).isSome then writeChan via (o / 0x100) (o % 0x100) v s else s)
  else if o = 0x800 then mbAssignWrite (BitVec.ofNat 32 v) s
  else writeRet uMb o v s

/-- SL_POOL_MAP k (R213): RWL. -/
def writePoolMap (p k v : Nat) (s : State) : State :=
  let home := bitsOf v 0 11
  let valid := bitOf v 63
  let old := (s.part p).view.poolMap.find? (fun e => e.1 = k)
  if s.sealedFrom p then
    (if old.elim (0, false) (fun e => e.2) = (home, valid) then s else countPartMalformed p s)
  else
    s.modView p (fun x => { x with
      poolMap := ((x.poolMap.filter (fun e => e.1 < k)) ++ (if home = 0 && !valid then [] else [(k, home, valid)])) ++
        x.poolMap.filter (fun e => k < e.1) })

/-- A write that reaches a register of view p (R532). -/
def writeView (via : Access) (p o v : Nat) (s : State) : State :=
  match o with
  | 0x0A08 => s.modView p (fun x => { x with
      stale := clearBits x.stale (bitsOf v 0 8), saturated := clearBits x.saturated (bitsOf v 8 8)
      overrun := clearBits x.overrun (bitsOf v 16 8), timeout := clearBits x.timeout (bitsOf v 24 8) })
  | 0x0C00 =>
    let q := bitsOf v 0 12
    if q = 0 || 4000 < q then s else s.modView p (fun x => { x with sliceQ := q })
  | 0x0C08 => s.modView p (fun x => { x with
      broken := clearBits x.broken (bitsOf v 16 8), delayed := clearBits x.delayed (bitsOf v 24 8) })
  | 0x0D00 => s.modTrace p (fun t => { t with lost := clearBits t.lost (bitsOf v 16 16) })
  | 0x0F00 => if bitOf v 0 then partResetReq p s else s
  | 0x0F80 => s.modView p (fun x => { x with malformed := clearBits x.malformed (bitsOf v 0 16) })
  | _ =>
    if o < 0x20 then writeRing (.part p) o v s
    else if 0x1000 ≤ o && o < 0x1020 then
      (match s.chanOf p with
       | some c => writeChan via c (o - 0x1000) v s
       | none => s)
    else match regIdx o 0x800 8 64 with
    | some k => writePoolMap p k v s
    | none => s

/-- How an access to view p ends before its register is reached (R371, R407, R533): none where it goes on. -/
def viewGate (via : Access) (p : Nat) (s : State) : Option State :=
  match via with
  | .vf _ => if (s.part p).tdi = .error then some (s.emit (.unsupportedRequest p)) else none
  | .pf _ =>
    if (s.part p).struck then some s
    else if (s.part p).tdi = .locked || (s.part p).tdi = .run then some (countPartMalformed p s)
    else none
  | .tap => none

/-- A write of the whole register at an offset of the window. -/
def writeWindow (via : Access) (w v : Nat) (s : State) : State :=
  if w < 0x100000 then writeGlobal w v s
  else if w < 0x200000 then writeKp (w - 0x100000) v s
  else if w < 0x400000 then writeGl (w - 0x200000) v s
  else if w < 0x600000 then writeSl (w - 0x400000) v s
  else if w < 0x800000 then writePg (w - 0x600000) v s
  else if w < 0x900000 then writeDm (w - 0x800000) v s
  else if w < 0xA00000 then writePl (w - 0x900000) v s
  else if w < 0xB00000 then writeSc via (w - 0xA00000) v s
  else if w < 0xC00000 then writeMb via (w - 0xB00000) v s
  else match viewOf w with
    | some (p, k) => writeView via p k v s
    | none => s

/-- The path of an access for the held halves: function 0 is one path. -/
def pathOf : Access → Access
  | .pf _ => .pf false
  | a => a

/-- A half held or latched (R530): for writes `true`. -/
def State.half? (s : State) (via : Access) (w : Nat) (write : Bool) : Option Word :=
  (s.vs.halves.find? (fun h => h.1 = pathOf via && h.2.1 = w && h.2.2.1 = write)).map (fun h => h.2.2.2)

def dropHalf (via : Access) (w : Nat) (write : Bool) (s : State) : State :=
  { s with vs := { s.vs with halves := s.vs.halves.filter (fun h => !(h.1 = pathOf via && h.2.1 = w && h.2.2.1 = write)) } }

def putHalf (via : Access) (w : Nat) (write : Bool) (x : Word) (s : State) : State :=
  let t := dropHalf via w write s
  { t with vs := { t.vs with halves := (pathOf via, w, write, x) :: t.vs.halves } }

/-- A write of the whole register, or of a half of a 64-bit one (R530). -/
def writeSized (via : Access) (w : Nat) (v : Quad) (wide : Bool) (s : State) : State :=
  match regAt s w, regAt s (w - 4) with
  | some (true, _), _ =>
    if wide then writeWindow via w v.toNat s else putHalf via w true (v.setWidth 32) s
  | none, some (true, x) =>
    if wide || w % 8 ≠ 4 then s
    else
      let low := match s.half? via (w - 4) true with | some l => l.toNat | none => x % 2 ^ 32
      writeWindow via (w - 4) (low + 2 ^ 32 * bitsOf v.toNat 0 32) (dropHalf via (w - 4) true s)
  | _, _ => writeWindow via w (bitsOf v.toNat 0 32) s

/-- A register write that reaches the block (R530, R531, R533). -/
def registerWrite (via : Access) (o : Nat) (v : Quad) (wide : Bool) (s : State) : State :=
  let w := windowOf via o
  if !s.up then s
  else
    match (viewOf w).bind (fun k => viewGate via k.1 s) with
    | some t => t
    | none => if malformedAccess s w (if wide then 8 else 4) true then countAt via w s else writeSized via w v wide s

/-- MALFORMED_REGISTER_ACCESS: nothing but the count; a read returns zero (R530). -/
def malformedRegisterAccess (via : Access) (o size : Nat) (write : Bool) (s : State) : State :=
  let w := windowOf via o
  if !s.up || !malformedAccess s w size write then s
  else
    match via, viewOf w with
    | .vf p, _ =>
      if (s.part p).tdi = .error then s.emit (.unsupportedRequest p)
      else if write then countAt via w s else (countAt via w s).emit (.readData 0)
    | _, _ => if write then countAt via w s else (countAt via w s).emit (.readData 0)

/-- A write of a ring register through an access path: a partition ring's through its view, the management ring's in the global
unit. -/
def ringVia (via : Access) (ring : RingId) (s : State) (f : State → State) : State :=
  if !s.up then s
  else
    match ring, via with
    | .mgmt, .vf _ => s
    | .mgmt, _ => f s
    | .part p, .vf q => if p ≠ q then s else (viewGate via p s).getD (f s)
    | .part p, _ => if 16 ≤ p then s else (viewGate via p s).getD (f s)

/-- PL_PART_RESET.REQ through a view (R457). -/
def partResetVia (via : Access) (p : Nat) (s : State) : State := ringVia via (.part p) s (partResetReq p)

/-! ### The TAP (R473, R474, R481) -/

/-- REG_ACCESS is in the state's set, and the register within the open level's reach: operator debug does not reach tenants'
views. -/
def tapReach (o : Nat) (s : State) : Bool :=
  s.fuses.lc ≠ .endOfLife && s.opDebug && (s.fullDebug || (match viewOf o with | some (p, _) => p = 0 | none => true))

/-- The instruction selected. -/
def selectTap (k : Nat) (s : State) : State := { s with vs := { s.vs with tap := k } }

/-- BYPASS. -/
def tapBypass (s : State) : State := if s.start.pwrAon then selectTap 0 s else s

/-- IDCODE returns GB_ID. -/
def tapIdcode (s : State) : State :=
  if s.start.pwrAon then (selectTap 1 s).emit (.tap (BitVec.ofNat 32 s.gbId)) else s

/-- The channel whose register an offset names. -/
def chanAt (w : Nat) (s : State) : Option (Nat × Nat) :=
  match viewOf w with
  | some (p, k) => if 0x1000 ≤ k && k < 0x1020 then (s.chanOf p).map (fun c => (c, k - 0x1000)) else none
  | none =>
    if 0xB00000 ≤ w && w < 0xB00800 && w % 0x100 < 0x20 then some ((w - 0xB00000) / 0x100, w % 0x100) else none

/-- A 32-bit read through the TAP, with what it does to the register (R530, R543). -/
def tapRead (o : Nat) (s : State) : Nat × State :=
  match chanAt o s with
  | some (c, k) =>
    if !chanAccess .tap c s then (0, countVia .tap s)
    else if k = 8 then
      (readVia .tap o s, s.modChan c popOut)
    else (readVia .tap o s, s)
  | none =>
    match regAt s o, regAt s (o - 4) with
    | some (true, x), _ => (x % 2 ^ 32, putHalf .tap o false (BitVec.ofNat 32 (x / 2 ^ 32)) s)
    | none, some (true, x) =>
      if o % 8 ≠ 4 then (0, s)
      else ((s.half? .tap (o - 4) false).elim (x / 2 ^ 32) (fun h => h.toNat), dropHalf .tap (o - 4) false s)
    | _, _ => (readVia .tap o s, s)

/-- REG_ACCESS: a 32-bit read or write of the window. -/
def tapRegAccess (write : Bool) (o : Nat) (v : Word) (s : State) : State :=
  if !s.start.pwrAon then s
  else if !tapReach o s then selectTap 0 s
  else
    let s1 := selectTap 2 s
    if !s.up then (if write then s1 else s1.emit (.tap 0))
    else if malformedAccess s1 o 4 write then (if write then countAt .tap o s1 else (countAt .tap o s1).emit (.tap 0))
    else if write then registerWrite .tap o (v.setWidth 64) false s1
    else
      let r := tapRead o s1
      r.2.emit (.tap (BitVec.ofNat 32 r.1))

/-- An instruction of the Test state alone (R481). -/
def tapTest (k : Nat) (f : State → State) (s : State) : State :=
  if !s.start.pwrAon then s else if s.fuses.lc ≠ .test then selectTap 0 s else f (selectTap k s)

/-- SCAN: what the chains shift out is left open (log 36). -/
def tapScan (s : State) : State :=
  tapTest 3 (fun t => let (v, u) := t.draw; u.emit (.tap (BitVec.ofNat 32 v))) s

/-! ### Power epochs (R290, R491, R533) -/

/-- POWER_EPOCH_BOUNDARY: the Damper's part, Scribe's epoch sets and the latched views. -/
def powerEpochBoundary (s : State) : State :=
  if !s.up then s
  else
    let s1 := s.cmds.ctxs.foldl (fun t c => noteWait c.slot t) (damperEpoch s)
    let s2 := { s1 with cmds := { s1.cmds with ctxs := s1.cmds.ctxs.map (fun c => { c with epochSet := c.accounting }) } }
    (List.range 16).foldl (fun t p => latchView p t) s2

end Sys2Proof.Machine
end

