-- ==== Sys2Proof/Machine/Submit.lean ====
section
/-! DEFINITION. How a command packet is checked, staged, started and answered (03 R52 to R74), from every carrier: the CMD port,
rings, sessions. And what the block does by itself after each command (log 8): commands that can start start, and replies whose
condition holds are written. -/

namespace Sys2Proof.Machine

/-! ### What a command is given beside its packet -/

/-- What the memory answered; an empty read where the command carries none. -/
def auxMem : Aux → MemRead
  | .mem m => m
  | _ => .ok []

/-- A blob that no check accepts. -/
def noBlob : Blob := { read := .ok [], header := 0, padZero := false, targetOk := false, key := none, twinsOk := true }

def auxBlob : Aux → Blob
  | .blob b => b
  | _ => noBlob

def auxSet : Aux → BindSet
  | .bindSet b => b
  | _ => { read := .ok [], zerosOk := false, format := 0, flags := 0, count := 0, minSvn := 0, verifierId := 0, entry := none,
           policyMacOk := false }

def auxToken : Aux → DebugToken
  | .token t => t
  | _ => { read := .ok [], wellFormed := false, targetOk := false, domain := 0, part := 0, commit := 0, spkiHash := 0, sigOk := false }

def auxResp : Aux → DebugResp
  | .resp d => d
  | _ => { challengeHashOk := false, deviceIdOk := false, scope := 0, sigsOk := false }

def auxFailed : Aux → List Nat
  | .failed es => es
  | _ => []

def auxTwins : Aux → Bool
  | .twins ok => ok
  | _ => true

/-- BIND_UNWRAP, an armed injection of kind 9 spoiling the verdict of the entry that names this block (R523). -/
def startBindUnwrapTested (r : CmdRef) (p : Packet) (b : BindSet) (s : State) : State :=
  match b.entry with
  | none => startBindUnwrap r p b s
  | some e =>
    withTwins 9 [0xF0, 0xF1, 0xF2] e.twinsOk
      (fun ok t => startBindUnwrap r p { b with entry := some { e with twinsOk := ok } } t) s

/-! ### Opcodes -/

/-- Step 3's layout of each opcode, against the objects as they stand (R71, R563). -/
def layoutOf (op : Op) (p : Packet) (s : State) : Layout :=
  match op with
  | .send => layoutSend p s
  | .sendMirror => layoutSendMirror p s
  | .recvPost => layoutRecvPost p s
  | .recvCancel => layoutRecvCancel p s
  | .ringSetup => layoutRingSetup p s
  | .allReduce => layoutCollective 2 p s
  | .reduceScatter => layoutCollective 3 p s
  | .allGather => layoutCollective 4 p s
  | .broadcast => layoutCollective 5 p s
  | .unfold => layoutUnfold p s
  | .atomic => layoutAtomic p s
  | .invalidate => layoutInvalidate p s
  | .pegAlloc => layoutPegAlloc p s
  | .pegFree => layoutPegFree p s
  | .signal => layoutSignal p s
  | .wait => layoutWait p s
  | .fence => layoutFence p s
  | .exportPeg => layoutExport p s
  | .importPeg => layoutImport p s
  | .ringDeclare => layoutRingDeclare p s
  | .pegRead => layoutPegRead p s
  | .keyLoad => layoutKeyLoad p s
  | .keyEvict => layoutKeyEvict p s
  | .keyGenerate => layoutKeyGenerate p s
  | .keyQuery => layoutKeyQuery p s
  | .keyPinRc => layoutKeyPinRc p s
  | .bindUnwrap => layoutBindUnwrap p s
  | .getEvidence => layoutGetEvidence p s
  | .getCerts => layoutGetCerts p s
  | .getMeasurements => layoutGetMeasurements p s
  | .neighbourKeyx => layoutNeighbourKeyx p s
  | .keyClaim => layoutKeyClaim p s
  | .partCreate => layoutPartCreate p s
  | .partSeal => layoutPartSeal p s
  | .partDestroy => layoutPartDestroy p s
  | .partRelease => layoutPartRelease p s
  | .ctxRegister => layoutCtxRegister p s
  | .ctxRelease => layoutCtxRelease p s
  | .tdiBind => layoutTdiBind p s
  | .partQuery => layoutPartQuery p s
  | .ctxReset => layoutCtxReset p s
  | .admitRequest => layoutAdmitRequest p s
  | .admitRelease => layoutAdmitRelease p s
  | .shaperSet => layoutShaperSet p s
  | .p0Reserve => layoutP0Reserve p s
  | .sharedOptIn => layoutSharedOptIn p s
  | .calQuery => layoutCalQuery p s
  | .setPkgLimit => layoutSetPkgLimit p s
  | .grantQuery => layoutGrantQuery p s
  | .enterState => layoutEnterState p s
  | .throttleQuery => layoutThrottleQuery p s
  | .counterSample => layoutCounterSample p s
  | .traceStart => layoutTraceStart p s
  | .traceStop => layoutTraceStop p s
  | .halt => layoutHalt p s
  | .resume => layoutResume p s
  | .debugOpenTenant => layoutDebugOpenTenant p s
  | .debugOpenOperator => layoutDebugOpenOperator p s
  | .debugChallenge => layoutDebugChallenge p s
  | .debugResponse => layoutDebugResponse p s
  | .lcQuery => layoutLcQuery p s
  | .lcTransition => layoutLcTransition p s
  | .lcStatus => layoutLcStatus p s
  | .katRun => layoutKatRun p s
  | .loopback => layoutLoopback p s
  | .faultInject => layoutFaultInject p s
  | .memtest => layoutMemtest p s

/-- Step 11 and the effect of each opcode. -/
def startOf (op : Op) (r : CmdRef) (p : Packet) (a : Aux) (s : State) : State :=
  match op with
  | .send => startSend r p s
  | .sendMirror => startSendMirror r p s
  | .recvPost => startRecvPost r p s
  | .recvCancel => startRecvCancel r p s
  | .ringSetup => startRingSetup r p (auxMem a) s
  | .allReduce => startCollective 2 r p s
  | .reduceScatter => startCollective 3 r p s
  | .allGather => startCollective 4 r p s
  | .broadcast => startCollective 5 r p s
  | .unfold => startUnfold r p s
  | .atomic => startAtomic r p s
  | .invalidate => startInvalidate r p s
  | .pegAlloc => startPegAlloc r p s
  | .pegFree => startPegFree r p s
  | .signal => startSignal r p s
  | .wait => startWait r p s
  | .fence => startFence r p s
  | .exportPeg => startExport r p s
  | .importPeg => startImport r p s
  | .ringDeclare => startRingDeclare r p s
  | .pegRead => startPegRead r p s
  | .keyLoad => withTwins 9 [0xF0, 0xF1, 0xF2] (auxBlob a).twinsOk (fun ok t => startKeyLoad r p { auxBlob a with twinsOk := ok } t) s
  | .keyEvict => startKeyEvict r p s
  | .keyGenerate => withTwins 9 [0xF0, 0xF1, 0xF3] (auxTwins a) (fun ok t => startKeyGenerate r p ok t) s
  | .keyQuery => startKeyQuery r p s
  | .keyPinRc => withTwins 9 [0xF0, 0xF1, 0xF2] (auxBlob a).twinsOk (fun ok t => startKeyPinRc r p { auxBlob a with twinsOk := ok } t) s
  | .bindUnwrap => startBindUnwrapTested r p (auxSet a) s
  | .getEvidence => withTwins 9 [0xF2] (auxTwins a) (fun ok t => startGetEvidence r p ok t) s
  | .getCerts => startGetCerts r p s
  | .getMeasurements => startGetMeasurements r p s
  | .neighbourKeyx => startNeighbourKeyx r p s
  | .keyClaim => withTwins 9 [0xF2] (auxTwins a) (fun ok t => startKeyClaim r p ok t) s
  | .partCreate => startPartCreate r p (auxMem a) s
  | .partSeal => startPartSeal r p s
  | .partDestroy => startPartDestroy r p s
  | .partRelease => startPartRelease r p s
  | .ctxRegister => startCtxRegister r p s
  | .ctxRelease => startCtxRelease r p (auxMem a) s
  | .tdiBind => startTdiBind r p s
  | .partQuery => startPartQuery r p s
  | .ctxReset => startCtxReset r p s
  | .admitRequest => startAdmitRequest r p s
  | .admitRelease => startAdmitRelease r p s
  | .shaperSet => startShaperSet r p s
  | .p0Reserve => startP0Reserve r p s
  | .sharedOptIn => startSharedOptIn r p s
  | .calQuery => startCalQuery r p s
  | .setPkgLimit => startSetPkgLimit r p s
  | .grantQuery => startGrantQuery r p s
  | .enterState => startEnterState r p s
  | .throttleQuery => startThrottleQuery r p s
  | .counterSample => startCounterSample r p s
  | .traceStart => startTraceStart r p s
  | .traceStop => startTraceStop r p s
  | .halt => startHalt r p s
  | .resume => startResume r p s
  | .debugOpenTenant => startDebugOpenTenant r p (auxToken a) s
  | .debugOpenOperator => startDebugOpenOperator r p s
  | .debugChallenge => withTwins 9 [0xF2] (auxTwins a) (fun ok t => startDebugChallenge r p ok t) s
  | .debugResponse => startDebugResponse r p (auxResp a) s
  | .lcQuery => startLcQuery r p s
  | .lcTransition => startLcTransition r p s
  | .lcStatus => startLcStatus r p s
  | .katRun => startKatRun r p (auxFailed a) s
  | .loopback => startLoopback r p s
  | .faultInject => startFaultInject r p s
  | .memtest => startMemtest r p s

/-! ### Starting a command -/

/-- The named command of a packet (R56, R58). -/
def refOf (op : Op) (p : Packet) (s : State) : CmdRef :=
  { src := p.src, part := srcPart p.src, slot := bitsOf p.handle.toNat 0 12, gen := bitsOf p.handle.toNat 24 8, seq := p.seq,
    cls := op.cls, op := op.code, flags := p.flags, layer := p.layer, operator := p.operator, step := p.step, start := s.now }

/-- Between two states around its start, a context's command was accepted: it is in flight, or its context's account has moved
(R71: a refusal moves nothing). -/
def tookEffect (r : CmdRef) (before after : State) : Bool :=
  (after.inflight? r).isSome ||
    (after.ctx? r.slot).map (fun c => c.accounting) ≠ (before.ctx? r.slot).map (fun c => c.accounting)

/-- A command starts; an accepted command of a context opens its windows (R489). -/
def begin_ (op : Op) (r0 : CmdRef) (p : Packet) (a : Aux) (s : State) : State :=
  let r := { r0 with start := s.now }
  let t := startOf op r p a s
  if srcIsCtx r.src && tookEffect r s t then startOf op r p a (noteStart r s) else t

/-- What R71 step 11 asks of the issuing partition and the low-power state before the opcode's own conditions (R309, R389, R436). -/
def gateRefusal (op : Op) (r : CmdRef) (s : State) : Option Nat :=
  if !srcIsCtx r.src then none
  else
    let q := s.part r.part
    let hardware := !isFirmwareClass op.cls
    if q.pstate = .created && (hardware || (op.cls ≠ 2 && op.cls ≠ 3 && op.cls ≠ 8 && op.cls ≠ 9 && op ≠ .keyLoad)) then some 0x0308
    else if hardware && (q.pstate = .faulted || q.view.rungActive) then some 0x0305
    else if hardware && op.cls ≠ 7 && s.damper.lstate = .l2 then some 0x0905
    else none

/-- An earlier command of the context that has not started (R55). -/
def earlierWaits (r : CmdRef) (l : List Staged) : Bool := l.any (fun x => srcIsCtx x.ref.src && x.ref.slot = r.slot)

/-- A command may start: no halt holds it (R74, R500), its turn in its context has come (R55), what it waits for in staging has
passed (R113, R159, R237, R420), and Tlatriward serves (R326, R435). `ahead` are the commands accepted before it. -/
def canStart (op : Op) (r : CmdRef) (p : Packet) (ahead : List Staged) (s : State) : Bool :=
  s.up &&
    (!s.scribe.halted || (r.src = .mgmt && (op = .halt || op = .resume || op = .counterSample))) &&
    (!srcIsCtx r.src || !earlierWaits r ahead) &&
    (!(srcIsCtx r.src && bitOf p.flags.toNat 1) ||
      !s.cmds.inflight.any (fun x => srcIsCtx x.ref.src && x.ref.slot = r.slot && x.ref.gen = r.gen)) &&
    (match op with
     | .fence => !waitsFence r s
     | .send => !waitsSend r.part false p s
     | .sendMirror => !waitsSend r.part true p s
     | .ringSetup => true
     | .allReduce => !waitsGroup r.part p s
     | .reduceScatter => !waitsGroup r.part p s
     | .allGather => !waitsGroup r.part p s
     | .broadcast => !waitsGroup r.part p s
     | .admitRequest => !waitsAdmit r s
     | _ => true) &&
    (!isFirmwareClass op.cls || (!s.kp.halted && !s.blocked 0x700))

/-- Serving order of the firmware queue (R54): life-cycle and test classes, the management ring, P0, sessions, tenants. -/
def fwRank (r : CmdRef) : Nat :=
  if r.cls = 0xB || r.cls = 0xC then 0
  else match r.src with
    | .mgmt => 1
    | .cmd 0 => 2
    | .ring 0 => 2
    | .session _ => 3
    | _ => 4

/-- The opcode of a waiting command. -/
def Staged.op (x : Staged) : Option Op := opOf x.ref.cls x.ref.op

/-- The waiting commands that could start, with whether they lie in the firmware queue; those ahead of each are of both queues. -/
def startable (s : State) (l : List Staged) (other : List Staged) : List Staged :=
  let pick (x : Staged) (ahead : List Staged) : Bool :=
    match x.op with
    | some op => canStart op x.ref x.pkt (ahead ++ other.filter (fun y => srcIsCtx y.ref.src && srcIsCtx x.ref.src &&
        y.ref.slot = x.ref.slot && (x.ref.seq + 2 ^ 32 - y.ref.seq) % 2 ^ 32 < 2 ^ 31)) s
    | none => false
  ((List.range l.length).filter (fun i => match l[i]? with | some x => pick x (l.take i) | none => false)).filterMap (fun i => l[i]?)

/-- The next firmware command: of the lowest rank; among tenants, round robin from the partition served last (R54). -/
def nextFirmware (s : State) : Option Staged :=
  let c := startable s s.cmds.firmware s.cmds.staged
  let best := c.foldl (fun m x => min m (fwRank x.ref)) 5
  let g := c.filter (fun x => fwRank x.ref = best)
  if best < 4 then g.head?
  else (List.range 16).findSome? (fun i => g.find? (fun x => x.ref.part = (s.cmds.fwLast + 1 + i) % 16))

/-- The round robin over tenants goes on from the one served (R54). -/
def noteServed (r : CmdRef) (s : State) : State :=
  if isFirmwareClass r.cls && fwRank r = 4 then { s with cmds := { s.cmds with fwLast := r.part } } else s

/-- A waiting command leaves its queue and starts. -/
def startStaged (x : Staged) (s : State) : State :=
  let s1 := { s with cmds := { s.cmds with staged := s.cmds.staged.filter (fun y => y ≠ x)
                                           firmware := s.cmds.firmware.filter (fun y => y ≠ x) } }
  match x.op with
  | none => s1
  | some op =>
    match gateRefusal op x.ref s1 with
    | some c => complete x.ref stWrongState (detailOf c) s1
    | none => begin_ op x.ref x.pkt x.aux (noteServed x.ref s1)

/-! ### What the block does by itself after each command (log 8) -/

/-- Conditions that end waiting commands. -/
def settleAll (s : State) : State :=
  finishEcho (finishDebugOpen (finishStops (finishEvictions (discardUnreachable (finishDrains (runContextRungs s))))))

/-- Waiting commands that can start do, hardware classes first. -/
def startAll : Nat → State → State
  | 0, s => s
  | k + 1, s =>
    match (startable s s.cmds.staged s.cmds.firmware).head? with
    | some x => startAll k (settleAll (startStaged x s))
    | none =>
      match nextFirmware s with
      | some x => startAll k (settleAll (startStaged x s))
      | none => s

/-- Everything the block does by itself after a command. -/
def pump (s : State) : State :=
  let t := settleAll s
  lookAll (startAll (t.cmds.staged.length + t.cmds.firmware.length) t)

/-- A command's answer: its effect, then what the block does by itself; the queue of waiting commands stays (log 8). -/
def settled (s t : State) : Host.Outcome State Fault Refusal := .next { pump t with pending := s.pending }

/-! ### Acceptance (R71) -/

/-- The expected sequence of the command's context, ring or session (R73); none where there is no such session. -/
def expectedSeq (r : CmdRef) (s : State) : Option Nat :=
  match r.src with
  | .mgmt => some s.cmds.mgmtExpected
  | .session id => (s.vs.sessions.find? (fun x => x.id = id)).map (fun x => x.expected)
  | _ => (s.ctx? r.slot).map (fun c => c.expected)

/-- The expected sequence advances (R71, R73). -/
def advanceSeq (r : CmdRef) (s : State) : State :=
  match r.src with
  | .mgmt => { s with cmds := { s.cmds with mgmtExpected := (s.cmds.mgmtExpected + 1) % 2 ^ 32 } }
  | .session id =>
    { s with vs := { s.vs with sessions := s.vs.sessions.map (fun x =>
        if x.id = id then { x with expected := (x.expected + 1) % 2 ^ 32 } else x) } }
  | _ => s.modCtx r.slot (fun c => { c with expected := (c.expected + 1) % 2 ^ 32 })

/-- The issuing partition is being struck; of a verifier session, the partition its KEY_LOAD names (R71 step 4, R384, R389). -/
def issuerStruck (op : Op) (p : Packet) (s : State) : Bool :=
  match p.src with
  | .cmd q => (s.part q).struck
  | .ring q => (s.part q).struck
  | .session _ => op = .keyLoad && (s.part (pbits p 30 0 4)).struck
  | .mgmt => false

/-- HANDLE names no registered context of the issuing partition, or is not zero from the operator or a verifier (R71 step 5, R72). -/
def badHandle (r : CmdRef) (p : Packet) (s : State) : Bool :=
  if srcIsCtx r.src then
    match s.ctx? r.slot with
    | some c => c.part ≠ r.part
    | none => true
  else p.handle ≠ 0

/-- The queue a command would enter is full (R54, R71 step 7). -/
def queueFull (op : Op) (r : CmdRef) (s : State) : Bool :=
  if isFirmwareClass op.cls then 256 ≤ s.cmds.firmware.length
  else 8 ≤ (s.cmds.staged.filter (fun x => x.ref.slot = r.slot)).length

/-- Steps 1 and 3 to 8 of R71: the first failure, with its detail. -/
def earlyRefusal (op : Op) (r : CmdRef) (p : Packet) (s : State) : Option (Nat × Nat) :=
  if p.fmt ≠ 1 then some (stMalformed, 3)
  else
    match (layoutOf op p s).offence p with
    | some o => some (stMalformed, o)
    | none =>
      if issuerStruck op p s then some (stBusyStrike, 0)
      else if badHandle r p s then some (stBadHandle, 0)
      else if srcIsCtx r.src && r.gen ≠ s.genOf r.slot then some (stStaleHandle, s.genOf r.slot)
      else if queueFull op r s then some (stQueueFull, 0)
      else
        match expectedSeq r s with
        | some e => if r.seq ≠ e then some (stSequenceGap, e) else none
        | none => none

/-- A roll forward waits, the End-of-Life wipe runs, or the state is End of Life: only LC_QUERY and LC_STATUS are served
(R75, R460, R470 to R472). -/
def State.lcOnly (s : State) : Bool := s.fuses.rollWaiting || s.fuses.wipeStep ≠ 0 || s.fuses.lc = .endOfLife

/-- The life-cycle state permits the opcode (R71 step 9, R75, R477, R481). -/
def lcPermits (op : Op) (s : State) : Bool :=
  if s.lcOnly then op = .lcQuery || op = .lcStatus
  else if s.fuses.lc = .blank then op.cls = 0xB || op.cls = 0xC
  else true

/-- Steps 9 to 11 of R71 as far as no opcode's own chapter gives them. -/
def lateRefusal (op : Op) (r : CmdRef) (s : State) : Option (Nat × Nat) :=
  let rom := !s.kp.ready && op ≠ .lcQuery && op ≠ .lcStatus
  if rom && !s.lcOnly then some (stWrongState, 0x0B07)
  else if !lcPermits op s || ((op = .faultInject || op = .memtest) && s.fuses.lc ≠ .test) ||
      (op = .debugChallenge && s.fuses.lc ≠ .production) then some (stLifecycle, s.fuses.lc.code)
  else if !op.issuers.any (fun i => issuerIs i r.src) then some (stNotPermitted, 0)
  else (gateRefusal op r s).map (fun c => (stWrongState, c))

/-- The reply of a refused command (R59, R71). -/
def refuseCmd (r : CmdRef) (e : Nat × Nat) (s : State) : State :=
  deliver r.src (replyOf r e.1 false (detailOf e.2) s) s

/-- An accepted command: it starts, or it waits in its queue (R54, R55). -/
def acceptCmd (op : Op) (r : CmdRef) (p : Packet) (a : Aux) (s : State) : State :=
  let first := s.cmds.firmware.isEmpty || !isFirmwareClass op.cls
  if first && canStart op r p (s.cmds.staged ++ s.cmds.firmware) s then begin_ op r p a (noteServed r s)
  else if isFirmwareClass op.cls then
    { s with cmds := { s.cmds with firmware := s.cmds.firmware ++ [{ ref := r, pkt := p, aux := a }] } }
  else { s with cmds := { s.cmds with staged := s.cmds.staged ++ [{ ref := r, pkt := p, aux := a }] } }

/-- The checks of R71 from step 3 on, step 1 with them, and what follows. -/
def checkCmd (op : Op) (p : Packet) (a : Aux) (s : State) : State :=
  let r := refOf op p s
  match earlyRefusal op r p s with
  | some e => refuseCmd r e s
  | none =>
    let s1 := advanceSeq r s
    match lateRefusal op r s1 with
    | some e => refuseCmd r e s1
    | none => acceptCmd op r p a s1

/-! ### The CMD port (R52, R53) -/

/-- Replies held at the CMD port leave, oldest first. -/
def drainHeld (s : State) : State :=
  s.cmds.cmdHeld.foldl (fun t h => t.emit (.reply h.1 h.2)) { s with cmds := { s.cmds with cmdHeld := [] } }

/-- The die's ready at the CMD port. -/
def setReadyLevel (b : Bool) (s : State) : State :=
  let t := { s with cmds := { s.cmds with cmdReady := b } }
  if b then drainHeld t else t

/-- CMD_READY: the die raises ready. -/
def cmdReadyRise (s : State) : State := if s.up then setReadyLevel true s else s

/-- The block hears a source: the port while fewer than 64 replies are held and the partition exists, a session while it is open. -/
def heard (src : Source) (s : State) : Bool :=
  match src with
  | .cmd q => q < s.parts.length && s.cmds.cmdHeld.length < 64
  | .ring q => q < s.parts.length
  | .mgmt => true
  | .session id => s.vs.sessions.any (fun x => x.id = id)

/-- A command packet reaches the block. -/
def submit (op : Op) (p : Packet) (a : Aux) (s : State) : State :=
  if !s.up then s
  else
    let s1 := match p.src with | .cmd _ => setReadyLevel p.ready s | _ => s
    if heard p.src s1 then checkCmd op p a s1 else s1

/-- A command packet as a ring entry or a message holds it: CLASS and OPCODE may name nothing (R71 step 2). -/
def submitRaw (w : RawPacket) (s : State) : State :=
  match opOf w.cls w.opcode with
  | some op => submit op w.pkt w.aux s
  | none =>
    if !s.up || !heard w.pkt.src s then s
    else
      let r : CmdRef := { refOf .send w.pkt s with cls := w.cls, op := w.opcode }
      refuseCmd r (stMalformed, if w.pkt.fmt ≠ 1 then 3 else if 1 ≤ w.cls && w.cls ≤ 12 then 1 else 0) s

/-! ### Rings (R68, R69) -/

/-- The block fetches from a ring: enabled, not stopped by the TDI, a strike or a partition rung, and for partitions not before
READY (R371, R372, R405, R436, R460). -/
def ringFetches (ring : RingId) (s : State) : Bool :=
  s.up && (s.ringOf ring).enable &&
    (match ring with
     | .mgmt => true
     | .part p =>
       let q := s.part p
       s.kp.ready && q.tdi ≠ .error && !s.vs.stopping.contains p && !q.struck && !q.view.rungActive)

/-- Entries fetched in ring order while each has reply space (R69). -/
def fetchEntries (ring : RingId) : List RawPacket → State → State
  | [], s => s
  | w :: rest, s =>
    if !ringFetches ring s || (s.ringOf ring).sqUsed = 0 then s
    else if !s.ringRoom ring then s.modRing ring (fun q => { q with fetchStopped := true })
    else
      let src : Source := match ring with | .part p => .ring p | .mgmt => .mgmt
      let s1 := s.modRing ring (fun q => { q with sqHead := (q.sqHead + 1) % 65536, fetchStopped := false })
      fetchEntries ring rest (submitRaw { w with pkt := { w.pkt with src := src } } s1)

/-- RING_FETCH: up to 32 entries (R68). -/
def ringFetch (ring : RingId) (entries : List RawPacket) (s : State) : State := fetchEntries ring (entries.take 32) s

/-- COMPLETION_WRITE: the oldest held reply goes to a completion ring that has room (R69, R372). -/
def completionWrite (ring : RingId) (s : State) : State :=
  let r := s.ringOf ring
  match r.held with
  | [] => s
  | rep :: rest =>
    if !s.up || r.cqFull || s.ringHeld ring then s
    else writeCompletion ring rep (s.modRing ring (fun q => { q with held := rest }))

/-- A ring of a partition that exists. -/
def ringExists : RingId → Bool
  | .part p => p < 16
  | .mgmt => true

/-! ### Verifier sessions (R366 to R368, R373) -/

/-- The payload length R368 asks for. -/
def vendorLen (w : RawPacket) : Nat := if w.cls = 1 && (w.opcode = 1 || w.opcode = 5) then 68 + pf w.pkt 28 2 else 68

/-- VENDOR_DEFINED_REQUEST. -/
def vendorDefinedRequest (id : Nat) (headerOk : Bool) (len : Nat) (w : RawPacket) (s : State) : State :=
  if !s.up then s
  else
    match sessionError s id with
    | some e => spdmError e s
    | none =>
      if (s.vs.sessions.find? (fun x => x.id = id)).any (fun x => x.tsm) then spdmError eUnexpected s
      else if !headerOk || len ≠ vendorLen w then spdmError eInvalid s
      else submitRaw { w with pkt := { w.pkt with src := .session id } } s

end Sys2Proof.Machine
end

