-- ==== Sys2Proof/Machine/Commands.lean ====
section
/-! DEFINITION. The meanings of the command packets, classes 0x1 to 0xC (03 R76 to R78): each is submitted from its source (R71), and
then the block does what follows by itself. -/

namespace Sys2Proof.Machine

/-- SEND (R126). -/
def execSend (p : Packet) (s : State) : Host.Outcome State Fault Refusal :=
  settled s (submit .send p .none s)

/-- SEND_MIRROR (R121). -/
def execSendMirror (p : Packet) (s : State) : Host.Outcome State Fault Refusal :=
  settled s (submit .sendMirror p .none s)

/-- RECV_POST (R128). -/
def execRecvPost (p : Packet) (s : State) : Host.Outcome State Fault Refusal :=
  settled s (submit .recvPost p .none s)

/-- RECV_CANCEL (R129). -/
def execRecvCancel (p : Packet) (s : State) : Host.Outcome State Fault Refusal :=
  settled s (submit .recvCancel p .none s)

/-- RING_SETUP (R139). -/
def execRingSetup (p : Packet) (list : MemRead) (s : State) : Host.Outcome State Fault Refusal :=
  settled s (submit .ringSetup p (.mem list) s)

/-- ALL_REDUCE (R144). -/
def execAllReduce (p : Packet) (s : State) : Host.Outcome State Fault Refusal :=
  settled s (submit .allReduce p .none s)

/-- REDUCE_SCATTER (R144). -/
def execReduceScatter (p : Packet) (s : State) : Host.Outcome State Fault Refusal :=
  settled s (submit .reduceScatter p .none s)

/-- ALL_GATHER (R144). -/
def execAllGather (p : Packet) (s : State) : Host.Outcome State Fault Refusal :=
  settled s (submit .allGather p .none s)

/-- BROADCAST (R144). -/
def execBroadcast (p : Packet) (s : State) : Host.Outcome State Fault Refusal :=
  settled s (submit .broadcast p .none s)

/-- UNFOLD (R206). -/
def execUnfold (p : Packet) (s : State) : Host.Outcome State Fault Refusal :=
  settled s (submit .unfold p .none s)

/-- ATOMIC (R200). -/
def execAtomic (p : Packet) (s : State) : Host.Outcome State Fault Refusal :=
  settled s (submit .atomic p .none s)

/-- INVALIDATE (R199). -/
def execInvalidate (p : Packet) (s : State) : Host.Outcome State Fault Refusal :=
  settled s (submit .invalidate p .none s)

/-- PEG_ALLOC (R220). -/
def execPegAlloc (p : Packet) (s : State) : Host.Outcome State Fault Refusal :=
  settled s (submit .pegAlloc p .none s)

/-- PEG_FREE (R221). -/
def execPegFree (p : Packet) (s : State) : Host.Outcome State Fault Refusal :=
  settled s (submit .pegFree p .none s)

/-- SIGNAL (R222). -/
def execSignal (p : Packet) (s : State) : Host.Outcome State Fault Refusal :=
  settled s (submit .signal p .none s)

/-- WAIT (R223). -/
def execWait (p : Packet) (s : State) : Host.Outcome State Fault Refusal :=
  settled s (submit .wait p .none s)

/-- FENCE (R236). -/
def execFence (p : Packet) (s : State) : Host.Outcome State Fault Refusal :=
  settled s (submit .fence p .none s)

/-- EXPORT (R227). -/
def execExportPeg (p : Packet) (s : State) : Host.Outcome State Fault Refusal :=
  settled s (submit .exportPeg p .none s)

/-- IMPORT (R228). -/
def execImportPeg (p : Packet) (s : State) : Host.Outcome State Fault Refusal :=
  settled s (submit .importPeg p .none s)

/-- RING_DECLARE (R242). -/
def execRingDeclare (p : Packet) (s : State) : Host.Outcome State Fault Refusal :=
  settled s (submit .ringDeclare p .none s)

/-- PEG_READ (R224). -/
def execPegRead (p : Packet) (s : State) : Host.Outcome State Fault Refusal :=
  settled s (submit .pegRead p .none s)

/-- KEY_LOAD (R345). -/
def execKeyLoad (p : Packet) (blob : Blob) (s : State) : Host.Outcome State Fault Refusal :=
  settled s (submit .keyLoad p (.blob blob) s)

/-- KEY_EVICT (R347). -/
def execKeyEvict (p : Packet) (s : State) : Host.Outcome State Fault Refusal :=
  settled s (submit .keyEvict p .none s)

/-- KEY_GENERATE (R346). -/
def execKeyGenerate (p : Packet) (twinsOk : Bool) (s : State) : Host.Outcome State Fault Refusal :=
  settled s (submit .keyGenerate p (.twins twinsOk) s)

/-- KEY_QUERY (R348). -/
def execKeyQuery (p : Packet) (s : State) : Host.Outcome State Fault Refusal :=
  settled s (submit .keyQuery p .none s)

/-- KEY_PIN_RC (R343). -/
def execKeyPinRc (p : Packet) (blob : Blob) (s : State) : Host.Outcome State Fault Refusal :=
  settled s (submit .keyPinRc p (.blob blob) s)

/-- BIND_UNWRAP (R383). -/
def execBindUnwrap (p : Packet) (set : BindSet) (s : State) : Host.Outcome State Fault Refusal :=
  settled s (submit .bindUnwrap p (.bindSet set) s)

/-- GET_EVIDENCE (R361). -/
def execGetEvidence (p : Packet) (twinsOk : Bool) (s : State) : Host.Outcome State Fault Refusal :=
  settled s (submit .getEvidence p (.twins twinsOk) s)

/-- GET_CERTS (R364). -/
def execGetCerts (p : Packet) (s : State) : Host.Outcome State Fault Refusal :=
  settled s (submit .getCerts p .none s)

/-- GET_MEASUREMENTS (R364). -/
def execGetMeasurements (p : Packet) (s : State) : Host.Outcome State Fault Refusal :=
  settled s (submit .getMeasurements p .none s)

/-- NEIGHBOUR_KEYX (R381). -/
def execNeighbourKeyx (p : Packet) (s : State) : Host.Outcome State Fault Refusal :=
  settled s (submit .neighbourKeyx p .none s)

/-- KEY_CLAIM (R351). -/
def execKeyClaim (p : Packet) (twinsOk : Bool) (s : State) : Host.Outcome State Fault Refusal :=
  settled s (submit .keyClaim p (.twins twinsOk) s)

/-- PART_CREATE (R391). -/
def execPartCreate (p : Packet) (desc : MemRead) (s : State) : Host.Outcome State Fault Refusal :=
  settled s (submit .partCreate p (.mem desc) s)

/-- PART_SEAL (R396). -/
def execPartSeal (p : Packet) (s : State) : Host.Outcome State Fault Refusal :=
  settled s (submit .partSeal p .none s)

/-- PART_DESTROY (R404). -/
def execPartDestroy (p : Packet) (s : State) : Host.Outcome State Fault Refusal :=
  settled s (submit .partDestroy p .none s)

/-- PART_RELEASE (R404). -/
def execPartRelease (p : Packet) (s : State) : Host.Outcome State Fault Refusal :=
  settled s (submit .partRelease p .none s)

/-- CTX_REGISTER (R397). -/
def execCtxRegister (p : Packet) (s : State) : Host.Outcome State Fault Refusal :=
  settled s (submit .ctxRegister p .none s)

/-- CTX_RELEASE (R400). -/
def execCtxRelease (p : Packet) (scrub : MemRead) (s : State) : Host.Outcome State Fault Refusal :=
  settled s (submit .ctxRelease p (.mem scrub) s)

/-- TDI_BIND (R395). -/
def execTdiBind (p : Packet) (s : State) : Host.Outcome State Fault Refusal :=
  settled s (submit .tdiBind p .none s)

/-- PART_QUERY (R403). -/
def execPartQuery (p : Packet) (s : State) : Host.Outcome State Fault Refusal :=
  settled s (submit .partQuery p .none s)

/-- CTX_RESET (R398). -/
def execCtxReset (p : Packet) (s : State) : Host.Outcome State Fault Refusal :=
  settled s (submit .ctxReset p .none s)

/-- ADMIT_REQUEST (R267). -/
def execAdmitRequest (p : Packet) (s : State) : Host.Outcome State Fault Refusal :=
  settled s (submit .admitRequest p .none s)

/-- ADMIT_RELEASE (R269). -/
def execAdmitRelease (p : Packet) (s : State) : Host.Outcome State Fault Refusal :=
  settled s (submit .admitRelease p .none s)

/-- SHAPER_SET (R272). -/
def execShaperSet (p : Packet) (s : State) : Host.Outcome State Fault Refusal :=
  settled s (submit .shaperSet p .none s)

/-- P0_RESERVE (R268). -/
def execP0Reserve (p : Packet) (s : State) : Host.Outcome State Fault Refusal :=
  settled s (submit .p0Reserve p .none s)

/-- SHARED_OPT_IN (R273). -/
def execSharedOptIn (p : Packet) (s : State) : Host.Outcome State Fault Refusal :=
  settled s (submit .sharedOptIn p .none s)

/-- CAL_QUERY (R270). -/
def execCalQuery (p : Packet) (s : State) : Host.Outcome State Fault Refusal :=
  settled s (submit .calQuery p .none s)

/-- SET_PKG_LIMIT (R313). -/
def execSetPkgLimit (p : Packet) (s : State) : Host.Outcome State Fault Refusal :=
  settled s (submit .setPkgLimit p .none s)

/-- GRANT_QUERY (R312). -/
def execGrantQuery (p : Packet) (s : State) : Host.Outcome State Fault Refusal :=
  settled s (submit .grantQuery p .none s)

/-- ENTER_STATE (R310). -/
def execEnterState (p : Packet) (s : State) : Host.Outcome State Fault Refusal :=
  settled s (submit .enterState p .none s)

/-- THROTTLE_QUERY (R311). -/
def execThrottleQuery (p : Packet) (s : State) : Host.Outcome State Fault Refusal :=
  settled s (submit .throttleQuery p .none s)

/-- COUNTER_SAMPLE (R492). -/
def execCounterSample (p : Packet) (s : State) : Host.Outcome State Fault Refusal :=
  settled s (submit .counterSample p .none s)

/-- TRACE_START (R494). -/
def execTraceStart (p : Packet) (s : State) : Host.Outcome State Fault Refusal :=
  settled s (submit .traceStart p .none s)

/-- TRACE_STOP (R494). -/
def execTraceStop (p : Packet) (s : State) : Host.Outcome State Fault Refusal :=
  settled s (submit .traceStop p .none s)

/-- HALT (R502). -/
def execHalt (p : Packet) (s : State) : Host.Outcome State Fault Refusal :=
  settled s (submit .halt p .none s)

/-- RESUME (R506). -/
def execResume (p : Packet) (s : State) : Host.Outcome State Fault Refusal :=
  settled s (submit .resume p .none s)

/-- DEBUG_OPEN_TENANT (R475). -/
def execDebugOpenTenant (p : Packet) (token : DebugToken) (s : State) : Host.Outcome State Fault Refusal :=
  settled s (submit .debugOpenTenant p (.token token) s)

/-- DEBUG_OPEN_OPERATOR (R473). -/
def execDebugOpenOperator (p : Packet) (s : State) : Host.Outcome State Fault Refusal :=
  settled s (submit .debugOpenOperator p .none s)

/-- DEBUG_CHALLENGE (R477). -/
def execDebugChallenge (p : Packet) (twinsOk : Bool) (s : State) : Host.Outcome State Fault Refusal :=
  settled s (submit .debugChallenge p (.twins twinsOk) s)

/-- DEBUG_RESPONSE (R479). -/
def execDebugResponse (p : Packet) (resp : DebugResp) (s : State) : Host.Outcome State Fault Refusal :=
  settled s (submit .debugResponse p (.resp resp) s)

/-- LC_QUERY (R469). -/
def execLcQuery (p : Packet) (s : State) : Host.Outcome State Fault Refusal :=
  settled s (submit .lcQuery p .none s)

/-- LC_TRANSITION (R468). -/
def execLcTransition (p : Packet) (s : State) : Host.Outcome State Fault Refusal :=
  settled s (submit .lcTransition p .none s)

/-- LC_STATUS (R469). -/
def execLcStatus (p : Packet) (s : State) : Host.Outcome State Fault Refusal :=
  settled s (submit .lcStatus p .none s)

/-- KAT_RUN (R521). -/
def execKatRun (p : Packet) (failed : List Nat) (s : State) : Host.Outcome State Fault Refusal :=
  settled s (submit .katRun p (.failed failed) s)

/-- LOOPBACK (R516). -/
def execLoopback (p : Packet) (s : State) : Host.Outcome State Fault Refusal :=
  settled s (submit .loopback p .none s)

/-- FAULT_INJECT (R523). -/
def execFaultInject (p : Packet) (s : State) : Host.Outcome State Fault Refusal :=
  settled s (submit .faultInject p .none s)

/-- MEMTEST (R524). -/
def execMemtest (p : Packet) (s : State) : Host.Outcome State Fault Refusal :=
  settled s (submit .memtest p .none s)

end Sys2Proof.Machine
end

