-- ==== Sys2Proof/Machine/Events.lean ====
section
/-! DEFINITION. The meanings of the other rows: what arrives at the block's ports, what its own engines do, and what its timers and
registers ask for. Each does what its chapter says, and then the block does what follows by itself. -/

namespace Sys2Proof.Machine

/-- A row of one of the 64 links; the start's parallel steps follow the links (R459, log 33). -/
def onLink (n : Nat) (f : State → State) (s : State) : State := if n < 64 then advanceStart (f s) else s

/-- No command waits: one KCLK cycle passes, and with it the End-of-Life wipe's time (R446, R471; log 3). -/
def idle (s : State) : Host.Outcome State Fault Refusal := settled s (wipeTick (kclk s))

/-- SQ_TAIL_DOORBELL (R68). -/
def execSqTailDoorbell (via : Access) (ring : RingId) (tail : Nat) (s : State) : Host.Outcome State Fault Refusal :=
  settled s (ringVia via ring s (writeTail ring tail))

/-- CQ_HEAD_ADVANCE (R69). -/
def execCqHeadAdvance (via : Access) (ring : RingId) (head : Nat) (s : State) : Host.Outcome State Fault Refusal :=
  settled s (ringVia via ring s (writeHead ring head))

/-- RING_ENABLE_WRITE (R68). -/
def execRingEnableWrite (via : Access) (ring : RingId) (value : Word) (s : State) : Host.Outcome State Fault Refusal :=
  settled s (ringVia via ring s (writeRingCtrl ring value.toNat))

/-- RING_FETCH (R69). -/
def execRingFetch (ring : RingId) (entries : List RawPacket) (s : State) : Host.Outcome State Fault Refusal :=
  settled s (if ringExists ring then Sys2Proof.Machine.ringFetch ring entries s else s)

/-- COMPLETION_WRITE (R69). -/
def execCompletionWrite (ring : RingId) (s : State) : Host.Outcome State Fault Refusal :=
  settled s (if ringExists ring then Sys2Proof.Machine.completionWrite ring s else s)

/-- PARCEL_ELIGIBLE (R264). -/
def execParcelEligible (parcel : Nat) (s : State) : Host.Outcome State Fault Refusal :=
  settled s (Sys2Proof.Machine.parcelEligible parcel s)

/-- FLIT_SEND (R260). -/
def execFlitSend (link : Nat) (slot : Nat) (twinsOk : Bool) (lanePair : Nat) (source : MemRead) (s : State) : Host.Outcome State Fault Refusal :=
  settled s (onLink link (flitSendTested link slot twinsOk lanePair source) s)

/-- FLIT_RECEIVE (R95). -/
def execFlitReceive (link : Nat) (flit : RxFlit) (s : State) : Host.Outcome State Fault Refusal :=
  settled s (onLink link (Sys2Proof.Machine.flitReceive link flit) s)

/-- ACK_TIMEOUT (R95). -/
def execAckTimeout (link : Nat) (s : State) : Host.Outcome State Fault Refusal :=
  settled s (onLink link (Sys2Proof.Machine.ackTimeout link) s)

/-- LINK_UP (R88). -/
def execLinkUp (link : Nat) (s : State) : Host.Outcome State Fault Refusal :=
  settled s (onLink link (Sys2Proof.Machine.linkUp link) s)

/-- LINK_TRAINED (R88). -/
def execLinkTrained (link : Nat) (s : State) : Host.Outcome State Fault Refusal :=
  settled s (onLink link (Sys2Proof.Machine.linkTrained link) s)

/-- LINK_DOWN (R98). -/
def execLinkDown (link : Nat) (s : State) : Host.Outcome State Fault Refusal :=
  settled s (onLink link (Sys2Proof.Machine.linkDown link) s)

/-- LINK_SILENCE_TIMEOUT (R98). -/
def execLinkSilenceTimeout (link : Nat) (s : State) : Host.Outcome State Fault Refusal :=
  settled s (onLink link (linkSilence link) s)

/-- EXCHANGE_RETRY (R88). -/
def execExchangeRetry (link : Nat) (s : State) : Host.Outcome State Fault Refusal :=
  settled s (onLink link (Sys2Proof.Machine.exchangeRetry link) s)

/-- KEYX_HELLO (R377). -/
def execKeyxHello (link : Nat) (msg : Hello) (s : State) : Host.Outcome State Fault Refusal :=
  settled s (onLink link (Sys2Proof.Machine.keyxHello link msg) s)

/-- KEYX_CERTS (R379). -/
def execKeyxCerts (link : Nat) (seen : CertsSeen) (s : State) : Host.Outcome State Fault Refusal :=
  settled s (onLink link (Sys2Proof.Machine.keyxCerts link seen) s)

/-- KEYX_KEM_I (R378). -/
def execKeyxKemI (link : Nat) (seen : KemSeen) (s : State) : Host.Outcome State Fault Refusal :=
  settled s (onLink link (kemTested seen (Sys2Proof.Machine.keyxKemI link)) s)

/-- KEYX_KEM_R (R378). -/
def execKeyxKemR (link : Nat) (seen : KemSeen) (s : State) : Host.Outcome State Fault Refusal :=
  settled s (onLink link (kemTested seen (Sys2Proof.Machine.keyxKemR link)) s)

/-- KEYX_CONFIRM (R378). -/
def execKeyxConfirm (link : Nat) (seen : KemSeen) (s : State) : Host.Outcome State Fault Refusal :=
  settled s (onLink link (kemTested seen (Sys2Proof.Machine.keyxConfirm link)) s)

/-- KEYX_REFUSE (R379). -/
def execKeyxRefuse (link : Nat) (reason : Nat) (s : State) : Host.Outcome State Fault Refusal :=
  settled s (onLink link (Sys2Proof.Machine.keyxRefuse link reason) s)

/-- KEYX_TIMEOUT (R379). -/
def execKeyxTimeout (link : Nat) (s : State) : Host.Outcome State Fault Refusal :=
  settled s (onLink link (Sys2Proof.Machine.keyxTimeout link) s)

/-- HOP_KEY_ROTATION (R102). -/
def execHopKeyRotation (link : Nat) (s : State) : Host.Outcome State Fault Refusal :=
  settled s (onLink link (Sys2Proof.Machine.hopKeyRotation link) s)

/-- KEYX_ROTATE (R380). -/
def execKeyxRotate (link : Nat) (n : Nat) (s : State) : Host.Outcome State Fault Refusal :=
  settled s (onLink link (Sys2Proof.Machine.keyxRotate link n) s)

/-- KEYX_ROTATE_ACK (R380). -/
def execKeyxRotateAck (link : Nat) (n : Nat) (s : State) : Host.Outcome State Fault Refusal :=
  settled s (onLink link (Sys2Proof.Machine.keyxRotateAck link n) s)

/-- ROTATE_RESEND (R380). -/
def execRotateResend (link : Nat) (s : State) : Host.Outcome State Fault Refusal :=
  settled s (onLink link (Sys2Proof.Machine.rotateResend link) s)

/-- PARCEL_ACCEPT (R111). -/
def execParcelAccept (parcel : RxParcel) (s : State) : Host.Outcome State Fault Refusal :=
  settled s (parcelAcceptTested parcel s)

/-- PACK_RECEIVE (R115). -/
def execPackReceive (pack : Pack) (s : State) : Host.Outcome State Fault Refusal :=
  settled s (Sys2Proof.Machine.packReceive pack s)

/-- PARCEL_DECLARED_LOST (R115). -/
def execParcelDeclaredLost (parcel : Nat) (s : State) : Host.Outcome State Fault Refusal :=
  settled s (Sys2Proof.Machine.parcelDeclaredLost parcel s)

/-- LDT_PASSED (R275). -/
def execLdtPassed (parcel : Nat) (s : State) : Host.Outcome State Fault Refusal :=
  settled s (Sys2Proof.Machine.ldtPassed parcel s)

/-- BOUND_NOTICE_SEND (R276). -/
def execBoundNoticeSend (link : Nat) (detour : Bool) (s : State) : Host.Outcome State Fault Refusal :=
  settled s (onLink link (Sys2Proof.Machine.boundNoticeSend link detour) s)

/-- BOUND_NOTICE_RECEIVE (R276). -/
def execBoundNoticeReceive (notice : BoundNotice) (s : State) : Host.Outcome State Fault Refusal :=
  settled s (Sys2Proof.Machine.boundNoticeReceive notice s)

/-- REDUCE_FORWARD_UNIT (R150). -/
def execReduceForwardUnit (part : Nat) (group : Nat) (unit : Nat) (gather : Bool) (data : UnitData) (s : State) : Host.Outcome State Fault Refusal :=
  settled s (reduceForwardTested part group unit gather data s)

/-- COLLECTIVE_TIMEOUT (R159). -/
def execCollectiveTimeout (part : Nat) (group : Nat) (s : State) : Host.Outcome State Fault Refusal :=
  settled s (Sys2Proof.Machine.collectiveTimeout part group s)

/-- UNFOLD_UNIT (R165). -/
def execUnfoldUnit (part : Nat) (slot : Nat) (seq : Nat) (unit : Nat) (data : WeightUnit) (s : State) : Host.Outcome State Fault Refusal :=
  settled s (unfoldTested part slot seq unit data s)

/-- MEM_READ (R174). -/
def execMemRead (port : Nat) (part : Nat) (addr : Nat) (op : Nat) (s : State) : Host.Outcome State Fault Refusal :=
  settled s (dieAccess port part addr op [] s)

/-- MEM_WRITE (R175). -/
def execMemWrite (port : Nat) (part : Nat) (addr : Nat) (op : Nat) (data : List Byte) (s : State) : Host.Outcome State Fault Refusal :=
  settled s (dieAccess port part addr op data s)

/-- STACK_ANSWER (R179). -/
def execStackAnswer (access : Nat) (first : List Sector) (second : List Sector) (late : Bool) (s : State) : Host.Outcome State Fault Refusal :=
  settled s (stackAnswerTested access first second late s)

/-- TIER1_ANSWER (R187). -/
def execTier1Answer (access : Nat) (line : List Byte) (checkOk : Bool) (twinsOk : Bool) (late : Bool) (s : State) : Host.Outcome State Fault Refusal :=
  settled s (tier1AnswerTested access line checkOk twinsOk late s)

/-- SLED_ANSWER (R193). -/
def execSledAnswer (link : Nat) (tag : Nat) (status : Nat) (line : List Byte) (checkOk : Bool) (twinsOk : Bool) (late : Bool) (s : State) : Host.Outcome State Fault Refusal :=
  settled s (sledAnswerTested link tag status line checkOk twinsOk late s)

/-- SLED_TIMEOUT (R194). -/
def execSledTimeout (link : Nat) (tag : Nat) (s : State) : Host.Outcome State Fault Refusal :=
  settled s (Sys2Proof.Machine.sledTimeout link tag s)

/-- POOL_REQUEST_HOME (R204). -/
def execPoolRequestHome (src : Nat) (domain : Nat) (pseq : Nat) (cls : Nat) (req : PoolMsg) (line : MemRead) (s : State) : Host.Outcome State Fault Refusal :=
  settled s (Sys2Proof.Machine.poolRequestHome src domain pseq cls req line s)

/-- ANSWER_TIMEOUT (R440). -/
def execAnswerTimeout (request : Nat) (s : State) : Host.Outcome State Fault Refusal :=
  settled s (Sys2Proof.Machine.answerTimeout request s)

/-- PATROL_READ (R181). -/
def execPatrolRead (addr : Nat) (first : Sector) (second : Sector) (s : State) : Host.Outcome State Fault Refusal :=
  settled s (Sys2Proof.Machine.patrolRead addr first second s)

/-- COUNTER_SWEEP (R190). -/
def execCounterSweep (page : Nat) (s : State) : Host.Outcome State Fault Refusal :=
  settled s (Sys2Proof.Machine.counterSweep page s)

/-- GRANULE_CLEANED (R394). -/
def execGranuleCleaned (s : State) : Host.Outcome State Fault Refusal :=
  settled s (advanceStart (Sys2Proof.Machine.granuleCleaned s))

/-- PEG_REQUEST_APPLY (R234). -/
def execPegRequestApply (src : Nat) (domain : Nat) (msg : PegMsg) (s : State) : Host.Outcome State Fault Refusal :=
  settled s (pegRequestTested src domain msg s)

/-- PEG_ANSWER_APPLY (R231). -/
def execPegAnswerApply (src : Nat) (domain : Nat) (msg : PegMsg) (s : State) : Host.Outcome State Fault Refusal :=
  settled s (applyPegAnswer src domain msg s)

/-- PEG_WAIT_TIMEOUT (R225). -/
def execPegWaitTimeout (part : Nat) (slot : Nat) (seq : Nat) (s : State) : Host.Outcome State Fault Refusal :=
  settled s (waitTimeout part slot seq s)

/-- REMOTE_REGISTRATION_DROP (R232). -/
def execRemoteRegistrationDrop (src : Nat) (part : Nat) (context : Nat) (seq : Nat) (s : State) : Host.Outcome State Fault Refusal :=
  settled s (dropRegistration src part context seq s)

/-- SLICE_END (R279). -/
def execSliceEnd (part : Nat) (cls : Nat) (overrun : Nat) (s : State) : Host.Outcome State Fault Refusal :=
  settled s (Sys2Proof.Machine.sliceEnd part cls overrun s)

/-- RUN_LIMIT_FAULT (R80). -/
def execRunLimitFault (part : Nat) (slot : Nat) (seq : Nat) (s : State) : Host.Outcome State Fault Refusal :=
  settled s (Sys2Proof.Machine.runLimitFault part slot seq s)

/-- CALENDAR_TICK (R277). -/
def execCalendarTick (s : State) : Host.Outcome State Fault Refusal :=
  settled s (echoTick (Sys2Proof.Machine.calendarTick s))

/-- FRAME_BOUNDARY (R274). -/
def execFrameBoundary (s : State) : Host.Outcome State Fault Refusal :=
  settled s (Sys2Proof.Machine.frameBoundary s)

/-- FRAME_P_EDGE (R257). -/
def execFramePEdge (tod : Nat) (todValid : Bool) (s : State) : Host.Outcome State Fault Refusal :=
  settled s (Sys2Proof.Machine.framePEdge tod todValid s)

/-- FRAME_LOCK_LOST (R257). -/
def execFrameLockLost (s : State) : Host.Outcome State Fault Refusal :=
  settled s (Sys2Proof.Machine.frameLockLost s)

/-- BUDGET_TICK (R296). -/
def execBudgetTick (s : State) : Host.Outcome State Fault Refusal :=
  settled s (injectionTick (Sys2Proof.Machine.budgetTick s))

/-- POWER_EPOCH_BOUNDARY (R299). -/
def execPowerEpochBoundary (s : State) : Host.Outcome State Fault Refusal :=
  settled s (Sys2Proof.Machine.powerEpochBoundary s)

/-- TELEM_WORD (R291). -/
def execTelemWord (w : Word) (s : State) : Host.Outcome State Fault Refusal :=
  settled s (telemWordTested w s)

/-- TELEM_LOST (R303). -/
def execTelemLost (s : State) : Host.Outcome State Fault Refusal :=
  settled s (Sys2Proof.Machine.telemLost s)

/-- GRANT_VIOLATION (R293). -/
def execGrantViolation (part : Nat) (s : State) : Host.Outcome State Fault Refusal :=
  settled s (Sys2Proof.Machine.grantViolation part s)

/-- LIMIT_ALERT_CHANGE (R300). -/
def execLimitAlertChange (high : Bool) (s : State) : Host.Outcome State Fault Refusal :=
  settled s (Sys2Proof.Machine.limitAlertChange high s)

/-- REGULATOR_ALERT (R300). -/
def execRegulatorAlert (s : State) : Host.Outcome State Fault Refusal :=
  settled s (Sys2Proof.Machine.regulatorAlert s)

/-- LANE_GROUP_GATE (R308). -/
def execLaneGroupGate (tile : Nat) (group : Nat) (s : State) : Host.Outcome State Fault Refusal :=
  settled s (Sys2Proof.Machine.laneGroupGate tile group s)

/-- LANE_GROUP_WAKE (R308). -/
def execLaneGroupWake (tile : Nat) (group : Nat) (s : State) : Host.Outcome State Fault Refusal :=
  settled s (Sys2Proof.Machine.laneGroupWake tile group s)

/-- LOW_POWER_ENTRY (R309). -/
def execLowPowerEntry (s : State) : Host.Outcome State Fault Refusal :=
  settled s (Sys2Proof.Machine.lowPowerEntry s)

/-- L2_EXIT_COMPLETE (R309). -/
def execL2ExitComplete (s : State) : Host.Outcome State Fault Refusal :=
  settled s (Sys2Proof.Machine.l2ExitComplete s)

/-- ROOT_MONITOR_CHECK (R39). -/
def execRootMonitorCheck (count : Nat) (s : State) : Host.Outcome State Fault Refusal :=
  settled s (Sys2Proof.Machine.rootMonitorCheck count s)

/-- CHIP_RST_REQ (R430). -/
def execChipRstReq (s : State) : Host.Outcome State Fault Refusal :=
  settled s (Sys2Proof.Machine.chipRstReq s)

/-- CORE_POWER_FALL (R42). -/
def execCorePowerFall (s : State) : Host.Outcome State Fault Refusal :=
  settled s (Sys2Proof.Machine.corePowerFall s)

/-- POWER_LOSS (R42). -/
def execPowerLoss (s : State) : Host.Outcome State Fault Refusal :=
  settled s (Sys2Proof.Machine.powerLoss s)

/-- COLD_START (R459). -/
def execColdStart (f : StartFindings) (s : State) : Host.Outcome State Fault Refusal :=
  settled s (Sys2Proof.Machine.coldStart f s)

/-- WARM_START (R459). -/
def execWarmStart (f : StartFindings) (s : State) : Host.Outcome State Fault Refusal :=
  settled s (Sys2Proof.Machine.warmStart f s)

/-- VPP_FUSE_RECHECK (R470). -/
def execVppFuseRecheck (present : Bool) (s : State) : Host.Outcome State Fault Refusal :=
  settled s (Sys2Proof.Machine.vppFuseRecheck present s)

/-- IMAGE_FETCH (R465). -/
def execImageFetch (image : BootImage) (s : State) : Host.Outcome State Fault Refusal :=
  settled s (advanceStart (Sys2Proof.Machine.imageFetch image s))

/-- ENTROPY_HEALTH_FAIL (R346). -/
def execEntropyHealthFail (s : State) : Host.Outcome State Fault Refusal :=
  settled s (entropyFail s)

/-- RESEED_COMPLETE (R346). -/
def execReseedComplete (passed : Bool) (s : State) : Host.Outcome State Fault Refusal :=
  settled s (Sys2Proof.Machine.reseedComplete passed s)

/-- KP_CFLOW (R326). -/
def execKpCflow (s : State) : Host.Outcome State Fault Refusal :=
  settled s (Sys2Proof.Machine.kpCflow s)

/-- TEARDOWN_COMPLETE (R405). -/
def execTeardownComplete (part : Nat) (s : State) : Host.Outcome State Fault Refusal :=
  settled s (Sys2Proof.Machine.teardownComplete part s)

/-- STRIKE_S1_END (R406). -/
def execStrikeS1End (part : Nat) (s : State) : Host.Outcome State Fault Refusal :=
  settled s (Sys2Proof.Machine.strikeS1End part s)

/-- STRIKE_RESERVE_GRANT (R406). -/
def execStrikeReserveGrant (part : Nat) (s : State) : Host.Outcome State Fault Refusal :=
  settled s (Sys2Proof.Machine.strikeReserveGrant part s)

/-- STRIKE_S3_END (R406). -/
def execStrikeS3End (part : Nat) (s : State) : Host.Outcome State Fault Refusal :=
  settled s (Sys2Proof.Machine.strikeS3End part s)

/-- STRIKE_S4_END (R406). -/
def execStrikeS4End (part : Nat) (s : State) : Host.Outcome State Fault Refusal :=
  settled s (Sys2Proof.Machine.strikeS4End part s)

/-- ENGINE_RUNG (R433). -/
def execEngineRung (engine : Nat) (s : State) : Host.Outcome State Fault Refusal :=
  settled s (Sys2Proof.Machine.engineRung engine s)

/-- ENGINE_CHECK_DONE (R559). -/
def execEngineCheckDone (engine : Nat) (passed : Bool) (s : State) : Host.Outcome State Fault Refusal :=
  settled s (Sys2Proof.Machine.engineCheckDone engine passed s)

/-- PARTITION_RUNG (R436). -/
def execPartitionRung (part : Nat) (s : State) : Host.Outcome State Fault Refusal :=
  settled s (Sys2Proof.Machine.partitionRung part s)

/-- PARTITION_RUNG_COMPLETE (R436). -/
def execPartitionRungComplete (part : Nat) (s : State) : Host.Outcome State Fault Refusal :=
  settled s (Sys2Proof.Machine.partitionRungComplete part s)

/-- CHIP_RUNG (R437). -/
def execChipRung (cause : Nat) (dumpDone : Bool) (s : State) : Host.Outcome State Fault Refusal :=
  settled s (Sys2Proof.Machine.chipRung cause dumpDone s)

/-- TRAY_RUNG (R438). -/
def execTrayRung (cause : Nat) (s : State) : Host.Outcome State Fault Refusal :=
  settled s (Sys2Proof.Machine.trayRung cause s)

/-- LADDER_TIMEOUT (R431). -/
def execLadderTimeout (rung : Nat) (scope : Nat) (units : Nat) (engines : List Nat) (s : State) : Host.Outcome State Fault Refusal :=
  settled s (Sys2Proof.Machine.ladderTimeout rung scope units engines s)

/-- RESET_REQ_ENGINE (R455). -/
def execResetReqEngine (target : Nat) (s : State) : Host.Outcome State Fault Refusal :=
  settled s (Sys2Proof.Machine.resetReqEngine target s)

/-- RESET_REQ_PARTITION (R455). -/
def execResetReqPartition (target : Nat) (s : State) : Host.Outcome State Fault Refusal :=
  settled s (Sys2Proof.Machine.resetReqPartition target s)

/-- RESET_REQ_CHIP (R455). -/
def execResetReqChip (target : Nat) (s : State) : Host.Outcome State Fault Refusal :=
  settled s (Sys2Proof.Machine.resetReqChip target s)

/-- PART_RESET_REQ (R457). -/
def execPartResetReq (via : Access) (part : Nat) (s : State) : Host.Outcome State Fault Refusal :=
  settled s (partResetVia via part s)

/-- DUMP_ACK (R456). -/
def execDumpAck (s : State) : Host.Outcome State Fault Refusal :=
  settled s (Sys2Proof.Machine.dumpAck s)

/-- LINK_ENABLE_WRITE (R133). -/
def execLinkEnableWrite (link : Nat) (enable : Bool) (s : State) : Host.Outcome State Fault Refusal :=
  settled s (onLink link (fun t => if t.up then linkEnableTested link enable t else t) s)

/-- LINK_REARM (R133). -/
def execLinkRearm (link : Nat) (s : State) : Host.Outcome State Fault Refusal :=
  settled s (onLink link (Sys2Proof.Machine.linkRearm link) s)

/-- BACK_OK_WRITE (R283). -/
def execBackOkWrite (s : State) : Host.Outcome State Fault Refusal :=
  settled s (Sys2Proof.Machine.backOkWrite s)

/-- BOOT_GO_WRITE (R465). -/
def execBootGoWrite (value : Word) (s : State) : Host.Outcome State Fault Refusal :=
  settled s (if s.up then bootCtrlWrite value.toNat s else s)

/-- HALT_CTRL_HALT (R512). -/
def execHaltCtrlHalt (via : Access) (job : Bool) (domain : Nat) (s : State) : Host.Outcome State Fault Refusal :=
  settled s (Sys2Proof.Machine.haltCtrlHalt via job domain s)

/-- HALT_CTRL_RESUME (R512). -/
def execHaltCtrlResume (via : Access) (job : Bool) (domain : Nat) (s : State) : Host.Outcome State Fault Refusal :=
  settled s (Sys2Proof.Machine.haltCtrlResume via job domain s)

/-- HALT_CUT (R499). -/
def execHaltCut (s : State) : Host.Outcome State Fault Refusal :=
  settled s (Sys2Proof.Machine.haltCut s)

/-- HALT_FLIT_RECEIVE (R504). -/
def execHaltFlitReceive (link : Nat) (flit : HaltFlit) (s : State) : Host.Outcome State Fault Refusal :=
  settled s (onLink link (Sys2Proof.Machine.haltFlitReceive link flit) s)

/-- RESUME_FLIT_RECEIVE (R504). -/
def execResumeFlitReceive (link : Nat) (flit : HaltFlit) (s : State) : Host.Outcome State Fault Refusal :=
  settled s (onLink link (Sys2Proof.Machine.resumeFlitReceive link flit) s)

/-- HALT_RESTART (R506). -/
def execHaltRestart (s : State) : Host.Outcome State Fault Refusal :=
  settled s (Sys2Proof.Machine.haltRestart s)

/-- TRACE_SAMPLE (R495). -/
def execTraceSample (slot : Nat) (s : State) : Host.Outcome State Fault Refusal :=
  settled s (Sys2Proof.Machine.traceSample slot s)

/-- ECHO_REQUEST_RECEIVE (R519). -/
def execEchoRequestReceive (link : Nat) (probe : Probe) (s : State) : Host.Outcome State Fault Refusal :=
  settled s (onLink link (Sys2Proof.Machine.echoRequestReceive link probe) s)

/-- ECHO_RESPONSE_RECEIVE (R519). -/
def execEchoResponseReceive (link : Nat) (probe : Probe) (s : State) : Host.Outcome State Fault Refusal :=
  settled s (onLink link (Sys2Proof.Machine.echoResponseReceive link probe) s)

/-- MB_IN_PUSH (R543). -/
def execMbInPush (via : Access) (ch : Nat) (word : Word) (s : State) : Host.Outcome State Fault Refusal :=
  settled s (Sys2Proof.Machine.mbInPush via ch word s)

/-- MB_OUT_POP (R543). -/
def execMbOutPop (via : Access) (ch : Nat) (s : State) : Host.Outcome State Fault Refusal :=
  settled s (Sys2Proof.Machine.mbOutPop via ch s)

/-- MB_IN_READY (R545). -/
def execMbInReady (via : Access) (ch : Nat) (s : State) : Host.Outcome State Fault Refusal :=
  settled s (ringDoorbells via ch 1 s)

/-- MB_RESYNC (R545). -/
def execMbResync (via : Access) (ch : Nat) (s : State) : Host.Outcome State Fault Refusal :=
  settled s (ringDoorbells via ch 2 s)

/-- MB_TEST_DOORBELL (R545). -/
def execMbTestDoorbell (via : Access) (ch : Nat) (bit : Nat) (s : State) : Host.Outcome State Fault Refusal :=
  settled s (Sys2Proof.Machine.mbTestDoorbell via ch bit s)

/-- MB_ASSIGN_WRITE (R540). -/
def execMbAssignWrite (value : Word) (s : State) : Host.Outcome State Fault Refusal :=
  settled s (if s.up then Sys2Proof.Machine.mbAssignWrite value s else s)

/-- PING (R549). -/
def execPing (ch : Nat) (s : State) : Host.Outcome State Fault Refusal :=
  settled s (serveMail 1 ch s)

/-- BLOCK_STATE (R549). -/
def execBlockState (ch : Nat) (s : State) : Host.Outcome State Fault Refusal :=
  settled s (serveMail 2 ch s)

/-- PART_STATE (R549). -/
def execPartState (ch : Nat) (s : State) : Host.Outcome State Fault Refusal :=
  settled s (serveMail 3 ch s)

/-- NOTICE_MASK (R549). -/
def execNoticeMask (ch : Nat) (s : State) : Host.Outcome State Fault Refusal :=
  settled s (serveMail 4 ch s)

/-- MB_MESSAGE_TIMEOUT (R552). -/
def execMbMessageTimeout (ch : Nat) (s : State) : Host.Outcome State Fault Refusal :=
  settled s (Sys2Proof.Machine.mbMessageTimeout ch s)

/-- NOTICE_FAULT (R550). -/
def execNoticeFault (ch : Nat) (s : State) : Host.Outcome State Fault Refusal :=
  settled s (sendNotice 0x81 ch s)

/-- NOTICE_PART (R550). -/
def execNoticePart (ch : Nat) (s : State) : Host.Outcome State Fault Refusal :=
  settled s (sendNotice 0x82 ch s)

/-- NOTICE_START (R550). -/
def execNoticeStart (ch : Nat) (s : State) : Host.Outcome State Fault Refusal :=
  settled s (sendNotice 0x83 ch s)

/-- NOTICE_LOST (R550). -/
def execNoticeLost (ch : Nat) (s : State) : Host.Outcome State Fault Refusal :=
  settled s (sendLostNotice ch s)

/-- FUNCTION_LEVEL_RESET (R554). -/
def execFunctionLevelReset (fn : Option Nat) (s : State) : Host.Outcome State Fault Refusal :=
  settled s (Sys2Proof.Machine.functionLevelReset fn s)

/-- PCIE_LINK_RESET (R554). -/
def execPcieLinkReset (s : State) : Host.Outcome State Fault Refusal :=
  settled s (Sys2Proof.Machine.pcieLinkReset s)

/-- DOE_DISCOVERY (R365). -/
def execDoeDiscovery (index : Nat) (s : State) : Host.Outcome State Fault Refusal :=
  settled s (Sys2Proof.Machine.doeDiscovery index s)

/-- SPDM_REQUEST (R366). -/
def execSpdmRequest (req : SpdmReq) (s : State) : Host.Outcome State Fault Refusal :=
  settled s (Sys2Proof.Machine.spdmRequest req s)

/-- SPDM_SESSION_ESTABLISH (R367). -/
def execSpdmSessionEstablish (id : Nat) (mutualAuth : Bool) (chainOk : Bool) (leaf : Hash) (s : State) : Host.Outcome State Fault Refusal :=
  settled s (Sys2Proof.Machine.spdmSessionEstablish id mutualAuth chainOk leaf s)

/-- VENDOR_DEFINED_REQUEST (R368). -/
def execVendorDefinedRequest (session : Nat) (headerOk : Bool) (payloadLen : Nat) (pkt : RawPacket) (s : State) : Host.Outcome State Fault Refusal :=
  settled s (Sys2Proof.Machine.vendorDefinedRequest session headerOk payloadLen pkt s)

/-- IDE_KM_QUERY (R369). -/
def execIdeKmQuery (session : Nat) (s : State) : Host.Outcome State Fault Refusal :=
  settled s (Sys2Proof.Machine.ideKmQuery session s)

/-- IDE_KM_KEY_PROG (R369). -/
def execIdeKmKeyProg (session : Nat) (stream : Nat) (sub : Nat) (keySet : Nat) (streamId : Nat) (tee : Bool) (pcrc : Bool) (s : State) : Host.Outcome State Fault Refusal :=
  settled s (Sys2Proof.Machine.ideKmKeyProg session stream sub keySet streamId tee pcrc s)

/-- IDE_KM_K_SET_GO (R369). -/
def execIdeKmKSetGo (session : Nat) (stream : Nat) (sub : Nat) (keySet : Nat) (s : State) : Host.Outcome State Fault Refusal :=
  settled s (Sys2Proof.Machine.ideKmKSetGo session stream sub keySet s)

/-- IDE_KM_K_SET_STOP (R369). -/
def execIdeKmKSetStop (session : Nat) (stream : Nat) (sub : Nat) (keySet : Nat) (s : State) : Host.Outcome State Fault Refusal :=
  settled s (Sys2Proof.Machine.ideKmKSetStop session stream sub keySet s)

/-- IDE_CHECK_FAILURE (R369). -/
def execIdeCheckFailure (stream : Nat) (s : State) : Host.Outcome State Fault Refusal :=
  settled s (Sys2Proof.Machine.ideCheckFailure stream s)

/-- TDI_BAD_REQUEST (R371). -/
def execTdiBadRequest (part : Nat) (s : State) : Host.Outcome State Fault Refusal :=
  settled s (Sys2Proof.Machine.tdiBadRequest part s)

/-- GET_TDISP_VERSION (R370). -/
def execGetTdispVersion (session : Nat) (tdi : Nat) (s : State) : Host.Outcome State Fault Refusal :=
  settled s (Sys2Proof.Machine.getTdispVersion session tdi s)

/-- GET_TDISP_CAPABILITIES (R370). -/
def execGetTdispCapabilities (session : Nat) (tdi : Nat) (s : State) : Host.Outcome State Fault Refusal :=
  settled s (Sys2Proof.Machine.getTdispCapabilities session tdi s)

/-- LOCK_INTERFACE_REQUEST (R372). -/
def execLockInterfaceRequest (session : Nat) (tdi : Nat) (noFwUpdate : Bool) (lockMsix : Bool) (bindP2p : Bool) (redirect : Bool) (s : State) : Host.Outcome State Fault Refusal :=
  settled s (lockInterface session tdi noFwUpdate lockMsix bindP2p redirect s)

/-- GET_DEVICE_INTERFACE_REPORT (R370). -/
def execGetDeviceInterfaceReport (session : Nat) (tdi : Nat) (s : State) : Host.Outcome State Fault Refusal :=
  settled s (interfaceReport session tdi s)

/-- GET_DEVICE_INTERFACE_STATE (R370). -/
def execGetDeviceInterfaceState (session : Nat) (tdi : Nat) (s : State) : Host.Outcome State Fault Refusal :=
  settled s (interfaceState session tdi s)

/-- START_INTERFACE_REQUEST (R372). -/
def execStartInterfaceRequest (session : Nat) (tdi : Nat) (s : State) : Host.Outcome State Fault Refusal :=
  settled s (startInterface session tdi s)

/-- STOP_INTERFACE_REQUEST (R372). -/
def execStopInterfaceRequest (session : Nat) (tdi : Nat) (s : State) : Host.Outcome State Fault Refusal :=
  settled s (stopInterface session tdi s)

/-- PCIE_LOOPBACK_ENTRY (R515). -/
def execPcieLoopbackEntry (s : State) : Host.Outcome State Fault Refusal :=
  settled s (Sys2Proof.Machine.pcieLoopbackEntry s)

/-- TAP_BYPASS (R474). -/
def execTapBypass (s : State) : Host.Outcome State Fault Refusal :=
  settled s (Sys2Proof.Machine.tapBypass s)

/-- TAP_IDCODE (R474). -/
def execTapIdcode (s : State) : Host.Outcome State Fault Refusal :=
  settled s (Sys2Proof.Machine.tapIdcode s)

/-- TAP_REG_ACCESS (R474). -/
def execTapRegAccess (write : Bool) (offset : Nat) (value : Word) (s : State) : Host.Outcome State Fault Refusal :=
  settled s (Sys2Proof.Machine.tapRegAccess write offset value s)

/-- TAP_SCAN (R474). -/
def execTapScan (s : State) : Host.Outcome State Fault Refusal :=
  settled s (Sys2Proof.Machine.tapScan s)

/-- TAP_MBIST (R474). -/
def execTapMbist (pkt : Packet) (s : State) : Host.Outcome State Fault Refusal :=
  settled s (tapTest 4 (tapMemtest pkt) s)

/-- TAP_FAULT (R474). -/
def execTapFault (pkt : Packet) (s : State) : Host.Outcome State Fault Refusal :=
  settled s (tapTest 5 (tapInject pkt) s)

/-- REGISTER_WRITE (R7). -/
def execRegisterWrite (via : Access) (offset : Nat) (value : Quad) (wide : Bool) (s : State) : Host.Outcome State Fault Refusal :=
  settled s (Sys2Proof.Machine.registerWrite via offset value wide s)

/-- MALFORMED_REGISTER_ACCESS (R530). -/
def execMalformedRegisterAccess (via : Access) (offset : Nat) (size : Nat) (write : Bool) (s : State) : Host.Outcome State Fault Refusal :=
  settled s (Sys2Proof.Machine.malformedRegisterAccess via offset size write s)

/-- CMD_READY (R53). -/
def execCmdReady (s : State) : Host.Outcome State Fault Refusal :=
  settled s (cmdReadyRise s)

/-- P0_DRAIN_DEADLINE (R402). -/
def execP0DrainDeadline (parcel : Nat) (s : State) : Host.Outcome State Fault Refusal :=
  settled s (Sys2Proof.Machine.p0DrainDeadline parcel s)

/-- CONTROLLER_WRITE_ACK (R191). -/
def execControllerWriteAck (access : Nat) (late : Bool) (s : State) : Host.Outcome State Fault Refusal :=
  settled s (Sys2Proof.Machine.controllerWriteAck access late s)

/-- SPDM_HEARTBEAT_TIMEOUT (R366). -/
def execSpdmHeartbeatTimeout (session : Nat) (s : State) : Host.Outcome State Fault Refusal :=
  settled s (Sys2Proof.Machine.spdmHeartbeatTimeout session s)

/-- LOOPBACK_RUN_END (R516). -/
def execLoopbackRunEnd (point : Nat) (target : Nat) (r0 : Nat) (r1 : Nat) (r2 : Nat) (r3 : Nat) (noLink : Bool) (s : State) : Host.Outcome State Fault Refusal :=
  settled s (Sys2Proof.Machine.loopbackRunEnd point target r0 r1 r2 r3 noLink s)

/-- MEMTEST_END (R524). -/
def execMemtestEnd (tier : Nat) (first : Nat) (tested : Nat) (failing : Nat) (firstFail : Nat) (s : State) : Host.Outcome State Fault Refusal :=
  settled s (Sys2Proof.Machine.memtestEnd tier first tested failing firstFail s)

end Sys2Proof.Machine
end

