-- ==== Sys2Proof/Machine/Dispatch.lean ====
section
/-! DEFINITION. Which meaning each command has: one arm per constructor of Instr. -/

namespace Sys2Proof.Machine

def exec (i : Instr) (s : State) : Host.Outcome State Fault Refusal :=
  match i with
  | .send p => Sys2Proof.Machine.execSend p s
  | .sendMirror p => Sys2Proof.Machine.execSendMirror p s
  | .recvPost p => Sys2Proof.Machine.execRecvPost p s
  | .recvCancel p => Sys2Proof.Machine.execRecvCancel p s
  | .ringSetup p list => Sys2Proof.Machine.execRingSetup p list s
  | .allReduce p => Sys2Proof.Machine.execAllReduce p s
  | .reduceScatter p => Sys2Proof.Machine.execReduceScatter p s
  | .allGather p => Sys2Proof.Machine.execAllGather p s
  | .broadcast p => Sys2Proof.Machine.execBroadcast p s
  | .unfold p => Sys2Proof.Machine.execUnfold p s
  | .atomic p => Sys2Proof.Machine.execAtomic p s
  | .invalidate p => Sys2Proof.Machine.execInvalidate p s
  | .pegAlloc p => Sys2Proof.Machine.execPegAlloc p s
  | .pegFree p => Sys2Proof.Machine.execPegFree p s
  | .signal p => Sys2Proof.Machine.execSignal p s
  | .wait p => Sys2Proof.Machine.execWait p s
  | .fence p => Sys2Proof.Machine.execFence p s
  | .exportPeg p => Sys2Proof.Machine.execExportPeg p s
  | .importPeg p => Sys2Proof.Machine.execImportPeg p s
  | .ringDeclare p => Sys2Proof.Machine.execRingDeclare p s
  | .pegRead p => Sys2Proof.Machine.execPegRead p s
  | .keyLoad p blob => Sys2Proof.Machine.execKeyLoad p blob s
  | .keyEvict p => Sys2Proof.Machine.execKeyEvict p s
  | .keyGenerate p twinsOk => Sys2Proof.Machine.execKeyGenerate p twinsOk s
  | .keyQuery p => Sys2Proof.Machine.execKeyQuery p s
  | .keyPinRc p blob => Sys2Proof.Machine.execKeyPinRc p blob s
  | .bindUnwrap p set => Sys2Proof.Machine.execBindUnwrap p set s
  | .getEvidence p twinsOk => Sys2Proof.Machine.execGetEvidence p twinsOk s
  | .getCerts p => Sys2Proof.Machine.execGetCerts p s
  | .getMeasurements p => Sys2Proof.Machine.execGetMeasurements p s
  | .neighbourKeyx p => Sys2Proof.Machine.execNeighbourKeyx p s
  | .keyClaim p twinsOk => Sys2Proof.Machine.execKeyClaim p twinsOk s
  | .partCreate p desc => Sys2Proof.Machine.execPartCreate p desc s
  | .partSeal p => Sys2Proof.Machine.execPartSeal p s
  | .partDestroy p => Sys2Proof.Machine.execPartDestroy p s
  | .partRelease p => Sys2Proof.Machine.execPartRelease p s
  | .ctxRegister p => Sys2Proof.Machine.execCtxRegister p s
  | .ctxRelease p scrub => Sys2Proof.Machine.execCtxRelease p scrub s
  | .tdiBind p => Sys2Proof.Machine.execTdiBind p s
  | .partQuery p => Sys2Proof.Machine.execPartQuery p s
  | .ctxReset p => Sys2Proof.Machine.execCtxReset p s
  | .admitRequest p => Sys2Proof.Machine.execAdmitRequest p s
  | .admitRelease p => Sys2Proof.Machine.execAdmitRelease p s
  | .shaperSet p => Sys2Proof.Machine.execShaperSet p s
  | .p0Reserve p => Sys2Proof.Machine.execP0Reserve p s
  | .sharedOptIn p => Sys2Proof.Machine.execSharedOptIn p s
  | .calQuery p => Sys2Proof.Machine.execCalQuery p s
  | .setPkgLimit p => Sys2Proof.Machine.execSetPkgLimit p s
  | .grantQuery p => Sys2Proof.Machine.execGrantQuery p s
  | .enterState p => Sys2Proof.Machine.execEnterState p s
  | .throttleQuery p => Sys2Proof.Machine.execThrottleQuery p s
  | .counterSample p => Sys2Proof.Machine.execCounterSample p s
  | .traceStart p => Sys2Proof.Machine.execTraceStart p s
  | .traceStop p => Sys2Proof.Machine.execTraceStop p s
  | .halt p => Sys2Proof.Machine.execHalt p s
  | .resume p => Sys2Proof.Machine.execResume p s
  | .debugOpenTenant p token => Sys2Proof.Machine.execDebugOpenTenant p token s
  | .debugOpenOperator p => Sys2Proof.Machine.execDebugOpenOperator p s
  | .debugChallenge p twinsOk => Sys2Proof.Machine.execDebugChallenge p twinsOk s
  | .debugResponse p resp => Sys2Proof.Machine.execDebugResponse p resp s
  | .lcQuery p => Sys2Proof.Machine.execLcQuery p s
  | .lcTransition p => Sys2Proof.Machine.execLcTransition p s
  | .lcStatus p => Sys2Proof.Machine.execLcStatus p s
  | .katRun p failed => Sys2Proof.Machine.execKatRun p failed s
  | .loopback p => Sys2Proof.Machine.execLoopback p s
  | .faultInject p => Sys2Proof.Machine.execFaultInject p s
  | .memtest p => Sys2Proof.Machine.execMemtest p s
  | .sqTailDoorbell via ring tail => Sys2Proof.Machine.execSqTailDoorbell via ring tail s
  | .cqHeadAdvance via ring head => Sys2Proof.Machine.execCqHeadAdvance via ring head s
  | .ringEnableWrite via ring value => Sys2Proof.Machine.execRingEnableWrite via ring value s
  | .ringFetch ring entries => Sys2Proof.Machine.execRingFetch ring entries s
  | .completionWrite ring => Sys2Proof.Machine.execCompletionWrite ring s
  | .parcelEligible parcel => Sys2Proof.Machine.execParcelEligible parcel s
  | .flitSend link slot twinsOk lanePair source => Sys2Proof.Machine.execFlitSend link slot twinsOk lanePair source s
  | .flitReceive link flit => Sys2Proof.Machine.execFlitReceive link flit s
  | .ackTimeout link => Sys2Proof.Machine.execAckTimeout link s
  | .linkUp link => Sys2Proof.Machine.execLinkUp link s
  | .linkTrained link => Sys2Proof.Machine.execLinkTrained link s
  | .linkDown link => Sys2Proof.Machine.execLinkDown link s
  | .linkSilenceTimeout link => Sys2Proof.Machine.execLinkSilenceTimeout link s
  | .exchangeRetry link => Sys2Proof.Machine.execExchangeRetry link s
  | .keyxHello link msg => Sys2Proof.Machine.execKeyxHello link msg s
  | .keyxCerts link seen => Sys2Proof.Machine.execKeyxCerts link seen s
  | .keyxKemI link seen => Sys2Proof.Machine.execKeyxKemI link seen s
  | .keyxKemR link seen => Sys2Proof.Machine.execKeyxKemR link seen s
  | .keyxConfirm link seen => Sys2Proof.Machine.execKeyxConfirm link seen s
  | .keyxRefuse link reason => Sys2Proof.Machine.execKeyxRefuse link reason s
  | .keyxTimeout link => Sys2Proof.Machine.execKeyxTimeout link s
  | .hopKeyRotation link => Sys2Proof.Machine.execHopKeyRotation link s
  | .keyxRotate link n => Sys2Proof.Machine.execKeyxRotate link n s
  | .keyxRotateAck link n => Sys2Proof.Machine.execKeyxRotateAck link n s
  | .rotateResend link => Sys2Proof.Machine.execRotateResend link s
  | .parcelAccept parcel => Sys2Proof.Machine.execParcelAccept parcel s
  | .packReceive pack => Sys2Proof.Machine.execPackReceive pack s
  | .parcelDeclaredLost parcel => Sys2Proof.Machine.execParcelDeclaredLost parcel s
  | .ldtPassed parcel => Sys2Proof.Machine.execLdtPassed parcel s
  | .boundNoticeSend link detour => Sys2Proof.Machine.execBoundNoticeSend link detour s
  | .boundNoticeReceive notice => Sys2Proof.Machine.execBoundNoticeReceive notice s
  | .reduceForwardUnit part group unit gather data => Sys2Proof.Machine.execReduceForwardUnit part group unit gather data s
  | .collectiveTimeout part group => Sys2Proof.Machine.execCollectiveTimeout part group s
  | .unfoldUnit part slot seq unit data => Sys2Proof.Machine.execUnfoldUnit part slot seq unit data s
  | .memRead port part addr op => Sys2Proof.Machine.execMemRead port part addr op s
  | .memWrite port part addr op data => Sys2Proof.Machine.execMemWrite port part addr op data s
  | .stackAnswer access first second late => Sys2Proof.Machine.execStackAnswer access first second late s
  | .tier1Answer access line checkOk twinsOk late => Sys2Proof.Machine.execTier1Answer access line checkOk twinsOk late s
  | .sledAnswer link tag status line checkOk twinsOk late => Sys2Proof.Machine.execSledAnswer link tag status line checkOk twinsOk late s
  | .sledTimeout link tag => Sys2Proof.Machine.execSledTimeout link tag s
  | .poolRequestHome src domain pseq cls req line => Sys2Proof.Machine.execPoolRequestHome src domain pseq cls req line s
  | .answerTimeout request => Sys2Proof.Machine.execAnswerTimeout request s
  | .patrolRead addr first second => Sys2Proof.Machine.execPatrolRead addr first second s
  | .counterSweep page => Sys2Proof.Machine.execCounterSweep page s
  | .granuleCleaned => Sys2Proof.Machine.execGranuleCleaned s
  | .pegRequestApply src domain msg => Sys2Proof.Machine.execPegRequestApply src domain msg s
  | .pegAnswerApply src domain msg => Sys2Proof.Machine.execPegAnswerApply src domain msg s
  | .pegWaitTimeout part slot seq => Sys2Proof.Machine.execPegWaitTimeout part slot seq s
  | .remoteRegistrationDrop src part context seq => Sys2Proof.Machine.execRemoteRegistrationDrop src part context seq s
  | .sliceEnd part cls overrun => Sys2Proof.Machine.execSliceEnd part cls overrun s
  | .runLimitFault part slot seq => Sys2Proof.Machine.execRunLimitFault part slot seq s
  | .calendarTick => Sys2Proof.Machine.execCalendarTick s
  | .frameBoundary => Sys2Proof.Machine.execFrameBoundary s
  | .framePEdge tod todValid => Sys2Proof.Machine.execFramePEdge tod todValid s
  | .frameLockLost => Sys2Proof.Machine.execFrameLockLost s
  | .budgetTick => Sys2Proof.Machine.execBudgetTick s
  | .powerEpochBoundary => Sys2Proof.Machine.execPowerEpochBoundary s
  | .telemWord w => Sys2Proof.Machine.execTelemWord w s
  | .telemLost => Sys2Proof.Machine.execTelemLost s
  | .grantViolation part => Sys2Proof.Machine.execGrantViolation part s
  | .limitAlertChange high => Sys2Proof.Machine.execLimitAlertChange high s
  | .regulatorAlert => Sys2Proof.Machine.execRegulatorAlert s
  | .laneGroupGate tile group => Sys2Proof.Machine.execLaneGroupGate tile group s
  | .laneGroupWake tile group => Sys2Proof.Machine.execLaneGroupWake tile group s
  | .lowPowerEntry => Sys2Proof.Machine.execLowPowerEntry s
  | .l2ExitComplete => Sys2Proof.Machine.execL2ExitComplete s
  | .rootMonitorCheck count => Sys2Proof.Machine.execRootMonitorCheck count s
  | .chipRstReq => Sys2Proof.Machine.execChipRstReq s
  | .corePowerFall => Sys2Proof.Machine.execCorePowerFall s
  | .powerLoss => Sys2Proof.Machine.execPowerLoss s
  | .coldStart f => Sys2Proof.Machine.execColdStart f s
  | .warmStart f => Sys2Proof.Machine.execWarmStart f s
  | .vppFuseRecheck present => Sys2Proof.Machine.execVppFuseRecheck present s
  | .imageFetch image => Sys2Proof.Machine.execImageFetch image s
  | .entropyHealthFail => Sys2Proof.Machine.execEntropyHealthFail s
  | .reseedComplete passed => Sys2Proof.Machine.execReseedComplete passed s
  | .kpCflow => Sys2Proof.Machine.execKpCflow s
  | .teardownComplete part => Sys2Proof.Machine.execTeardownComplete part s
  | .strikeS1End part => Sys2Proof.Machine.execStrikeS1End part s
  | .strikeReserveGrant part => Sys2Proof.Machine.execStrikeReserveGrant part s
  | .strikeS3End part => Sys2Proof.Machine.execStrikeS3End part s
  | .strikeS4End part => Sys2Proof.Machine.execStrikeS4End part s
  | .engineRung engine => Sys2Proof.Machine.execEngineRung engine s
  | .engineCheckDone engine passed => Sys2Proof.Machine.execEngineCheckDone engine passed s
  | .partitionRung part => Sys2Proof.Machine.execPartitionRung part s
  | .partitionRungComplete part => Sys2Proof.Machine.execPartitionRungComplete part s
  | .chipRung cause dumpDone => Sys2Proof.Machine.execChipRung cause dumpDone s
  | .trayRung cause => Sys2Proof.Machine.execTrayRung cause s
  | .ladderTimeout rung scope units engines => Sys2Proof.Machine.execLadderTimeout rung scope units engines s
  | .resetReqEngine target => Sys2Proof.Machine.execResetReqEngine target s
  | .resetReqPartition target => Sys2Proof.Machine.execResetReqPartition target s
  | .resetReqChip target => Sys2Proof.Machine.execResetReqChip target s
  | .partResetReq via part => Sys2Proof.Machine.execPartResetReq via part s
  | .dumpAck => Sys2Proof.Machine.execDumpAck s
  | .linkEnableWrite link enable => Sys2Proof.Machine.execLinkEnableWrite link enable s
  | .linkRearm link => Sys2Proof.Machine.execLinkRearm link s
  | .backOkWrite => Sys2Proof.Machine.execBackOkWrite s
  | .bootGoWrite value => Sys2Proof.Machine.execBootGoWrite value s
  | .haltCtrlHalt via job domain => Sys2Proof.Machine.execHaltCtrlHalt via job domain s
  | .haltCtrlResume via job domain => Sys2Proof.Machine.execHaltCtrlResume via job domain s
  | .haltCut => Sys2Proof.Machine.execHaltCut s
  | .haltFlitReceive link flit => Sys2Proof.Machine.execHaltFlitReceive link flit s
  | .resumeFlitReceive link flit => Sys2Proof.Machine.execResumeFlitReceive link flit s
  | .haltRestart => Sys2Proof.Machine.execHaltRestart s
  | .traceSample slot => Sys2Proof.Machine.execTraceSample slot s
  | .echoRequestReceive link probe => Sys2Proof.Machine.execEchoRequestReceive link probe s
  | .echoResponseReceive link probe => Sys2Proof.Machine.execEchoResponseReceive link probe s
  | .mbInPush via ch word => Sys2Proof.Machine.execMbInPush via ch word s
  | .mbOutPop via ch => Sys2Proof.Machine.execMbOutPop via ch s
  | .mbInReady via ch => Sys2Proof.Machine.execMbInReady via ch s
  | .mbResync via ch => Sys2Proof.Machine.execMbResync via ch s
  | .mbTestDoorbell via ch bit => Sys2Proof.Machine.execMbTestDoorbell via ch bit s
  | .mbAssignWrite value => Sys2Proof.Machine.execMbAssignWrite value s
  | .ping ch => Sys2Proof.Machine.execPing ch s
  | .blockState ch => Sys2Proof.Machine.execBlockState ch s
  | .partState ch => Sys2Proof.Machine.execPartState ch s
  | .noticeMask ch => Sys2Proof.Machine.execNoticeMask ch s
  | .mbMessageTimeout ch => Sys2Proof.Machine.execMbMessageTimeout ch s
  | .noticeFault ch => Sys2Proof.Machine.execNoticeFault ch s
  | .noticePart ch => Sys2Proof.Machine.execNoticePart ch s
  | .noticeStart ch => Sys2Proof.Machine.execNoticeStart ch s
  | .noticeLost ch => Sys2Proof.Machine.execNoticeLost ch s
  | .functionLevelReset fn => Sys2Proof.Machine.execFunctionLevelReset fn s
  | .pcieLinkReset => Sys2Proof.Machine.execPcieLinkReset s
  | .doeDiscovery index => Sys2Proof.Machine.execDoeDiscovery index s
  | .spdmRequest req => Sys2Proof.Machine.execSpdmRequest req s
  | .spdmSessionEstablish id mutualAuth chainOk leaf => Sys2Proof.Machine.execSpdmSessionEstablish id mutualAuth chainOk leaf s
  | .vendorDefinedRequest session headerOk payloadLen pkt => Sys2Proof.Machine.execVendorDefinedRequest session headerOk payloadLen pkt s
  | .ideKmQuery session => Sys2Proof.Machine.execIdeKmQuery session s
  | .ideKmKeyProg session stream sub keySet streamId tee pcrc => Sys2Proof.Machine.execIdeKmKeyProg session stream sub keySet streamId tee pcrc s
  | .ideKmKSetGo session stream sub keySet => Sys2Proof.Machine.execIdeKmKSetGo session stream sub keySet s
  | .ideKmKSetStop session stream sub keySet => Sys2Proof.Machine.execIdeKmKSetStop session stream sub keySet s
  | .ideCheckFailure stream => Sys2Proof.Machine.execIdeCheckFailure stream s
  | .tdiBadRequest part => Sys2Proof.Machine.execTdiBadRequest part s
  | .getTdispVersion session tdi => Sys2Proof.Machine.execGetTdispVersion session tdi s
  | .getTdispCapabilities session tdi => Sys2Proof.Machine.execGetTdispCapabilities session tdi s
  | .lockInterfaceRequest session tdi noFwUpdate lockMsix bindP2p redirect => Sys2Proof.Machine.execLockInterfaceRequest session tdi noFwUpdate lockMsix bindP2p redirect s
  | .getDeviceInterfaceReport session tdi => Sys2Proof.Machine.execGetDeviceInterfaceReport session tdi s
  | .getDeviceInterfaceState session tdi => Sys2Proof.Machine.execGetDeviceInterfaceState session tdi s
  | .startInterfaceRequest session tdi => Sys2Proof.Machine.execStartInterfaceRequest session tdi s
  | .stopInterfaceRequest session tdi => Sys2Proof.Machine.execStopInterfaceRequest session tdi s
  | .pcieLoopbackEntry => Sys2Proof.Machine.execPcieLoopbackEntry s
  | .tapBypass => Sys2Proof.Machine.execTapBypass s
  | .tapIdcode => Sys2Proof.Machine.execTapIdcode s
  | .tapRegAccess write offset value => Sys2Proof.Machine.execTapRegAccess write offset value s
  | .tapScan => Sys2Proof.Machine.execTapScan s
  | .tapMbist pkt => Sys2Proof.Machine.execTapMbist pkt s
  | .tapFault pkt => Sys2Proof.Machine.execTapFault pkt s
  | .registerWrite via offset value wide => Sys2Proof.Machine.execRegisterWrite via offset value wide s
  | .malformedRegisterAccess via offset size write => Sys2Proof.Machine.execMalformedRegisterAccess via offset size write s
  | .cmdReady => Sys2Proof.Machine.execCmdReady s
  | .p0DrainDeadline parcel => Sys2Proof.Machine.execP0DrainDeadline parcel s
  | .controllerWriteAck access late => Sys2Proof.Machine.execControllerWriteAck access late s
  | .spdmHeartbeatTimeout session => Sys2Proof.Machine.execSpdmHeartbeatTimeout session s
  | .loopbackRunEnd point target r0 r1 r2 r3 noLink => Sys2Proof.Machine.execLoopbackRunEnd point target r0 r1 r2 r3 noLink s
  | .memtestEnd tier first tested failing firstFail => Sys2Proof.Machine.execMemtestEnd tier first tested failing firstFail s

end Sys2Proof.Machine
end

