-- ==== Sys2Proof/Safety.lean ====
section
/-! DEFINITION. The terms in which claims are made: which areas of the state a command leaves alone, when the block has nothing of
its own to do, when a command packet passes its checks, and what a reply is. -/

namespace Sys2Proof

/-- The context slot that a packet's HANDLE names (R56). -/
abbrev Packet.slot (p : Packet) : Nat := Machine.bitsOf p.handle.toNat 0 12

/-- The partition a packet comes from; `noPart` for the operator and for sessions. -/
abbrev Packet.part (p : Packet) : Nat := Machine.srcPart p.src

end Sys2Proof

namespace Sys2Proof.Machine

/-! ### Frames -/

/-- The areas of the state: its fields. -/
inductive Area where
  | parts | cmds | gl | inl | sill | pegs | cal | damper | kp | vs | plumb | start | fuses | debugs | ret | scribe | tests | mail
  | out | fresh
  deriving DecidableEq, Repr

/-- Two states agree on an area. -/
def Same (g : Area) (s t : State) : Prop :=
  match g with
  | .parts => t.parts = s.parts
  | .cmds => t.cmds = s.cmds
  | .gl => t.gl = s.gl
  | .inl => t.inl = s.inl
  | .sill => t.sill = s.sill
  | .pegs => t.pegs = s.pegs
  | .cal => t.cal = s.cal
  | .damper => t.damper = s.damper
  | .kp => t.kp = s.kp
  | .vs => t.vs = s.vs
  | .plumb => t.plumb = s.plumb
  | .start => t.start = s.start
  | .fuses => t.fuses = s.fuses
  | .debugs => t.debugs = s.debugs
  | .ret => t.ret = s.ret
  | .scribe => t.scribe = s.scribe
  | .tests => t.tests = s.tests
  | .mail => t.mail = s.mail
  | .out => t.out = s.out
  | .fresh => t.fresh = s.fresh

/-- From s to t nothing outside these areas has changed. -/
def OnlyIn (gs : List Area) (s t : State) : Prop := ∀ g, g ∉ gs → Same g s t

/-! ### Rest -/

/-- A parcel of this block that waits for a link while no link can take it (R119). -/
def State.stranded (s : State) (x : TxParcel) : Bool :=
  x.eligibleAt.isSome && x.leftAt.isNone && s.wayOut s.chip x.dst x.ptag false = .unreachable &&
    (!x.mirror || s.wayOut s.chip x.dst x.ptag true = .unreachable)

/-- A KEYED link leads on towards a chip, so that what is sent there leaves (R117 to R119). -/
def State.reaches (s : State) (dst : Nat) : Bool := s.wayOut s.chip dst 0 false ≠ .unreachable

/-- No change of the links moves the start on: it is before its parallel steps or past them (R459, log 33). -/
def State.startRests (s : State) : Bool := !s.kp.ready || s.start.step < 11 || s.start.step = 14

/-- A channel whose doorbells have been looked at: none set, or IN_READY over a message not yet whole (log 35). -/
def Channel.looked (q : Channel) : Bool := q.dbIn = 0 || (q.dbIn = 1 && !q.inq.isEmpty)

/-- A context has no work: nothing of it is in flight, fenced, sent, waited for or owned (R398, R400). -/
def State.ctxRests (s : State) (slot : Nat) : Bool :=
  (s.ctxInflight slot).isEmpty && (s.ctx? slot).all (fun c => c.fences.isEmpty && c.held.isEmpty) &&
    s.inl.groups.all (fun g => g.running.all (fun c => c.ref.slot ≠ slot)) &&
    s.gl.parcels.all (fun x => x.ctx ≠ some slot && x.ref.all (fun r => r.slot ≠ slot)) &&
    s.pegs.waiters.all (fun w => w.ref.slot ≠ slot) && s.pegs.slots.all (fun g => g.ownerCtx ≠ slot)

/-- The block has nothing to do by itself: no command waits to start, no condition is open that would end a waiting command, no
parcel lacks a way out, and every doorbell has been looked at (log 8, log 35). -/
def State.calm (s : State) : Bool :=
  s.cmds.staged.isEmpty && s.cmds.firmware.isEmpty &&
    s.plumb.rungs.all (fun x => !(x.rung = Rung.context && !x.begun) && !(x.begun && x.timerFrom.isNone)) &&
    s.debugs.opening.isNone && s.vs.stopping.isEmpty && s.kp.slots.all (fun k => k.state ≠ .evicting) &&
    s.tests.runs.all (fun t => !(t.kind = 0 && t.point = 3 && (s.link t.target).state ≠ .keyed)) &&
    s.gl.parcels.all (fun x => !s.stranded x) && (!s.mailServed || s.mail.chans.all (fun q => q.looked))

/-- Every channel's doorbells have been looked at, while the side that looks is there (R545, R551; log 35). -/
def State.doorbellsLooked (s : State) : Prop := s.mailServed = true → ∀ c, c < 8 → (s.chan c).looked = true

/-! ### Commands and their replies -/

/-- The opcode and the packet of a row that is a command packet (03 R76 to R78); none for the other rows. -/
def packetOf (i : Instr) : Option (Op × Packet) :=
  match i with
  | .send p => some (.send, p)
  | .sendMirror p => some (.sendMirror, p)
  | .recvPost p => some (.recvPost, p)
  | .recvCancel p => some (.recvCancel, p)
  | .ringSetup p _ => some (.ringSetup, p)
  | .allReduce p => some (.allReduce, p)
  | .reduceScatter p => some (.reduceScatter, p)
  | .allGather p => some (.allGather, p)
  | .broadcast p => some (.broadcast, p)
  | .unfold p => some (.unfold, p)
  | .atomic p => some (.atomic, p)
  | .invalidate p => some (.invalidate, p)
  | .pegAlloc p => some (.pegAlloc, p)
  | .pegFree p => some (.pegFree, p)
  | .signal p => some (.signal, p)
  | .wait p => some (.wait, p)
  | .fence p => some (.fence, p)
  | .exportPeg p => some (.exportPeg, p)
  | .importPeg p => some (.importPeg, p)
  | .ringDeclare p => some (.ringDeclare, p)
  | .pegRead p => some (.pegRead, p)
  | .keyLoad p _ => some (.keyLoad, p)
  | .keyEvict p => some (.keyEvict, p)
  | .keyGenerate p _ => some (.keyGenerate, p)
  | .keyQuery p => some (.keyQuery, p)
  | .keyPinRc p _ => some (.keyPinRc, p)
  | .bindUnwrap p _ => some (.bindUnwrap, p)
  | .getEvidence p _ => some (.getEvidence, p)
  | .getCerts p => some (.getCerts, p)
  | .getMeasurements p => some (.getMeasurements, p)
  | .neighbourKeyx p => some (.neighbourKeyx, p)
  | .keyClaim p _ => some (.keyClaim, p)
  | .partCreate p _ => some (.partCreate, p)
  | .partSeal p => some (.partSeal, p)
  | .partDestroy p => some (.partDestroy, p)
  | .partRelease p => some (.partRelease, p)
  | .ctxRegister p => some (.ctxRegister, p)
  | .ctxRelease p _ => some (.ctxRelease, p)
  | .tdiBind p => some (.tdiBind, p)
  | .partQuery p => some (.partQuery, p)
  | .ctxReset p => some (.ctxReset, p)
  | .admitRequest p => some (.admitRequest, p)
  | .admitRelease p => some (.admitRelease, p)
  | .shaperSet p => some (.shaperSet, p)
  | .p0Reserve p => some (.p0Reserve, p)
  | .sharedOptIn p => some (.sharedOptIn, p)
  | .calQuery p => some (.calQuery, p)
  | .setPkgLimit p => some (.setPkgLimit, p)
  | .grantQuery p => some (.grantQuery, p)
  | .enterState p => some (.enterState, p)
  | .throttleQuery p => some (.throttleQuery, p)
  | .counterSample p => some (.counterSample, p)
  | .traceStart p => some (.traceStart, p)
  | .traceStop p => some (.traceStop, p)
  | .halt p => some (.halt, p)
  | .resume p => some (.resume, p)
  | .debugOpenTenant p _ => some (.debugOpenTenant, p)
  | .debugOpenOperator p => some (.debugOpenOperator, p)
  | .debugChallenge p _ => some (.debugChallenge, p)
  | .debugResponse p _ => some (.debugResponse, p)
  | .lcQuery p => some (.lcQuery, p)
  | .lcTransition p => some (.lcTransition, p)
  | .lcStatus p => some (.lcStatus, p)
  | .katRun p _ => some (.katRun, p)
  | .loopback p => some (.loopback, p)
  | .faultInject p => some (.faultInject, p)
  | .memtest p => some (.memtest, p)
  | _ => none

/-- The state in which a packet is checked: the CMD port's ready stands as the packet's die gives it (R53). -/
def arrived (p : Packet) (s : State) : State :=
  match p.src with
  | .cmd _ => setReadyLevel p.ready s
  | _ => s

/-- The state in which an accepted command starts: its context's expected sequence has advanced (R71, R73). -/
def accepted (op : Op) (p : Packet) (s : State) : State := advanceSeq (refOf op p (arrived p s)) (arrived p s)

/-- The command a packet stands for, as the block names it (R56, R58). -/
def named (op : Op) (p : Packet) (s : State) : CmdRef := refOf op p (arrived p s)

/-- The block hears a packet. -/
def hears (p : Packet) (s : State) : Bool := (arrived p s).up && heard p.src (arrived p s)

/-- A packet passes every check of R71 that is made before its opcode's own, and nothing holds its start (R55, R74). -/
def passes (op : Op) (p : Packet) (s : State) : Bool :=
  hears p s && (earlyRefusal op (named op p s) p (arrived p s)).isNone &&
    (lateRefusal op (named op p s) (accepted op p s)).isNone && canStart op (named op p s) p [] (accepted op p s)

/-- A reply of a source stands in the state: it has left at the CMD port, in a completion ring or in a session's response, or is held
for it (R52, R53, R69, R368). -/
def Given (src : Source) (rep : Reply) (t : State) : Prop :=
  match src with
  | .cmd _ => .reply src rep ∈ t.out ∨ (src, rep) ∈ t.cmds.cmdHeld
  | .ring q => (∃ i, .hostReply (.part q) i rep ∈ t.out) ∨ rep ∈ (t.ringOf (.part q)).held
  | .mgmt => (∃ i, .hostReply .mgmt i rep ∈ t.out) ∨ rep ∈ (t.ringOf .mgmt).held
  | .session id => .vendorResponse id rep ∈ t.out

/-- The source that a ring's entries have. -/
abbrev ringSource : RingId → Source
  | .part p => .ring p
  | .mgmt => .mgmt

/-- The source of a command can still be answered: its context has not been reset since, and its ring or session stands. -/
def State.answersTo (s : State) (r : CmdRef) : Bool :=
  !s.staleRef r &&
    (match r.src with
     | .ring q => q < s.parts.length
     | .session id => s.vs.sessions.any (fun x => x.id = id)
     | _ => true)

/-- A command has its reply at t: this status and result, its SEQ and CLASS and a time (R59); an OK that SUPPRESS_OK suppresses has
none (R57). -/
def Replied (r : CmdRef) (st : Nat) (result : BitVec 128) (time : Nat) (t : State) : Prop :=
  (st = stOk ∧ bitOf r.flags.toNat 0 = true) ∨
    ∃ f, Given r.src { seq := r.seq, status := st, cls := r.cls, rflags := f, time := time, result := result } t

/-- A packet's command has its reply at t, at the time at s. -/
def Answered (op : Op) (p : Packet) (st : Nat) (result : BitVec 128) (s t : State) : Prop :=
  Replied (named op p s) st result s.now t

/-- The areas in which a command's start, its reply and its trace leave marks, beside its own effect (R53, R69, R289, R489, R495). -/
abbrev replyAreas : List Area := [.parts, .cmds, .gl, .plumb, .scribe, .out]

end Sys2Proof.Machine
end

