-- ==== Sys2Proof/Certificates/Slice0/Obligations.lean ====
section
/-! DEFINITION. The statements about this block. A command's completion is stated from calm states (log 8), so that what the block
would do for other commands by itself does not mix with the command's own effect. -/

open Sys2Proof Sys2Proof.Machine

/-- A step runs the command at the front of the queue (R531, R52). -/
def Obligations.StepRunsTheCommandInFront : Prop :=
  (∀ (c : Instr) (rest : List Instr) (s : State), step { s with pending := c :: rest } = exec c { s with pending := rest }) ∧
  (∀ (s : State), step { s with pending := [] } = idle { s with pending := [] }) ∧
  (∀ (s : State), ∃ t, step s = .next t ∧ t.pending = s.pending.tail)

/-- After every step each doorbell of a served channel has been acted on (R545, R551, R553). -/
def Obligations.DoorbellsStayLooked : Prop :=
  ∀ (s t : State), s.doorbellsLooked → step s = .next t → t.doorbellsLooked

/-- The state after reset (R61, R65, R316, R317, R318, R459, R537, R543, R545, R546, R551). -/
def Obligations.ResetLeavesTheSpecsValues : Prop :=
  State.reset.pending = [] ∧ State.reset.kp.ready = false ∧ State.reset.start.step = 0 ∧
  (∀ p, p < 16 → State.reset.ringOf (.part p) = ⟨0, 0, 0, 0, false, 0, 0, 0, 0, [], false, false⟩) ∧
  State.reset.ringOf .mgmt = ⟨0, 0, 0, 0, false, 0, 0, 0, 0, [], false, false⟩ ∧
  (∀ c, c < 8 → (State.reset.chan c).inq = [] ∧ (State.reset.chan c).outq = [] ∧ (State.reset.chan c).dbIn = 0 ∧
    (State.reset.chan c).dbOut = 8 ∧ (State.reset.chan c).dbMask = 0 ∧ (State.reset.chan c).noticeMask = 7 ∧
    (State.reset.chan c).waiting = [] ∧ State.reset.chanAssigned c = none) ∧
  State.reset.damper.tHot = 95 ∧ State.reset.damper.tCrit = 105 ∧ State.reset.damper.tTrip = 115 ∧
  State.reset.damper.slope = 10 ∧ State.reset.damper.idleW = 120 ∧
  State.reset.vs.sessions = [] ∧ (∀ n, n < 9 → (State.reset.stream n).secure = false) ∧
  (∀ p, p < 16 → (State.reset.part p).pstate = .free) ∧
  State.reset.cmds.inflight = [] ∧ State.reset.cmds.staged = [] ∧ State.reset.cmds.firmware = [] ∧
  State.reset.doorbellsLooked

/-- What a refusal leaves, for every command packet (R53, R71, R72, R73, R563). -/
def Obligations.RefusedCommandsChangeNothing : Prop :=
  ∀ (i : Instr) (op : Op) (p : Packet) (s : State) (e : Nat × Nat), packetOf i = some (op, p) → s.calm = true → hears p s = true →
    (earlyRefusal op (named op p s) p (arrived p s) = some e →
      ∃ t, exec i s = .next t ∧ Answered op p e.1 (detailOf e.2) s t ∧ t.cmds.staged = s.cmds.staged ∧
        t.cmds.firmware = s.cmds.firmware ∧ t.cmds.inflight = s.cmds.inflight ∧ t.cmds.ctxs = s.cmds.ctxs ∧ t.cmds.mgmtExpected = s.cmds.mgmtExpected ∧
        OnlyIn [.parts, .cmds, .out] s t) ∧
    (earlyRefusal op (named op p s) p (arrived p s) = none → lateRefusal op (named op p s) (accepted op p s) = some e →
      ∃ t, exec i s = .next t ∧ Answered op p e.1 (detailOf e.2) s t ∧ t.cmds.staged = s.cmds.staged ∧
        t.cmds.firmware = s.cmds.firmware ∧ t.cmds.inflight = s.cmds.inflight ∧ 
        (srcIsCtx p.src = true → (t.ctx? p.slot).map (fun c => c.expected) = (s.ctx? p.slot).map (fun c => (c.expected + 1) % 2 ^ 32) ∧
          t.cmds.mgmtExpected = s.cmds.mgmtExpected ∧ t.vs = s.vs) ∧
        (∀ slot, slot ≠ p.slot → t.ctx? slot = s.ctx? slot) ∧
        (p.src = .mgmt → t.cmds.mgmtExpected = (s.cmds.mgmtExpected + 1) % 2 ^ 32 ∧ t.cmds.ctxs = s.cmds.ctxs ∧ t.vs = s.vs) ∧
        (∀ id, p.src = .session id → t.vs.sessions = s.vs.sessions.map (fun x =>
          if x.id = id then { x with expected := (x.expected + 1) % 2 ^ 32 } else x) ∧ t.cmds.ctxs = s.cmds.ctxs) ∧
        OnlyIn [.parts, .cmds, .vs, .out] s t)

/-- DM_THERM, DM_RAMP and DM_IDLE (R316, R317, R318). -/
def Obligations.ThermalRampAndIdleRegisters : Prop :=
  (∀ ide, readVia (.pf ide) 0x800004 State.reset = 95 + 105 * 2 ^ 8 + 115 * 2 ^ 16 ∧ readVia (.pf ide) 0x800008 State.reset = 10 ∧
    readVia (.pf ide) 0x80000C State.reset = 120) ∧
  (∀ (ide : Bool) (v : Quad) (s : State), s.calm = true → s.up = true →
    (∃ t, exec (.registerWrite (.pf ide) 0x800004 v false) s = .next t ∧
      (bitsOf v.toNat 0 8 < bitsOf v.toNat 8 8 ∧ bitsOf v.toNat 8 8 < bitsOf v.toNat 16 8 ∧ bitsOf v.toNat 16 8 ≤ 125 →
        readVia (.pf ide) 0x800004 t = v.toNat % 2 ^ 24 ∧ OnlyIn [.damper] s t) ∧
      (¬ (bitsOf v.toNat 0 8 < bitsOf v.toNat 8 8 ∧ bitsOf v.toNat 8 8 < bitsOf v.toNat 16 8 ∧ bitsOf v.toNat 16 8 ≤ 125) →
        readVia (.pf ide) 0x800004 t = readVia (.pf ide) 0x800004 s ∧ t.vs.malformed = bump 65535 s.vs.malformed ∧
        OnlyIn [.vs] s t)) ∧
    (∃ t, exec (.registerWrite (.pf ide) 0x800008 v false) s = .next t ∧
      (v.toNat % 64 = 0 ∨ 40 < v.toNat % 64 → t.damper = s.damper) ∧
      (1 ≤ v.toNat % 64 → v.toNat % 64 ≤ 40 → readVia (.pf ide) 0x800008 t = v.toNat % 64) ∧ OnlyIn [.damper] s t) ∧
    (∃ t, exec (.registerWrite (.pf ide) 0x80000C v false) s = .next t ∧ readVia (.pf ide) 0x80000C t = v.toNat % 2 ^ 11 ∧
      OnlyIn [.damper] s t))

/-- GB_ID and IDCODE (R536). -/
def Obligations.IdentityRegister : Prop :=
  ∀ (s : State) (via : Access), (∀ p, via ≠ .vf p) →
    bitsOf (readVia via 0 s) 0 1 = 1 ∧ bitsOf (readVia via 0 s) 1 11 = s.fuses.manuf % 2 ^ 11 ∧
    bitsOf (readVia via 0 s) 12 16 = 0x0D08 ∧ bitsOf (readVia via 0 s) 28 4 = 1 ∧ bitsOf gbParam1 24 4 = 1 ∧
    readVia via 0 s < 2 ^ 32 ∧
    (s.calm = true → s.start.pwrAon = true →
      ∃ t, exec .tapIdcode s = .next t ∧ t.out = .tap (BitVec.ofNat 32 (readVia via 0 s)) :: s.out)

/-- SQ_TAIL_DOORBELL, CQ_HEAD_ADVANCE and RING_ENABLE_WRITE (R61, R63, R68, R69, R73). -/
def Obligations.RingPointersAndEnableAreWritten : Prop :=
  (∀ (via : Access) (ring : RingId) (v : Nat) (s : State),
    s.calm = true → s.up = true → (∀ p, ring = .part p → p < 16 ∧ p < s.parts.length) → (∀ p, ring = .part p → viewGate via p s = none ∧ ∀ q, via = .vf q → q = p) → (ring = .mgmt → ∀ q, via ≠ .vf q) →
    (2 ^ (s.ringOf ring).sqLog2 < (v % 65536 + 65536 - (s.ringOf ring).sqHead) % 65536 →
      ∃ t, exec (.sqTailDoorbell via ring v) s = .next t ∧ (t.ringOf ring).badTail = true ∧
        (t.ringOf ring).sqTail = (s.ringOf ring).sqTail ∧ OnlyIn [.parts, .cmds, .vs] s t) ∧
    ((v % 65536 + 65536 - (s.ringOf ring).sqHead) % 65536 ≤ 2 ^ (s.ringOf ring).sqLog2 →
      ∃ t, exec (.sqTailDoorbell via ring v) s = .next t ∧ t.ringOf ring = { s.ringOf ring with sqTail := v % 65536 } ∧
        OnlyIn [.parts, .cmds] s t) ∧
    (∃ t, exec (.cqHeadAdvance via ring v) s = .next t ∧ (t.ringOf ring).cqHead = v % 65536 ∧
      (t.ringOf ring).held = (s.ringOf ring).held ∧ (t.ringOf ring).cqTail = (s.ringOf ring).cqTail ∧
      (t.ringRoom ring = true → (t.ringOf ring).fetchStopped = false) ∧ OnlyIn [.parts, .cmds] s t)) ∧
  (∀ (via : Access) (ring : RingId) (v : Word) (s : State),
    s.calm = true → s.up = true → (∀ p, ring = .part p → p < 16 ∧ p < s.parts.length) → (∀ p, ring = .part p → viewGate via p s = none ∧ ∀ q, via = .vf q → q = p) → (ring = .mgmt → ∀ q, via ≠ .vf q) →
    ∃ t, exec (.ringEnableWrite via ring v) s = .next t ∧
      (s.ringLocked ring = true →
        (t.ringOf ring).sqLog2 = (s.ringOf ring).sqLog2 ∧ (t.ringOf ring).cqLog2 = (s.ringOf ring).cqLog2) ∧
      (s.ringLocked ring = false →
        (t.ringOf ring).sqLog2 = bitsOf v.toNat 0 4 ∧ (t.ringOf ring).cqLog2 = bitsOf v.toNat 4 4) ∧
      (t.ringOf ring).enable = (bitOf v.toNat 8 && 6 ≤ (t.ringOf ring).sqLog2 && 6 ≤ (t.ringOf ring).cqLog2) ∧
      (ring = .mgmt → (s.ringOf ring).enable = false → (t.ringOf ring).enable = true → t.cmds.mgmtExpected = 0) ∧
      OnlyIn [.parts, .cmds, .vs] s t)

/-- RING_FETCH, COMPLETION_WRITE and CMD_READY (R53, R68, R69, R71). -/
def Obligations.RingsAreFetchedAndAnswered : Prop :=
  (∀ (ring : RingId) (w : RawPacket) (op : Op) (s : State),
    s.calm = true → (∀ p, ring = .part p → p < 16 ∧ p < s.parts.length) → ringFetches ring s = true → (s.ringOf ring).sqUsed ≠ 0 →
    (s.ringRoom ring = true →
      (opOf w.cls w.opcode = some op →
        ∃ t, exec (.ringFetch ring [w]) s = .next t ∧ settled s (submit op { w.pkt with src := ringSource ring } w.aux
          (s.modRing ring (fun q => { q with sqHead := (q.sqHead + 1) % 65536, fetchStopped := false }))) = .next t) ∧
      (w.pkt.fmt ≠ 1 →
        ∃ t rep, exec (.ringFetch ring [w]) s = .next t ∧ (t.ringOf ring).sqHead = ((s.ringOf ring).sqHead + 1) % 65536 ∧
          rep.status = stMalformed ∧ rep.seq = w.pkt.seq ∧ rep.result = detailOf 3 ∧
          ((∃ i, .hostReply ring i rep ∈ t.out) ∨ rep ∈ (t.ringOf ring).held) ∧ OnlyIn [.parts, .cmds, .out] s t)) ∧
    (s.ringRoom ring = false →
      ∃ t, exec (.ringFetch ring [w]) s = .next t ∧ t.ringOf ring = { s.ringOf ring with fetchStopped := true } ∧
        OnlyIn [.parts, .cmds] s t)) ∧
  (∀ (ring : RingId) (s : State) (rep : Reply) (rest : List Reply),
    s.calm = true → s.up = true → (∀ p, ring = .part p → p < 16 ∧ p < s.parts.length) → (s.ringOf ring).held = rep :: rest → (s.ringOf ring).cqFull = false →
    s.ringHeld ring = false →
    ∃ t, exec (.completionWrite ring) s = .next t ∧ (t.ringOf ring).held = rest ∧
      .hostReply ring ((s.ringOf ring).cqTail % 2 ^ (s.ringOf ring).cqLog2) rep ∈ t.out ∧
      (t.ringOf ring).cqTail = ((s.ringOf ring).cqTail + 1) % 65536 ∧ OnlyIn [.parts, .cmds, .out] s t) ∧
  (∀ (s : State),
    s.calm = true → s.up = true →
    ∃ t, exec .cmdReady s = .next t ∧ t.cmds.cmdReady = true ∧ t.cmds.cmdHeld = [] ∧
      (∀ e, e ∈ s.cmds.cmdHeld → .reply e.1 e.2 ∈ t.out) ∧ OnlyIn [.cmds, .out] s t)

/-- SEND, SEND_MIRROR, RECV_POST and RECV_CANCEL complete (R107, R108, R126, R128, R129, R235). -/
def Obligations.SendAndReceiveCommandsComplete : Prop :=
  (∀ (op : Op) (mirror : Bool) (i : Packet → Instr) (p : Packet) (s : State) (c : Ctx),
    (op, mirror, i) ∈ [(.send, false, Instr.send), (.sendMirror, true, Instr.sendMirror)] →
    s.calm = true → passes op p s = true → s.ctx? p.slot = some c →
    (pf p 22 1 ≠ 4 → (s.sendResv p.part (pf p 22 1) (pf p 40 4)).isSome = true) →
    s.inCarve p.part (pf p 24 6) (pf p 32 4) = true → sendRefusal s p.part = none →
    ∃ t x d, exec (i p) s = .next t ∧ x ∈ t.gl.parcels ∧ x.kind = .data ∧ x.ref = some (named op p s) ∧
      x.part = p.part ∧ x.dst = pf p 20 2 ∧ x.cls = pf p 22 1 ∧ x.srcAddr = pf p 24 6 ∧ x.length = pf p 32 4 ∧
      x.recvTag = pf p 36 4 ∧ x.mirror = mirror ∧ x.eligibleAt = none ∧ x.acceptedAt = s.now ∧
      (t.inflight? (named op p s)).isSome = true ∧ t.ctx? p.slot = some d ∧
      d.openSet = (if bitOf p.flags.toNat 4 then c.openSet ++ [newMember x.id] else c.openSet) ∧ OnlyIn replyAreas s t) ∧
  (∀ (p : Packet) (s : State),
    s.calm = true → passes .recvPost p s = true → s.inCarve p.part (pf p 20 6) (pf p 28 4) = true →
    (s.gl.posted.filter (fun x => x.ref.part = p.part)).length < 1024 →
    ∃ t, exec (.recvPost p) s = .next t ∧
      t.gl.posted = s.gl.posted ++ [{ ref := named .recvPost p s, addr := pf p 20 6, len := pf p 28 4, tag := pf p 32 4
                                      filter := pf p 36 2 }] ∧
      (t.inflight? (named .recvPost p s)).isSome = true ∧ OnlyIn replyAreas s t) ∧
  (∀ (p : Packet) (s : State) (b : Posted),
    s.calm = true → passes .recvCancel p s = true →
    s.gl.posted.find? (fun b => b.ref.part = p.part && b.ref.slot = p.slot && b.tag = pf p 20 4 && b.filter = pf p 24 2) = some b →
    ∃ t, exec (.recvCancel p) s = .next t ∧ t.gl.posted = s.gl.posted.erase b ∧ t.inflight? b.ref = none ∧
      Answered .recvCancel p stOk 0 s t ∧ OnlyIn replyAreas s t)

/-- PARCEL_ELIGIBLE, LDT_PASSED and BOUND_NOTICE_RECEIVE (R264, R271, R275, R276). -/
def Obligations.ParcelsBecomeEligibleAndBoundsBreak : Prop :=
  (∀ (id : Nat) (s : State) (x : TxParcel),
    s.calm = true → s.running = true → s.parcel? id = some x → x.eligibleAt = none → (s.part x.part).struck = false →
    s.headParcel x = true → s.creditFor x = true → (∀ c, x.ctx = some c → s.maySlice x.part x.cls c = true) →
    s.reaches x.dst = true →
    (∀ e r, x.cls ≠ 4 → x.resv = some e → s.resv? e = some r → r.state ≠ .degraded →
      r.flitCost x.flits ≤ (s.refill r).tokens →
      ∃ t y, exec (.parcelEligible id) s = .next t ∧ t.parcel? id = some y ∧ y.eligibleAt = some s.now ∧
        y.deadline = s.now + r.bound ∧ y.broken = x.broken ∧ OnlyIn [.gl, .cal, .inl, .cmds, .fresh] s t) ∧
    (x.cls = 4 → s.shaper? x.part 1 = none →
      ∃ t y, exec (.parcelEligible id) s = .next t ∧ t.parcel? id = some y ∧ y.eligibleAt = some s.now ∧ y.deadline = 0 ∧
        OnlyIn [.gl, .cal, .inl, .cmds, .fresh] s t)) ∧
  (∀ (id e : Nat) (s : State) (x : TxParcel) (q : Resv) (r : CmdRef),
    s.calm = true → s.running = true → s.parcel? id = some x → x.broken = false → x.kind = .data → x.ref = some r →
    x.bounded = true → x.resv = some e → s.resv? e = some q → x.gone q = false → s.answersTo r = true →
    ∃ t y, exec (.ldtPassed id) s = .next t ∧ t.parcel? id = some y ∧ y.broken = true ∧ t.inflight? r = none ∧
      t.now = max s.now (x.ldt q) ∧ Replied r stBoundBroken (detailOf x.deadline) t.now t ∧
      OnlyIn (.cal :: .start :: replyAreas) s t) ∧
  (∀ (n : BoundNotice) (s : State) (x : TxParcel) (r : CmdRef),
    s.calm = true → s.running = true →
    s.gl.parcels.find? (fun x => x.ptag = n.ptag && x.dst = n.dst && x.pseq.isSome && 1 ≤ x.cls && x.cls ≤ 3) = some x →
    s.parcel? x.id = some x → n.reason = 1 → s.now < x.deadline → x.broken = false → x.kind = .data → x.ref = some r →
    s.answersTo r = true →
    ∃ t y, exec (.boundNoticeReceive n) s = .next t ∧ t.parcel? x.id = some y ∧ y.broken = true ∧ t.inflight? r = none ∧
      Replied r stBoundBroken (detailOf x.deadline) s.now t ∧ OnlyIn replyAreas s t) ∧
  (∀ (n : BoundNotice) (s : State),
    s.calm = true → s.running = true →
    s.gl.parcels.find? (fun x => x.ptag = n.ptag && x.dst = n.dst && x.pseq.isSome && 1 ≤ x.cls && x.cls ≤ 3) = none →
    ∃ t, exec (.boundNoticeReceive n) s = .next t ∧ t.gl.noticesIgnored = s.gl.noticesIgnored + 1 ∧ OnlyIn [.gl] s t)

/-- PARCEL_ACCEPT places a DATA parcel in its buffer, and a PSEQ only once (R110, R111, R112, R113, R128). -/
def Obligations.ParcelsAreAcceptedOnce : Prop :=
  (∀ (x : RxParcel) (s : State) (part : Nat),
    s.calm = true → s.running = true → s.tests.injections = [] → s.blocked (0x200 + x.lanePair % 96) = false →
    x.flitDst = s.chip → s.partOfDomain x.hdr.domain = some part → x.hdr.src = x.flitSrc → x.hdr.dst = x.flitDst →
    x.hdr.domain = x.flitDomain → x.hdr.cls = x.flitCls → x.hdr.pkind = bodyKind x.body → (s.key? part 0).isSome = true →
    x.twinsOk = true → x.tagOk = true →
    (∀ (bytes : List Byte) (b : Posted),
      (s.window part x.hdr.src).base ≤ x.hdr.pseq → (s.window part x.hdr.src).received.contains x.hdr.pseq = false →
      x.hdr.pseq < (s.window part x.hdr.src).base + 128 →
      ¬(1 ≤ x.hdr.cls ∧ x.hdr.cls ≤ 3 ∧ x.hdr.deadline < s.now) → x.placeUncorrectable = none → x.body = .data bytes →
      s.bufferFor part x = some b → place s part b.addr bytes.length = .tier0 b.addr → bytes ≠ [] → s.answersTo b.ref = true →
      ∃ t, exec (.parcelAccept x) s = .next t ∧ t.gl.posted = s.gl.posted.erase b ∧ t.inflight? b.ref = none ∧
        Replied b.ref stOk (resultOf [(16, 4, x.hdr.length), (20, 2, x.hdr.src), (24, 4, x.hdr.pseq), (28, 1, x.hdr.cls)]) s.now t ∧
        t.gl.packq = s.gl.packq ++ [{ part := part, dst := x.hdr.src, domain := x.hdr.domain, cls := x.hdr.cls
                                      record := { pseq := x.hdr.pseq, epoch := x.epoch, result := 0, copy := x.mirror
                                                  staged := false } }] ∧
        .write part b.addr bytes ∈ t.out ∧
        ((t.window part x.hdr.src).received.contains x.hdr.pseq = true ∨ x.hdr.pseq < (t.window part x.hdr.src).base) ∧
        OnlyIn replyAreas s t) ∧
    (x.hdr.pseq < (s.window part x.hdr.src).base ∨ (s.window part x.hdr.src).received.contains x.hdr.pseq = true →
      ∃ t, exec (.parcelAccept x) s = .next t ∧ t.gl.posted = s.gl.posted ∧
        t.gl.packq = s.gl.packq ++ [{ part := part, dst := x.hdr.src, domain := x.hdr.domain, cls := x.hdr.cls
                                      record := { pseq := x.hdr.pseq, epoch := x.epoch, result := 1, copy := x.mirror
                                                  staged := false } }] ∧ OnlyIn [.gl] s t))

/-- PACK_RECEIVE settles a SEND; PARCEL_DECLARED_LOST ends its job (R114, R115, R127, R434). -/
def Obligations.ParcelsSettleOrAreLost : Prop :=
  (∀ (k : Pack) (s : State) (part : Nat) (c : PackRecord) (x : TxParcel) (r : CmdRef),
    s.calm = true → s.running = true → (∀ c ∈ s.cmds.ctxs, c.fences = []) → s.partOfDomain k.domain = some part →
    k.gmacOk = true → (s.key? part 0).isSome = true → k.records = [c] → c.result = 0 →
    s.gl.parcels.find? (fun x => x.part = part && x.dst = k.src && x.cls = k.cls && x.pseq = some c.pseq) = some x →
    x.kind = .data → x.ref = some r → x.broken = false → x.drain = false → x.cls ≠ 4 → x.id < s.gl.nextId →
    s.answersTo r = true →
    ∃ t, exec (.packReceive k) s = .next t ∧ t.parcel? x.id = none ∧ t.inflight? r = none ∧
      Replied r stOk (resultOf [(16, 4, c.pseq), (20, 1, if c.copy then x.epochM else x.epoch), (21, 1, x.hops),
        (22, 1, if c.copy then 1 else 0)]) s.now t ∧ OnlyIn (.cal :: replyAreas) s t) ∧
  (∀ (id t0 : Nat) (s : State) (x : TxParcel) (r : CmdRef),
    s.calm = true → s.running = true → (∀ c ∈ s.cmds.ctxs, c.fences = []) → s.parcel? id = some x → x.leftAt = some t0 →
    x.kind = .data → x.ref = some r → x.broken = false → x.drain = false → x.id < s.gl.nextId → s.answersTo r = true → x.part < 16 →
    x.part < s.parts.length → (s.part x.part).pstate = .sealed → (s.part x.part).view.rungActive = false →
    ∃ t, exec (.parcelDeclaredLost id) s = .next t ∧ t.parcel? id = none ∧ t.inflight? r = none ∧ t.now = max s.now (t0 + 1000000) ∧
      Replied r stJobFaulted (detailOf 4) t.now t ∧ (t.part x.part).pstate = .faulted)

/-- Links come up and go down (R88, R104, R133, R459, R515, R98, R447). -/
def Obligations.LinksComeUpAndGoDown : Prop :=
  ((∀ (n : Nat) (s : State) (l : Link),
    s.calm = true → s.gl.links[n]? = some l → n < 64 → s.tileOn n = true → l.enable = true → l.state = .down → l.retired = false →
    ∃ t, exec (.linkUp n) s = .next t ∧ (t.link n).state = .training ∧ (t.link n).pcsUp = true ∧
      (∀ m, m ≠ n → t.link m = s.link m) ∧ OnlyIn [.gl, .start] s t) ∧
  (∀ (n : Nat) (s : State) (l : Link),
    s.calm = true → s.gl.links[n]? = some l → n < 64 → s.tileOn n = true → s.portTest n = false → l.state = .down → l.pcsUp = true → l.retired = false →
    ∃ t, exec (.linkEnableWrite n true) s = .next t ∧ (t.link n).state = .training ∧ (t.link n).enable = true ∧
      (∀ m, m ≠ n → t.link m = s.link m) ∧ OnlyIn [.gl, .start] s t) ∧
  (∀ (n : Nat) (s : State) (l : Link),
    s.calm = true → s.gl.links[n]? = some l → n < 64 → s.up = true → l.state = .training →
    ∃ t, exec (.linkTrained n) s = .next t ∧ (t.link n).state = .unkeyed ∧ (t.link n).secret = false ∧ (t.link n).rxAt = s.now ∧
      (s.kp.ready = true → (t.link n).keyx = .helloSent ∧ .keyx n 0x01 s.chip ∈ t.out) ∧
      (∀ m, m ≠ n → t.link m = s.link m) ∧ OnlyIn [.gl, .start, .out] s t) ∧
  (∀ (n : Nat) (s : State) (l : Link),
    s.calm = true → s.gl.links[n]? = some l → n < 64 → s.up = true → l.state = .disabled → l.enable = true →
    ∃ t, exec (.linkRearm n) s = .next t ∧ (t.link n).state = .training ∧ (∀ m, m ≠ n → t.link m = s.link m) ∧
      OnlyIn [.gl, .start] s t)) ∧
  ((∀ (n : Nat) (s : State) (l : Link),
    s.calm = true → s.gl.parcels = [] → s.tests.runs = [] → (∀ c ∈ s.cmds.ctxs, c.fences = []) → s.gl.links[n]? = some l → n < 64 → l.state ≠ .disabled → l.state ≠ .down →
    ∃ t, exec (.linkDown n) s = .next t ∧ (t.link n).state = .down ∧ (t.link n).secret = false ∧ (t.link n).keyx = .idle ∧ (t.link n).keyxCmd = none ∧ (t.link n).pcsUp = false ∧ (l.state = .keyed → (t.link n).replay = []) ∧
      t.plumb.sticky.getLsbD (0x40 + n) = true ∧ t.kp = s.kp ∧ t.fuses = s.fuses ∧ t.sill = s.sill) ∧
  (∀ (n : Nat) (s : State) (l : Link),
    s.calm = true → s.gl.parcels = [] → s.tests.runs = [] → (∀ c ∈ s.cmds.ctxs, c.fences = []) → s.gl.links[n]? = some l → n < 64 → s.up = true → (l.state = .unkeyed ∨ l.state = .keyed ∨ l.state = .quarantined) →
    ∃ t, exec (.linkSilenceTimeout n) s = .next t ∧ (t.link n).state = .down ∧ (t.link n).secret = false ∧ (t.link n).keyx = .idle ∧ (t.link n).keyxCmd = none ∧ (l.state = .keyed → (t.link n).replay = []) ∧
      t.now = max s.now (l.rxAt + 1000) ∧ t.plumb.sticky.getLsbD (0x40 + n) = true ∧ t.kp = s.kp ∧ t.fuses = s.fuses ∧
      t.sill = s.sill) ∧
  (∀ (n : Nat) (s : State) (l : Link),
    s.calm = true → s.gl.parcels = [] → s.tests.runs = [] → (∀ c ∈ s.cmds.ctxs, c.fences = []) → s.gl.links[n]? = some l → n < 64 → s.up = true → l.state ≠ .down →
    ∃ t, exec (.linkEnableWrite n false) s = .next t ∧ (t.link n).state = .down ∧ (t.link n).secret = false ∧ (t.link n).keyx = .idle ∧ (t.link n).keyxCmd = none ∧ (t.link n).enable = false ∧
      (l.state = .keyed → (t.link n).replay = []) ∧ t.plumb.sticky.getLsbD (0x40 + n) = true ∧ t.kp = s.kp ∧ t.fuses = s.fuses ∧
      t.sill = s.sill))

/-- The messages of the neighbour exchange take it step by step to KEYED (R377, R378, R379, R381, R88). -/
def Obligations.NeighbourExchangeAdvances : Prop :=
  (∀ (n : Nat) (m : Hello) (s : State) (l : Link),
    s.calm = true → s.gl.links[n]? = some l → n < 64 → exchanging s n = true → m.wellFormed = true → (l.keyx = .idle ∨ l.keyx = .helloSent ∨ l.keyx = .refused) →
    ∃ t, exec (.keyxHello n m) s = .next t ∧ (t.link n).keyx = .helloSeen ∧ (t.link n).helloReason = helloReason s n m ∧
      (t.link n).peer = some (if n < 48 then m.chip else 0x8000 + (n - 48) / 2) ∧
      (t.link n).initiator = (!decide (n < 48) || decide (s.chip < m.chip)) ∧ (t.link n).state = l.state ∧ .keyx n 0x02 0 ∈ t.out ∧
      (l.keyx ≠ .helloSent → .keyx n 0x01 s.chip ∈ t.out) ∧ OnlyIn [.gl, .start, .out] s t) ∧
  (∀ (n : Nat) (c : CertsSeen) (s : State) (l : Link),
    s.calm = true → s.gl.links[n]? = some l → n < 64 → exchanging s n = true → l.keyx = .helloSeen → l.helloReason = 0 → c.wellFormed = true → c.claimsProduction = true →
    c.chainsOk = true → c.modelOk = true →
    ∃ t, exec (.keyxCerts n c) s = .next t ∧ (t.link n).keyx = (if l.initiator then KeyxStep.kemI else KeyxStep.certsSeen) ∧
      (t.link n).peerId = c.idHash ∧ (l.initiator = true → .keyx n 0x03 0 ∈ t.out) ∧ (t.link n).state = l.state ∧
      OnlyIn [.gl, .start, .out] s t) ∧
  (∀ (n : Nat) (k : KemSeen) (s : State) (l : Link),
    s.calm = true → s.tests.injections = [] → s.gl.links[n]? = some l → n < 64 → exchanging s n = true → k.wellFormed = true → k.decapsOk = true → k.twinsOk = true →
    (l.keyx = .certsSeen →
      ∃ t, exec (.keyxKemI n k) s = .next t ∧ (t.link n).keyx = .kemR ∧ .keyx n 0x04 0 ∈ t.out ∧ OnlyIn [.gl, .start, .out] s t) ∧
    (l.keyx = .kemI → k.confirmOk = true → s.gl.parcels = [] → (∀ c ∈ s.cmds.ctxs, c.fences = []) →
      ∃ t, exec (.keyxKemR n k) s = .next t ∧ (t.link n).state = .keyed ∧ (t.link n).secret = true ∧ (t.link n).keyx = .idle ∧
        (t.link n).credits = List.replicate 10 32 ∧ (t.link n).rotations = 0 ∧ (t.link n).keyxCmd = none ∧ .keyx n 0x05 0 ∈ t.out) ∧
    (l.keyx = .kemR → k.confirmOk = true → s.gl.parcels = [] → (∀ c ∈ s.cmds.ctxs, c.fences = []) →
      ∃ t, exec (.keyxConfirm n k) s = .next t ∧ (t.link n).state = .keyed ∧ (t.link n).secret = true ∧ (t.link n).keyx = .idle ∧
        (t.link n).credits = List.replicate 10 32 ∧ (t.link n).rotations = 0 ∧ (t.link n).keyxCmd = none)) ∧
  (∀ (n reason : Nat) (s : State) (l : Link),
    s.calm = true → s.gl.links[n]? = some l → n < 64 → exchanging s n = true → l.keyx ≠ .idle → l.keyx ≠ .refused →
    (∃ t, exec (.keyxRefuse n reason) s = .next t ∧ (t.link n).keyx = .refused ∧ (t.link n).secret = false ∧
      (t.link n).keyxCmd = none ∧ (t.link n).state = l.state) ∧
    (∃ t, exec (.keyxTimeout n) s = .next t ∧ (t.link n).keyx = .refused ∧ (t.link n).secret = false ∧
      (t.link n).keyxCmd = none ∧ (t.link n).state = l.state ∧ t.now = max s.now (l.keyxAt + 10000000) ∧ .keyx n 0x06 0x07 ∈ t.out)) ∧
  (∀ (n : Nat) (s : State) (l : Link),
    s.calm = true → s.gl.links[n]? = some l → n < 64 → exchanging s n = true → l.keyx = .refused →
    ∃ t, exec (.exchangeRetry n) s = .next t ∧ (t.link n).keyx = .helloSent ∧ t.now = max s.now (l.keyxAt + 100000000) ∧
      .keyx n 0x01 s.chip ∈ t.out ∧ OnlyIn [.gl, .cal, .start, .out] s t) ∧
  (∀ (p : Packet) (s : State) (l : Link),
    s.calm = true → passes .neighbourKeyx p s = true → s.gl.links[pf p 20 1]? = some l → l.state = .unkeyed → l.keyxCmd = none →
    ∃ t, exec (.neighbourKeyx p) s = .next t ∧ (t.link (pf p 20 1)).keyx = .helloSent ∧
      (t.link (pf p 20 1)).keyxCmd = some (named .neighbourKeyx p s) ∧ (t.inflight? (named .neighbourKeyx p s)).isSome = true ∧
      .keyx (pf p 20 1) 0x01 s.chip ∈ t.out ∧ OnlyIn replyAreas s t)

/-- HOP_KEY_ROTATION, ROTATE, ROTATE_ACK, ROTATE_RESEND and ACK_TIMEOUT (R95, R102, R103, R380). -/
def Obligations.HopKeysRotateAndFlitsAreResent : Prop :=
  (∀ (n : Nat) (s : State) (l : Link),
    s.calm = true → s.gl.links[n]? = some l → n < 64 → s.up = true → l.state = .keyed →
    (l.initiator = true → l.rotateSent = none → l.rotations < 65535 →
      ∃ t, exec (.hopKeyRotation n) s = .next t ∧ (t.link n).rotating = true ∧ (t.link n).rotateSent = some t.now ∧
        (t.link n).rotations = l.rotations ∧ .keyx n 0x10 (l.rotations + 1) ∈ t.out ∧ OnlyIn [.gl, .cal, .start, .out] s t) ∧
    (l.initiator = false →
      ∃ t, exec (.keyxRotate n (l.rotations + 1)) s = .next t ∧ (t.link n).rotations = l.rotations + 1 ∧
        (t.link n).keyPhase = !l.keyPhase ∧ (t.link n).txSeq = 0 ∧ (t.link n).keyAt = s.now ∧
        .keyx n 0x11 (l.rotations + 1) ∈ t.out ∧ OnlyIn [.gl, .start, .out] s t) ∧
    (l.rotateSent.isSome = true →
      (∃ t, exec (.keyxRotateAck n (l.rotations + 1)) s = .next t ∧ (t.link n).rotations = l.rotations + 1 ∧
        (t.link n).keyPhase = !l.keyPhase ∧ (t.link n).txSeq = 0 ∧ (t.link n).rotateSent = none ∧ OnlyIn [.gl, .start] s t) ∧
      (∃ t, exec (.rotateResend n) s = .next t ∧ (t.link n).rotateSent = some t.now ∧
        t.now = max s.now (l.rotateSent.getD 0 + 1000000) ∧ .keyx n 0x10 (l.rotations + 1) ∈ t.out ∧
        OnlyIn [.gl, .cal, .start, .out] s t)) ∧
    (s.scribe.halted = false → l.replay ≠ [] →
      ∃ t, exec (.ackTimeout n) s = .next t ∧ (t.link n).resend = l.replay.map (fun e => e.1) ∧
        (t.link n).replays = l.replays + 1 ∧ t.now = max s.now (l.ackAt + 2000) ∧ (t.link n).replay = l.replay ∧
        OnlyIn [.gl, .cal, .start] s t))

/-- Flits, bound notices and echo answers leave (R93, R95, R97, R259, R500, R276, R518, R519). -/
def Obligations.FlitsNoticesAndEchoesLeave : Prop :=
  ((∀ (n slot lane : Nat) (tw : Bool) (m : MemRead) (s : State) (l : Link),
    s.calm = true → s.gl.links[n]? = some l → n < 64 → s.up = true → s.tests.injections = [] → s.blocked (0x100 + lane % 96) = false → l.state = .keyed → l.txSeq ≠ 2 ^ 32 - 1 →
    (s.scribe.halted = true ∨ (s.gl.parcels = [] ∧ s.gl.packq = [] ∧ l.resend = [] ∧ l.txq = []) →
      ∃ t h, exec (.flitSend n slot tw lane m) s = .next t ∧ .flit n h l.txSeq .zeros ∈ t.out ∧ h.ftype = 0 ∧
        h.lseq = l.txSeq % 4096 ∧ (t.link n).txSeq = l.txSeq + 1 ∧ (t.link n).replay.map (fun e => e.2.hdr) =
          l.replay.map (fun e => e.2.hdr) ++ [h] ∧ (t.link n).credits = l.credits ∧ OnlyIn [.gl, .out, .start] s t) ∧
    (∀ (k : Nat) (ks : List Nat) (q : QFlit),
      s.scribe.halted = false → l.resend = k :: ks → l.replay.find? (fun e => e.1 = k) = some (k, q) → q.hdr.ftype = 0 →
      (n < 48 → s.slotUse n (slot % 781) = .open_) →
      ∃ t, exec (.flitSend n slot tw lane m) s = .next t ∧ .flit n q.hdr (k % 2 ^ 32) q.payload ∈ t.out ∧
        (t.link n).resend = ks ∧ (t.link n).txSeq = l.txSeq ∧ (t.link n).replay = l.replay ∧ OnlyIn [.gl, .out, .start] s t) ∧
    (∀ (x : TxParcel) (i : Nat) (d : Bool),
      s.scribe.halted = false → l.resend = [] → l.txq = [] → l.replay = [] → s.gl.packq = [] → s.gl.parcels = [x] → n < 48 →
      s.slotUse n (slot % 781) = .open_ → x.cls = 4 → x.pseq = some i → x.eligibleAt.isSome = true → x.mirror = false →
      x.sent < x.flits → s.beOpen x.part = true → tw = true → 0 < l.credits.getD 8 0 →
      s.wayOut s.chip x.dst x.ptag false = .link n d →
      ∃ t h y, exec (.flitSend n slot tw lane m) s = .next t ∧ .flit n h l.txSeq (.sealed x.id x.sent) ∈ t.out ∧ h.ftype = 1 ∧
        h.cls = 4 ∧ h.fidx = x.sent ∧ h.ptag = x.ptag ∧ h.dst = x.dst ∧ h.last = decide (x.sent + 1 = x.flits) ∧
        t.parcel? x.id = some y ∧ y.sent = x.sent + 1 ∧ (t.link n).txSeq = l.txSeq + 1 ∧
        (t.link n).credits.getD 8 0 + 1 = l.credits.getD 8 0)) ∧
  (∀ (n slot lane : Nat) (tw : Bool) (m : MemRead) (s : State) (l : Link),
    s.calm = true → s.gl.links[n]? = some l → n < 64 → s.up = true → s.tests.injections = [] → s.blocked (0x100 + lane % 96) = false → (l.state = .unkeyed ∨ l.state = .quarantined) →
    ∃ t h, exec (.flitSend n slot tw lane m) s = .next t ∧ .flit n h 0 .zeros ∈ t.out ∧ h.ftype = 0 ∧ OnlyIn [.out, .start] s t)) ∧
  ((∀ (n k : Nat) (detour d : Bool) (s : State) (q : QFlit),
    s.calm = true → n < 64 → s.running = true → (s.link n).txq = [q] → q.transit = true → q.hdr.ftype = 1 →
    1 ≤ q.hdr.cls → q.hdr.cls ≤ 3 → q.noticed = false → (detour = true → q.detoured = true) →
    (detour = false → q.queuedAt + 78 ≤ s.now) →
    s.gl.notices.contains (q.hdr.src, q.hdr.ptag, if detour then 2 else 1) = false →
    s.wayOut s.chip q.hdr.src 0 false = .link k d →
    ∃ t x, exec (.boundNoticeSend n detour) s = .next t ∧
      t.gl.notices = s.gl.notices ++ [(q.hdr.src, q.hdr.ptag, if detour then 2 else 1)] ∧ x ∈ (t.link k).txq ∧
      x.hdr.ftype = 4 ∧ x.hdr.dst = q.hdr.src ∧ x.transit = false ∧
      x.payload = .bytes (noticeBytes { ptag := q.hdr.ptag, dst := q.hdr.dst, reason := if detour then 2 else 1 }) ∧
      { q with noticed := true } ∈ (t.link n).txq ∧ OnlyIn [.gl, .start] s t) ∧
  (∀ (n : Nat) (p : Probe) (s : State) (l : Link),
    s.calm = true → s.gl.links[n]? = some l → n < 64 → s.running = true → s.fuses.lc = .production → l.state = .keyed → l.txSeq ≠ 2 ^ 32 - 1 → p.kind = 1 →
    (∀ e, l.echoAt = some e → e + 1000 ≤ s.now) →
    ∃ t h v, exec (.echoRequestReceive n p) s = .next t ∧ (t.link n).echoAt = some s.now ∧ (t.link n).txSeq = l.txSeq + 1 ∧
      h.ftype = 6 ∧ .flit n h l.txSeq (.bytes (probeBytes { p with kind := 2, turn := v })) ∈ t.out ∧
      OnlyIn [.gl, .out, .fresh, .start] s t))

/-- FLIT_RECEIVE accepts, delivers, forwards or refuses a flit (R92, R93, R95, R98, R111, R116). -/
def Obligations.FlitsArrive : Prop :=
  (∀ (n : Nat) (f : RxFlit) (s : State) (l : Link),
    s.calm = true → s.gl.links[n]? = some l → n < 64 → s.up = true → l.state = .keyed → l.rxRefusing = false → f.checkOk = true →
    flitMalformed s n f.hdr = false → f.hdr.keyPhase = l.rxPhase → f.hdr.lseq = l.rxSeq % 4096 →
    (f.hdr.ftype = 0 →
      ∃ t, exec (.flitReceive n f) s = .next t ∧ (t.link n).rxSeq = (l.rxSeq + 1) % 2 ^ 32 ∧ (t.link n).rxAt = s.now ∧
        (t.link n).rxRefusing = false ∧ (t.link n).nakOwed = false ∧
        (∀ left, f.hdr.ackValid = true → ackReplay f.hdr.ackSeq l.replay = some left → (t.link n).replay = left) ∧
        (∀ k, k ≠ n → t.link k = s.link k) ∧ OnlyIn [.gl, .start] s t) ∧
    (s.scribe.halted = false → f.hdr.ftype = 1 → f.hdr.dst = s.chip →
      ∃ t g, exec (.flitReceive n f) s = .next t ∧ (t.link n).rxSeq = (l.rxSeq + 1) % 2 ^ 32 ∧ g ∈ t.gl.gathers ∧
        g.src = f.hdr.src ∧ g.ptag = f.hdr.ptag ∧ g.mirror = f.hdr.mirror ∧ f.hdr.fidx ∈ g.have_ ∧ OnlyIn [.gl, .start] s t) ∧
    (∀ (m : Nat) (d : Bool),
      s.scribe.halted = false → f.hdr.ftype = 1 → f.hdr.dst ≠ s.chip → f.hdr.hops < 28 →
      s.wayOut f.hdr.src f.hdr.dst f.hdr.ptag f.hdr.mirror = .link m d →
      ∃ t q, exec (.flitReceive n f) s = .next t ∧ (t.link m).txq = (s.link m).txq ++ [q] ∧ q.transit = true ∧
        q.hdr.hops = f.hdr.hops + 1 ∧ q.hdr.src = f.hdr.src ∧ q.hdr.dst = f.hdr.dst ∧ q.hdr.ptag = f.hdr.ptag ∧
        q.hdr.fidx = f.hdr.fidx ∧ q.payload = f.payload ∧ q.detoured = d ∧ OnlyIn [.gl, .start] s t)) ∧
  (∀ (n : Nat) (f : RxFlit) (s : State) (l : Link),
    s.calm = true → s.gl.links[n]? = some l → n < 64 → s.up = true → l.state = .keyed → l.rxRefusing = false → f.checkOk = false →
    (f.nullOk && f.keyxHello) = false → l.failTimes.length < 32 →
    ∃ t, exec (.flitReceive n f) s = .next t ∧ (t.link n).state = .keyed ∧ (t.link n).rxSeq = l.rxSeq ∧
      (t.link n).nakOwed = true ∧ (t.link n).rxRefusing = true ∧ (t.link n).checkFails = l.checkFails + 1 ∧
      OnlyIn [.gl, .start] s t)

/-- RING_SETUP makes and releases groups; the four collectives start (R139, R140, R141, R144, R156, R158). -/
def Obligations.GroupsAndCollectivesStart : Prop :=
  (∀ (p : Packet) (bytes : List Byte) (s : State) (l : List Nat),
    s.calm = true → passes .ringSetup p s = true → pf p 22 2 ≠ 0 → l = memberList (pf p 22 2) bytes →
    s.inCarve p.part (pf p 24 6) (2 * pf p 22 2) = true → s.inCarve p.part (pf p 32 6) 0x40000 = true →
    pf p 32 6 + 0x40000 ≤ t0End → s.group? p.part (pf p 20 1) = none → badList s l = false →
    (s.inl.groups.filter (fun g => g.part = p.part)).length < (s.part p.part).shares.groups →
    ∃ t g, exec (.ringSetup p (.ok bytes)) s = .next t ∧ t.group? p.part (pf p 20 1) = some g ∧ g.members = l ∧
      g.pos = l.idxOf s.chip ∧ g.stageAddr = pf p 32 6 ∧ g.running = none ∧ g.inst = 0 ∧
      Answered .ringSetup p stOk (resultOf [(16, 2, g.pos), (18, 2, g.pred), (20, 2, g.succ), (22, 1, s.hopsTo s.chip g.succ)]) s t ∧
      OnlyIn (.inl :: replyAreas) s t) ∧
  (∀ (p : Packet) (m : MemRead) (s : State) (g : Group),
    s.calm = true → passes .ringSetup p s = true → pf p 22 2 = 0 → s.group? p.part (pf p 20 1) = some g → g.running = none →
    g.staged = [] →
    ∃ t, exec (.ringSetup p m) s = .next t ∧ t.group? p.part (pf p 20 1) = none ∧ Answered .ringSetup p stOk 0 s t ∧
      OnlyIn (.inl :: replyAreas) s t) ∧
  (∀ (op : Op) (opc : Nat) (i : Packet → Instr) (p : Packet) (s : State) (g : Group) (sh : Shape),
    (op, opc, i) ∈ [(.allReduce, 2, Instr.allReduce), (.reduceScatter, 3, Instr.reduceScatter), (.allGather, 4, Instr.allGather),
      (.broadcast, 5, Instr.broadcast)] →
    s.calm = true → passes op p s = true → s.group? p.part (pf p 20 1) = some g →
    sh = shapeOf opc (pf p 21 1) (pf p 22 1) (pf p 23 1) (pf p 40 4) g.size →
    (srcBytes opc sh g.size (g.pos = pf p 46 2) ≠ 0 →
      s.inCarve p.part (pf p 24 6) (srcBytes opc sh g.size (g.pos = pf p 46 2)) = true) →
    (dstBytes opc sh g.size (g.pos = pf p 46 2) ≠ 0 →
      s.inCarve p.part (pf p 32 6) (dstBytes opc sh g.size (g.pos = pf p 46 2)) = true) →
    (pf p 44 1 ≠ 4 → (s.sendResv p.part (pf p 44 1) (pf p 48 4)).isSome = true) → sendRefusal s p.part = none →
    ∃ t h c, exec (i p) s = .next t ∧ t.group? p.part (pf p 20 1) = some h ∧ h.running = some c ∧ h.members = g.members ∧
      h.inst = g.inst ∧ c.ref = named op p s ∧ c.op = pf p 21 1 ∧ c.inFmt = pf p 22 1 ∧ c.outFmt = pf p 23 1 ∧
      c.srcAddr = pf p 24 6 ∧ c.dstAddr = pf p 32 6 ∧ c.count = pf p 40 4 ∧ c.cls = pf p 44 1 ∧ c.root = pf p 46 2 ∧
      c.timeoutUs = pf p 52 2 ∧ c.lastChunk = s.now ∧ (t.inflight? (named op p s)).isSome = true ∧
      OnlyIn (.inl :: replyAreas) s t)

/-- REDUCE_FORWARD_UNIT at the start of a chain, and COLLECTIVE_TIMEOUT (R146, R150, R159, R561). -/
def Obligations.CollectiveUnitsAndTimeout : Prop :=
  (∀ (part num unit : Nat) (data : UnitData) (s : State) (g : Group) (c : Collective) (sh : Shape) (bytes : List Byte),
    s.calm = true → s.running = true → s.tests.injections = [] → s.blocked (0x100 + data.lanePair % 96) = false →
    s.group? part num = some g → g.running = some c → g.part = part → g.num = num → c.preempted = false →
    c.handled.contains (unit, false) = false →
    sh = shapeOf c.opc c.op c.inFmt c.outFmt c.count g.size → unit < shardsOf c.opc g.size * sh.ur → data.twinsOk = true →
    data.localRead = .ok bytes → g.pos = (unit / sh.ur + 1) % g.size → g.pos ≠ unit / sh.ur →
    ∃ t x h d, exec (.reduceForwardUnit part num unit false data) s = .next t ∧ t.gl.parcels = s.gl.parcels ++ [x] ∧
      x.dst = g.succ ∧ x.part = part ∧ x.cls = c.cls ∧
      x.body = .chunk (combineBytes c.op c.inFmt none
        (bytes.take ((unitSpan sh.shard sh.wp (unit % sh.ur)).2 * sh.win))).1 ∧
      t.group? part num = some h ∧ h.running = some d ∧ d.sent = c.sent + 1 ∧ d.handled = c.handled ++ [(unit, false)] ∧
      OnlyIn [.gl, .inl, .cmds] s t) ∧
  (∀ (part num : Nat) (s : State) (g : Group) (c : Collective),
    s.calm = true → s.running = true → s.group? part num = some g → g.running = some c → c.preempted = false → part < 16 →
    part < s.parts.length → (s.part part).pstate = .sealed → (s.part part).view.rungActive = false →
    ∃ t, exec (.collectiveTimeout part num) s = .next t ∧ t.group? part num = none ∧ t.inflight? c.ref = none ∧
      t.now = max s.now (c.lastChunk + 1000 * c.timeoutUs) ∧ (t.part part).pstate = .faulted)

/-- UNFOLD starts, and its last unit ends it (R164, R165, R168, R206). -/
def Obligations.UnfoldStartsAndItsUnitsEndIt : Prop :=
  (∀ (p : Packet) (s : State) (k : KeySlot) (u0 n : Nat),
    s.calm = true → passes .unfold p s = true → (u0, n) = unitRange (pf p 20 1) (pf p 56 4) (pf p 60 2) →
    s.inCarve p.part (pf p 24 6 + 4096 * u0) (4096 * n) = true → s.inCarve p.part (pf p 30 6 + 16 * u0) (16 * n) = true →
    s.inCarve p.part (pf p 36 6) (32 * pf p 60 2 * unfoldWidth (pf p 21 1)) = true →
    (pbit p 22 0 = true → s.inCarve p.part (pf p 42 6) (pf p 60 2) = true) →
    pf p 24 6 + 4096 * u0 < apBase → pf p 30 6 + 16 * u0 < apBase → lacksSillResv s p.part (flagClass p) = false →
    s.keyFor (named .unfold p s) (pbits p 62 0 10) = some k → bitOf k.attr.toNat 3 = true →
    ∃ t u, exec (.unfold p) s = .next t ∧ t.inl.unfolds = s.inl.unfolds ++ [u] ∧ u.ref = named .unfold p s ∧
      u.imageAddr = pf p 24 6 ∧ u.tagAddr = pf p 30 6 ∧ u.outAddr = pf p 36 6 ∧ u.first = pf p 56 4 ∧ u.blocks = pf p 60 2 ∧
      u.keySlot = pbits p 62 0 10 ∧ u.cls = flagClass p ∧ u.pendingUnits = (List.range n).map (fun x => u0 + x) ∧
      (t.inflight? (named .unfold p s)).isSome = true ∧ OnlyIn (.inl :: replyAreas) s t) ∧
  (∀ (part slot seq unit : Nat) (data : WeightUnit) (s : State) (u : Unfolding),
    s.calm = true → s.running = true → s.tests.injections = [] → s.blocked (0x300 + data.lanePair % 72) = false →
    s.inl.unfolds = [u] → u.ref.part = part → u.ref.slot = slot → u.ref.seq = seq → u.pendingUnits = [unit] → u.cls ≠ 4 →
    data.uncorrectable = none → data.twinsOk = true → s.answersTo u.ref = true →
    (data.tagOk = true → (s.part part).t1 = [] → (s.part part).t2 = [] →
      ∃ t, exec (.unfoldUnit part slot seq unit data) s = .next t ∧ t.inl.unfolds = [] ∧ t.inflight? u.ref = none ∧
        Replied u.ref stOk (resultOf [(16, 4, u.verified + 1),
          (20, 4, u.written + (min (u.first + u.blocks) ((unit + 1) * mxBlocks (bitsOf u.desc.toNat 0 8)) -
            max u.first (unit * mxBlocks (bitsOf u.desc.toNat 0 8)))),
          (24, 4, u.saturations + (unfoldBytes u unit data.plain).2)]) s.now t) ∧
    (data.tagOk = false → part < 16 → part < s.parts.length → (s.part part).pstate = .sealed →
      (s.part part).view.rungActive = false →
      ∃ t, exec (.unfoldUnit part slot seq unit data) s = .next t ∧ t.inl.unfolds = [] ∧ t.inflight? u.ref = none ∧
        (t.part part).pstate = .faulted))

/-- MEM_WRITE and MEM_READ of a die (R173, R174, R175, R176, R191). -/
def Obligations.MemoryAccessesOfTheDieAreServed : Prop :=
  (∀ (port part addr op size : Nat) (data : List Byte) (s : State),
    s.calm = true → s.running = true → s.kp.ready = true → s.sill.accesses = [] → memOp op = some (true, size) → addr % size = 0 →
    (s.part part).pstate ≠ .faulted → (s.part part).struck = false → place s part addr size = .tier0 addr →
    ∃ t, exec (.memWrite port part addr op data) s = .next t ∧
      .memResponse port kWack (List.replicate size 0) ∈ t.out ∧ .stackWrite addr (encodeSectors (size / 64) data) ∈ t.out ∧
      t.sill.accesses = [] ∧ OnlyIn [.sill, .parts, .fresh, .out] s t) ∧
  (∀ (port part addr op size : Nat) (s : State),
    s.calm = true → s.running = true → s.kp.ready = true → s.sill.accesses = [] → s.sill.heldLines = [] →
    memOp op = some (false, size) → addr % size = 0 →
    (s.part part).pstate ≠ .faulted → (s.part part).struck = false → place s part addr size = .tier0 addr →
    ∃ t a, exec (.memRead port part addr op) s = .next t ∧ t.sill.accesses = [a] ∧ a.id = s.sill.nextAccess ∧ a.port = some port ∧
      a.part = part ∧ a.addr = addr ∧ a.size = size ∧ a.write = false ∧ a.answer = none ∧ a.begun = true ∧
      .stackRead addr s.sill.nextAccess ∈ t.out ∧ OnlyIn [.sill, .parts, .fresh, .out] s t) ∧
  (∀ (port part addr op size : Nat) (write : Bool) (data : List Byte) (s : State),
    s.calm = true → s.running = true → s.kp.ready = true → s.sill.accesses = [] → memOp op = some (write, size) → addr % size = 0 →
    (s.part part).pstate ≠ .faulted → (s.part part).struck = false → place s part addr size = .refused → part < 16 →
    ∃ t g, g < 3 ∧ exec (.memWrite port part addr op data) s = .next t ∧
      .memResponse port (64 * g + kRefused) (List.replicate size 0) ∈ t.out ∧ t.sill.accesses = [] ∧
      t.plumb.sticky.getLsbD (0xB0 + part) = true)

/-- STACK_ANSWER, TIER1_ANSWER, SLED_ANSWER, SLED_TIMEOUT and CONTROLLER_WRITE_ACK (R174, R179, R187, R191, R193, R194, R207). -/
def Obligations.AnswersOfControllersAndSledsTakeEffect : Prop :=
  (∀ (id port : Nat) (sec : Sector) (second : List Sector) (s : State) (a : MemAccess) (d : List Byte) (c : Bool),
    s.calm = true → s.tests.injections = [] → s.sill.accesses = [a] → a.id = id → a.port = some port → a.answer = none →
    a.recordWait = false → a.addr < t0End → a.write = false → a.begun = true → a.size = 64 → a.got = [] → d.length = 64 →
    rsDecode (s.lane (laneOf a.addr)).retired sec = some (d, c) →
    ∃ t, exec (.stackAnswer id [sec] second false) s = .next t ∧ .memResponse port (64 * a.group + kData) d ∈ t.out ∧
      t.sill.accesses = [] ∧ t.sill.corrected = (if c then bump 65535 s.sill.corrected else s.sill.corrected) ∧
      OnlyIn [.sill, .out] s t) ∧
  (∀ (id port line : Nat) (data : List Byte) (s : State) (a : MemAccess),
    s.calm = true → s.tests.injections = [] → s.sill.accesses = [a] → a.id = id → a.port = some port → a.answer = none →
    a.recordWait = false → t0End ≤ a.addr → a.addr < ownBase → a.write = false → a.begun = true → a.need = [line] →
    ∃ t, exec (.tier1Answer id data true true false) s = .next t ∧
      .memResponse port (64 * a.group + kData) (assemble a.addr a.size (a.got ++ [(256 * line, data)])) ∈ t.out ∧
      t.sill.accesses = [] ∧ OnlyIn [.sill, .out] s t) ∧
  (∀ (link tag port : Nat) (data : List Byte) (s : State) (a : MemAccess) (q : SledReq),
    s.calm = true → s.tests.injections = [] → s.sill.accesses = [a] → s.sill.sleds = [q] → q.link = link → q.tag = tag →
    q.write = false → q.access = a.id → a.port = some port → a.answer = none → a.recordWait = false → ownBase ≤ a.addr →
    a.write = false → a.begun = true → a.need = [q.line] →
    ∃ t, exec (.sledAnswer link tag 0 data true true false) s = .next t ∧
      .memResponse port (64 * a.group + kData) (assemble a.addr a.size (a.got ++ [(256 * q.line, data)])) ∈ t.out ∧
      t.sill.accesses = [] ∧ t.sill.sleds = [] ∧ OnlyIn [.sill, .out] s t) ∧
  (∀ (link tag : Nat) (data : List Byte) (s : State) (q : SledReq) (h : HeldLine),
    s.calm = true → s.tests.injections = [] → s.sill.accesses = [] → s.sill.sleds = [q] → q.link = link → q.tag = tag →
    q.write = true → s.sill.heldLines = [h] → h.access = q.access → h.addr = 256 * q.line →
    ∃ t, exec (.sledAnswer link tag 0 data true true false) s = .next t ∧ t.sill.sleds = [] ∧ t.sill.heldLines = [] ∧
      OnlyIn [.sill] s t) ∧
  (∀ (link tag part : Nat) (s : State) (q : SledReq),
    s.calm = true → s.running = true → s.sill.accesses = [] → s.sill.sleds = [q] → q.link = link → q.tag = tag → q.write = true →
    sledOwner q s = some part → part < 16 → part < s.parts.length → (s.part part).pstate = .sealed →
    (s.part part).view.rungActive = false →
    ∃ t, exec (.sledTimeout link tag) s = .next t ∧ t.sill.sleds = [] ∧ t.now = max s.now (q.sentAt + 20000) ∧
      (t.part part).pstate = .faulted) ∧
  (∀ (id : Nat) (s : State) (h : HeldLine),
    s.calm = true → s.sill.heldLines = [h] → h.access = id → h.addr < ownBase →
    ∃ t, exec (.controllerWriteAck id false) s = .next t ∧ t.sill.heldLines = [] ∧ OnlyIn [.sill] s t)

/-- POOL_REQUEST_HOME and ANSWER_TIMEOUT (R195, R196, R201, R203, R440). -/
def Obligations.PoolHomeAnswersAndTimesOut : Prop :=
  (∀ (src domain pseq cls part : Nat) (m : PoolMsg) (bytes : List Byte) (s : State) (i : PoolIn),
    s.calm = true → s.sill.inbox = [i] → i.src = src → i.domain = domain → i.pseq = pseq → i.cls = cls → i.req = m →
    s.partOfDomain domain = some part → s.sill.accesses = [] → s.sill.poolEn = true →
    rangesCover (s.part part).t2 gran12 (m.offset / 256 * 256) 256 = true →
    (m.rop = 1 → src ≠ s.chip →
      ∃ t x, exec (.poolRequestHome src domain pseq cls m (.ok bytes)) s = .next t ∧ t.sill.inbox = [] ∧
        t.gl.parcels = s.gl.parcels ++ [x] ∧ x.dst = src ∧ x.cls = cls ∧ x.part = part ∧
        x.body = .atomicResp { m with result := rApplied, aflags := 0, old := 0, compare := 0
                                      line := lineNow s part ((ownBase + m.offset / 256 * 256) / 256) bytes } ∧
        OnlyIn [.sill, .gl] s t) ∧
    (0x11 ≤ m.rop → m.retry = false → s.ledgerEntry part src m.aseq = none → src ≠ s.chip →
      ∃ t e, exec (.poolRequestHome src domain pseq cls m (.ok bytes)) s = .next t ∧ t.sill.inbox = [] ∧
        t.ledgerEntry part src m.aseq = some e ∧ e.aseq = m.aseq ∧ e.context = m.context ∧ e.time = s.now ∧
        e.old = BitVec.ofNat 64 (ofLeBytes (((lineNow s part ((ownBase + m.offset / 256 * 256) / 256) bytes).drop
          (m.offset % 256)).take (atypeBytes m.atype))))) ∧
  (∀ (id t0 : Nat) (s : State) (q : RemoteReq) (r : CmdRef),
    s.calm = true → s.running = true → s.sill.remote = [q] → q.id = id → q.settledAt = some t0 → q.ref = some r → q.part < 16 →
    q.part < s.parts.length → (s.part q.part).pstate = .sealed → (s.part q.part).view.rungActive = false →
    ∃ t, exec (.answerTimeout id) s = .next t ∧ t.sill.remote = [] ∧ t.inflight? r = none ∧ t.now = max s.now (t0 + 1000000) ∧
      (t.part q.part).pstate = .faulted)

/-- PATROL_READ, COUNTER_SWEEP, INVALIDATE and ATOMIC (R181, R190, R199, R200, R202). -/
def Obligations.PatrolSweepAndPoolCommandsComplete : Prop :=
  (∀ (addr : Nat) (first second : Sector) (s : State) (d : List Byte) (c : Bool),
    s.calm = true → rsDecode (s.lane (laneOf addr)).retired first = some (d, c) →
    ∃ t, exec (.patrolRead addr first second) s = .next t ∧
      t.sill = { s.sill with corrected := if c then bump 65535 s.sill.corrected else s.sill.corrected } ∧ OnlyIn [.sill] s t) ∧
  (∀ (page : Nat) (s : State),
    s.calm = true → inRanges s.sill.sweep page = true → (∀ q, q < 16 → (s.part q).tierKey ≠ some (s.record page).keyEpoch) →
    ∃ t, exec (.counterSweep page) s = .next t ∧ (∀ r ∈ t.sill.records, r.page ≠ page) ∧ inRanges t.sill.sweep page = false ∧
      (∀ n, n ≠ page → inRanges t.sill.sweep n = inRanges s.sill.sweep n) ∧ OnlyIn [.sill] s t) ∧
  (∀ (p : Packet) (s : State) (lo hi : Nat),
    s.calm = true → passes .invalidate p s = true → lo = pf p 24 6 → hi = lo + 4096 * pf p 32 4 →
    t0End ≤ lo → (hi ≤ t1Base ∨ t1End ≤ lo) → s.inCarve p.part lo (hi - lo) = true → lacksSillResv s p.part (flagClass p) = false →
    ∃ t, exec (.invalidate p) s = .next t ∧
      t.sill.pool = s.sill.pool.filter (fun l => !(l.part = p.part && lo ≤ l.addr && l.addr < hi)) ∧
      (∀ q ∈ t.sill.remote, q.part = p.part → q.rop = 1 → lo ≤ q.addr → q.addr < hi → q.dropFill = true) ∧
      Answered .invalidate p stOk
        (resultOf [(16, 4, (s.sill.pool.filter (fun l => l.part = p.part && lo ≤ l.addr && l.addr < hi)).length)]) s t ∧
      OnlyIn (.sill :: replyAreas) s t) ∧
  (∀ (p : Packet) (s : State) (home off : Nat),
    s.calm = true → passes .atomic p s = true → inLowTiers (pf p 24 6) = false →
    place s p.part (pf p 24 6) (atypeBytes (pf p 21 1)) = .remote home off → lacksSillResv s p.part (flagClass p) = false →
    home ≠ s.chip →
    ∃ t q x, exec (.atomic p) s = .next t ∧ q ∈ t.sill.remote ∧ q.ref = some (named .atomic p s) ∧ q.home = home ∧
      q.rop = 0x10 + pf p 20 1 ∧ q.aseq = pf p 32 4 ∧ t.poolLine p.part (pf p 24 6 / 256) = none ∧ x ∈ t.gl.parcels ∧
      x.dst = home ∧ x.cls = flagClass p ∧
      x.body = .atomicReq (poolReq (0x10 + pf p 20 1) (pf p 21 1) 0 (bitOf p.flags.toNat 7) (pf p 32 4) off p.slot
        (BitVec.ofNat 64 (pf p 36 (atypeBytes (pf p 21 1)))) (BitVec.ofNat 64 (pf p 44 8)) []) ∧
      (t.inflight? (named .atomic p s)).isSome = true ∧ OnlyIn (.sill :: replyAreas) s t)

/-- PEG_ALLOC and PEG_FREE complete and do what 07 says (R220, R221, R214, R217, R240). -/
def Obligations.PegAllocAndPegFreeComplete : Prop :=
  (∀ (p : Packet) (s : State) (c : Ctx) (hi : Nat),
    s.calm = true → passes .pegAlloc p s = true → s.ctx? p.slot = some c → c.freeIndex = some hi →
    ((s.pegsOf p.part).length < (s.part p.part).shares.pegs ∧ (s.pegs.slots.filter (fun g => g.state != .free)).length < 65536 ∨
      (oldestOrphan (s.pegsOf p.part)).isSome = true) →
    ∃ t g c', exec (.pegAlloc p) s = .next t ∧ t.peg? g.idx = some g ∧ g.state = .live ∧ g.value = BitVec.ofNat 64 (pf p 24 8) ∧
      g.isValue = decide (pf p 20 1 = 1) ∧ g.ownerPart = p.part ∧ g.ownerCtx = p.slot ∧ g.role = .none ∧
      g.slotGen = (s.peg? g.idx).elim 1 (fun h => (h.slotGen + 1) % 256) ∧
      t.ctx? p.slot = some c' ∧
      c'.entry? hi = some { idx := hi, gen := c.entryGen hi, target := some (.owner g.idx g.slotGen), checkOk := true } ∧
      Answered .pegAlloc p stOk (resultOf [(16, 4, mkHandle hi (c.entryGen hi))]) s t ∧ OnlyIn (.pegs :: .fresh :: replyAreas) s t) ∧
  (∀ (p : Packet) (s : State) (c : Ctx) (i : Nat) (g : Peg),
    s.calm = true → passes .pegFree p s = true → s.ctx? p.slot = some c → translate s c (pf p 20 4) = .owner i g →
    (∀ w ∈ s.pegs.remote, w.peg = i → s.reaches w.src = true) →
    ∃ t q c', exec (.pegFree p) s = .next t ∧ t.peg? i = some q ∧ q.state = .orphaned ∧ q.value = g.value ∧ q.role = .none ∧
      (∀ w ∈ t.pegs.waiters, w.peg = i → w.remoteChip ≠ none) ∧ (∀ w ∈ t.pegs.remote, w.peg ≠ i) ∧
      t.ctx? p.slot = some c' ∧
      c'.entry? (pf p 20 4 % 4096) =
        some { idx := pf p 20 4 % 4096, gen := (c.entryGen (pf p 20 4 % 4096) + 1) % 256, target := none, checkOk := true } ∧
      Answered .pegFree p stOk 0 s t ∧ OnlyIn (.pegs :: replyAreas) s t) ∧
  (∀ (p : Packet) (s : State) (c : Ctx) (x : Xlat),
    s.calm = true → passes .pegFree p s = true → s.ctx? p.slot = some c → translate s c (pf p 20 4) = x →
    ((∃ i g r, x = .imported i g r) ∨ ∃ ch pt i g r, x = .remote ch pt i g r) →
    ∃ t c', exec (.pegFree p) s = .next t ∧ t.ctx? p.slot = some c' ∧
      c'.entry? (pf p 20 4 % 4096) =
        some { idx := pf p 20 4 % 4096, gen := (c.entryGen (pf p 20 4 % 4096) + 1) % 256, target := none, checkOk := true } ∧
      Answered .pegFree p stOk 0 s t ∧ OnlyIn replyAreas s t)

/-- SIGNAL raises a local peg, is held behind a fence, or is sent to the home (R215, R222, R229, R237, R243). -/
def Obligations.SignalCompletes : Prop :=
  (∀ (p : Packet) (s : State) (c : Ctx) (i : Nat) (g : Peg),
    s.calm = true → passes .signal p s = true → s.ctx? p.slot = some c → c.fences = [] →
    (translate s c (pf p 20 4) = .owner i g ∨ ∃ r, translate s c (pf p 20 4) = .imported i g r ∧ bitOf r 0 = true) →
    g.value.toNat ≠ pegMax → signalValue g (pf p 24 8) ≠ pegMax → ringAllows s g (signalValue g (pf p 24 8)) = true →
    ¬(g.isValue = true ∧ pf p 24 8 < g.value.toNat) → (∀ w ∈ s.pegs.remote, w.peg = i → s.reaches w.src = true) →
    ∃ t q, exec (.signal p) s = .next t ∧ t.peg? i = some q ∧ q.value.toNat = signalValue g (pf p 24 8) ∧
      (∀ w ∈ t.pegs.waiters, w.peg = i → w.remoteChip = none → w.preempted = false → satisfies q.value w.target = false) ∧
      (∀ w ∈ t.pegs.remote, w.peg = i → satisfies q.value w.target = false) ∧
      (∀ j, j ≠ i → t.peg? j = s.peg? j) ∧
      Answered .signal p stOk (resultOf [(16, 8, signalValue g (pf p 24 8))]) s t ∧ OnlyIn (.pegs :: replyAreas) s t) ∧
  (∀ (p : Packet) (s : State) (c : Ctx) (i : Nat) (g : Peg),
    s.calm = true → passes .signal p s = true → s.ctx? p.slot = some c → c.fences = [] →
    translate s c (pf p 20 4) = .owner i g → g.value.toNat = pegMax →
    ∃ t, exec (.signal p) s = .next t ∧ Answered .signal p stPegSaturated 0 s t ∧ OnlyIn replyAreas s t) ∧
  (∀ (p : Packet) (s : State) (c : Ctx) (f : Fence),
    s.calm = true → passes .signal p s = true → s.ctx? p.slot = some c → c.fences.getLast? = some f →
    ∃ t c', exec (.signal p) s = .next t ∧ t.ctx? p.slot = some c' ∧
      c'.held = c.held ++ [{ ref := named .signal p s, handle := BitVec.ofNat 32 (pf p 20 4), value := BitVec.ofNat 64 (pf p 24 8)
                             behind := f.ref.seq }] ∧
      (t.inflight? (named .signal p s)).isSome = true ∧ OnlyIn replyAreas s t) ∧
  (∀ (p : Packet) (s : State) (c : Ctx) (chip part peg gen r : Nat),
    s.calm = true → passes .signal p s = true → s.ctx? p.slot = some c → c.fences = [] →
    translate s c (pf p 20 4) = .remote chip part peg gen r → bitOf r 0 = true → s.reaches chip = true →
    ∃ t x, exec (.signal p) s = .next t ∧ x ∈ t.gl.parcels ∧ x.dst = chip ∧ x.cls = 0 ∧ x.part = p.part ∧
      x.body = .peg (pegMsg 0x01 0 peg gen part p.slot p.seq (BitVec.ofNat 64 (pf p 24 8)) 0 0) ∧
      (t.inflight? (named .signal p s)).isSome = true ∧ OnlyIn (.pegs :: replyAreas) s t)

/-- WAIT completes or is armed; FENCE completes or is armed (R223, R225, R235, R236, R238). -/
def Obligations.WaitAndFenceComplete : Prop :=
  (∀ (p : Packet) (s : State) (c : Ctx) (i : Nat) (g : Peg),
    s.calm = true → passes .wait p s = true → s.ctx? p.slot = some c →
    (translate s c (pf p 20 4) = .owner i g ∨ ∃ r, translate s c (pf p 20 4) = .imported i g r ∧ bitOf r 1 = true) →
    (satisfies g.value (BitVec.ofNat 64 (pf p 24 8)) = true →
      ∃ t, exec (.wait p) s = .next t ∧ Answered .wait p stOk (resultOf [(16, 8, g.value.toNat)]) s t ∧ OnlyIn replyAreas s t) ∧
    (satisfies g.value (BitVec.ofNat 64 (pf p 24 8)) = false → pf p 32 4 = 0 →
      ∃ t, exec (.wait p) s = .next t ∧ Answered .wait p stPegTimeout (detailOf g.value.toNat) s t ∧ OnlyIn replyAreas s t) ∧
    (satisfies g.value (BitVec.ofNat 64 (pf p 24 8)) = false → pf p 32 4 ≠ 0 →
      s.waitersUsed p.part < (s.part p.part).shares.waiters →
      ∃ t w, exec (.wait p) s = .next t ∧ t.pegs.waiters = s.pegs.waiters ++ [w] ∧ w.ref = named .wait p s ∧ w.peg = i ∧
        w.target = BitVec.ofNat 64 (pf p 24 8) ∧ w.deadline = s.now + pf p 32 4 * 1000 ∧ w.remoteChip = none ∧
        (t.inflight? (named .wait p s)).isSome = true ∧ t.pegs.slots = s.pegs.slots ∧ OnlyIn (.pegs :: replyAreas) s t)) ∧
  (∀ (p : Packet) (s : State) (c : Ctx) (ms : List FenceMember),
    s.calm = true → passes .fence p s = true → s.ctx? p.slot = some c → c.fences = [] → c.held = [] →
    ms = c.openSet ++ (if bitOf p.flags.toNat 4 then poolMembers p.part s else []) →
    ((∀ m ∈ ms, memberDone s p.part m = true) →
      ∃ t c' k, exec (.fence p) s = .next t ∧ t.ctx? p.slot = some c' ∧ c'.fences = [] ∧ c'.openSet = [] ∧
        Answered .fence p stOk (resultOf [(16, 4, ms.length), (20, 4, k)]) s t ∧ OnlyIn replyAreas s t) ∧
    ((∃ m ∈ ms, memberDone s p.part m = false) →
      ∃ t c', exec (.fence p) s = .next t ∧ t.ctx? p.slot = some c' ∧ c'.openSet = [] ∧
        c'.fences = [{ ref := named .fence p s, members := ms, failed := false }] ∧
        (t.inflight? (named .fence p s)).isSome = true ∧ OnlyIn replyAreas s t))

/-- EXPORT, IMPORT, RING_DECLARE and PEG_READ complete (R224, R227, R228, R242, R217). -/
def Obligations.ExportImportRingDeclarePegReadComplete : Prop :=
  (∀ (p : Packet) (s : State) (c : Ctx) (i : Nat) (g : Peg),
    s.calm = true → passes .exportPeg p s = true → s.ctx? p.slot = some c → translate s c (pf p 20 4) = .owner i g →
    ∃ t, exec (.exportPeg p) s = .next t ∧
      Answered .exportPeg p stOk (resultOf [(16, 8, i + 2 ^ 16 * g.slotGen + 2 ^ 24 * s.chip + 2 ^ 35 * p.part +
        2 ^ 39 * bitsOf (pf p 24 1) 0 3)]) s t ∧ OnlyIn replyAreas s t) ∧
  (∀ (p : Packet) (s : State) (c : Ctx) (hi : Nat) (e : HandleTarget),
    s.calm = true → passes .importPeg p s = true → s.ctx? p.slot = some c → c.freeIndex = some hi →
    (bitsOf (pf p 24 8) 24 11 = s.chip ∧ bitsOf (pf p 24 8) 35 4 = p.part ∧
        (∃ g, (s.slotState (bitsOf (pf p 24 8) 0 16) (bitsOf (pf p 24 8) 16 8)).1 = some g ∧ g.ownerPart = p.part) ∧
        e = .localImport (bitsOf (pf p 24 8) 0 16) (bitsOf (pf p 24 8) 16 8) (bitsOf (pf p 24 8) 39 3) ∨
      bitsOf (pf p 24 8) 24 11 ≠ s.chip ∧ bitOf (bitsOf (pf p 24 8) 39 3) 2 = true ∧
        e = .remote (bitsOf (pf p 24 8) 24 11) (bitsOf (pf p 24 8) 35 4) (bitsOf (pf p 24 8) 0 16) (bitsOf (pf p 24 8) 16 8)
          (bitsOf (pf p 24 8) 39 3)) →
    ∃ t c', exec (.importPeg p) s = .next t ∧ t.ctx? p.slot = some c' ∧
      c'.entry? hi = some { idx := hi, gen := c.entryGen hi, target := some e, checkOk := true } ∧
      Answered .importPeg p stOk (resultOf [(16, 4, mkHandle hi (c.entryGen hi))]) s t ∧ OnlyIn replyAreas s t) ∧
  (∀ (p : Packet) (s : State) (c : Ctx) (i j : Nat) (g h : Peg),
    s.calm = true → passes .ringDeclare p s = true → s.ctx? p.slot = some c → translate s c (pf p 20 4) = .owner i g →
    (pf p 28 4 ≠ 0 → translate s c (pf p 24 4) = .owner j h → g.isValue = false → h.isValue = false → i ≠ j →
      g.role = .none → h.role = .none → h.value.toNat ≤ g.value.toNat → g.value.toNat - h.value.toNat ≤ pf p 28 4 →
      ∃ t a b, exec (.ringDeclare p) s = .next t ∧ t.peg? i = some a ∧ t.peg? j = some b ∧
        a = { g with role := .producer, partner := j, depth := pf p 28 4 } ∧
        b = { h with role := .consumer, partner := i, depth := pf p 28 4 } ∧
        Answered .ringDeclare p stOk 0 s t ∧ OnlyIn (.pegs :: replyAreas) s t) ∧
    (pf p 28 4 = 0 → g.role = .producer →
      ∃ t a, exec (.ringDeclare p) s = .next t ∧ t.peg? i = some a ∧ a.role = .none ∧ a.value = g.value ∧
        (∀ b, t.peg? g.partner = some b → b.role = .none) ∧
        Answered .ringDeclare p stOk 0 s t ∧ OnlyIn (.pegs :: replyAreas) s t)) ∧
  (∀ (p : Packet) (s : State) (c : Ctx) (i : Nat) (g : Peg),
    s.calm = true → passes .pegRead p s = true → s.ctx? p.slot = some c →
    (translate s c (pf p 20 4) = .owner i g ∨ ∃ r, translate s c (pf p 20 4) = .imported i g r ∧ bitOf r 1 = true) →
    ∃ t, exec (.pegRead p) s = .next t ∧
      Answered .pegRead p stOk (resultOf [(16, 8, g.value.toNat), (24, 1, (if g.isValue then 1 else 0) +
        (if g.value.toNat = pegMax then 2 else 0) + 4 * (if g.role = .producer then 1 else if g.role = .consumer then 2 else 0))]) s t ∧
      OnlyIn replyAreas s t)

/-- PEG messages and peg deadlines take effect at their time (R225, R229, R231, R232, R234). -/
def Obligations.PegMessagesAndDeadlinesTakeEffect : Prop :=
  (∀ (src domain part : Nat) (m : PegMsg) (s : State) (g : Peg),
    s.calm = true → s.pegs.inbox = [{ src := src, domain := domain, msg := m }] → s.partOfDomain domain = some part →
    s.stalled (0x600 + m.slot % 8) = false → m.msg = 0x01 → m.part = part →
    (s.slotState m.slot m.slotGen).1 = some g → g.ownerPart = part → g.value.toNat ≠ pegMax →
    signalValue g m.value.toNat ≠ pegMax → ringAllows s g (signalValue g m.value.toNat) = true →
    ¬(g.isValue = true ∧ m.value.toNat < g.value.toNat) → s.reaches src = true →
    (∀ w ∈ s.pegs.remote, w.peg = m.slot → s.reaches w.src = true) →
    ∃ t q x, exec (.pegRequestApply src domain m) s = .next t ∧ t.peg? m.slot = some q ∧
      q.value.toNat = signalValue g m.value.toNat ∧ t.pegs.inbox = [] ∧ x ∈ t.gl.parcels ∧ x.dst = src ∧
      x.body = .peg (pegMsg 0x11 stOk m.slot m.slotGen m.part m.context m.seq q.value 0 0) ∧ m.applyAt ≤ t.now ∧ s.now ≤ t.now ∧
      OnlyIn (.pegs :: .cal :: .start :: replyAreas) s t) ∧
  (∀ (src domain part : Nat) (m : PegMsg) (s : State) (w : Waiter),
    s.calm = true → s.pegs.inbox = [{ src := src, domain := domain, msg := m }] → s.partOfDomain domain = some part →
    m.msg = 0x12 → s.pegs.waiters = [w] → w.remoteChip = some src → w.ref.part = part → w.ref.slot = m.context → w.ref.seq = m.seq →
    w.preempted = false → s.staleRef w.ref = false →
    ∃ t, exec (.pegAnswerApply src domain m) s = .next t ∧ t.pegs.waiters = [] ∧ t.pegs.inbox = [] ∧
      t.inflight? w.ref = none ∧ OnlyIn (.pegs :: .cal :: .start :: replyAreas) s t) ∧
  (∀ (part slot seq : Nat) (s : State) (w : Waiter),
    s.calm = true → s.running = true → s.pegs.waiters = [w] → w.ref.part = part → w.ref.slot = slot → w.ref.seq = seq →
    w.remoteChip = none → w.preempted = false → w.deadline ≠ 0 → part < s.parts.length →
    ∃ t, exec (.pegWaitTimeout part slot seq) s = .next t ∧ t.pegs.waiters = [] ∧ t.now = max s.now w.deadline ∧
      (t.part part).view.timeout = bump 255 (s.part part).view.timeout ∧ t.inflight? w.ref = none ∧
      t.pegs.slots = s.pegs.slots ∧ OnlyIn (.pegs :: .cal :: .start :: replyAreas) s t) ∧
  (∀ (src part context seq : Nat) (s : State) (w : RemoteWait),
    s.calm = true → s.running = true → s.pegs.remote = [w] → w.src = src → w.part = part → w.context = context → w.seq = seq →
    ∃ t, exec (.remoteRegistrationDrop src part context seq) s = .next t ∧ t.pegs.remote = [] ∧
      t.now = max s.now (w.deadline + 1000000) ∧ t.pegs.slots = s.pegs.slots ∧ OnlyIn [.pegs, .cal, .start] s t)

/-- KEY_LOAD, KEY_PIN_RC and BIND_UNWRAP load the unwrapped key (R338, R339, R340, R342, R343, R345, R349). -/
def Obligations.KeysAreLoaded : Prop :=
  (∀ (p : Packet) (b : Blob) (s : State) (slot : Nat) (key : Key),
    s.calm = true → s.tests.injections = [] → passes .keyLoad p s = true → srcIsCtx p.src = true → slotCheck s p.part (pf p 32 2) = .ok slot →
    s.inCarve p.part (pf p 20 6) (pf p 28 2) = true → readCause b.read = none →
    blobEarly s p.part { usage := 2, kind := 2, pin := false } (pf p 32 2) (pf p 28 2) b = none → b.twinsOk = true →
    b.key = some key → s.weightKeys < 256 →
    ∃ t k, exec (.keyLoad p b) s = .next t ∧ t.slot? p.part slot = some k ∧ k.state = .loaded ∧ k.usage = 2 ∧ k.key = key ∧ k.attr = BitVec.ofNat 32 (blobAttr b) ∧ k.keyId = blobKeyId b ∧ k.domain = blobDomain b ∧
      Answered .keyLoad p stOk (loadResult k) s t ∧ OnlyIn (.kp :: replyAreas) s t) ∧
  (∀ (p : Packet) (b : Blob) (s : State) (x : Session) (q slot : Nat) (key : Key),
    s.calm = true → s.tests.injections = [] → passes .keyLoad p s = true → s.session? p.src = some x → x.mutualAuth = true → q = pbits p 30 0 4 →
    q ≠ 0 → q < s.parts.length → (s.part q).pstate ≠ .free → (s.part q).pstate ≠ .created →
    slotCheck s q (pf p 32 2) = .ok slot →
    blobEarly s q { usage := 1, kind := 1, pin := false } (pf p 32 2) (pf p 28 2) b = none → b.twinsOk = true →
    b.key = some key → blobLate s q x.verifierId key b = none →
    ∃ t k, exec (.keyLoad p b) s = .next t ∧ t.slot? q slot = some k ∧ (s.slot? q slot = none → k.key = key ∧
        k.state = .loaded ∧ k.usage = 1) ∧ k.prefix_ = blobPrefix b ∧ (t.part q).ivParcel = 0 ∧ (t.part q).ivPack = 0 ∧
      (t.part q).verifierId = some ((s.part q).verifierId.getD x.verifierId) ∧
      Answered .keyLoad p stOk (loadResult k) s t ∧ OnlyIn (.kp :: .vs :: replyAreas) s t) ∧
  (∀ (p : Packet) (b : Blob) (s : State) (slot : Nat) (key : Key),
    s.calm = true → s.tests.injections = [] → passes .keyPinRc p s = true → slotCheck s p.part (pf p 32 2) = .ok slot →
    s.inCarve p.part (pf p 20 6) (pf p 28 2) = true → readCause b.read = none →
    blobEarly s p.part { usage := 1, kind := 1, pin := true } (pf p 32 2) (pf p 28 2) b = none → b.twinsOk = true →
    b.key = some key → s.slot? p.part slot = none →
    ∃ t k, exec (.keyPinRc p b) s = .next t ∧ t.slot? p.part slot = some k ∧ k.state = .pinned ∧ k.usage = 1 ∧ k.key = key ∧ k.attr = BitVec.ofNat 32 (blobAttr b) ∧ k.keyId = blobKeyId b ∧ k.domain = blobDomain b ∧
      k.prefix_ = blobPrefix b ∧ (t.part p.part).ivParcel = 0 ∧
      Answered .keyPinRc p stOk (loadResult k) s t ∧ OnlyIn (.kp :: replyAreas) s t) ∧
  (∀ (p : Packet) (b : BindSet) (e : Blob) (s : State) (slot : Nat) (key : Key),
    s.calm = true → s.tests.injections = [] → passes .bindUnwrap p s = true → slotCheck s p.part (pf p 32 2) = .ok slot →
    s.inCarve p.part (pf p 20 6) (pf p 28 4) = true → (s.key? p.part 0).isSome = true → readCause b.read = none →
    b.entry = some e → policyOk s p.part (pf p 28 4) b = true →
    blobEarly s p.part { usage := 2, kind := 1, pin := false } (pf p 32 2) 1796 e = none → e.twinsOk = true →
    b.policyMacOk = true → e.key = some key → s.weightKeys < 256 →
    ∃ t k, exec (.bindUnwrap p b) s = .next t ∧ t.slot? p.part slot = some k ∧ k.state = .loaded ∧ k.usage = 2 ∧ k.key = key ∧ k.attr = BitVec.ofNat 32 (blobAttr e) ∧ k.keyId = blobKeyId e ∧ k.domain = blobDomain e ∧
      k.noDebug = !bitOf b.flags.toNat 1 ∧
      Answered .bindUnwrap p stOk (loadResult k) s t ∧ OnlyIn (.kp :: replyAreas) s t)

/-- Keys are made, evicted and queried, and Kingpost's own events act (R339, R346, R347, R348, R326, R428). -/
def Obligations.KeysAreMadeAndKingpostActs : Prop :=
  ((∀ (p : Packet) (s : State) (slot : Nat),
    s.calm = true → s.tests.injections = [] → passes .keyGenerate p s = true → s.kp.entropyFail = false →
    slotCheck s p.part (pf p 20 2) = .ok slot → slot ≠ 0 → s.inCarve p.part (pf p 24 6) 140 = true →
    place s p.part (pf p 24 6) 140 = .tier0 (pf p 24 6) → (s.key? p.part 0).isSome = true → s.weightKeys < 256 →
    ∃ t k bytes, exec (.keyGenerate p true) s = .next t ∧ t.slot? p.part slot = some k ∧ k.state = .loaded ∧ k.usage = 2 ∧
      k.key = Config.freeKey s.kp.draws ∧ t.kp.draws = s.kp.draws + 1 ∧ k.keyId = p.seq ∧ k.attr = 0x308 ∧
      k.domain = (s.part p.part).domain ∧ .write p.part (pf p 24 6) bytes ∈ t.out ∧ bytes.length = 140 ∧
      Answered .keyGenerate p stOk (loadResult k) s t ∧ OnlyIn (.kp :: .fresh :: replyAreas) s t) ∧
  (∀ (p : Packet) (s : State) (q : Nat) (k : KeySlot),
    s.calm = true → passes .keyEvict p s = true → q = aboutPart (named .keyEvict p s) (pbits p 22 0 4) →
    (∀ x, s.session? p.src = some x → s.sessionReaches x q = true) → mgmtRefusal (named .keyEvict p s) q s = none →
    (s.part q).pstate ≠ .created → pf p 20 2 ≠ 0 → s.slot? q (pf p 20 2) = some k →
    (slotUsers s q (pf p 20 2) = [] →
      ∃ t, exec (.keyEvict p) s = .next t ∧ t.slot? q (pf p 20 2) = none ∧ Answered .keyEvict p stOk 0 s t ∧
        OnlyIn (.kp :: .vs :: replyAreas) s t) ∧
    (∀ x, x ∈ slotUsers s q (pf p 20 2) → s.pendingRef x = true →
      ∃ t j, exec (.keyEvict p) s = .next t ∧ t.slot? q (pf p 20 2) = some j ∧ j.state = .evicting ∧
        (t.inflight? (named .keyEvict p s)).isSome = true ∧ OnlyIn (.kp :: .vs :: replyAreas) s t)) ∧
  (∀ (p : Packet) (s : State) (q : Nat),
    s.calm = true → passes .keyQuery p s = true → q = aboutPart (named .keyQuery p s) (pbits p 22 0 4) →
    mgmtRefusal (named .keyQuery p s) q s = none → (s.part q).pstate ≠ .created → pf p 20 2 < (s.part q).shares.keySlots →
    (s.slot? q (pf p 20 2) = none →
      ∃ t, exec (.keyQuery p) s = .next t ∧ Answered .keyQuery p stOk 0 s t ∧ OnlyIn replyAreas s t) ∧
    (∀ k, s.slot? q (pf p 20 2) = some k →
      ∃ t, exec (.keyQuery p) s = .next t ∧
        Answered .keyQuery p stOk (resultOf [(16, 1, k.state.code), (17, 1, k.usage),
          (19, 1, if srcIsCtx p.src && pf p 20 2 = 0 && (s.part q).verifierId.isSome then 1 else 0), (20, 4, k.attr.toNat),
          (24, 4, k.keyId), (28, 3, k.domain)]) s t ∧ OnlyIn replyAreas s t))) ∧
  ((∀ (s : State),
    s.calm = true → s.up = true →
    (∃ t, exec .entropyHealthFail s = .next t ∧ t.kp.entropyFail = true ∧ t.kp.entropy = bump 255 s.kp.entropy ∧
      t.plumb.sticky.getLsbD 0x0B = true ∧ OnlyIn [.kp, .plumb, .mail, .out] s t) ∧
    (s.kp.entropyFail = true →
      (∃ t, exec (.reseedComplete true) s = .next t ∧ t.kp.entropyFail = false ∧ OnlyIn [.kp] s t) ∧
      (∃ t, exec (.reseedComplete false) s = .next t ∧ t.kp.entropyFail = true ∧ t.kp.entropy = bump 255 s.kp.entropy ∧
        OnlyIn [.kp, .plumb, .mail, .out] s t)) ∧
    (s.kp.halted = false →
      ∃ t, exec .kpCflow s = .next t ∧ t.kp.halted = true ∧ t.kp.cfs = bump 255 s.kp.cfs ∧
        t.plumb.sticky.getLsbD 0x09 = true ∧
        (s.start.trayReq = false → s.plumb.causes = [] → t.plumb.causes = [0x09] ∧
          t.plumb.rungs.any (fun x => x.rung = .chip && !x.begun) = true) ∧ OnlyIn [.kp, .plumb] s t)))

/-- GET_EVIDENCE, KEY_CLAIM, GET_CERTS and GET_MEASUREMENTS deliver their documents (R351, R360, R361, R362, R363, R364). -/
def Obligations.EvidenceIsDelivered : Prop :=
  (∀ (p : Packet) (s : State),
    s.calm = true → s.tests.injections = [] → passes .getEvidence p s = true →
    (pbit p 52 7 = true → p.src = .mgmt → namedRefusal s (pbits p 52 0 4) = none) → (srcIsCtx p.src = true → s.inCarve p.part (pf p 56 6) 5107 = true ∧ place s p.part (pf p 56 6) 5107 = .tier0 (pf p 56 6)) →
    ∃ t bytes, exec (.getEvidence p true) s = .next t ∧ bytes.length = 5107 ∧ bytes.take 4 = leBytes 1 1 ++ leBytes 1 1 ++ leBytes 2 384 ∧
      (bytes.drop 4).take 44 = leBytes 32 (pf p 20 32) ++ manifest s ∧ (bytes.drop 288).take 8 = leBytes 8 s.now ∧
      (bytes.drop 304).take 80 = (evidencePart s (named .getEvidence p s) p).elim (leBytes 80 0) (partRecord s) ∧
      (srcIsCtx p.src = true →  .write p.part (pf p 56 6) bytes ∈ t.out) ∧ (p.src = .mgmt → .busWrite (pf p 56 6) bytes ∈ t.out) ∧ (∀ id, p.src = .session id → .document p.src bytes ∈ t.out) ∧
      Answered .getEvidence p stOk (resultOf [(16, 2, 5107), (18, 1, 1)]) s t ∧ OnlyIn (.vs :: .fresh :: replyAreas) s t) ∧
  (∀ (p : Packet) (s : State) (q : Nat) (k : KeySlot),
    s.calm = true → s.tests.injections = [] → passes .keyClaim p s = true → q = aboutPart (named .keyClaim p s) (pbits p 52 0 4) →
    (∀ x, s.session? p.src = some x → s.sessionReaches x q = true) → s.key? q (pf p 54 2) = some k → (srcIsCtx p.src = true → s.inCarve p.part (pf p 56 6) 5139 = true ∧ place s p.part (pf p 56 6) 5139 = .tier0 (pf p 56 6)) →
    ∃ t bytes, exec (.keyClaim p true) s = .next t ∧ bytes.length = 5139 ∧ bytes.take 4 = leBytes 1 1 ++ leBytes 1 2 ++ leBytes 2 416 ∧
      (bytes.drop 4).take 44 = leBytes 32 (pf p 20 32) ++ manifest s ∧ (bytes.drop 304).take 112 = partRecord s q ++ claimBytes k ∧
      (srcIsCtx p.src = true →  .write p.part (pf p 56 6) bytes ∈ t.out) ∧ (p.src = .mgmt → .busWrite (pf p 56 6) bytes ∈ t.out) ∧ (∀ id, p.src = .session id → .document p.src bytes ∈ t.out) ∧
      Answered .keyClaim p stOk (resultOf [(16, 2, 5139), (18, 1, 2)]) s t ∧ OnlyIn (.vs :: .fresh :: replyAreas) s t) ∧
  (∀ (p : Packet) (s : State),
    s.calm = true → passes .getCerts p s = true → 32768 ≤ pf p 30 4 →
    (∀ n, n ≤ 32768 → srcIsCtx p.src = true →
      s.inCarve p.part (pf p 24 6) n = true ∧ place s p.part (pf p 24 6) n = .tier0 (pf p 24 6)) →
    ∃ t bytes, exec (.getCerts p) s = .next t ∧ bytes.length ≤ 32768 ∧ (srcIsCtx p.src = true → bytes ≠ [] → .write p.part (pf p 24 6) bytes ∈ t.out) ∧ (p.src = .mgmt → .busWrite (pf p 24 6) bytes ∈ t.out) ∧ (∀ id, p.src = .session id → .document p.src bytes ∈ t.out) ∧
      Answered .getCerts p stOk (resultOf [(16, 4, bytes.length)]) s t ∧ OnlyIn (.vs :: .fresh :: replyAreas) s t) ∧
  (∀ (p : Packet) (s : State),
    s.calm = true → passes .getMeasurements p s = true → 512 ≤ pf p 30 4 →
    (∀ n, n ≤ 512 → srcIsCtx p.src = true →
      s.inCarve p.part (pf p 24 6) n = true ∧ place s p.part (pf p 24 6) n = .tier0 (pf p 24 6)) →
    ∃ (t : State) (bytes : List Byte) (d : Nat → List Byte), exec (.getMeasurements p) s = .next t ∧ (∀ k, (d k).length = 48) ∧
      bytes = (if pf p 20 1 = 0xFF then [1, 2, 3, 4, 5, 6, 7] else [pf p 20 1]).flatMap (fun k =>
        leBytes 1 k ++ leBytes 1 1 ++ leBytes 2 ((measureValue k (d k) s).2.length + 3) ++ leBytes 1 (measureValue k (d k) s).1 ++
          leBytes 2 (measureValue k (d k) s).2.length ++ (measureValue k (d k) s).2) ∧ (srcIsCtx p.src = true →  .write p.part (pf p 24 6) bytes ∈ t.out) ∧ (p.src = .mgmt → .busWrite (pf p 24 6) bytes ∈ t.out) ∧ (∀ id, p.src = .session id → .document p.src bytes ∈ t.out) ∧
      Answered .getMeasurements p stOk (resultOf [(16, 4, bytes.length)]) s t ∧ OnlyIn (.vs :: .fresh :: replyAreas) s t)

/-- PART_CREATE, PART_SEAL, TDI_BIND, CTX_REGISTER and PART_QUERY complete (R391, R393, R395, R396, R397, R403). -/
def Obligations.PartitionCommandsComplete : Prop :=
  (∀ (p : Packet) (m : MemRead) (s : State) (q : Nat) (d : PartDesc),
    s.calm = true → passes .partCreate p s = true → q = pbits p 20 0 4 → q < s.parts.length → d = partDesc (readBytes m) →
    (s.part q).struck = false → (s.part q).pstate = .free → descOffence s (readBytes m) = none → d.domain ≠ 0 →
    (s.othersHeld q).any (fun x => x.domain = d.domain) = false → rangesTaken s q d = false →
    d.t0.any (fun x => s.sill.unclean.any (fun y => y.meets x)) = false → shareShort s q d = none →
    s.committed + d.resvW ≤ 16 * s.damper.pkgLimit → s.kp.entropyFail = false →
    s.sill.records.any (fun x => x.keyEpoch = s.sill.nextEpoch) = false →
    ∃ t, exec (.partCreate p m) s = .next t ∧ (t.part q).pstate = .created ∧ (t.part q).domain = d.domain ∧
      (t.part q).resvW = d.resvW ∧ (t.part q).shares = d.shares ∧ (t.part q).t0 = d.t0 ∧ (t.part q).t1 = d.t1 ∧
      (t.part q).t2 = d.t2 ∧ (t.part q).ledger = d.ledger ∧ (t.part q).tdi = .unlocked ∧ (t.part q).tdiBound = false ∧
      (t.part q).tierKey = (if d.t1.isEmpty && d.t2.isEmpty then none else some s.sill.nextEpoch) ∧
      (∀ k, k ≠ q → t.part k = s.part k) ∧
      Answered .partCreate p stOk (resultOf [(16, 1, q), (17, 1, PState.created.code)]) s t ∧
      OnlyIn (.inl :: .sill :: .damper :: .mail :: replyAreas) s t) ∧
  (∀ (p : Packet) (s : State) (q : Nat),
    s.calm = true → q = pbits p 20 0 4 → q < s.parts.length → namedRefusal s q = none →
    (passes .partSeal p s = true → (s.part q).pstate = .created →
      ∃ t, exec (.partSeal p) s = .next t ∧ t.part q = { s.part q with pstate := .sealed } ∧ (∀ k, k ≠ q → t.part k = s.part k) ∧
        Answered .partSeal p stOk 0 s t ∧ OnlyIn (.mail :: replyAreas) s t) ∧
    (passes .tdiBind p s = true → (s.part q).pstate ≠ .faulted → (s.part q).tdi = .unlocked →
      (pf p 21 1 ≠ 0 →
        (List.range 16).any (fun k => k ≠ q && (s.part k).tdiBound && (s.part k).tdiStream = pf p 21 1) = false ∧
          ((s.stream (pf p 21 1)).secure && (s.stream (pf p 21 1)).tee) = true) →
      ∃ t, exec (.tdiBind p) s = .next t ∧
        t.part q = { s.part q with tdiBound := pf p 21 1 ≠ 0, tdiStream := pf p 21 1 } ∧
        (∀ k, k ≠ q → t.part k = s.part k) ∧ Answered .tdiBind p stOk 0 s t ∧ OnlyIn replyAreas s t)) ∧
  (∀ (p : Packet) (s : State) (q n : Nat),
    s.calm = true → passes .ctxRegister p s = true → q = aboutPart (named .ctxRegister p s) (pbits p 21 0 4) →
    mgmtRefusal (named .ctxRegister p s) q s = none →
    ((List.range (s.part q).shares.contexts).map (fun i => (s.part q).shares.ctxBase + i)).find? (fun k => (s.ctx? k).isNone) =
      some n →
    (s.cmds.ctxs.filter (fun c => c.part = q)).foldl (fun m c => m + 2 ^ c.htLog2) (2 ^ pf p 20 1) ≤ (s.part q).shares.handles →
    ∃ t, exec (.ctxRegister p) s = .next t ∧ t.ctx? n = some (newCtx n q (pf p 20 1) s.now) ∧
      Answered .ctxRegister p stOk (resultOf [(16, 4, mkHandle n (s.genOf n))]) s t ∧ OnlyIn replyAreas s t) ∧
  (∀ (p : Packet) (s : State) (q : Nat),
    s.calm = true → passes .partQuery p s = true → q = aboutPart (named .partQuery p s) (pbits p 20 0 4) →
    (pf p 21 1 = 1 → p.src = .mgmt →
      ∃ t, exec (.partQuery p) s = .next t ∧
        Answered .partQuery p stOk (resultOf [(16, 2, granules s.sill.unclean), (18, 2, (lowestOf s.sill.unclean).getD 0xFFFF)]) s t ∧
        OnlyIn replyAreas s t) ∧
    (pf p 21 1 = 0 →
      ∃ t, exec (.partQuery p) s = .next t ∧ OnlyIn replyAreas s t ∧
        Answered .partQuery p stOk (resultOf
          [(16, 1, (s.part q).pstate.code), (17, 1, (s.part q).tdi.code),
            (18, 1, (if (s.part q).view.shared then 1 else 0) + (if (s.key? q 0).isSome then 2 else 0) +
              (if (s.part q).tenantDebug then 4 else 0)),
            (20, 4, (s.part q).view.completedLast),
            (24, 1, if !srcIsCtx p.src && q ≠ 0 then (s.part q).view.linkOcc / 32 * 32 else (s.part q).view.linkOcc),
            (25, 1, if !srcIsCtx p.src && q ≠ 0 then (s.part q).view.sillOcc / 32 * 32 else (s.part q).view.sillOcc),
            (26, 2, (s.cmds.ctxs.filter (fun c => c.part = q)).length), (28, 4, s.pegsLive q)]) s t))

/-- CTX_RESET and CTX_RELEASE of a context at rest, and P0_DRAIN_DEADLINE (R58, R398, R400, R402). -/
def Obligations.ContextsAreResetAndReleased : Prop :=
  (∀ (p : Packet) (s : State) (c : Ctx),
    s.calm = true → passes .ctxReset p s = true → namedCtx s p.src (pf p 20 4) = some c →
    mgmtRefusal (named .ctxReset p s) c.part s = none → s.coveredBy .context c.slot = none → s.ctxRests c.slot = true →
    ∃ t d, exec (.ctxReset p) s = .next t ∧ t.ctx? c.slot = some d ∧ d.expected = 0 ∧ d.handles = c.handles ∧ d.htLog2 = c.htLog2 ∧
      d.fences = [] ∧ t.genOf c.slot = (s.genOf c.slot + 1) % 256 ∧
      Answered .ctxReset p stOk (resultOf [(16, 4, mkHandle c.slot ((s.genOf c.slot + 1) % 256))]) s t ∧ OnlyIn [.parts, .cmds, .gl, .inl, .sill, .pegs, .cal, .plumb, .scribe, .out] s t) ∧
  (∀ (p : Packet) (s : State) (c : Ctx),
    s.calm = true → passes .ctxRelease p s = true → namedCtx s p.src (pf p 20 4) = some c →
    mgmtRefusal (named .ctxRelease p s) c.part s = none → (srcIsCtx p.src = true → c.slot ≠ p.slot) → pf p 26 2 = 0 →
    s.ctxRests c.slot = true →
    ∃ t, exec (.ctxRelease p (.ok [])) s = .next t ∧ t.ctx? c.slot = none ∧ t.genOf c.slot = (s.genOf c.slot + 1) % 256 ∧
      (∀ n d, n ≠ c.slot → s.ctx? n = some d → (t.ctx? n).isSome = true) ∧
      Answered .ctxRelease p stOk 0 s t ∧ OnlyIn [.parts, .cmds, .gl, .inl, .sill, .pegs, .cal, .plumb, .scribe, .out] s t) ∧
  (∀ (id : Nat) (s : State) (x : TxParcel) (g : RunningRung) (r : CmdRef),
    State.calm { s with plumb := { s.plumb with rungs := [] } } = true → s.running = true → s.gl.parcels = [x] → x.id = id →
    x.drain = true → x.deadline ≠ 0 → s.plumb.rungs = [g] → g.rung = .context → g.begun = true → g.timerFrom = none →
    g.cmd = some r → r.src = .mgmt → (s.inflight? r).isSome = true →
    ∃ t, exec (.p0DrainDeadline id) s = .next t ∧ t.now = max s.now x.deadline ∧ t.plumb.rungs = [] ∧
      Replied r stOk (resultOf [(16, 4, s.handleOf g.scope)]) t.now t ∧ OnlyIn (.cal :: .start :: replyAreas) s t)

/-- PART_DESTROY, PART_RELEASE and PART_RESET_REQ (R404, R405, R430, R457). -/
def Obligations.PartitionsEnd : Prop :=
  (∀ (p : Packet) (s : State) (q : Nat),
    s.calm = true → passes .partDestroy p s = true → q = pbits p 20 0 4 → q < s.parts.length → namedRefusal s q = none →
    s.plumb.rungs = [] → s.cmds.ctxs.filter (fun c => c.part = q) = [] → (∀ g, g ∈ s.pegs.slots → g.ownerPart ≠ q) →
    ∃ t, exec (.partDestroy p) s = .next t ∧ (t.part q).pstate = .ending ∧ (t.part q).phase = .teardown ∧
      (t.part q).phaseAt = s.now ∧ (t.part q).endDestroy = some (named .partDestroy p s) ∧ (t.part q).domain = (s.part q).domain ∧
      (t.inflight? (named .partDestroy p s)).isSome = true ∧ (∀ k, k ≠ q → t.part k = s.part k) ∧
      OnlyIn (.mail :: replyAreas) s t) ∧
  (∀ (p : Packet) (s : State) (c : Ctx),
    s.calm = true → passes .partRelease p s = true → s.plumb.rungs = [] →
    s.cmds.ctxs.filter (fun c => c.part = p.part) = [c] → c.slot = p.slot → s.ctxRests p.slot = true →
    (∀ g, g ∈ s.pegs.slots → g.ownerPart ≠ p.part) →
    ∃ t, exec (.partRelease p) s = .next t ∧ (t.part p.part).pstate = .ending ∧ (t.part p.part).phase = .teardown ∧
      (t.part p.part).phaseAt = s.now ∧ (t.part p.part).endRelease = some (named .partRelease p s) ∧
      (t.inflight? (named .partRelease p s)).isSome = true ∧ t.ctx? p.slot = none ∧
      OnlyIn (.mail :: [.parts, .cmds, .gl, .inl, .sill, .pegs, .cal, .plumb, .scribe, .out]) s t) ∧
  (∀ (via : Access) (q : Nat) (s : State),
    s.calm = true → s.up = true → q < s.parts.length → q < 16 → (∀ k, via = .vf k → k = q) → viewGate via q s = none →
    (s.part q).pstate ≠ .free → s.coveredBy .partition q = none → s.plumb.causes = [] → (s.src 0x87).thresh = 0 →
    ∃ t, exec (.partResetReq via q) s = .next t ∧
      t.plumb.rungs.any (fun x => x.rung = .partition && x.scope = q && x.src = 0x87 && !x.begun) = true ∧
      t.plumb.sticky.getLsbD 0x87 = true ∧ OnlyIn [.plumb, .mail, .out] s t)

/-- From TEARDOWN_COMPLETE to STRIKE_S4_END, and GRANULE_CLEANED (R190, R394, R404, R405, R406, R409). -/
def Obligations.StrikesRunTheirPhases : Prop :=
  (∀ (q : Nat) (s : State),
    s.calm = true → s.running = true → q < s.parts.length → (s.part q).phase = .teardown → (s.part q).pstate = .ending →
    s.teardownOpen q = false → s.sill.accesses.all (fun a => a.part ≠ q) = true →
    (∀ r, (s.part q).endRelease = some r → r.src = .cmd q) →
    ∃ t, exec (.teardownComplete q) s = .next t ∧ (t.part q).pstate = .striking ∧ (t.part q).phase = .s1 ∧
      (t.part q).phaseAt = s.now ∧ (t.part q).domain = 0 ∧ (t.part q).tierKey = none ∧ (t.part q).verifierId = none ∧
      (t.part q).tdi = .error ∧ (∀ k, k ∈ t.kp.slots → k.part ≠ q) ∧
      (∀ r, (s.part q).endRelease = some r →
        Replied r stOk (resultOf [(16, 4, 2000 + zeroUs (granules (s.part q).t0) + 20)]) s.now t) ∧ t.cal = s.cal ∧ t.fuses = s.fuses) ∧
  (∀ (q : Nat) (s : State),
    s.calm = true → s.running = true → q < s.parts.length →
    ((s.part q).phase = .s1 →
      ∃ t, exec (.strikeS1End q) s = .next t ∧ t.now = max s.now ((s.part q).phaseAt + 2000000) ∧
        t.part q = { s.part q with phase := .s2, phaseAt := t.now } ∧ OnlyIn [.cal, .start, .parts] s t) ∧
    ((s.part q).phase = .s2 → reserveBlocked s q = false →
      ∃ t, exec (.strikeReserveGrant q) s = .next t ∧ t.part q = { s.part q with phase := .s3, phaseAt := s.now } ∧
        OnlyIn [.parts] s t) ∧
    ((s.part q).phase = .s3 →
      ∃ t, exec (.strikeS3End q) s = .next t ∧ t.now = max s.now ((s.part q).phaseAt + 1000 * zeroUs (granules (s.part q).t0)) ∧
        t.part q = { s.part q with phase := .s4, phaseAt := t.now } ∧
        (∀ x, x ∈ (s.part q).t0 → .stackZero x.first x.count ∈ t.out) ∧
        t.sill.ledger = s.sill.ledger.filter (fun e => e.part ≠ q) ∧ OnlyIn [.cal, .start, .parts, .sill, .out] s t) ∧
    ((s.part q).phase = .s4 → (∀ r, (s.part q).endDestroy = some r → r.src = .mgmt) →
      ∃ t, exec (.strikeS4End q) s = .next t ∧ t.now = max s.now ((s.part q).phaseAt + 20000) ∧ t.part q = Part.reset ∧
        (∀ x, x ∈ t.cal.resvs → x.part ≠ q) ∧ (∀ r, (s.part q).endDestroy = some r → Replied r stOk 0 t.now t) ∧
        (∀ k, k ≠ q → t.part k = s.part k) ∧ t.kp = s.kp ∧ t.fuses = s.fuses)) ∧
  (∀ (g : Nat) (s : State),
    s.calm = true → s.running = true → (List.range 16).any (fun k => (s.part k).phase = .s2 || (s.part k).phase = .s3) = false →
    lowestOf s.sill.unclean = some g →
    ∃ t, exec .granuleCleaned s = .next t ∧ .stackZero g 1 ∈ t.out ∧ t.sill.unclean = rangesWithout s.sill.unclean g ∧
      OnlyIn [.sill, .out, .start] s t)

/-- The six calendar commands complete (R265, R266, R267, R268, R269, R270, R272, R273). -/
def Obligations.CalendarCommandsComplete : Prop :=
  (∀ (p : Packet) (s : State) (q pos : Nat),
    s.calm = true → passes .admitRequest p s = true → q = aboutPart (named .admitRequest p s) (pbits p 32 0 4) →
    mgmtRefusal (named .admitRequest p s) q s = none → (pf p 20 1 = 1 → q = 0) →
    (pf p 20 1 = 3 → (s.part q).view.shared = true) → s.cal.frameOk = true →
    (s.resvsOf q).length < (s.part q).shares.resvs → s.cal.resvs.length < 1024 → admitPos s (admitReq q p) = some pos →
    ∃ t x, exec (.admitRequest p) s = .next t ∧ x ∈ t.cal.resvs ∧ (∀ y, y ∈ s.cal.resvs → y ∈ t.cal.resvs) ∧
      t.cal.resvs.length = s.cal.resvs.length + 1 ∧ x.part = q ∧ x.cls = pf p 20 1 ∧ x.resource = pf p 21 1 ∧ x.mask = pf p 22 1 ∧
      x.rate = pf p 24 4 ∧ x.maxParcel = pf p 28 4 ∧ x.bound = (admitReq q p).bound ∧ x.units = (admitReq q p).units ∧
      x.slots = (if pf p 21 1 = 1 then (admitReq q p).slots else 0) ∧ x.state = .active ∧ x.pos = pos ∧ x.tokens = x.depth ∧
      x.gen = assocGet s.cal.resvGens x.entry 0 ∧
      Answered .admitRequest p stOk (resultOf [(16, 4, x.id), (20, 4, x.bound), (24, 2, x.slots), (26, 2, x.units),
        (28, 1, if pf p 21 1 = 1 then x.homes + 16 * pos else x.homes)]) s t ∧ OnlyIn (.cal :: .fresh :: replyAreas) s t) ∧
  (∀ (p : Packet) (s : State) (x : Resv),
    s.calm = true → passes .admitRelease p s = true → mgmtRefusal (named .admitRelease p s) (resvPart (pf p 20 4)) s = none →
    namedResv p.src (pf p 20 4) s = some x → s.cal.resvs.filter (fun y => y.entry = x.entry) = [x] →
    (∀ y, y ∈ s.gl.parcels → y.resv ≠ some x.entry) →
    ∃ t, exec (.admitRelease p) s = .next t ∧ (∀ y, y ∈ t.cal.resvs → y.entry ≠ x.entry) ∧
      assocGet t.cal.resvGens x.entry 0 = (x.gen + 1) % 256 ∧ Answered .admitRelease p stOk 0 s t ∧
      OnlyIn (.cal :: replyAreas) s t) ∧
  (∀ (p : Packet) (s : State),
    s.calm = true → passes .shaperSet p s = true →
    (beTarget (pf p 20 4) = true → srcIsCtx p.src = true →
      ∃ t, exec (.shaperSet p) s = .next t ∧
        t.shaper? p.part (pf p 20 4) = (if pf p 24 4 = 0 then none else
          some { part := p.part, resource := pf p 20 4, rate := pf p 24 4, depth := pf p 28 4, tokens := 0, tokensAt := s.now }) ∧
        Answered .shaperSet p stOk 0 s t ∧ OnlyIn (.cal :: replyAreas) s t) ∧
    (∀ x, beTarget (pf p 20 4) = false → mgmtRefusal (named .shaperSet p s) (resvPart (pf p 20 4)) s = none →
      namedResv p.src (pf p 20 4) s = some x →
      ∃ t, exec (.shaperSet p) s = .next t ∧
        t.resv? x.entry = some { x with shaperRate := pf p 24 4, tokens := if x.cls = 1 then x.depth else 0, tokensAt := s.now } ∧
        Answered .shaperSet p stOk 0 s t ∧ OnlyIn (.cal :: replyAreas) s t)) ∧
  (∀ (p : Packet) (s : State),
    s.calm = true → passes .p0Reserve p s = true → s.cal.frameOk = true → p0Room s (p0ShareOf p) = true →
    p0Covers s (p0ShareOf p) = true →
    ∃ t, exec (.p0Reserve p) s = .next t ∧ t.cal = { s.cal with p0 := p0ShareOf p } ∧ Answered .p0Reserve p stOk 0 s t ∧
      OnlyIn (.cal :: replyAreas) s t) ∧
  (∀ (p : Packet) (s : State),
    s.calm = true → passes .sharedOptIn p s = true → (pf p 20 1 = 0 → (s.resvsOf p.part).any (fun x => x.cls = 3) = false) →
    ∃ t, exec (.sharedOptIn p) s = .next t ∧ (t.part p.part).view.optPending = some (decide (pf p 20 1 = 1)) ∧
      (t.part p.part).view.shared = (s.part p.part).view.shared ∧ Answered .sharedOptIn p stOk 0 s t ∧ OnlyIn replyAreas s t) ∧
  (∀ (p : Packet) (s : State),
    s.calm = true → passes .calQuery p s = true →
    (pf p 20 4 = 0 →
      ∃ t, exec (.calQuery p) s = .next t ∧ OnlyIn replyAreas s t ∧
        Answered .calQuery p stOk (if srcIsCtx p.src
          then resultOf [(16, 2, (s.resvsOf p.part).length), (18, 1, (s.part p.part).view.level)]
          else resultOf [(16, 2, s.cal.resvs.length)]) s t) ∧
    (∀ x, pf p 20 4 ≠ 0 → mgmtRefusal (named .calQuery p s) (resvPart (pf p 20 4)) s = none →
      s.resv? (bitsOf (pf p 20 4) 0 10) = some x → x.id = pf p 20 4 → (srcIsCtx p.src = true → x.part = p.part) →
      ∃ t, exec (.calQuery p) s = .next t ∧ OnlyIn replyAreas s t ∧
        Answered .calQuery p stOk (resultOf [(16, 4, x.rate), (20, 4, x.bound), (24, 2, x.slots), (26, 1, x.state.code),
          (27, 1, (s.part x.part).view.level)]) s t))

/-- SLICE_END and RUN_LIMIT_FAULT (R79, R80, R279, R430). -/
def Obligations.SlicesAndRunLimits : Prop :=
  (∀ (part cls h : Nat) (s : State),
    s.calm = true → s.running = true → s.sliceOf part cls = some h →
    (nextReady s part cls h = none →
      ∃ t, exec (.sliceEnd part cls 0) s = .next t ∧ t.sliceOf part cls = none ∧ OnlyIn [.cal] s t) ∧
    (nextReady s part cls h = some h → ∃ t, exec (.sliceEnd part cls 0) s = .next t ∧ OnlyIn [] s t) ∧
    (∀ n c, nextReady s part cls h = some n → n ≠ h → s.readyIn part cls h = false → s.ctx? n = some c →
      c.preempted.contains cls = false →
      ∃ t d, exec (.sliceEnd part cls 0) s = .next t ∧ t.sliceOf part cls = some n ∧ t.ctx? n = some d ∧ d.overrunNs = 0 ∧
        OnlyIn [.cal, .cmds] s t)) ∧
  (∀ (part slot seq : Nat) (s : State) (x : Inflight),
    s.calm = true → s.running = true → s.cmds.inflight = [x] → x.ref.part = part → x.ref.slot = slot → x.ref.seq = seq →
    x.ref.src = .cmd part → isFirmwareClass x.ref.cls = false → s.staleRef x.ref = false → part < 16 → s.coveredBy .context slot = none →
    State.ctxRests { s with cmds := { s.cmds with inflight := [] } } slot = true →
    (s.src (0xA0 + part)).times.length + 1 < (s.src (0xA0 + part)).thresh →
    ∃ t d, exec (.runLimitFault part slot seq) s = .next t ∧ t.inflight? x.ref = none ∧
      Replied x.ref stContextFaulted (detailOf 1) s.now t ∧ t.genOf slot = (s.genOf slot + 1) % 256 ∧ t.ctx? slot = some d ∧
      d.expected = 0 ∧ t.plumb.sticky.getLsbD (0xA0 + part) = true)

/-- CALENDAR_TICK, FRAME_BOUNDARY, FRAME_P_EDGE, FRAME_LOCK_LOST and BACK_OK_WRITE (R256, R257, R258, R273, R274, R277, R281, R560). -/
def Obligations.TimeAndFramesAdvance : Prop :=
  (∀ (s : State),
    s.calm = true → s.counting = true → s.tests.runs = [] →
    (s.cal.tick < 9999 →
      ∃ t, exec .calendarTick s = .next t ∧ t.cal.tick = s.cal.tick + 1 ∧ t.cal.tickNs = 0 ∧ t.cal.frame = s.cal.frame ∧
        t.now = s.now ∧ OnlyIn [.cal] s t) ∧
    (9999 ≤ s.cal.tick → s.cal.locked = false →
      ∃ t, exec .calendarTick s = .next t ∧ t.cal.tick = 0 ∧ t.cal.tickNs = 0 ∧ t.cal.frame = (s.cal.frame + 1) % 2 ^ 64 ∧
        t.now = s.now ∧ OnlyIn [.cal] s t) ∧
    (9999 ≤ s.cal.tick → s.cal.locked = true → ∃ t, exec .calendarTick s = .next t ∧ OnlyIn [] s t)) ∧
  (∀ (s : State),
    s.calm = true → s.counting = true →
    ∃ t, exec .frameBoundary s = .next t ∧ OnlyIn [.cal, .parts, .damper] s t ∧ t.now = s.now ∧
      (∀ q on, q < 16 → q < s.parts.length → (s.part q).view.optPending = some on →
        (t.part q).view.shared = on ∧ (t.part q).view.level = 0 ∧ (t.part q).view.optPending = none) ∧
      (∀ q, q < 16 → (s.part q).view.optPending = none →
        ((s.part q).view.shared = false → (t.part q).view = (s.part q).view) ∧
        ((t.part q).view.level = (s.part q).view.level ∨
          (s.cal.frame % 2 = 0 ∧ (t.part q).view.level = (s.part q).view.level + 1) ∨
          (s.cal.frame % 2 = 1 ∧ (t.part q).view.level + 1 = (s.part q).view.level)))) ∧
  (∀ (tod : Nat) (s : State),
    s.calm = true → s.counting = true → s.cal.firstEdge = false →
    ∃ t, exec (.framePEdge tod true) s = .next t ∧ t.now = tod ∧ t.cal.firstEdge = true ∧ t.cal.locked = true ∧ t.cal.todOk = true ∧
      t.cal.tick = 0 ∧ t.cal.frame = tod / 10000000 ∧ t.cal.expectAt = tod + 10000000 ∧ t.kp = s.kp ∧ t.fuses = s.fuses) ∧
  (∀ (tod due : Nat) (valid : Bool) (s : State),
    s.calm = true → s.counting = true → s.cal.firstEdge = true → s.cal.locked = true → due = s.cal.lastTod + 10000000 →
    within100 s.now s.cal.expectAt = true → (valid = true → tod = due) →
    (s.now ≤ due → (∀ x, x ∈ s.gl.parcels → x.bounded = true → due ≤ x.deadline) →
      ∃ t, exec (.framePEdge tod valid) s = .next t ∧ t.now = due ∧ t.cal.tick = 0 ∧ t.cal.frame = due / 10000000 ∧
        t.cal.lastTod = due ∧ t.cal.expectAt = due + 10000000 ∧ t.cal.frameOk = true ∧ t.cal.todOk = valid ∧ OnlyIn [.cal] s t) ∧
    (due < s.now →
      ∃ t, exec (.framePEdge tod valid) s = .next t ∧ t.now = s.now ∧ t.cal.slow = 2 * (s.now - due) ∧ t.cal.tick = 0 ∧
        t.cal.frame = due / 10000000 ∧ t.cal.lastTod = due ∧ t.cal.frameOk = true ∧ OnlyIn [.cal] s t)) ∧
  (∀ (s : State),
    s.calm = true → s.up = true →
    (s.counting = true → s.cal.locked = true →
      ∃ t, exec .frameLockLost s = .next t ∧ t.cal.locked = false ∧ t.cal.freeRun = true ∧ t.cal.frameOk = false ∧
        t.cal.slips = bump 255 s.cal.slips ∧ t.cal.frame = (s.cal.frame + 1) % 2 ^ 64 ∧ t.cal.tick = 0 ∧
        t.now = max s.now (s.cal.expectAt + 100) ∧ t.plumb.sticky.getLsbD 0x02 = true ∧
        OnlyIn [.cal, .start, .plumb, .mail, .out] s t) ∧
    (∃ t, exec .backOkWrite s = .next t ∧ t.cal = { s.cal with backOk := true } ∧ OnlyIn [.cal] s t))

/-- SET_PKG_LIMIT, GRANT_QUERY, THROTTLE_QUERY and ENTER_STATE complete (R295, R309, R310, R311, R312, R313). -/
def Obligations.DamperCommandsComplete : Prop :=
  (∀ (p : Packet) (s : State),
    s.calm = true → passes .setPkgLimit p s = true → s.committed ≤ 16 * pf p 20 2 →
    16 * pf p 20 2 ≤ s.ballastCapacity + 16 * s.damper.idleW →
    ∃ t, exec (.setPkgLimit p) s = .next t ∧ t.damper = { s.damper with pkgNext := some (pf p 20 2) } ∧
      Answered .setPkgLimit p stOk (resultOf [(16, 2, s.damper.effLimit), (20, 8, limitFrame s (pf p 20 2))]) s t ∧
      OnlyIn (.damper :: replyAreas) s t) ∧
  (∀ (p : Packet) (s : State) (q : Nat),
    s.calm = true → q = aboutPart (named .grantQuery p s) (pbits p 20 0 4) →
    (passes .grantQuery p s = true → mgmtRefusal (named .grantQuery p s) q s = none →
      ∃ t, exec (.grantQuery p) s = .next t ∧ OnlyIn replyAreas s t ∧
        Answered .grantQuery p stOk (resultOf ([(16, 2, (s.part q).resvW),
            (18, 2, if (s.part q).view.shared then (s.part q).resvW * levelQuarters (s.part q).view.level / 4 else 0)] ++
          (if srcIsCtx p.src then [] else
            [(20, 2, (96 * (s.grantRow q).grant - 96 * (s.grantRow q).reached - s.quota96 q) / 96), (22, 2, (s.grantRow q).grant),
              (24, 2, s.damper.effLimit), (26, 2, s.committed / 16)]))) s t) ∧
    (passes .throttleQuery p s = true → mgmtRefusal (named .throttleQuery p s) q s = none →
      ∃ t, exec (.throttleQuery p) s = .next t ∧ OnlyIn replyAreas s t ∧
        Answered .throttleQuery p stOk (resultOf [(16, 1, (s.part q).view.pace),
          (17, 1, if (s.part q).view.shared then (s.part q).view.level else 0xFF),
          (18, 1, (if (s.part q).view.emergency then 1 else 0) + (if (s.part q).view.beWeight ≠ 0 then 2 else 0))]) s t)) ∧
  (∀ (p : Packet) (s : State) (g : LState),
    s.calm = true → passes .enterState p s = true → g = lstateOf (pf p 20 1) →
    (g = s.damper.lstate →
      ∃ t, exec (.enterState p) s = .next t ∧ Answered .enterState p stOk (resultOf [(16, 1, g.code)]) s t ∧
        OnlyIn replyAreas s t) ∧
    (g ≠ s.damper.lstate → s.scribe.halted = false → s.damper.emergency = false → s.damper.moving = none →
      ((g = .l2 ∨ g = .l3) → s.parts.any (fun q => q.pstate ≠ .free) = false →
        ∃ t, exec (.enterState p) s = .next t ∧ t.damper = { s.damper with moving := some (s.damper.lstate, g) } ∧
          Answered .enterState p stOk (resultOf [(16, 1, s.damper.lstate.code)]) s t ∧ OnlyIn (.damper :: replyAreas) s t) ∧
      ((g = .l0 ∨ g = .l1) → s.damper.lstate = .l2 →
        ∃ t, exec (.enterState p) s = .next t ∧ t.damper = { s.damper with moving := some (.l2, g) } ∧ t.start.gltOn = 0xFF ∧
          t.start.sltOn = 0xF ∧ Answered .enterState p stOk (resultOf [(16, 1, 2)]) s t ∧
          OnlyIn (.damper :: .start :: replyAreas) s t) ∧
      ((g = .l0 ∨ g = .l1) → s.damper.lstate ≠ .l2 →
        ∃ t, exec (.enterState p) s = .next t ∧
          t.damper = { s.damper with lstate := g, gated := if g = .l0 then [] else s.damper.gated } ∧
          Answered .enterState p stOk (resultOf [(16, 1, s.damper.lstate.code)]) s t ∧ OnlyIn (.damper :: replyAreas) s t)))

/-- BUDGET_TICK and POWER_EPOCH_BOUNDARY (R296, R299, R300, R301, R303, R311, R313, R420). -/
def Obligations.BudgetTicksMoveGrantsSlowly : Prop :=
  (∀ (s : State),
    s.calm = true → s.counting = true →
    (s.scribe.halted = false →
      ∃ t, exec .budgetTick s = .next t ∧ t.damper.pkgLimit = s.damper.pkgNext.getD s.damper.pkgLimit ∧
        t.damper.pkgNext = none ∧ t.damper.btick = s.cal.tick / 100 ∧ t.damper.tickEnd = false ∧
        t.damper.missed = (if s.damper.tickEnd then 0 else s.damper.missed + 1) ∧
        t.damper.telemLost = (if s.damper.tickEnd then false else s.damper.telemLost) ∧
        (∀ q, q < 16 → (t.grantRow q).grant ≤ (s.grantRow q).grant + 400 ∧ (s.grantRow q).grant ≤ (t.grantRow q).grant + 400) ∧
        (s.damper.tripped = true → ∀ q, q < 16 → (t.grantRow q).grant = (s.grantRow q).grant) ∧ OnlyIn [.damper, .tests] s t) ∧
    (s.scribe.halted = true → ∃ t, exec .budgetTick s = .next t ∧ OnlyIn [.tests] s t)) ∧
  (∀ (s : State),
    s.calm = true → s.up = true →
    ∃ t, exec .powerEpochBoundary s = .next t ∧ OnlyIn [.damper, .parts, .cmds, .fresh] s t ∧
      (∀ q, q < 16 → q < s.parts.length →
        (t.part q).view.pace = paceOf (s.grantRow q).demandTicks ∧ (t.part q).view.completedLast = (s.part q).view.completed ∧
        (t.part q).view.completed = 0 ∧ (t.part q).view.admitted = false ∧
        (t.part q).view.emergency = (s.damper.touched && decide (q ≠ 0)) ∧ (t.part q).pstate = (s.part q).pstate) ∧
      t.damper.emergency = (s.damper.emergency && !(s.damper.coolEpoch && !s.damper.telemLost)) ∧
      t.damper.coolEpoch = (!s.damper.telemLost) ∧ t.damper.thermLimit = (thermStep s).1 ∧
      (∀ c, c ∈ t.cmds.ctxs → c.epochSet = c.accounting) ∧ t.cmds.ctxs.map (fun c => c.slot) = s.cmds.ctxs.map (fun c => c.slot))

/-- TELEM_WORD, TELEM_LOST, GRANT_VIOLATION, LIMIT_ALERT_CHANGE and REGULATOR_ALERT (R291, R293, R300, R301, R302, R303). -/
def Obligations.TelemetryAndAlertsAct : Prop :=
  (∀ (w : Word) (s : State) (v : Nat),
    s.calm = true → s.up = true → s.tests.injections = [] → v = bitsOf w.toNat 0 24 →
    (bitsOf w.toNat 28 4 = 1 →
      ∃ t, exec (.telemWord w) s = .next t ∧ t.damper = { s.damper with pkgPower := v } ∧ OnlyIn [.damper] s t) ∧
    (bitsOf w.toNat 28 4 = 2 →
      ∃ t, exec (.telemWord w) s = .next t ∧ t.damper = { s.damper with rails := assocSet s.damper.rails (bitsOf w.toNat 24 4) v } ∧
        OnlyIn [.damper] s t) ∧
    (∀ k : Int, bitsOf w.toNat 28 4 = 3 → k = signedOf 16 (bitsOf v 0 16) →
      (k < 16 * (s.damper.tTrip : Int) → k < 16 * (s.damper.tCrit : Int) →
        ∃ t, exec (.telemWord w) s = .next t ∧ (bitsOf w.toNat 24 4, k) ∈ t.damper.temps ∧
          t.damper.emergency = s.damper.emergency ∧ OnlyIn [.damper] s t) ∧
      (k < 16 * (s.damper.tTrip : Int) → 16 * (s.damper.tCrit : Int) ≤ k → s.damper.emergency = false → s.damper.tripped = false →
        ∃ t, exec (.telemWord w) s = .next t ∧ t.damper.emergency = true ∧ t.damper.touched = true ∧
          (∀ q, q ≠ 0 → (t.grantRow q).grant = 0) ∧ t.grantRow 0 = s.grantRow 0 ∧ t.plumb.sticky.getLsbD 0x05 = true ∧
          OnlyIn [.damper, .plumb, .mail, .out] s t) ∧
      (16 * (s.damper.tTrip : Int) ≤ k → s.damper.tripped = false →
        ∃ t, exec (.telemWord w) s = .next t ∧ t.damper.tripped = true ∧ (∀ q, (t.grantRow q).grant = 0) ∧
          t.plumb.trayAsked = some 0x06 ∧ t.plumb.sticky.getLsbD 0x06 = true ∧ OnlyIn [.damper, .plumb, .mail, .out] s t)) ∧
    (∀ q : Nat, bitsOf w.toNat 28 4 = 4 → q = bitsOf w.toNat 24 4 → q < s.damper.rows.length →
      ∃ t, exec (.telemWord w) s = .next t ∧ (t.grantRow q).energy = bitsOf v 0 23 ∧ (t.grantRow q).demand = bitOf v 23 ∧
        (t.grantRow q).grant = (s.grantRow q).grant ∧ (∀ k, k ≠ q → t.grantRow k = s.grantRow k) ∧
        (t.grantRow q).overTicks = (if 105 * (s.grantRow q).lastGrant < 16 * bitsOf v 0 23 then (s.grantRow q).overTicks + 1 else 0) ∧
        OnlyIn [.damper] s t) ∧
    (bitsOf w.toNat 28 4 = 5 →
      ∃ t, exec (.telemWord w) s = .next t ∧ t.damper = { s.damper with tickEnd := true } ∧ OnlyIn [.damper] s t) ∧
    ((bitsOf w.toNat 28 4 = 0 ∨ 5 < bitsOf w.toNat 28 4) →
      ∃ t, exec (.telemWord w) s = .next t ∧ t.damper = { s.damper with events := bump 255 s.damper.events } ∧
        OnlyIn [.damper] s t)) ∧
  (∀ (s : State),
    s.calm = true → s.up = true →
    (s.damper.telemLost = false → 2 ≤ s.damper.missed →
      ∃ t, exec .telemLost s = .next t ∧ t.damper = { s.damper with telemLost := true, coolEpoch := false, pool := 0 } ∧
        t.plumb.sticky.getLsbD 0x03 = true ∧ OnlyIn [.damper, .plumb, .mail, .out] s t) ∧
    (∀ q, 3 ≤ (s.grantRow q).overTicks →
      ∃ t, exec (.grantViolation q) s = .next t ∧ (t.grantRow q).overTicks = 0 ∧ t.damper.events = bump 255 s.damper.events ∧
        t.plumb.sticky.getLsbD 0x07 = true ∧ OnlyIn [.damper, .plumb, .mail, .out] s t) ∧
    (∀ high, ∃ t, exec (.limitAlertChange high) s = .next t ∧
      t.damper = { s.damper with alert := high, alertSince := if high then some 0 else none } ∧ OnlyIn [.damper] s t) ∧
    (∀ n, s.damper.alertSince = some n → 100 ≤ n →
      ∃ t, exec .regulatorAlert s = .next t ∧ t.damper = { s.damper with alertSince := some 0 } ∧
        t.plumb.sticky.getLsbD 0x04 = true ∧ OnlyIn [.damper, .plumb, .mail, .out] s t))

/-- LANE_GROUP_GATE, LANE_GROUP_WAKE, LOW_POWER_ENTRY and L2_EXIT_COMPLETE (R308, R309, R310, R480, R482). -/
def Obligations.LowPowerIsEnteredAndLeft : Prop :=
  (∀ (tile group : Nat) (s : State),
    s.calm = true →
    (s.up = true → s.damper.lstate = .l1 → tile < 12 → group < 3 → (tile < 8 → group ≠ 0) → s.tileHeld tile = false →
      s.damper.gated.contains (tile, group) = false →
      ∃ t, exec (.laneGroupGate tile group) s = .next t ∧ t.damper = { s.damper with gated := s.damper.gated ++ [(tile, group)] } ∧
        OnlyIn [.damper] s t) ∧
    (∃ t, exec (.laneGroupWake tile group) s = .next t ∧ t.damper.gated.contains (tile, group) = false ∧
      (∀ g, g ∈ s.damper.gated → g ≠ (tile, group) → g ∈ t.damper.gated) ∧ OnlyIn [.damper] s t)) ∧
  (∀ (s : State) (from_ : LState),
    s.calm = true → s.running = true → s.gl.parcels = [] → s.tests.runs = [] → (∀ c, c ∈ s.cmds.ctxs → c.fences = []) →
    (s.damper.moving = some (from_, .l2) →
      ∃ t, exec .lowPowerEntry s = .next t ∧ t.damper.lstate = .l2 ∧ t.damper.moving = none ∧ t.start.gltOn = 0 ∧ t.start.sltOn = 0 ∧
        t.debugs.full = false ∧ (∀ n, n < 64 → (t.link n).state = .down) ∧ t.fuses = s.fuses) ∧
    (s.damper.moving = some (from_, .l3) →
      ∃ t, exec .lowPowerEntry s = .next t ∧ t.damper.lstate = .l3 ∧ t.kp.slots = [] ∧ t.start.image = none ∧ t.start.ctlOn = false ∧
        t.start.gltOn = 0 ∧ t.start.sltOn = 0 ∧ t.start.aonOnSosc = true ∧ t.fuses = s.fuses)) ∧
  (∀ (s : State) (g : LState),
    s.calm = true → s.running = true → s.damper.moving = some (.l2, g) → (g = .l0 ∨ g = .l1) →
    ∃ t, exec .l2ExitComplete s = .next t ∧ t.damper = { s.damper with lstate := g, moving := none } ∧ OnlyIn [.damper] s t)

/-- COUNTER_SAMPLE, TRACE_START, TRACE_STOP and TRACE_SAMPLE (R487, R489, R492, R493, R494, R495, R497). -/
def Obligations.SamplesAndTracesComplete : Prop :=
  (∀ (p : Packet) (s : State) (q : Nat) (c : Ctx) (e : Bool),
    s.calm = true → passes .counterSample p s = true → pf p 20 1 < 3 → q = aboutPart (named .counterSample p s) (pbits p 21 0 4) →
    mgmtRefusal (named .counterSample p s) q s = none → accountView s p.src q (pf p 20 1) = some e →
    namedCtx s p.src (pf p 24 4) = some c → c.part = q → 64 ≤ pf p 40 4 → (srcIsCtx p.src = true → s.inCarve p.part (pf p 32 6) 64 = true ∧ place s p.part (pf p 32 6) 64 = .tier0 (pf p 32 6)) →
    ∃ t bytes, exec (.counterSample p) s = .next t ∧ bytes.length = 64 ∧ (bytes.drop 20).take 1 = leBytes 1 (pf p 20 1) ∧
      (bytes.drop 22).take 2 = leBytes 2 c.slot ∧ bytes.take 8 = leBytes 8 (if e then s.epochStart else s.now) ∧ (srcIsCtx p.src = true → .write p.part (pf p 32 6) bytes ∈ t.out) ∧ (p.src = .mgmt → .busWrite (pf p 32 6) bytes ∈ t.out) ∧
      Answered .counterSample p stOk (resultOf [(16, 4, 64), (20, 4, ofLeBytes ((bytes.drop 8).take 4))]) s t ∧
      OnlyIn (.fresh :: replyAreas) s t) ∧
  (∀ (p : Packet) (s : State) (q n : Nat),
    s.calm = true → passes .counterSample p s = true → 3 ≤ pf p 20 1 → q = aboutPart (named .counterSample p s) (pbits p 21 0 4) →
    n = (if pf p 22 2 = 0xFFFF then allEngines.length else 1) →
    (pf p 20 1 = 4 → mgmtRefusal (named .counterSample p s) q s = none) → engineView s p.src q (pf p 20 1) = true →
    144 * n ≤ pf p 40 4 → (∀ x, x ∈ s.scribe.engines → x.stalls.length = 16) → (srcIsCtx p.src = true → s.inCarve p.part (pf p 32 6) (144 * n) = true ∧ place s p.part (pf p 32 6) (144 * n) = .tier0 (pf p 32 6)) →
    ∃ t bytes, exec (.counterSample p) s = .next t ∧ bytes.length = 144 * n ∧ (srcIsCtx p.src = true → .write p.part (pf p 32 6) bytes ∈ t.out) ∧ (p.src = .mgmt → .busWrite (pf p 32 6) bytes ∈ t.out) ∧
      Answered .counterSample p stOk (resultOf [(16, 4, 144 * n)]) s t ∧ OnlyIn (.fresh :: replyAreas) s t) ∧
  (∀ (p : Packet) (s : State) (n : Nat),
    s.calm = true → passes .traceStart p s = true → n = traceSlotOf (named .traceStart p s) p →
    (n ≠ 16 → mgmtRefusal (named .traceStart p s) n s = none) → traceView s p.src n (pbits p 22 0 6) = true →
    s.traceSlot? n = none → (n ≠ 16 → pbit p 36 1 = false → s.inCarve n (pf p 24 6) (pf p 32 4) = true) →
    (n ≠ 16 → pbit p 36 1 = true → pf p 44 4 ≠ 0 → (s.sendResv n (resvCls (pf p 44 4)) (pf p 44 4)).isSome = true) →
    ∃ t x, exec (.traceStart p) s = .next t ∧ t.traceSlot? n = some x ∧ x.scope = pf p 20 1 ∧ x.ctx = p.slot ∧
      x.events = pbits p 22 0 6 ∧ x.bufAddr = pf p 24 6 ∧ x.bufLen = pf p 32 4 ∧ x.wrap = pbit p 36 0 ∧
      x.export_ = (pbit p 36 1 && decide (n ≠ 16)) ∧ x.sampleUs = pf p 48 4 ∧ x.sampledAt = s.now ∧
      Answered .traceStart p stOk (resultOf [(16, 1, n)]) s t ∧ OnlyIn replyAreas s t) ∧
  (∀ (p : Packet) (s : State) (n : Nat) (x : TraceSlot),
    s.calm = true → passes .traceStop p s = true → n = aboutPart (named .traceStop p s) (pf p 20 1) →
    (n ≠ 16 → mgmtRefusal (named .traceStop p s) n s = none) → traceView s p.src n 0 = true → s.traceSlot? n = some x →
    ∃ t w l, exec (.traceStop p) s = .next t ∧ t.traceSlot? n = none ∧
      (x.queued = [] → bitOf p.flags.toNat 2 = false → w = x.written ∧ l = x.lost) ∧
      Answered .traceStop p stOk (resultOf [(16, 4, w), (20, 4, l)]) s t ∧ OnlyIn replyAreas s t) ∧
  (∀ (n : Nat) (s : State) (x : TraceSlot),
    s.calm = true → s.running = true → s.traceSlot? n = some x → bitOf x.events 4 = true →
    ∃ t y, exec (.traceSample n) s = .next t ∧ t.now = max s.now (x.sampledAt + 1000 * x.sampleUs) ∧ t.traceSlot? n = some y ∧
      y.sampledAt = t.now ∧ OnlyIn [.cal, .start, .cmds, .fresh, .scribe, .gl, .out] s t)

/-- HALT, HALT_CTRL_HALT, HALT_FLIT_RECEIVE and HALT_CUT (R499, R502, R503, R504, R505, R512). -/
def Obligations.HaltsAreAskedForAndCut : Prop :=
  (∀ (p : Packet) (s : State) (a : Option Nat),
    s.calm = true → passes .halt p s = true → s.opDebug = true → s.scribe.cutAt = none → resumedNow s = none →
    a = (if pbit p 20 1 then some (pf p 24 8) else none) →
    (s.scribe.halted = false →
      ∃ t, exec (.halt p) s = .next t ∧
        t.scribe.cutAt = some ((cutTime s.now (s.now + 24) a).1, s.chip + 2048 * (s.scribe.haltCount % 2 ^ 21), some (named .halt p s)) ∧
        t.scribe.late = (cutTime s.now (s.now + 24) a).2 ∧ t.scribe.haltCount = (s.scribe.haltCount + 1) % 2 ^ 21 ∧
        (t.inflight? (named .halt p s)).isSome = true ∧ OnlyIn replyAreas s t) ∧
    (s.scribe.halted = true →
      ∃ t, exec (.halt p) s = .next t ∧ Answered .halt p stOk (resultOf [(16, 8, s.scribe.cut), (24, 4, s.scribe.haltId)]) s t ∧
        OnlyIn replyAreas s t)) ∧
  (∀ (job : Bool) (domain : Nat) (s : State),
    s.calm = true → s.up = true → s.fullDebug = true → s.scribe.cutAt = none → s.scribe.halted = false →
    ∃ t, exec (.haltCtrlHalt .tap job domain) s = .next t ∧
      t.scribe.cutAt = some (s.now + 24, s.chip + 2048 * (s.scribe.haltCount % 2 ^ 21), none) ∧
      t.scribe.haltCount = (s.scribe.haltCount + 1) % 2 ^ 21 ∧ OnlyIn [.scribe, .gl, .out] s t) ∧
  (∀ (n : Nat) (f : HaltFlit) (s : State) (l : Link),
    s.calm = true → s.gl.links[n]? = some l → n < 48 → l.state = .keyed → s.up = true → s.scribe.seen.contains (f.haltId, false) = false →
    (actsOn s f = false →
      ∃ t, exec (.haltFlitReceive n f) s = .next t ∧ t.scribe.ignored = bump 255 s.scribe.ignored ∧
        t.scribe.seen.contains (f.haltId, false) = true ∧ t.scribe.cutAt = s.scribe.cutAt ∧ OnlyIn [.scribe, .gl, .out, .start] s t) ∧
    (actsOn s f = true → s.scribe.halted = false → s.scribe.cutAt = none →
      ∃ t at_, exec (.haltFlitReceive n f) s = .next t ∧ t.scribe.cutAt = some (at_, f.haltId, none) ∧
        t.scribe.seen.contains (f.haltId, false) = true ∧
        (if f.atValid ∧ s.now + 24 ≤ f.time then at_ = f.time else s.now ≤ at_ ∧ at_ ≤ s.now + 10) ∧
        OnlyIn [.scribe, .gl, .out, .fresh, .start] s t)) ∧
  (∀ (s : State) (t0 id : Nat) (cmd : Option CmdRef),
    s.calm = true → s.running = true → s.scribe.cutAt = some (t0, id, cmd) → (∀ r, cmd = some r → r.src = .mgmt) →
    ∃ t, exec .haltCut s = .next t ∧ t.scribe.halted = true ∧ t.scribe.cutAt = none ∧ t.scribe.haltId = id ∧
      t.scribe.cut = max s.now t0 ∧ t.now = max s.now t0 ∧
      (∀ r, cmd = some r → t.inflight? r = none ∧ Replied r stOk (resultOf [(16, 8, max s.now t0), (24, 4, id)]) t.now t) ∧
      OnlyIn (.cal :: .start :: .damper :: replyAreas) s t)

/-- RESUME, HALT_CTRL_RESUME, RESUME_FLIT_RECEIVE and HALT_RESTART (R501, R504, R506, R512). -/
def Obligations.HaltsEnd : Prop :=
  (∀ (p : Packet) (s : State),
    s.calm = true → passes .resume p s = true → s.opDebug = true → s.canResume = true → pf p 24 4 = s.scribe.haltId →
    ∃ t, exec (.resume p) s = .next t ∧
      t.scribe.restartAt = some (max (s.now + 1000 * (if pf p 28 2 = 0 then 200 else pf p 28 2)) (s.now + s.rampUpNs),
        some (named .resume p s)) ∧ t.scribe.halted = true ∧
      (t.inflight? (named .resume p s)).isSome = true ∧ OnlyIn (.damper :: replyAreas) s t) ∧
  (∀ (job : Bool) (domain : Nat) (s : State),
    s.calm = true → s.up = true → s.fullDebug = true → s.canResume = true →
    ∃ t, exec (.haltCtrlResume .tap job domain) s = .next t ∧
      t.scribe.restartAt = some (max (s.now + 200000) (s.now + s.rampUpNs), none) ∧ OnlyIn [.scribe, .damper, .gl, .out] s t) ∧
  (∀ (n : Nat) (f : HaltFlit) (s : State) (l : Link),
    s.calm = true → s.gl.links[n]? = some l → n < 48 → l.state = .keyed → s.up = true → s.scribe.seen.contains (f.haltId, true) = false → actsOn s f = true → s.canResume = true →
    f.haltId = s.scribe.haltId →
    ∃ t, exec (.resumeFlitReceive n f) s = .next t ∧ t.scribe.restartAt = some (max f.time (s.now + s.rampUpNs), none) ∧
      t.scribe.seen.contains (f.haltId, true) = true ∧ OnlyIn [.scribe, .damper, .gl, .out, .start] s t) ∧
  (∀ (s : State) (t0 : Nat) (cmd : Option CmdRef),
    s.calm = true → s.up = true → s.scribe.halted = true → s.scribe.restartAt = some (t0, cmd) → s.gl.postCut = [] →
    (∀ x, x ∈ s.gl.parcels → x.bounded = true → max s.now t0 ≤ x.deadline) → (∀ r, cmd = some r → r.src = .mgmt) →
    ∃ t, exec .haltRestart s = .next t ∧ t.scribe.halted = false ∧ t.scribe.restartAt = none ∧ t.scribe.restart = max s.now t0 ∧
      t.now = max s.now t0 ∧ t.kp = s.kp ∧ t.fuses = s.fuses ∧
      (∀ r, cmd = some r → t.inflight? r = none ∧
        Replied r stOk (resultOf [(16, 8, max s.now t0), (24, 8, max s.now t0 - s.scribe.cut)]) t.now t))

/-- DEBUG_OPEN_OPERATOR, DEBUG_OPEN_TENANT, DEBUG_CHALLENGE and DEBUG_RESPONSE (R474, R475, R476, R477, R478, R479). -/
def Obligations.DebugOpens : Prop :=
  (∀ (p : Packet) (s : State),
    s.calm = true → passes .debugOpenOperator p s = true →
    ∃ t, exec (.debugOpenOperator p) s = .next t ∧ t.debugs = { s.debugs with operator := true } ∧
      Answered .debugOpenOperator p stOk 0 s t ∧ OnlyIn (.debugs :: replyAreas) s t) ∧
  (∀ (p : Packet) (k : DebugToken) (s : State),
    s.calm = true → passes .debugOpenTenant p s = true →
    ((s.part p.part).tenantDebug = true →
      ∃ t, exec (.debugOpenTenant p k) s = .next t ∧ Answered .debugOpenTenant p stOk 0 s t ∧ OnlyIn replyAreas s t) ∧
    ((s.part p.part).tenantDebug = false → s.inCarve p.part (pf p 24 6) 288 = true → readCause k.read = none →
      tokenOk s p.part k = true →
      ∃ t, exec (.debugOpenTenant p k) s = .next t ∧ (t.part p.part).tenantDebug = true ∧
        t.kp.slots = s.kp.slots.filter (fun x => !s.kp.slots.any (fun y => y.part = p.part && y.noDebug && x.part = y.part &&
          x.slot = y.slot)) ∧
        Answered .debugOpenTenant p stOk 0 s t ∧ OnlyIn (.kp :: replyAreas) s t)) ∧
  (∀ (p : Packet) (s : State),
    s.calm = true → s.tests.injections = [] → passes .debugChallenge p s = true → 256 + sigBytes ≤ pf p 30 4 →
    ∃ t bytes, exec (.debugChallenge p true) s = .next t ∧ t.debugs = { s.debugs with challenge := some (s.fresh, s.now + 600000000000) } ∧
      bytes.length = 256 + sigBytes ∧ .busWrite (pf p 24 6) bytes ∈ t.out ∧ Answered .debugChallenge p stOk 0 s t ∧
      OnlyIn (.debugs :: .fresh :: replyAreas) s t) ∧
  (∀ (p : Packet) (d : DebugResp) (s : State) (k e : Nat),
    s.calm = true → passes .debugResponse p s = true → s.fullDebug = false → s.debugs.challenge = some (k, e) → s.now < e →
    d.challengeHashOk = true → d.deviceIdOk = true → d.scope = 1 → d.sigsOk = true →
    (∀ q, q ≠ 0 → (s.part q).pstate = .free) →
    ∃ t, exec (.debugResponse p d) s = .next t ∧ t.debugs.full = true ∧ t.debugs.challenge = none ∧ t.debugs.opening = none ∧
      t.vs.sessions = [] ∧ t.kp.dbgKeys = true ∧ Answered .debugResponse p stOk 0 s t ∧
      OnlyIn (.debugs :: .kp :: .vs :: .ret :: replyAreas) s t)

/-- LC_QUERY, LC_STATUS and LC_TRANSITION complete (R466, R468, R469). -/
def Obligations.LifeCycleCommandsComplete : Prop :=
  (∀ (p : Packet) (s : State),
    s.calm = true →
    (passes .lcQuery p s = true →
      ∃ t, exec (.lcQuery p) s = .next t ∧ OnlyIn (.vs :: replyAreas) s t ∧
        Answered .lcQuery p stOk (resultOf [(16, 1, s.fuses.lc.code), (17, 1, s.lcPending), (18, 1, s.fuses.svnMin),
          (19, 1, fldB 0 s.fullDebug + fldB 1 s.debugs.operator + fldB 2 (s.fuses.wipeStep ≠ 0) + fldB 3 s.fuses.inUse.isSome)]) s t) ∧
    (passes .lcStatus p s = true →
      ∃ t, exec (.lcStatus p) s = .next t ∧ OnlyIn replyAreas s t ∧
        Answered .lcStatus p stOk (resultOf [(16, 1, s.intentRow 0 + 4 * s.completionRow 0),
          (17, 1, s.intentRow 1 + 4 * s.completionRow 1), (18, 1, s.intentRow 2 + 4 * s.completionRow 2), (19, 1, s.fuses.svnMin),
          (20, 1, bankCode s false + 4 * bankCode s true), (21, 1, fldB 0 s.fuses.vpp + fldB 1 (s.fuses.wipeStep ≠ 0)),
          (22, 2, s.fuses.wipeStep)]) s t)) ∧
  (∀ (p : Packet) (s : State) (k : Nat),
    s.calm = true → passes .lcTransition p s = true → s.lcPendingRow = none → (pf p 20 1 = 2 → s.fuses.inUse.isSome = true) →
    s.fuses.vpp = true → transitionTo s.fuses.lc (pf p 20 1) = some k →
    ∃ t, exec (.lcTransition p) s = .next t ∧ t.fuses = { s.fuses with intent := s.fuses.intent.set k 32 } ∧
      Answered .lcTransition p stOk (resultOf [(16, 1, pf p 20 1), (17, 1, k + 1), (18, 1, 32)]) s t ∧
      OnlyIn (.fuses :: replyAreas) s t)

/-- COLD_START, WARM_START, IMAGE_FETCH, BOOT_GO_WRITE and VPP_FUSE_RECHECK (R33, R330, R459, R462, R463, R465, R470). -/
def Obligations.StartsRunTheirSteps : Prop :=
  (∀ (f : StartFindings) (s : State) (lc : LcState) (b : Fuses),
    s.calm = true → (∀ q, q ∈ s.mail.chans → q.dbIn = 0) → s.start.pwrAon = false →
    (badChannel f.purlinA f.purlinB = none → s.start.image = none → resolveLc s = .state lc → lc ≠ .endOfLife → rsBanks { s.fuses with vpp := f.vppFuse } (decide (lc = .blank)) f.rsCheckAOk f.rsCheckBOk = some b → f.failedUnits = [] → f.failedEngines = [] →
      ∃ t, exec (.coldStart f) s = .next t ∧ t.up = true ∧ t.fuses = { b with lc := lc } ∧ t.start.step = 9 ∧ t.start.kind = 1 ∧
        t.start.waiting = !s.start.go ∧ t.start.rootOk = true ∧ t.start.purlin = f.purlinA ∧ t.start.stopped = s.start.stopped ∧
        OnlyIn [.start, .fuses, .sill, .fresh] s t) ∧
    (∀ c, badChannel f.purlinA f.purlinB = some c →
      ∃ t, exec (.coldStart f) s = .next t ∧ t.start.stopped = true ∧ t.start.step = 3 ∧ t.start.inReset = true ∧ t.fuses = s.fuses)) ∧
  (∀ (f : StartFindings) (s : State) (lc : LcState) (b : Fuses) (i : BootImage),
    s.calm = true → (∀ q, q ∈ s.mail.chans → q.dbIn = 0) → s.start.pwrAon = true → s.start.inReset = true → s.start.trayReq = false → s.start.rootWait = false →
    s.plumb.rungs.any (fun x => x.rung = .chip && x.begun) = true → f.pcsCoefficientsLost = false → s.start.purlin ≠ [] →
    s.start.image = some i → s.start.reload = false → resolveLc s = .state lc → lc ≠ .endOfLife → rsBanks { s.fuses with vpp := f.vppFuse } (decide (lc = .blank)) f.rsCheckAOk f.rsCheckBOk = some b → f.failedUnits = [] → f.failedEngines = [] →
    ∃ t, exec (.warmStart f) s = .next t ∧ t.up = true ∧ t.kp.ready = true ∧ t.kp.svn = i.svn ∧ t.fuses = { b with lc := lc } ∧
      t.start.kind = 2 ∧ t.start.bootState = 3 ∧ 11 ≤ t.start.step ∧ t.plumb.causes = [] ∧
      t.plumb.rungs.all (fun x => x.rung ≠ .chip) = true ∧ t.parts = s.parts) ∧
  (∀ (i : BootImage) (s : State),
    s.calm = true → (∀ q, q ∈ s.mail.chans → q.dbIn = 0) → s.awaitsImage = true → s.start.go = true →
    ((i.formatOk && i.sigsOk && decide (i.svn ≤ 64)) = false →
      ∃ t, exec (.imageFetch i) s = .next t ∧ t.start.bootState = 4 ∧ t.start.image = none ∧ OnlyIn [.start] s t) ∧
    (i.formatOk = true → i.sigsOk = true → i.svn ≤ 64 →
      (i.svn < s.fuses.svnMin →
        ∃ t, exec (.imageFetch i) s = .next t ∧ t.start.bootState = 5 ∧ t.start.image = none ∧ OnlyIn [.start] s t) ∧
      (s.fuses.svnMin ≤ i.svn →
        ∃ t, exec (.imageFetch i) s = .next t ∧ t.kp.ready = true ∧ t.kp.svn = i.svn ∧ t.start.image = some i ∧
          t.start.bootState = 3 ∧ 11 ≤ t.start.step ∧
          t.fuses.svnMin = (if i.commitSvn && s.fuses.vpp then max s.fuses.svnMin i.svn else s.fuses.svnMin) ∧
          t.kp.endorsed = (i.endorsed && decide (s.fuses.lc = .production))))) ∧
  (∀ (v : Word) (s : State),
    s.calm = true → s.up = true → s.start.bootState ≠ 1 → s.start.bootState ≠ 2 →
    ∃ t, exec (.bootGoWrite v) s = .next t ∧ t.start.bootLen = bitsOf v.toNat 0 9 ∧ t.start.go = bitOf v.toNat 9 ∧
      t.start.reload = bitOf v.toNat 10 ∧ t.start.bootState = s.start.bootState ∧ OnlyIn [.start] s t) ∧
  (∀ (s : State),
    s.calm = true → s.up = true → s.fuses.rollWaiting = true →
    (∃ t, exec (.vppFuseRecheck false) s = .next t ∧ t.fuses = { s.fuses with vpp := false } ∧ OnlyIn [.fuses] s t) ∧
    (∀ k f, resolveLc s = .roll k → k < 2 → s.start.findings = some f → f.failedUnits = [] → f.failedEngines = [] →
      s.start.image = none →
      ∃ t, exec (.vppFuseRecheck true) s = .next t ∧ t.fuses.lc = lcOf (k + 1) ∧ t.fuses.rollWaiting = false ∧
        t.fuses.intent = s.fuses.intent.set k 32 ∧ t.fuses.completion = s.fuses.completion.set k 32 ∧ t.start.step = 9 ∧
        OnlyIn [.fuses, .start, .sill] s t))

/-- ROOT_MONITOR_CHECK, CHIP_RST_REQ, CORE_POWER_FALL and POWER_LOSS (R39, R40, R42, R309, R430, R467). -/
def Obligations.PowerAndResetPinsAct : Prop :=
  (∀ (n : Nat) (s : State),
    s.calm = true → s.start.pwrAon = true → s.damper.lstate ≠ .l3 →
    (rootInRange n = true →
      ∃ t, exec (.rootMonitorCheck n) s = .next t ∧ t.start.rootOk = true ∧ t.start.rootCount = n % 65536 ∧
        t.start.rootGood = min 3 (s.start.rootGood + 1) ∧
        t.start.rootWait = (s.start.rootWait && decide (s.start.rootGood + 1 < 3)) ∧ OnlyIn [.start] s t) ∧
    (rootInRange n = false → s.start.rootWait = false → s.start.trayReq = false → s.plumb.causes = [] →
      ∃ t, exec (.rootMonitorCheck n) s = .next t ∧ t.start.rootOk = false ∧ t.start.rootWait = true ∧ t.start.rootLoss = true ∧
        t.start.aonOnSosc = true ∧ t.plumb.causes = [0x01] ∧ t.plumb.sticky.getLsbD 0x01 = true ∧ OnlyIn [.start, .plumb] s t) ∧
    (s.start.trayReq = false → s.plumb.causes = [] →
      ∃ t, exec .chipRstReq s = .next t ∧ t.plumb.causes = [0x0D] ∧
        t.plumb.rungs.any (fun x => x.rung = .chip && !x.begun) = true ∧ t.plumb.sticky.getLsbD 0x0D = true ∧ OnlyIn [.plumb] s t)) ∧
  (∀ (s : State),
    s.calm = true → s.start.pwrAon = true →
    (s.damper.lstate = .l3 →
      ∃ t, exec .chipRstReq s = .next t ∧ t.damper.moving = some (.l3, .l0) ∧ OnlyIn [.damper] s t) ∧
    (s.start.pwrCore = true → s.plumb.causes = [] →
      ∃ t, exec .corePowerFall s = .next t ∧ t.start.pwrCore = false ∧ t.start.image = none ∧ t.start.trayReq = false ∧
        t.plumb.causes = [0x0E] ∧ t.plumb.sticky.getLsbD 0x0E = true ∧ OnlyIn [.start, .plumb] s t)) ∧
  (∀ (s : State), exec .powerLoss s = .next (powerLoss s) ∧ (powerLoss s).kp = State.reset.kp ∧
    (powerLoss s).parts = State.reset.parts ∧ (powerLoss s).fuses.lc = s.fuses.lc ∧ (powerLoss s).fuses.svnMin = s.fuses.svnMin ∧
    (powerLoss s).fuses.intent = s.fuses.intent ∧ (powerLoss s).fuses.completion = s.fuses.completion ∧
    (powerLoss s).start.pwrAon = false)

/-- ENGINE_RUNG, ENGINE_CHECK_DONE, PARTITION_RUNG, PARTITION_RUNG_COMPLETE, CHIP_RUNG and TRAY_RUNG (R433, R435, R436, R437, R438, R394, R559). -/
def Obligations.RungsRun : Prop :=
  (∀ (e : Nat) (s : State) (g : RunningRung),
    s.calm = true → s.up = true →
    (s.rung? .engine e false = some g → s.plumb.retired.contains e = false → engineKind e ≠ 4 → engineKind e ≠ 5 →
      (engineKind e = 1 → ∀ x, x ∈ s.gl.parcels → x.lane ≠ some (engineIdx e)) →
      (engineKind e = 7 → ∀ n, n < 64 → (s.link n).keyxCmd = none) →
      ∃ t, exec (.engineRung e) s = .next t ∧ (t.rung? .engine e true).isSome = true ∧
        assocGet t.plumb.engineGens e 0 = assocGet s.plumb.engineGens e 0 + 1 ∧ OnlyIn [.plumb] s t) ∧
    (s.rung? .engine e true = some g → checkReady s e = true →
      ∃ t, exec (.engineCheckDone e true) s = .next t ∧ t.rung? .engine e true = none ∧ t.plumb.retired = s.plumb.retired ∧
        OnlyIn [.plumb] s t) ∧
    (s.rung? .engine e true = some g → engineKind e ≠ 5 → engineKind e ≠ 7 →
      ∃ t, exec (.engineCheckDone e false) s = .next t ∧ t.rung? .engine e true = none ∧ t.plumb.retired.contains e = true ∧
        OnlyIn [.plumb, .cal, .mail, .out] s t)) ∧
  (∀ (q n : Nat) (s : State) (g : RunningRung),
    s.calm = true → s.up = true → q < s.parts.length →
    (s.rung? .partition q false = some g → (s.part q).pstate ≠ .free → (s.part q).struck = false → s.slotsOf q = [n] →
      s.ctxRests n = true → (∀ x, x ∈ s.pegs.slots → x.ownerPart ≠ q) → (∀ x, x ∈ s.gl.parcels → x.drain = false) →
      ∃ t, exec (.partitionRung q) s = .next t ∧ (t.part q).view.rungActive = true ∧ (t.rung? .partition q true).isSome = true ∧
        t.genOf n = (s.genOf n + 1) % 256 ∧ (t.ctx? n).map (fun c => (c.expected, c.handles)) = some (0, []) ∧
        (∀ b, b ∈ t.gl.posted → b.ref.part ≠ q) ∧ (∀ x, x ∈ t.inl.groups → x.part ≠ q) ∧
        OnlyIn [.parts, .cmds, .gl, .inl, .sill, .pegs, .cal, .plumb, .ret] s t) ∧
    (s.rung? .partition q true = some g → s.scribe.halted = false → rungOpen s q = false →
      ∃ t, exec (.partitionRungComplete q) s = .next t ∧
        (t.part q).pstate = (if (s.part q).pstate = .created then .created else .sealed) ∧ (t.part q).view.rungActive = false ∧
        (t.part q).view.restarts = bump 255 (s.part q).view.restarts ∧ t.rung? .partition q true = none ∧
        OnlyIn [.parts, .plumb, .mail, .out] s t)) ∧
  (∀ (cause : Nat) (dump : Bool) (s : State) (g : RunningRung),
    s.calm = true → s.start.pwrAon = true →
    (s.plumb.rungs.find? (fun x => x.rung = .chip && !x.begun) = some g → g.src = cause → s.start.inReset = false →
      ∃ t, exec (.chipRung cause dump) s = .next t ∧ t.start.inReset = true ∧ t.parts = State.reset.parts ∧ t.kp.slots = [] ∧
        t.kp.ready = false ∧ t.gl = State.reset.gl ∧ t.cmds.ctxs = [] ∧ t.sill.unclean = uncleanAfter s ∧ t.fuses = s.fuses ∧
        t.plumb.chipResets = bump 0xFFFFFFFF s.plumb.chipResets ∧
        t.plumb.rungs.any (fun x => x.rung = .chip && x.begun) = true ∧
        (if dump = true ∧ s.plumb.causes.contains 0x01 = false ∧ s.plumb.dumpValid = false
          then t.plumb.dumpValid = true ∧ t.plumb.dumpSkips = s.plumb.dumpSkips
          else t.plumb.dumpValid = s.plumb.dumpValid ∧ t.plumb.dumpSkips = bump 255 s.plumb.dumpSkips)) ∧
    (s.start.trayReq = false → s.plumb.trayAsked = some cause →
      ∃ t, exec (.trayRung cause) s = .next t ∧ t.start.trayReq = true ∧ t.start.inReset = true ∧ t.plumb.rungs = [] ∧
        t.plumb.causes = [] ∧ t.plumb.trayAsked = none ∧ t.fuses = s.fuses ∧
        (s.start.inReset = false → t.parts = State.reset.parts ∧ t.kp.slots = [])))

/-- RESET_REQ_ENGINE, RESET_REQ_PARTITION, RESET_REQ_CHIP, LADDER_TIMEOUT and DUMP_ACK (R431, R447, R454, R455, R456). -/
def Obligations.ResetsAreAskedForAndRungsTimeOut : Prop :=
  (∀ (x : Nat) (s : State),
    s.calm = true → s.up = true → (s.src 0x87).thresh = 0 → s.start.trayReq = false → s.plumb.causes = [] →
    (engineExists x = true → s.coveredBy .engine x = none →
      ∃ t, exec (.resetReqEngine x) s = .next t ∧
        t.plumb.rungs.any (fun r => r.rung = .engine && r.scope = x && r.src = 0x87 && !r.begun) = true ∧
        t.plumb.sticky.getLsbD 0x87 = true ∧ OnlyIn [.plumb, .mail, .out] s t) ∧
    (engineExists x = false → ∃ t, exec (.resetReqEngine x) s = .next t ∧ t.vs.malformed = bump 65535 s.vs.malformed ∧
      OnlyIn [.vs] s t) ∧
    (rungPartition s x = true → s.coveredBy .partition x = none →
      ∃ t, exec (.resetReqPartition x) s = .next t ∧
        t.plumb.rungs.any (fun r => r.rung = .partition && r.scope = x && r.src = 0x87 && !r.begun) = true ∧
        t.plumb.sticky.getLsbD 0x87 = true ∧ OnlyIn [.plumb, .mail, .out] s t) ∧
    (rungPartition s x = false → ∃ t, exec (.resetReqPartition x) s = .next t ∧ t.vs.malformed = bump 65535 s.vs.malformed ∧
      OnlyIn [.vs] s t) ∧
    (∃ t, exec (.resetReqChip 0) s = .next t ∧ t.plumb.causes = [0x87] ∧
      t.plumb.rungs.any (fun r => r.rung = .chip && !r.begun) = true ∧ OnlyIn [.plumb, .mail, .out] s t) ∧
    (x ≠ 0 → ∃ t, exec (.resetReqChip x) s = .next t ∧ t.vs.malformed = bump 65535 s.vs.malformed ∧ OnlyIn [.vs] s t)) ∧
  (∀ (scope units t0 : Nat) (es : List Nat) (s : State) (g : RunningRung),
    s.calm = true → s.start.pwrAon = true → s.scribe.halted = false → (s.src 0x0C).thresh = 0 → g.scope = scope →
    (g.rung = .chip → s.rung? .chip scope true = some g → g.timerFrom = some t0 →
      ∃ t, exec (.ladderTimeout 4 scope units es) s = .next t ∧ t.plumb.trayAsked = some 0x0C ∧ t.plumb.causes = [] ∧
        t.plumb.chipTo = bump 255 s.plumb.chipTo ∧ t.now = max s.now (t0 + 200000000) ∧ t.rung? .chip scope true = none ∧
        OnlyIn [.plumb, .mail, .cal, .start, .out] s t) ∧
    (s.start.trayReq = false → s.plumb.causes = [] →
      (g.rung = .partition → s.rung? .partition scope true = some g → g.timerFrom = some t0 →
        ∃ t, exec (.ladderTimeout 3 scope units es) s = .next t ∧ t.plumb.causes = [0x0C] ∧
          t.plumb.partitionTo = bump 255 s.plumb.partitionTo ∧ t.now = max s.now (t0 + 20000000) ∧
          (t.part scope).view.rungActive = false ∧ OnlyIn [.parts, .plumb, .mail, .cal, .start, .out] s t) ∧
      (g.rung = .engine → s.rung? .engine scope true = some g → g.timerFrom = some t0 → g.work = [] →
        ∃ t, exec (.ladderTimeout 2 scope units es) s = .next t ∧ t.plumb.causes = [0x0C] ∧
          t.plumb.engineTo = bump 255 s.plumb.engineTo ∧ t.now = max s.now (t0 + 2000000) ∧
          OnlyIn [.plumb, .mail, .cal, .start, .out] s t))) ∧
  (∀ (scope units part t0 e : Nat) (s : State),
    s.calm = true → s.start.pwrAon = true → s.scribe.halted = false → (s.src 0x0C).thresh = 0 →
    s.rung? .context scope true = none → s.plumb.watched.find? (fun w => w.1 = scope) = some (scope, part, t0) →
    engineExists e = true → s.coveredBy .engine e = none →
    ∃ t, exec (.ladderTimeout 1 scope units [e]) s = .next t ∧ t.plumb.contextTo = bump 255 s.plumb.contextTo ∧
      t.now = max s.now (t0 + 200000) ∧ t.plumb.rungs.any (fun r => r.rung = .engine && r.scope = e && !r.begun) = true ∧
      OnlyIn [.plumb, .mail, .cal, .start, .out] s t) ∧
  (∀ (s : State),
    s.calm = true → s.up = true →
    ∃ t, exec .dumpAck s = .next t ∧ t.plumb = { s.plumb with dumpValid := false } ∧ OnlyIn [.plumb] s t)

/-- Pushes, pops, doorbells, assignments and resets of the outside peer (R540, R541, R543, R545, R551, R554). -/
def Obligations.MailboxRegistersAct : Prop :=
  (∀ (via : Access) (c : Nat) (w : Word) (s : State), s.calm = true → s.mail.chans.length = 8 → s.up = true → chanAccess via c s = true →
    (∃ t, exec (.mbInPush via c w) s = .next t ∧
      t.chan c = (if (s.chan c).inq.length < 16
        then { s.chan c with inq := (s.chan c).inq ++ [w], inAt := (s.chan c).inAt ++ [s.now] }
        else { s.chan c with overflow := true }) ∧
      (∀ d, d ≠ c → t.chan d = s.chan d) ∧ t.mail.assign = s.mail.assign ∧ OnlyIn [.mail] s t) ∧
    (∃ t, exec (.mbOutPop via c) s = .next t ∧
      t.out = .readData (((s.chan c).outq.headD 0).setWidth 64) :: s.out ∧
      (t.chan c).outq = (s.chan c).outq.drop 1 ∧ ((s.chan c).outq = [] → t.chan c = { s.chan c with underflow := true }) ∧
      ((s.chan c).outq ≠ [] → (t.chan c).underflow = (s.chan c).underflow ∧ (t.chan c).inq = (s.chan c).inq) ∧
      (∀ d, d ≠ c → t.chan d = s.chan d) ∧ t.mail.assign = s.mail.assign ∧ OnlyIn [.mail, .out] s t) ∧
    (s.mailServed = true →
      (∃ t, exec (.mbInReady via c) s = .next t ∧
        t.chan c = { s.chan c with dbIn := if (s.chan c).inq = [] then 0 else 1 } ∧
        (∀ d, d ≠ c → t.chan d = s.chan d) ∧ OnlyIn [.mail] s t) ∧
      (∃ t, exec (.mbResync via c) s = .next t ∧ (t.chan c).dbIn = (s.chan c).dbIn ∧ (t.chan c).lost = 0 ∧
        ((s.chan c).lost = 0 → (t.chan c).waiting = (s.chan c).waiting) ∧
        ((s.chan c).lost ≠ 0 → (s.chan c).waiting.length < 8 → (t.chan c).waiting = (s.chan c).waiting ++
          [{ service := 0x84, part := none, payload := [BitVec.ofNat 32 (s.chan c).noticesDropped] }] ∧
          (t.chan c).noticesDropped = 0) ∧
        (∀ d, d ≠ c → t.chan d = s.chan d) ∧ OnlyIn [.mail] s t) ∧
      (∀ n, 5 ≤ n → n ≤ 31 →
        ∃ t, exec (.mbTestDoorbell via c n) s = .next t ∧
          t.chan c = { s.chan c with dbOut := (s.chan c).dbOut ||| BitVec.ofNat 32 (2 ^ n) } ∧
          (∀ d, d ≠ c → t.chan d = s.chan d) ∧ OnlyIn [.mail, .out] s t)) ∧
    (s.mailServed = false →
      (∃ t, exec (.mbInReady via c) s = .next t ∧ t.chan c = { s.chan c with dbIn := (s.chan c).dbIn ||| 1 } ∧
        (∀ d, d ≠ c → t.chan d = s.chan d) ∧ OnlyIn [.mail] s t) ∧
      (∃ t, exec (.mbResync via c) s = .next t ∧ t.chan c = { s.chan c with dbIn := (s.chan c).dbIn ||| 2 } ∧
        (∀ d, d ≠ c → t.chan d = s.chan d) ∧ OnlyIn [.mail] s t) ∧
      (∀ n, 5 ≤ n → n ≤ 31 →
        ∃ t, exec (.mbTestDoorbell via c n) s = .next t ∧
          t.chan c = { s.chan c with dbIn := (s.chan c).dbIn ||| BitVec.ofNat 32 (2 ^ n) } ∧
          (∀ d, d ≠ c → t.chan d = s.chan d) ∧ OnlyIn [.mail] s t))) ∧
  (∀ (via : Access) (c : Nat) (w : Word) (s : State), s.calm = true → s.up = true → chanAccess via c s = false →
    ∃ t, exec (.mbInPush via c w) s = .next t ∧
      (∀ p, vfClosed via s = some p → t.out = .unsupportedRequest p :: s.out ∧ OnlyIn [.out] s t) ∧
      (vfClosed via s = none → (∀ p, via = .vf p → p < s.parts.length →
          (t.part p).view.malformed = bump 65535 (s.part p).view.malformed ∧ t.vs = s.vs) ∧
        ((∀ p, via ≠ .vf p) → t.vs.malformed = bump 65535 s.vs.malformed ∧ t.parts = s.parts) ∧
        OnlyIn [.parts, .vs] s t)) ∧
  (∀ (v : Word) (s : State), s.calm = true → s.up = true →
    (((((List.range 4).map (assignByte v)).filter (fun b => b.2)).map (fun b => b.1)).Nodup →
      (∀ c, c < 4 → assignByte v c ≠ s.mail.assign.getD c (0, false) →
        ((assignByte v c).2 = true → (s.part (assignByte v c).1).pstate = .created) ∧
        (∀ p, s.chanAssigned c = some p → (s.part p).pstate = .created ∨ (s.part p).pstate = .free)) →
      ∃ t, exec (.mbAssignWrite v) s = .next t ∧ t.mail.assign = (List.range 4).map (assignByte v) ∧
        t.mail.chans = s.mail.chans ∧ OnlyIn [.mail] s t) ∧
    (¬ ((((List.range 4).map (assignByte v)).filter (fun b => b.2)).map (fun b => b.1)).Nodup →
      ∃ t, exec (.mbAssignWrite v) s = .next t ∧ t.vs.malformed = bump 65535 s.vs.malformed ∧ OnlyIn [.vs] s t)) ∧
  (∀ (p : Nat) (s : State), s.calm = true → s.mail.chans.length = 8 → s.up = true →
    (∃ t, exec (.functionLevelReset none) s = .next t ∧
      (∀ c, c < 8 → t.chan c = (if 4 ≤ c ∨ s.chanAssigned c = none then emptyChannel (s.chan c) else s.chan c)) ∧
      OnlyIn [.mail, .out] s t) ∧
    (∃ t, exec (.functionLevelReset (some p)) s = .next t ∧
      (∀ c, c < 8 → t.chan c = (if c < 4 ∧ s.chanAssigned c = some p then emptyChannel (s.chan c) else s.chan c)) ∧
      OnlyIn [.mail, .out] s t) ∧
    (∃ t, exec .pcieLinkReset s = .next t ∧
      (∀ c, c < 8 → t.chan c = (if 4 ≤ c ∨ s.chanAssigned c = none then emptyChannel (s.chan c) else s.chan c)) ∧
      OnlyIn [.mail, .out] s t))

/-- PING, BLOCK_STATE, PART_STATE, NOTICE_MASK, notices and the message timeout (R548, R549, R550, R551, R552, R553). -/
def Obligations.RequestsAndNoticesAreServed : Prop :=
  (∀ (c n : Nat) (w : Word) (body rest : List Word) (s : State), s.calm = true → s.mail.chans.length = 8 → s.up = true → s.kp.halted = false → c < 8 →
    (s.chan c).inq = w :: (body ++ rest) → body.length = bitsOf w.toNat 16 4 → badHeader w = false →
    n = 1 + body.length →
    (∀ p, s.chanAssigned c = some p → bitOf w.toNat 12 = true → bitsOf w.toNat 8 4 = p) →
    (bitsOf w.toNat 0 8 = 1 → (s.chan c).outq.length + 2 + body.length ≤ 16 →
      ∃ t, exec (.ping c) s = .next t ∧
        (t.chan c).outq = (s.chan c).outq ++ replyHeader w (1 + body.length) :: 0 :: body ∧
        (t.chan c).dbOut = (s.chan c).dbOut ||| 1 ∧ (t.chan c).inq = rest ∧ (t.chan c).inAt = (s.chan c).inAt.drop n ∧
        (∀ d, d ≠ c → t.chan d = s.chan d) ∧ OnlyIn [.mail, .out] s t) ∧
    (bitsOf w.toNat 0 8 = 2 → (s.chan c).outq.length + 4 ≤ 16 →
      ∃ t, exec (.blockState c) s = .next t ∧
        (t.chan c).outq = (s.chan c).outq ++ replyHeader w 3 :: 0 :: blockWords s ∧
        (t.chan c).dbOut = (s.chan c).dbOut ||| 1 ∧ (t.chan c).inq = rest ∧ (t.chan c).inAt = (s.chan c).inAt.drop n ∧
        (∀ d, d ≠ c → t.chan d = s.chan d) ∧ OnlyIn [.mail, .out] s t) ∧
    (s.scribe.halted = false → mailRefusal s = none →
      (∀ q : Nat, bitsOf w.toNat 0 8 = 3 → bitOf w.toNat 12 = true → q = bitsOf w.toNat 8 4 →
        (s.chan c).outq.length + 3 ≤ 16 → (s.part q).struck = false → (s.part q).pstate ≠ .free →
        ∃ t, exec (.partState c) s = .next t ∧
          (t.chan c).outq = (s.chan c).outq ++ [replyHeader w 2, 0,
            BitVec.ofNat 32 ((s.part q).pstate.code + fld 8 2 (s.part q).tdi.code + fldB 10 (s.key? q 0).isSome)] ∧
          (t.chan c).dbOut = (s.chan c).dbOut ||| 1 ∧ (t.chan c).inq = rest ∧ (∀ d, d ≠ c → t.chan d = s.chan d) ∧ OnlyIn [.mail, .out] s t) ∧
      (bitsOf w.toNat 0 8 = 4 → (s.chan c).outq.length + 2 ≤ 16 →
        ∃ t, exec (.noticeMask c) s = .next t ∧ (t.chan c).noticeMask = (body.headD 0).toNat % 8 ∧
          (t.chan c).outq = (s.chan c).outq ++ [replyHeader w 1, 0] ∧
          (t.chan c).dbOut = (s.chan c).dbOut ||| 1 ∧ (t.chan c).inq = rest ∧ (∀ d, d ≠ c → t.chan d = s.chan d) ∧ OnlyIn [.mail, .out] s t))) ∧
  (∀ (c at0 : Nat) (w : Word) (rest : List Word) (ats : List Nat) (s : State), s.calm = true → s.mail.chans.length = 8 → s.mailServed = true → c < 8 →
    (s.chan c).inq = w :: rest → (s.chan c).inAt = at0 :: ats → rest.length < bitsOf w.toNat 16 4 →
    ∃ t, exec (.mbMessageTimeout c) s = .next t ∧ (t.chan c).inq = [] ∧ (t.chan c).discarded = true ∧
      (t.chan c).outq = (s.chan c).outq ∧ (∀ d, d ≠ c → t.chan d = s.chan d) ∧ t.now = max s.now (at0 + 1000000) ∧
      (s.chanAssigned c = none → t.vs.malformed = bump 65535 s.vs.malformed) ∧
      (∀ p, s.chanAssigned c = some p → p < s.parts.length →
        (t.part p).view.malformed = bump 65535 (s.part p).view.malformed) ∧
      OnlyIn [.mail, .vs, .parts, .cal, .start] s t) ∧
  (∀ (c : Nat) (i : Instr) (x : Notice) (rest : List Notice) (s : State), s.calm = true → s.mail.chans.length = 8 → s.noticesSent = true → c < 8 →
    replyDue c s = false → (s.chan c).waiting = x :: rest → (s.chan c).outq.length + 1 + x.payload.length ≤ 16 →
    ((x.service = 0x81 ∧ i = .noticeFault c) ∨ (x.service = 0x82 ∧ i = .noticePart c) ∨
      (x.service = 0x83 ∧ i = .noticeStart c) ∨ (x.service = 0x84 ∧ i = .noticeLost c)) →
    ∃ t, exec i s = .next t ∧
      (t.chan c).outq = (s.chan c).outq ++ noticeHeader x (s.chan c).noticeTag :: x.payload ∧
      (t.chan c).dbOut = (s.chan c).dbOut ||| 2 ∧ (t.chan c).waiting = rest ∧
      (t.chan c).noticeTag = ((s.chan c).noticeTag + 1) % 4096 ∧ (t.chan c).inq = (s.chan c).inq ∧ (∀ d, d ≠ c → t.chan d = s.chan d) ∧ OnlyIn [.mail, .out] s t)

/-- LOOPBACK, KAT_RUN, FAULT_INJECT and MEMTEST complete (R516, R521, R523, R524, R527, R528). -/
def Obligations.TestCommandsComplete : Prop :=
  (∀ (p : Packet) (s : State), s.calm = true → passes .loopback p s = true →
    (pf p 20 1 = 1 → loopRefusal s (pf p 21 1) (pf p 22 2) = none →
      ∃ t x, exec (.loopback p) s = .next t ∧ t.tests.runs = s.tests.runs ++ [x] ∧ x.ref = some (named .loopback p s) ∧ x.kind = 0 ∧
        x.point = pf p 21 1 ∧ x.target = pf p 22 2 ∧ x.count = pf p 26 2 ∧ x.pattern = pf p 24 1 ∧ x.startedAt = s.now ∧
        x.stopped = false ∧ (t.inflight? (named .loopback p s)).isSome = true ∧ OnlyIn (.tests :: replyAreas) s t) ∧
    (pf p 20 1 = 0 →
      ∃ t, exec (.loopback p) s = .next t ∧ (∀ x, t.loopRun? (pf p 21 1) (pf p 22 2) = some x → x.stopped = true) ∧
        Answered .loopback p stOk 0 s t ∧ OnlyIn (.tests :: replyAreas) s t)) ∧
  (∀ (p : Packet) (s : State) (es : List Nat), s.calm = true → passes .katRun p s = true →
    es = (if pf p 22 2 ≠ 0xFFFF then [katEngine (pf p 20 1) (pf p 22 2)]
      else (katEngines (pf p 20 1)).filter (fun e => !s.plumb.retired.contains e)) →
    es.any (engineTested s) = false → es.any (fun e => s.plumb.retired.contains e) = false →
    (∃ t, exec (.katRun p []) s = .next t ∧
      Answered .katRun p stOk (resultOf [(16, 4, (es.filter (fun e => !katSkipped s e)).length), (20, 4, 0), (24, 2, 0),
        (26, 2, es.length - (es.filter (fun e => !katSkipped s e)).length)]) s t ∧ OnlyIn replyAreas s t) ∧
    (∀ e, es = [e] → katSkipped s e = false → 0x100 ≤ e → e < 0x400 →
      ∃ t, exec (.katRun p [e]) s = .next t ∧ t.plumb.retired.contains e = true ∧
        Answered .katRun p stOk (resultOf [(16, 4, 1), (20, 4, 1), (24, 2, e), (26, 2, 0)]) s t)) ∧
  (∀ (p : Packet) (s : State), s.calm = true → passes .faultInject p s = true → pf p 20 1 ≠ 8 →
    ∃ t, exec (.faultInject p) s = .next t ∧
      t.tests.injections = s.tests.injections ++ [{ kind := pf p 20 1, target := pf p 22 2, count := pf p 24 4, arg := pf p 28 4
                                                    armedAt := s.now }] ∧
      Answered .faultInject p stOk 0 s t ∧ OnlyIn (.tests :: replyAreas) s t) ∧
  (∀ (p : Packet) (s : State), s.calm = true → passes .memtest p s = true → memtestRefusal p s = none →
    ∃ t x, exec (.memtest p) s = .next t ∧ t.tests.runs = s.tests.runs ++ [x] ∧ x.ref = some (named .memtest p s) ∧ x.kind = 2 ∧
      x.point = pf p 21 1 ∧ x.target = pf p 24 4 ∧ x.count = pf p 28 4 ∧ x.pattern = pf p 20 1 ∧ x.arg = pf p 32 4 ∧
      x.startedAt = s.now ∧ (t.inflight? (named .memtest p s)).isSome = true ∧ OnlyIn (.tests :: replyAreas) s t)

/-- Loop-back runs and memory tests end with their reply (R516, R519, R520, R524). -/
def Obligations.TestRunsEnd : Prop :=
  (∀ (point target r0 r1 r2 r3 : Nat) (s : State) (x : TestRun) (r : CmdRef),
    s.calm = true → s.running = true → s.tests.runs = [x] → x.kind = 0 → x.point = point → x.target = target → x.ref = some r →
    r.src = .mgmt → (point = 0x11 ∨ point = 0x21 ∨ point = 0x22 ∨ point = 0x23 ∨ point = 0x24) →
    ∃ t, exec (.loopbackRunEnd point target r0 r1 r2 r3 false) s = .next t ∧ t.tests.runs = [] ∧ t.inflight? r = none ∧
      Replied r stOk (if point = 0x11
        then resultOf [(16, 4, if x.stopped then min r0 x.count else x.count),
          (20, 4, min r1 (if x.stopped then min r0 x.count else x.count)), (24, 4, r2)]
        else resultOf [(16, 4, r0), (20, 4, min r1 r0), (24, 4, r2)]) s.now t ∧
      OnlyIn (.tests :: .sill :: replyAreas) s t) ∧
  (∀ (tier first tested failing firstFail : Nat) (s : State) (x : TestRun) (r : CmdRef),
    s.calm = true → s.running = true → s.tests.runs = [x] → x.kind = 2 → x.point = tier → x.target = first → x.ref = some r →
    r.src = .mgmt →
    ∃ t, exec (.memtestEnd tier first tested failing firstFail) s = .next t ∧ t.tests.runs = [] ∧ t.inflight? r = none ∧
      t.now = (if x.pattern = 2 then max s.now (x.startedAt + 1000000 * x.arg) else s.now) ∧
      Replied r stOk (resultOf [(16, 4, tested), (20, 4, min failing tested), (24, 4, firstFail)]) t.now t ∧
      (tier = 0 → ∀ i, i < x.count → t.sill.unclean.any (fun g => g.meets { first := first + i, count := 1 }) = true) ∧
      OnlyIn (.tests :: .sill :: .cal :: .start :: replyAreas) s t) ∧
  (∀ (n : Nat) (p : Probe) (s : State) (x : TestRun) (l : Link),
    s.calm = true → s.running = true → s.startRests = true → n < 64 → s.gl.links[n]? = some l → l.state = .keyed →
    s.tests.runs = [x] → x.kind = 0 → x.point = 3 → x.target = n → p.kind = 2 → p.seq < x.sent →
    ∃ t y, exec (.echoResponseReceive n p) s = .next t ∧ t.tests.runs = [y] ∧ y.answered = x.answered + 1 ∧
      y.replayed = x.replayed + (if p.replayed then 1 else 0) ∧
      (p.replayed = false → y.lMax = max x.lMax (s.now - p.leftAt - p.turn) ∧
        y.lMin = (if x.answered = x.replayed then s.now - p.leftAt - p.turn else min x.lMin (s.now - p.leftAt - p.turn))) ∧
      OnlyIn [.tests] s t)

/-- The TAP and the PCIe loop-back act (R474, R522, R515, R473, R481, R536). -/
def Obligations.TheTapActs : Prop :=
  ((∀ (p : Packet) (s : State), s.calm = true → s.up = true → s.fuses.lc = .test → (layoutMemtest p s).offence p = none →
    memtestRefusal p s = none →
    ∃ t x, exec (.tapMbist p) s = .next t ∧ t.vs.tap = 4 ∧ t.tests.runs = s.tests.runs ++ [x] ∧ x.ref = none ∧ x.kind = 2 ∧
      x.point = pf p 21 1 ∧ x.target = pf p 24 4 ∧ x.count = pf p 28 4 ∧ x.pattern = pf p 20 1 ∧ OnlyIn [.vs, .tests] s t) ∧
  (∀ (p : Packet) (s : State), s.calm = true → s.up = true → s.fuses.lc = .test → (layoutFaultInject p s).offence p = none →
    pf p 20 1 ≠ 8 →
    ∃ t, exec (.tapFault p) s = .next t ∧ t.vs.tap = 5 ∧
      t.tests.injections = s.tests.injections ++ [{ kind := pf p 20 1, target := pf p 22 2, count := pf p 24 4, arg := pf p 28 4
                                                    armedAt := s.now }] ∧ OnlyIn [.vs, .tests] s t) ∧
  (∀ (s : State), s.calm = true → s.up = true → (s.stream 0).secure = false →
    ∃ t, exec .pcieLoopbackEntry s = .next t ∧ (∀ n, n < 9 → (t.stream n).secure = false) ∧
      (∀ q, q < 16 → q < s.parts.length → (t.part q).tdi ≠ .locked ∧ (t.part q).tdi ≠ .run) ∧
      (∀ q, (s.part q).tdi = .unlocked → (t.part q).tdi = .unlocked) ∧ OnlyIn [.vs, .parts, .mail, .out] s t)) ∧
  (∀ (s : State), s.calm = true → s.start.pwrAon = true →
    (∃ t, exec .tapBypass s = .next t ∧ t.vs = { s.vs with tap := 0 } ∧ OnlyIn [.vs] s t) ∧
    (∃ t, exec .tapIdcode s = .next t ∧ t.vs = { s.vs with tap := 1 } ∧ t.out = .tap (BitVec.ofNat 32 s.gbId) :: s.out ∧
      OnlyIn [.vs, .out] s t) ∧
    (∀ (o : Nat) (v : Word) (write : Bool), tapReach o s = false →
      ∃ t, exec (.tapRegAccess write o v) s = .next t ∧ t.vs = { s.vs with tap := 0 } ∧ OnlyIn [.vs] s t) ∧
    (∀ (o x : Nat) (v : Word), tapReach o s = true → s.up = true → o % 4 = 0 → regAt s o = some (false, x) → chanAt o s = none →
      ∃ t, exec (.tapRegAccess false o v) s = .next t ∧ t.vs = { s.vs with tap := 2 } ∧ t.out = .tap (BitVec.ofNat 32 x) :: s.out ∧
        OnlyIn [.vs, .out] s t) ∧
    (∀ (v : Word), tapReach 0x80000C s = true → s.up = true →
      ∃ t, exec (.tapRegAccess true 0x80000C v) s = .next t ∧ t.vs = { s.vs with tap := 2 } ∧
        t.damper = { s.damper with idleW := bitsOf v.toNat 0 11 } ∧ OnlyIn [.vs, .damper] s t) ∧
    (s.fuses.lc = .test → ∃ t x, exec .tapScan s = .next t ∧ t.vs = { s.vs with tap := 3 } ∧ t.out = .tap x :: s.out ∧
      t.fresh = s.fresh + 1 ∧ OnlyIn [.vs, .out, .fresh] s t) ∧
    (s.fuses.lc ≠ .test → ∃ t, exec .tapScan s = .next t ∧ t.vs = { s.vs with tap := 0 } ∧ OnlyIn [.vs] s t))

/-- DOE discovery, SPDM negotiation, sessions and the packets they carry (R365, R366, R367, R368, R373). -/
def Obligations.DoeAndSpdmAreAnswered : Prop :=
  (∀ (i : Nat) (s : State), s.calm = true → s.up = true →
    ∃ t, exec (.doeDiscovery i) s = .next t ∧
      t.out = .doe i (if i ≤ 2 then i else 0xFF) (if i < 2 then i + 1 else 0) :: s.out ∧ OnlyIn [.out] s t) ∧
  (∀ (s : State), s.calm = true → s.up = true →
    (∃ t, exec (.spdmRequest .getVersion) s = .next t ∧ t.out = .spdm 0 :: s.out ∧ t.vs = { s.vs with spdmPhase := 1 } ∧
      OnlyIn [.vs, .out] s t) ∧
    (∃ t, exec (.spdmRequest .getCapabilities) s = .next t ∧
      (s.vs.spdmPhase = 1 → t.out = .spdm 0 :: s.out ∧ t.vs = { s.vs with spdmPhase := 2 }) ∧
      (s.vs.spdmPhase ≠ 1 → t.out = .spdm eUnexpected :: s.out ∧ t.vs = { s.vs with errors := bump 255 s.vs.errors }) ∧
      OnlyIn [.vs, .out] s t) ∧
    (s.kp.ready = true → s.fuses.lc ≠ .endOfLife →
      (∃ t, exec (.spdmRequest .negotiateAlgorithms) s = .next t ∧
        (s.vs.spdmPhase = 2 → t.out = .spdm 0 :: s.out ∧ t.vs = { s.vs with spdmPhase := 3 }) ∧
        (s.vs.spdmPhase ≠ 2 → t.out = .spdm eUnexpected :: s.out ∧ t.vs = { s.vs with errors := bump 255 s.vs.errors }) ∧
        OnlyIn [.vs, .out] s t) ∧
      (∀ q, q ∈ [SpdmReq.getDigests, .getCertificate 0, .challenge, .getMeasurements] →
        ∃ t, exec (.spdmRequest q) s = .next t ∧
          (s.vs.spdmPhase = 3 → t.out = .spdm 0 :: s.out ∧ t.vs = s.vs) ∧
          (s.vs.spdmPhase ≠ 3 → t.out = .spdm eUnexpected :: s.out ∧ t.vs = { s.vs with errors := bump 255 s.vs.errors }) ∧
          OnlyIn [.vs, .out] s t) ∧
      (∃ t, exec (.spdmRequest .unsupported) s = .next t ∧ t.out = .spdm eUnsupported :: s.out ∧
        t.vs = { s.vs with errors := bump 255 s.vs.errors } ∧ OnlyIn [.vs, .out] s t) ∧
      (∀ (id : Nat) (mutualAuth : Bool) (leaf : Hash), id ≠ 0 → s.vs.spdmPhase = 3 → (∀ x, x ∈ s.vs.sessions → x.id ≠ id) →
        ∃ t, exec (.spdmSessionEstablish id mutualAuth true leaf) s = .next t ∧
          (s.vs.sessions.length < 32 → t.out = .spdm 0 :: s.out ∧
            t.vs = { s.vs with sessions := s.vs.sessions ++ [⟨id, false, mutualAuth, if mutualAuth then leaf else 0, 0⟩] }) ∧
          (32 ≤ s.vs.sessions.length → t.out = .spdm eSessionLimit :: s.out ∧
            t.vs = { s.vs with errors := bump 255 s.vs.errors }) ∧ OnlyIn [.vs, .out] s t) ∧
      (∀ (id : Nat) (x : Session), id ≠ 0 → x ∈ s.vs.sessions → x.id = id →
        (∃ t, exec (.spdmRequest (.keyUpdate id)) s = .next t ∧ t.out = .spdm 0 :: s.out ∧ OnlyIn [.out] s t) ∧
        (∃ t, exec (.spdmRequest (.heartbeat id)) s = .next t ∧ t.out = .spdm 0 :: s.out ∧ OnlyIn [.out] s t) ∧
        (∃ t, exec (.spdmRequest (.endSession id)) s = .next t ∧ t.out = .spdm 0 :: s.out ∧
          t.vs = { s.vs with sessions := s.vs.sessions.filter (fun y => y.id ≠ id) } ∧ OnlyIn [.vs, .out] s t) ∧
        (∃ t, exec (.spdmRequest (.aeadFailure id)) s = .next t ∧ t.out = .spdm eDecrypt :: s.out ∧
          t.vs.sessions = s.vs.sessions.filter (fun y => y.id ≠ id) ∧ OnlyIn [.vs, .out] s t)))) ∧
  (∀ (id : Nat) (s : State), s.calm = true → s.up = true →
    ∃ t, exec (.spdmHeartbeatTimeout id) s = .next t ∧
      t.vs = { s.vs with sessions := s.vs.sessions.filter (fun y => y.id ≠ id) } ∧ OnlyIn [.vs] s t) ∧
  (∀ (id : Nat) (w : RawPacket) (s : State), s.calm = true → s.up = true → id ≠ 0 → s.vs.sessions.any (fun x => x.id = id) = true →
    (∀ x, x ∈ s.vs.sessions → x.id = id → x.tsm = false) →
    (∀ op, opOf w.cls w.opcode = some op →
      ∃ t, exec (.vendorDefinedRequest id true (vendorLen w) w) s = .next t ∧
        settled s (submit op { w.pkt with src := .session id } w.aux s) = .next t) ∧
    (w.pkt.fmt ≠ 1 →
      ∃ t rep, exec (.vendorDefinedRequest id true (vendorLen w) w) s = .next t ∧ rep.status = stMalformed ∧ rep.result = detailOf 3 ∧
        rep.seq = w.pkt.seq ∧ t.out = .vendorResponse id rep :: s.out ∧ OnlyIn [.out] s t) ∧
    (∀ n, n ≠ vendorLen w →
      ∃ t, exec (.vendorDefinedRequest id true n w) s = .next t ∧ t.out = .spdm eInvalid :: s.out ∧
        t.vs = { s.vs with errors := bump 255 s.vs.errors } ∧ OnlyIn [.vs, .out] s t))

/-- IDE_KM, TDISP, an IDE check failure and a bad request to a TDI (R367, R369, R370, R371, R372, R373, R554). -/
def Obligations.StreamsAndInterfacesAreManaged : Prop :=
  (∀ (id stream sub keySet sid : Nat) (tee pcrc : Bool) (s : State), s.calm = true → s.up = true → id ≠ 0 → s.vs.sessions.any (fun x => x.id = id) = true → (∀ x, x ∈ s.vs.sessions → x.tsm = true → x.id = id) →
    (∃ t, exec (.ideKmQuery id) s = .next t ∧ t.out = .ideKm id 0 0 :: s.out ∧ t.vs.sessions.any (fun x => x.id = id && x.tsm) = true ∧ OnlyIn [.vs, .out] s t) ∧
    (∀ m, m ∈ [Instr.ideKmKeyProg id stream sub keySet sid tee pcrc, .ideKmKSetGo id stream sub keySet, .ideKmKSetStop id stream sub keySet] →
      (8 < stream ∨ 2 < sub ∨ 1 < keySet) →
      ∃ t k n, exec m s = .next t ∧ n ≠ 0 ∧ t.out = .ideKm id k n :: s.out ∧ t.vs.streams = s.vs.streams ∧ t.vs.sessions.any (fun x => x.id = id && x.tsm) = true ∧
        OnlyIn [.vs, .out] s t) ∧
    (stream ≤ 8 → sub ≤ 2 → keySet ≤ 1 → s.vs.streams.length = 9 →
      (∃ t, exec (.ideKmKeyProg id stream sub keySet sid tee pcrc) s = .next t ∧ t.out = .ideKm id 2 0 :: s.out ∧
        (sub, keySet) ∈ (t.stream stream).keys ∧ (t.stream stream).streamId = sid % 256 ∧ (t.stream stream).tee = tee ∧
        (t.stream stream).pcrc = pcrc ∧ (t.stream stream).secure = (s.stream stream).secure ∧
        (t.stream stream).going = (s.stream stream).going ∧ (∀ n, n ≠ stream → t.stream n = s.stream n) ∧ t.vs.sessions.any (fun x => x.id = id && x.tsm) = true ∧
        OnlyIn [.vs, .out] s t) ∧
      ((sub, keySet) ∈ (s.stream stream).keys →
        ∃ t, exec (.ideKmKSetGo id stream sub keySet) s = .next t ∧ t.out = .ideKm id 4 0 :: s.out ∧
          sub ∈ (t.stream stream).going ∧ (t.stream stream).keySet = keySet ∧ (t.stream stream).keys = (s.stream stream).keys ∧
          (t.stream stream).secure = ((s.stream stream).secure || decide ((t.stream stream).going.length = 3)) ∧
          (∀ n, n ≠ stream → t.stream n = s.stream n) ∧ t.vs.sessions.any (fun x => x.id = id && x.tsm) = true ∧ OnlyIn [.vs, .out] s t) ∧
      (∃ t, exec (.ideKmKSetStop id stream sub keySet) s = .next t ∧ .ideKm id 5 0 ∈ t.out ∧
        (t.stream stream).keys = (s.stream stream).keys.filter (fun k => k ≠ (sub, keySet)) ∧
        ((s.stream stream).keySet ≠ keySet → (t.stream stream).secure = (s.stream stream).secure ∧
          (t.stream stream).going = (s.stream stream).going) ∧
        ((s.stream stream).keySet = keySet → (t.stream stream).secure = false ∧ (t.stream stream).going = []) ∧
        (stream ≠ 0 → t.mail = s.mail) ∧ (∀ n, n ≠ stream → t.stream n = s.stream n) ∧ t.vs.sessions.any (fun x => x.id = id && x.tsm) = true ∧ OnlyIn [.vs, .mail, .out] s t))) ∧
  (∀ (id tdi : Nat) (s : State), s.calm = true → s.up = true → id ≠ 0 → s.vs.sessions.any (fun x => x.id = id) = true → (∀ x, x ∈ s.vs.sessions → x.tsm = true → x.id = id) →
    (∃ t, exec (.getTdispVersion id tdi) s = .next t ∧ t.out = .tdisp tdi 1 0x10 :: s.out ∧ t.vs.sessions.any (fun x => x.id = id && x.tsm) = true ∧ OnlyIn [.vs, .out] s t) ∧
    (∃ t, exec (.getTdispCapabilities id tdi) s = .next t ∧ t.out = .tdisp tdi 2 0xFE :: s.out ∧ t.vs.sessions.any (fun x => x.id = id && x.tsm) = true ∧ OnlyIn [.vs, .out] s t) ∧
    (tdi < 16 →
      (∃ t, exec (.getDeviceInterfaceState id tdi) s = .next t ∧ t.out = .tdisp tdi 5 (s.part tdi).tdi.code :: s.out ∧ t.vs.sessions.any (fun x => x.id = id && x.tsm) = true ∧
        OnlyIn [.vs, .out] s t) ∧
      ((s.part tdi).struck = true →
        ∀ m, m ∈ [Instr.lockInterfaceRequest id tdi true false false false, .startInterfaceRequest id tdi, .stopInterfaceRequest id tdi,
            .getDeviceInterfaceReport id tdi] →
          ∃ t, exec m s = .next t ∧ t.out = .tdisp tdi 0x7F tBusy :: s.out ∧ t.vs.sessions.any (fun x => x.id = id && x.tsm) = true ∧ OnlyIn [.vs, .out] s t)) ∧
    (tdi < 16 → s.parts.length = 16 → (s.part tdi).struck = false →
      (∀ msix, (s.part tdi).tdi = .unlocked → (s.part tdi).tdiBound = true →
        ((s.part tdi).pstate = .sealed ∨ (s.part tdi).pstate = .faulted) →
        ∃ t, exec (.lockInterfaceRequest id tdi true msix false false) s = .next t ∧ t.out = .tdisp tdi 3 0 :: s.out ∧
          t.part tdi = { s.part tdi with tdi := .locked } ∧ (∀ q, q ≠ tdi → t.part q = s.part q) ∧
          (msix = true → tdi ∈ t.vs.msixLocked) ∧ t.vs.sessions.any (fun x => x.id = id && x.tsm) = true ∧ OnlyIn [.parts, .vs, .out] s t) ∧
      ((s.part tdi).tdi = .locked →
        ∃ t, exec (.startInterfaceRequest id tdi) s = .next t ∧ t.out = .tdisp tdi 6 0 :: s.out ∧
          t.part tdi = { s.part tdi with tdi := .run } ∧ (∀ q, q ≠ tdi → t.part q = s.part q) ∧ t.vs.sessions.any (fun x => x.id = id && x.tsm) = true ∧
          OnlyIn [.parts, .vs, .out] s t) ∧
      ((s.part tdi).tdi ≠ .locked →
        ∃ t, exec (.startInterfaceRequest id tdi) s = .next t ∧ t.out = .tdisp tdi 0x7F tInvalidState :: s.out ∧ t.vs.sessions.any (fun x => x.id = id && x.tsm) = true ∧
          OnlyIn [.vs, .out] s t) ∧
      ((s.part tdi).tdi = .locked ∨ (s.part tdi).tdi = .run →
        ∃ t, exec (.getDeviceInterfaceReport id tdi) s = .next t ∧
          t.out = .tdisp tdi 4 0x40000 :: .document (.session id) (partRecord s tdi) :: s.out ∧ t.vs.sessions.any (fun x => x.id = id && x.tsm) = true ∧ OnlyIn [.vs, .out] s t) ∧
      (s.ringIdle tdi = true →
        ∃ t, exec (.stopInterfaceRequest id tdi) s = .next t ∧ t.out = .tdisp tdi 7 0 :: s.out ∧ (t.part tdi).tdi = .unlocked ∧
          (t.part tdi).ring.enable = false ∧ (∀ q, q ≠ tdi → t.part q = s.part q) ∧ t.vs.stopping = [] ∧ t.vs.sessions.any (fun x => x.id = id && x.tsm) = true ∧
          OnlyIn [.parts, .vs, .out] s t))) ∧
  (∀ (stream : Nat) (s : State), s.calm = true → s.up = true → stream ≤ 8 → s.vs.streams.length = 9 →
    ∃ t, exec (.ideCheckFailure stream) s = .next t ∧ (t.stream stream).secure = false ∧
      (t.stream stream).fails = bump 255 (s.stream stream).fails ∧ (∀ n, n ≠ stream → t.stream n = s.stream n) ∧
      (∀ p, p < 16 → p < s.parts.length → stream ≠ 0 → (s.part p).tdiBound = true → (s.part p).tdiStream = stream →
        (t.part p).tdi = .error) ∧
      (∀ p, (s.part p).tdiBound = false ∨ (s.part p).tdiStream ≠ stream → t.part p = s.part p) ∧
      OnlyIn [.parts, .vs, .mail, .out] s t) ∧
  (∀ (p : Nat) (s : State), s.calm = true → s.up = true → p < s.parts.length → (s.part p).tdi = .run →
    ∃ t, exec (.tdiBadRequest p) s = .next t ∧ .unsupportedRequest p ∈ t.out ∧ t.part p = { s.part p with tdi := .error } ∧
      (∀ q, q ≠ p → t.part q = s.part q) ∧ OnlyIn [.parts, .mail, .out] s t)

/-- REGISTER_WRITE and MALFORMED_REGISTER_ACCESS (R7, R316, R317, R428, R451, R530, R533, R538). -/
def Obligations.RegisterAccessesTakeEffect : Prop :=
  ∀ (s : State) (ide : Bool), s.calm = true → s.up = true →
    (∀ (v : Quad),
      (∃ t, exec (.registerWrite (.pf ide) 0x30 v false) s = .next t ∧
        t.vs = { s.vs with malformed := clearBits s.vs.malformed (bitsOf (bitsOf v.toNat 0 32) 0 16) } ∧ OnlyIn [.vs] s t) ∧
      (∃ t, exec (.registerWrite (.pf ide) 0x800004 v false) s = .next t ∧
        (bitsOf v.toNat 0 8 < bitsOf v.toNat 8 8 ∧ bitsOf v.toNat 8 8 < bitsOf v.toNat 16 8 ∧ bitsOf v.toNat 16 8 ≤ 125 →
          t.damper = { s.damper with tHot := bitsOf v.toNat 0 8, tCrit := bitsOf v.toNat 8 8, tTrip := bitsOf v.toNat 16 8 } ∧
          OnlyIn [.damper] s t) ∧
        (¬ (bitsOf v.toNat 0 8 < bitsOf v.toNat 8 8 ∧ bitsOf v.toNat 8 8 < bitsOf v.toNat 16 8 ∧ bitsOf v.toNat 16 8 ≤ 125) →
          t.vs = { s.vs with malformed := bump 65535 s.vs.malformed } ∧ OnlyIn [.vs] s t)) ∧
      (∃ t, exec (.registerWrite (.pf ide) 0x800008 v false) s = .next t ∧
        t.damper.slope = (if 1 ≤ bitsOf v.toNat 0 6 ∧ bitsOf v.toNat 0 6 ≤ 40 then bitsOf v.toNat 0 6 else s.damper.slope) ∧
        t.damper.idleW = s.damper.idleW ∧ OnlyIn [.damper] s t) ∧
      (∀ n, n < 256 → bitsOf v.toNat 0 3 ≤ 5 → bitsOf v.toNat 4 3 ≤ 5 → (bitsOf v.toNat 8 8 ≠ 0 ∨ bitsOf v.toNat 0 3 = 0) →
        actionNamed n (bitsOf v.toNat 0 3) = true →
        ∃ t, exec (.registerWrite (.pf ide) (0x900100 + 4 * n) v false) s = .next t ∧
          t.plumb.srcs = srcInsert s.plumb.srcs n { s.src n with
            action := bitsOf v.toNat 0 3, notify := bitOf v.toNat 3, notified := false, window := bitsOf v.toNat 4 3
            thresh := bitsOf v.toNat 8 8 } ∧ t.plumb.log = s.plumb.log ∧ OnlyIn [.plumb] s t) ∧
      (∃ t, exec (.registerWrite (.pf ide) 0x100 v false) s = .next t ∧
        t.half? (.pf ide) 0x100 true = some (v.setWidth 32) ∧ OnlyIn [.vs] s t) ∧
      (∀ (low : Word), s.half? (.pf ide) 0x100 true = some low → s.start.bootState ≠ 1 → s.start.bootState ≠ 2 →
        ∃ t, exec (.registerWrite (.pf ide) 0x104 v false) s = .next t ∧ t.half? (.pf ide) 0x100 true = none ∧
          t.start = { s.start with bootAddr := (low.toNat + 2 ^ 32 * bitsOf v.toNat 0 32) / 4096 * 4096 } ∧
          OnlyIn [.vs, .start] s t) ∧
      (∀ p k, p < 16 → p < s.parts.length → k < 0x40000 → (s.part p).struck = false →
        ((s.part p).tdi = .locked ∨ (s.part p).tdi = .run) →
        ∃ t, exec (.registerWrite (.pf ide) (0xC00000 + 0x40000 * p + k) v false) s = .next t ∧
          t.parts = s.parts.modify p (fun q => { q with view := { q.view with malformed := bump 65535 q.view.malformed } }) ∧
          OnlyIn [.parts] s t) ∧
      (∀ p k wide, p < 16 → k < 0x40000 → (s.part p).tdi = .error →
        ∃ t, exec (.registerWrite (.vf p) k v wide) s = .next t ∧ t.out = .unsupportedRequest p :: s.out ∧ OnlyIn [.out] s t)) ∧
    (∀ o size write, o < 0xC00000 → malformedAccess s o size write = true →
      ∃ t, exec (.malformedRegisterAccess (.pf ide) o size write) s = .next t ∧
        t.vs = { s.vs with malformed := bump 65535 s.vs.malformed } ∧
        t.out = (if write then s.out else .readData 0 :: s.out) ∧ OnlyIn [.vs, .out] s t)
end

