-- ==== Sys2Proof/Laws/Calm.lean ====
section
/-! SUPPORT. In a calm state the block does nothing by itself, so a command's answer is its effect. -/

namespace Sys2Proof.Machine

/-- A fold whose function changes nothing at any entry changes nothing. -/
theorem foldl_id {α β : Type} (f : β → α → β) (l : List α) (b : β) (h : ∀ a ∈ l, f b a = b) : l.foldl f b = b := by
  induction l with
  | nil => rfl
  | cons a l ih =>
    simp only [List.foldl_cons, h a (by simp)]
    exact ih (fun x hx => h x (by simp [hx]))

/-- The clauses of `State.calm`. -/
theorem State.calm_cases {s : State} (h : s.calm) :
    s.cmds.staged = [] ∧ s.cmds.firmware = [] ∧
      (∀ x ∈ s.plumb.rungs, ¬(x.rung = Rung.context ∧ x.begun = false) ∧ ¬(x.begun = true ∧ x.timerFrom = none)) ∧
      s.debugs.opening = none ∧ s.vs.stopping = [] ∧ (∀ k ∈ s.kp.slots, k.state ≠ .evicting) ∧
      (∀ t ∈ s.tests.runs, ¬(t.kind = 0 ∧ t.point = 3 ∧ (s.link t.target).state ≠ .keyed)) ∧
      (∀ x ∈ s.gl.parcels, s.stranded x = false) ∧
      (s.mailServed = true → ∀ q ∈ s.mail.chans, q.looked = true) := by
  simp only [State.calm, Bool.and_eq_true, List.isEmpty_iff, Option.isNone_iff_eq_none, List.all_eq_true, Bool.or_eq_true,
    Bool.not_eq_true', Bool.and_eq_false_iff, decide_eq_true_eq, decide_eq_false_iff_not] at h
  obtain ⟨⟨⟨⟨⟨⟨⟨⟨h1, h2⟩, h3⟩, h4⟩, h5⟩, h6⟩, h7⟩, h8⟩, h9⟩ := h
  refine ⟨h1, h2, fun x hx => ?_, h4, h5, h6, fun t ht => ?_, fun x hx => ?_, fun hm => ?_⟩
  · have := h3 x hx
    cases hb : x.begun <;> cases ht : x.timerFrom <;> simp_all
  · have := h7 t ht
    tauto
  · simpa using h8 x hx
  · rcases h9 with h9 | h9
    · simp [hm] at h9
    · exact h9

theorem runContextRungs_calm {s : State} (h : s.calm) : runContextRungs s = s := by
  obtain ⟨-, -, h, -⟩ := State.calm_cases h
  unfold runContextRungs
  rw [List.filter_eq_nil_iff.mpr]
  · rfl
  · intro x hx hc
    have := (h x hx).1
    simp_all

theorem finishDrains_calm {s : State} (h : s.calm) : finishDrains s = s := by
  obtain ⟨-, -, h, -⟩ := State.calm_cases h
  unfold finishDrains
  rw [List.filter_eq_nil_iff.mpr]
  · rfl
  · intro x hx hc
    have := (h x hx).2
    simp_all

theorem discardUnreachable_calm {s : State} (h : s.calm) : discardUnreachable s = s := by
  obtain ⟨-, -, -, -, -, -, -, h, -⟩ := State.calm_cases h
  unfold discardUnreachable
  split
  · rfl
  · rename_i hr
    apply foldl_id
    intro x hx
    have hs := h x hx
    dsimp only
    split
    · rfl
    · rename_i hc
      exfalso
      simp only [State.stranded] at hs
      revert hc hs
      cases x.eligibleAt <;> cases x.leftAt <;> cases x.mirror <;> simp <;> tauto

theorem finishEvictions_calm {s : State} (h : s.calm) : finishEvictions s = s := by
  obtain ⟨-, -, -, -, -, h, -⟩ := State.calm_cases h
  unfold finishEvictions
  apply foldl_id
  intro k hk
  simp [h k hk]

theorem finishStops_calm {s : State} (h : s.calm) : finishStops s = s := by
  obtain ⟨-, -, -, -, h, -⟩ := State.calm_cases h
  simp [finishStops, h]

theorem finishDebugOpen_calm {s : State} (h : s.calm) : finishDebugOpen s = s := by
  obtain ⟨-, -, -, h, -⟩ := State.calm_cases h
  simp [finishDebugOpen, h]

theorem finishEcho_calm {s : State} (h : s.calm) : finishEcho s = s := by
  obtain ⟨-, -, -, -, -, -, h, -⟩ := State.calm_cases h
  unfold finishEcho
  rw [List.filter_eq_nil_iff.mpr]
  · rfl
  · intro x hx hc
    have := h x hx
    simp only [Bool.and_eq_true, decide_eq_true_eq] at hc
    tauto

theorem settleAll_calm {s : State} (h : s.calm) : settleAll s = s := by
  simp [settleAll, runContextRungs_calm h, finishDrains_calm h, discardUnreachable_calm h, finishEvictions_calm h,
    finishStops_calm h, finishDebugOpen_calm h, finishEcho_calm h]

/-- A channel changed to itself. -/
theorem State.modChan_same {s : State} {c : Nat} {f : Channel → Channel} (h : f (s.chan c) = s.chan c) : s.modChan c f = s := by
  have hm : s.mail.chans.modify c f = s.mail.chans := by
    apply List.ext_getElem? fun i => ?_
    rw [List.getElem?_modify]
    by_cases hi : c = i
    · subst hi
      simp only [State.chan, List.getD_eq_getElem?_getD] at h
      cases hc : s.mail.chans[c]? with
      | none => simp
      | some q => simp_all
    · simp [hi]
  simp [State.modChan, State.chan, hm]

theorem Channel.reset_looked : Channel.reset.looked = true := by decide

theorem lookChan_calm {s : State} {c : Nat} (h : (s.chan c).looked = true) : lookChan c s = s := by
  unfold lookChan
  by_cases h0 : (s.chan c).dbIn = 0
  · simp [h0]
  · simp only [Channel.looked, Bool.or_eq_true, decide_eq_true_eq, h0, false_or, Bool.and_eq_true, Bool.not_eq_true'] at h
    obtain ⟨h1, h2⟩ := h
    simp only [h1, h2, Bool.false_eq_true, if_false]
    rw [if_neg (by decide)]
    have e : BitVec.getLsbD (1 : Word) 1 = false := by decide
    simp only [e, Bool.false_and, Bool.false_eq_true, if_false]
    apply State.modChan_same
    have e2 : (1 &&& 1 : Word) = 1 := by decide
    have e3 : (1 &&& 0xFFFFFFE0 : Word) = 0#32 := by decide
    rw [e2, e3]
    cases hq : s.chan c
    simp_all

theorem lookAll_calm {s : State} (h : s.calm) : lookAll s = s := by
  obtain ⟨-, -, -, -, -, -, -, -, h⟩ := State.calm_cases h
  unfold lookAll
  split
  · rename_i hm
    simp only [Bool.and_eq_true] at hm
    have h := h hm.1
    apply foldl_id
    intro c _
    apply lookChan_calm
    unfold State.chan
    rw [List.getD_eq_getElem?_getD]
    cases hc : s.mail.chans[c]? with
    | none => exact Channel.reset_looked
    | some q => exact h q (List.mem_of_getElem? hc)
  · rfl

/-- In a calm state the block does nothing by itself. -/
theorem pump_calm {s : State} (h : s.calm) : pump s = s := by
  obtain ⟨h1, h2, -⟩ := State.calm_cases h
  simp [pump, settleAll_calm h, h1, h2, startAll, lookAll_calm h]

/-- A command whose effect leaves the block calm answers just that effect. -/
theorem settled_calm {s t : State} (h : t.calm) : settled s t = .next { t with pending := s.pending } := by
  simp [settled, pump_calm h]

end Sys2Proof.Machine
end

