-- ==== Sys2Proof/Laws/Submit.lean ====
section
/-! SUPPORT. Command packets: what the checks lead to. -/

namespace Sys2Proof.Machine

/-- Raising or leaving the CMD port's ready touches the port alone. -/
theorem setReadyLevel_cmds (b : Bool) (s : State) :
    (setReadyLevel b s).cmds.staged = s.cmds.staged ∧ (setReadyLevel b s).cmds.firmware = s.cmds.firmware := by
  unfold setReadyLevel
  dsimp only
  split
  · unfold drainHeld
    have key : ∀ (l : List (Source × Reply)) (u : State),
        (l.foldl (fun t h => t.emit (.reply h.1 h.2)) u).cmds = u.cmds := by
      intro l
      induction l with
      | nil => intro u; rfl
      | cons a l ih => intro u; rw [List.foldl_cons, ih]; rfl
    rw [key]
    exact ⟨rfl, rfl⟩
  · exact ⟨rfl, rfl⟩

theorem arrived_queues (p : Packet) (s : State) :
    (arrived p s).cmds.staged = s.cmds.staged ∧ (arrived p s).cmds.firmware = s.cmds.firmware := by
  unfold arrived
  split
  · exact setReadyLevel_cmds _ _
  · exact ⟨rfl, rfl⟩

theorem advanceSeq_queues (r : CmdRef) (s : State) :
    (advanceSeq r s).cmds.staged = s.cmds.staged ∧ (advanceSeq r s).cmds.firmware = s.cmds.firmware := by
  unfold advanceSeq State.modCtx
  split <;> exact ⟨rfl, rfl⟩

theorem accepted_queues (op : Op) (p : Packet) (s : State) :
    (accepted op p s).cmds.staged = s.cmds.staged ∧ (accepted op p s).cmds.firmware = s.cmds.firmware := by
  unfold accepted
  exact ⟨(advanceSeq_queues _ _).1.trans (arrived_queues p s).1, (advanceSeq_queues _ _).2.trans (arrived_queues p s).2⟩

theorem setReadyLevel_start (b : Bool) (s : State) : (setReadyLevel b s).start = s.start := by
  unfold setReadyLevel
  dsimp only
  split
  · unfold drainHeld
    have key : ∀ (l : List (Source × Reply)) (u : State),
        (l.foldl (fun t h => t.emit (.reply h.1 h.2)) u).start = u.start := by
      intro l
      induction l with
      | nil => intro u; rfl
      | cons a l ih => intro u; rw [List.foldl_cons, ih]; rfl
    rw [key]
  · rfl

theorem arrived_up (p : Packet) (s : State) : (arrived p s).up = s.up := by
  unfold arrived State.up
  split
  · rw [setReadyLevel_start]
  · rfl

/-- A packet that passes its checks while nothing waits starts at once (R54, R55, R71). -/
theorem submit_passes {op : Op} {p : Packet} {s : State} (a : Aux) (hc : s.calm) (hp : passes op p s) :
    submit op p a s = begin_ op (named op p s) p a (noteServed (named op p s) (accepted op p s)) := by
  obtain ⟨h1, h2, -⟩ := State.calm_cases hc
  simp only [passes, hears, Bool.and_eq_true, Option.isNone_iff_eq_none] at hp
  obtain ⟨⟨⟨⟨hu, hh⟩, he⟩, hl⟩, hs⟩ := hp
  have hu' : s.up = true := (arrived_up p s).symm.trans hu
  have e : submit op p a s = checkCmd op p a (arrived p s) := by
    unfold submit
    rw [if_neg (by simp [hu'])]
    show (if heard p.src (arrived p s) = true then checkCmd op p a (arrived p s) else arrived p s) = _
    rw [if_pos hh]
  rw [e]
  unfold named at he hl hs ⊢
  simp only [checkCmd, he]
  change (match lateRefusal op (refOf op p (arrived p s)) (accepted op p s) with | some e => _ | none => _) = _
  rw [hl]
  unfold acceptCmd
  have q1 := (accepted_queues op p s).1
  have q2 := (accepted_queues op p s).2
  simp only [accepted] at q1 q2 hs ⊢
  simp [q1, q2, h1, h2, hs]

end Sys2Proof.Machine
end

