-- ==== Sys2Proof/Laws/Quiet.lean ====
section
/-! SUPPORT. Operations that leave the block as calm as they find it: replies, traces and accounts. -/

namespace Sys2Proof.Machine

theorem stranded_congr {s t : State} (hl : t.gl.links = s.gl.links) (hc : t.gl.coord = s.gl.coord) (x : TxParcel) :
    t.stranded x = s.stranded x := by
  have hk : ∀ b, t.keyed b = s.keyed b := fun b => by unfold State.keyed State.link; rw [hl]
  have hd : ∀ d, t.dim d = s.dim d := fun d => by simp only [State.dim, State.dims, hc]
  have hn : ∀ h d m, t.nextBundle h d m = s.nextBundle h d m := fun h d m => by simp only [State.nextBundle, hd]
  have hb : ∀ b u d g m, t.bundleLink b u d g m = s.bundleLink b u d g m := fun b u d g m => by simp only [State.bundleLink, hk]
  have hv : ∀ h b, t.neighbour h b = s.neighbour h b := fun h b => by simp only [State.neighbour, hd]
  have hw : ∀ b, t.detourBundle b = s.detourBundle b := fun b => by simp only [State.detourBundle, hk]
  have c : t.chip = s.chip := by simp only [State.chip, hc]
  have e : ∀ (src dst tag : Nat) (m : Bool), t.wayOut src dst tag m = s.wayOut src dst tag m := by
    intro src dst tag m
    unfold State.wayOut
    rw [c, hn]
    simp only [hb, hv, hw]
  simp only [State.stranded, e, c]

/-- What `State.calm` looks at is as it was, but for parcels not yet eligible or with a way out. -/
structure Quiet (s t : State) : Prop where
  staged : t.cmds.staged = s.cmds.staged
  firmware : t.cmds.firmware = s.cmds.firmware
  rungs : t.plumb.rungs = s.plumb.rungs
  opening : t.debugs.opening = s.debugs.opening
  stopping : t.vs.stopping = s.vs.stopping
  slots : t.kp.slots = s.kp.slots
  runs : t.tests.runs = s.tests.runs
  links : t.gl.links = s.gl.links
  coord : t.gl.coord = s.gl.coord
  parcels : ∀ x ∈ t.gl.parcels, x ∈ s.gl.parcels ∨ s.stranded x = false
  served : t.mailServed = true → s.mailServed = true
  chans : t.mail.chans = s.mail.chans

theorem Quiet.rfl {s : State} : Quiet s s :=
  ⟨Eq.refl _, Eq.refl _, Eq.refl _, Eq.refl _, Eq.refl _, Eq.refl _, Eq.refl _, Eq.refl _, Eq.refl _, fun _ h => .inl h, id, Eq.refl _⟩

theorem Quiet.trans {s t u : State} (h : Quiet s t) (k : Quiet t u) : Quiet s u :=
  ⟨k.staged.trans h.staged, k.firmware.trans h.firmware, k.rungs.trans h.rungs, k.opening.trans h.opening,
    k.stopping.trans h.stopping, k.slots.trans h.slots, k.runs.trans h.runs, k.links.trans h.links, k.coord.trans h.coord,
    fun x hx => (k.parcels x hx).elim (h.parcels x) (fun e => .inr ((stranded_congr h.links h.coord x).symm.trans e)), fun m => h.served (k.served m), k.chans.trans h.chans⟩

/-- A calm block stays calm. -/
theorem Quiet.calm {s t : State} (h : Quiet s t) (c : s.calm) : t.calm := by
  simp only [State.calm, Bool.and_eq_true, List.all_eq_true, Bool.or_eq_true, Bool.not_eq_true'] at c ⊢
  have hl : ∀ n, t.link n = s.link n := fun n => by simp only [State.link, h.links]
  simp only [h.staged, h.firmware, h.rungs, h.opening, h.stopping, h.slots, h.runs, h.chans, hl,
    stranded_congr h.links h.coord]
  obtain ⟨c1, c8, c9⟩ : _ ∧ _ ∧ _ := ⟨c.1.1, c.1.2, c.2⟩
  refine ⟨⟨c1, fun x hx => ?_⟩, ?_⟩
  · rcases h.parcels x hx with hx | hx
    · exact c8 x hx
    · exact hx
  · rcases c9 with c9 | c9
    · left
      cases hm : t.mailServed
      · rfl
      · rw [h.served hm] at c9
        exact c9
    · exact .inr c9

/-- A fold of quiet steps is quiet. -/
theorem Quiet.foldl {α : Type} (f : State → α → State) (hf : ∀ u a, Quiet u (f u a)) (l : List α) (s : State) :
    Quiet s (l.foldl f s) := by
  induction l generalizing s with
  | nil => exact Quiet.rfl
  | cons a l ih => exact (hf s a).trans (ih _)

theorem quiet_emit (s : State) (o : Output) : Quiet s (s.emit o) := by constructor <;> first | rfl | exact fun _ h => .inl h | exact id

theorem quiet_modPart (s : State) (p : Nat) (f : Part → Part) : Quiet s (s.modPart p f) := by
  constructor <;> first | rfl | exact fun _ h => .inl h | exact id

theorem quiet_modView (s : State) (p : Nat) (f : View → View) : Quiet s (s.modView p f) := quiet_modPart _ _ _

theorem quiet_modCtx (s : State) (n : Nat) (f : Ctx → Ctx) : Quiet s (s.modCtx n f) := by
  constructor <;> first | rfl | exact fun _ h => .inl h | exact id

theorem quiet_account (n : Nat) (f : Accounting → Accounting) (s : State) : Quiet s (account n f s) := quiet_modCtx _ _ _

theorem quiet_modTrace (s : State) (n : Nat) (f : TraceSlot → TraceSlot) : Quiet s (s.modTrace n f) := by
  constructor <;> first | rfl | exact fun _ h => .inl h | exact id

theorem quiet_addParcel (s : State) (f : Nat → TxParcel) (hf : ∀ i, (f i).eligibleAt = none) : Quiet s (s.addParcel f) := by
  constructor <;> try first | rfl | exact id
  intro x hx
  simp only [State.addParcel, List.mem_append, List.mem_singleton] at hx
  rcases hx with hx | hx
  · exact .inl hx
  · exact .inr (by rw [hx]; simp [State.stranded, hf])

/-- A parcel that is eligible at once and has a way out. -/
theorem quiet_addParcel_reached (s : State) (f : Nat → TxParcel) (hf : ∀ i, s.stranded (f i) = false) : Quiet s (s.addParcel f) := by
  constructor <;> try first | rfl | exact id
  intro x hx
  simp only [State.addParcel, List.mem_append, List.mem_singleton] at hx
  rcases hx with hx | hx
  · exact .inl hx
  · exact .inr (by rw [hx]; exact hf _)

theorem quiet_writeTrace (n : Nat) (recs : List TraceRec) (s : State) : Quiet s (writeTrace n recs s) := by
  unfold writeTrace
  split
  · exact Quiet.rfl
  · split
    · exact (quiet_addParcel _ _ (fun _ => rfl)).trans (quiet_modTrace _ _ _)
    · apply Quiet.foldl
      intro u r
      split
      · exact Quiet.rfl
      · dsimp only
        split
        · exact quiet_modTrace _ _ _
        · refine Quiet.trans ?_ (quiet_modTrace _ _ _)
          split <;> exact quiet_emit _ _

theorem quiet_pushTrace (n : Nat) (r : TraceRec) (s : State) : Quiet s (pushTrace n r s) := by
  unfold pushTrace
  split
  · exact Quiet.rfl
  · split
    · exact quiet_modTrace _ _ _
    · dsimp only
      have key : ∀ (b : Bool) (m k : Nat) (f g : TraceSlot → TraceSlot) (l : List TraceRec),
          Quiet s (if b then writeTrace m l ((s.modTrace m f).modTrace k g) else s.modTrace m f) := by
        intro b m k f g l
        split
        · exact (quiet_modTrace _ _ _).trans ((quiet_modTrace _ _ _).trans (quiet_writeTrace _ _ _))
        · exact quiet_modTrace _ _ _
      exact key _ _ _ _ _ _

theorem quiet_traceCtx (p c b : Nat) (r : TraceRec) (s : State) : Quiet s (traceCtx p c b r s) := by
  unfold traceCtx
  split
  · exact Quiet.rfl
  · split
    · exact quiet_pushTrace _ _ _
    · exact Quiet.rfl

theorem quiet_traceAll (t i : Nat) (s : State) : Quiet s (traceAll t i s) := Quiet.foldl _ (fun _ _ => quiet_pushTrace _ _ _) _ _

theorem quiet_noteStart (r : CmdRef) (s : State) : Quiet s (noteStart r s) := by
  unfold noteStart
  dsimp only
  split
  · exact (quiet_modCtx _ _ _).trans (quiet_traceCtx _ _ _ _ _)
  · exact quiet_modCtx _ _ _

theorem quiet_modRing (s : State) (r : RingId) (f : RingRegs → RingRegs) : Quiet s (s.modRing r f) := by
  cases r
  · exact quiet_modPart _ _ _
  · constructor <;> first | rfl | exact fun _ h => .inl h | exact id

theorem quiet_ringReply (ring : RingId) (rep : Reply) (s : State) : Quiet s (ringReply ring rep s) := by
  unfold ringReply writeCompletion
  dsimp only
  split
  · exact quiet_modRing _ _ _
  · exact (quiet_modRing _ _ _).trans (quiet_emit _ _)

theorem quiet_deliver (src : Source) (rep : Reply) (s : State) : Quiet s (deliver src rep s) := by
  unfold deliver
  split
  · split
    · exact quiet_emit _ _
    · constructor <;> first | rfl | exact fun _ h => .inl h | exact id
  · exact quiet_ringReply _ _ _
  · exact quiet_ringReply _ _ _
  · split
    · exact quiet_emit _ _
    · exact Quiet.rfl

theorem quiet_land (s : State) (r : CmdRef) : Quiet s (s.land r) := by constructor <;> first | rfl | exact fun _ h => .inl h | exact id

theorem quiet_noteDone (r : CmdRef) (st : Nat) (s : State) : Quiet s (noteDone r st s) := by
  unfold noteDone
  split
  · exact Quiet.rfl
  · dsimp only
    split
    · exact (quiet_account _ _ _).trans ((quiet_modView _ _ _).trans (quiet_traceCtx _ _ _ _ _))
    · exact (quiet_account _ _ _).trans (quiet_modView _ _ _)

theorem quiet_answerWith (r : CmdRef) (st : Nat) (b : Bool) (v : BitVec 128) (s : State) : Quiet s (answerWith r st b v s) := by
  unfold answerWith
  dsimp only
  split
  · exact (quiet_land _ _).trans (quiet_noteDone _ _ _)
  · exact (quiet_land _ _).trans ((quiet_noteDone _ _ _).trans (quiet_deliver _ _ _))

theorem quiet_answer (r : CmdRef) (st : Nat) (v : BitVec 128) (s : State) : Quiet s (answer r st v s) := quiet_answerWith _ _ _ _ _

theorem quiet_complete (r : CmdRef) (st : Nat) (v : BitVec 128) (s : State) : Quiet s (complete r st v s) := by
  unfold complete
  split
  · refine Quiet.trans ?_ (quiet_account _ _ _)
    constructor <;> first | rfl | exact fun _ h => .inl h | exact id
  · exact quiet_answer _ _ _ _

theorem quiet_hold (r : CmdRef) (s : State) : Quiet s (hold r s) := by constructor <;> first | rfl | exact fun _ h => .inl h | exact id

theorem quiet_draw (s : State) : Quiet s s.draw.2 := by constructor <;> first | rfl | exact fun _ h => .inl h | exact id

theorem quiet_drainHeld (s : State) : Quiet s (drainHeld s) := by
  unfold drainHeld
  refine Quiet.trans (t := { s with cmds := { s.cmds with cmdHeld := [] } }) ?_ (Quiet.foldl _ (fun _ _ => quiet_emit _ _) _ _)
  constructor <;> first | rfl | exact fun _ h => .inl h | exact id

theorem quiet_setReadyLevel (b : Bool) (s : State) : Quiet s (setReadyLevel b s) := by
  unfold setReadyLevel
  dsimp only
  split
  · refine Quiet.trans (t := { s with cmds := { s.cmds with cmdReady := b } }) ?_ (quiet_drainHeld _)
    constructor <;> first | rfl | exact fun _ h => .inl h | exact id
  · constructor <;> first | rfl | exact fun _ h => .inl h | exact id

theorem quiet_arrived (p : Packet) (s : State) : Quiet s (arrived p s) := by
  unfold arrived
  split
  · exact quiet_setReadyLevel _ _
  · exact Quiet.rfl

theorem quiet_advanceSeq (r : CmdRef) (s : State) : Quiet s (advanceSeq r s) := by
  unfold advanceSeq
  split
  · constructor <;> first | rfl | exact fun _ h => .inl h | exact id
  · constructor <;> first | rfl | exact fun _ h => .inl h | exact id
  · exact quiet_modCtx _ _ _

theorem quiet_accepted (op : Op) (p : Packet) (s : State) : Quiet s (accepted op p s) :=
  (quiet_arrived _ _).trans (quiet_advanceSeq _ _)

theorem quiet_noteServed (r : CmdRef) (s : State) : Quiet s (noteServed r s) := by
  unfold noteServed
  split
  · constructor <;> first | rfl | exact fun _ h => .inl h | exact id
  · exact Quiet.rfl

end Sys2Proof.Machine
end

