-- ==== Sys2Proof/Laws/Frame.lean ====
section
/-! SUPPORT. Which areas of the state the shared operations touch. -/

namespace Sys2Proof.Machine

theorem OnlyIn.refl (gs : List Area) (s : State) : OnlyIn gs s s := by intro g _; cases g <;> rfl

theorem Same.trans {g : Area} {s t u : State} (h : Same g s t) (k : Same g t u) : Same g s u := by
  cases g <;> exact Eq.trans k h

theorem OnlyIn.trans {gs : List Area} {s t u : State} (h : OnlyIn gs s t) (k : OnlyIn gs t u) : OnlyIn gs s u :=
  fun g hg => (h g hg).trans (k g hg)

theorem OnlyIn.mono {gs hs : List Area} {s t : State} (h : OnlyIn gs s t) (k : ∀ g ∈ gs, g ∈ hs) : OnlyIn hs s t :=
  fun g hg => h g (fun m => hg (k g m))

theorem OnlyIn.foldl {α : Type} {gs : List Area} (f : State → α → State) (hf : ∀ u a, OnlyIn gs u (f u a)) (l : List α)
    (s : State) : OnlyIn gs s (l.foldl f s) := by
  induction l generalizing s with
  | nil => exact OnlyIn.refl _ _
  | cons a l ih => exact (hf s a).trans (ih _)

theorem only_emit (s : State) (o : Output) : OnlyIn [.out] s (s.emit o) := by
  intro g hg; cases g <;> first | rfl | exact absurd (by simp) hg

theorem only_modPart (s : State) (p : Nat) (f : Part → Part) : OnlyIn [.parts] s (s.modPart p f) := by
  intro g hg; cases g <;> first | rfl | exact absurd (by simp) hg

theorem only_modView (s : State) (p : Nat) (f : View → View) : OnlyIn [.parts] s (s.modView p f) := only_modPart _ _ _

theorem only_modLink (s : State) (n : Nat) (f : Link → Link) : OnlyIn [.gl] s (s.modLink n f) := by
  intro g hg; cases g <;> first | rfl | exact absurd (by simp) hg

theorem only_modCtx (s : State) (n : Nat) (f : Ctx → Ctx) : OnlyIn [.cmds] s (s.modCtx n f) := by
  intro g hg; cases g <;> first | rfl | exact absurd (by simp) hg

theorem only_account (n : Nat) (f : Accounting → Accounting) (s : State) : OnlyIn [.cmds] s (account n f s) := only_modCtx _ _ _

theorem only_modTrace (s : State) (n : Nat) (f : TraceSlot → TraceSlot) : OnlyIn [.scribe] s (s.modTrace n f) := by
  intro g hg; cases g <;> first | rfl | exact absurd (by simp) hg

theorem only_addParcel (s : State) (f : Nat → TxParcel) : OnlyIn [.gl] s (s.addParcel f) := by
  intro g hg; cases g <;> first | rfl | exact absurd (by simp) hg

theorem only_draw (s : State) : OnlyIn [.fresh] s s.draw.2 := by
  intro g hg; cases g <;> first | rfl | exact absurd (by simp) hg

theorem only_atTime (s : State) (t : Nat) : OnlyIn [.cal, .start] s (s.atTime t) := by
  intro g hg; cases g <;> first | rfl | exact absurd (by simp) hg

theorem only_writeTrace (n : Nat) (recs : List TraceRec) (s : State) : OnlyIn [.gl, .scribe, .out] s (writeTrace n recs s) := by
  unfold writeTrace
  split
  · exact OnlyIn.refl _ _
  · split
    · exact ((only_addParcel _ _).mono (by simp)).trans ((only_modTrace _ _ _).mono (by simp))
    · apply OnlyIn.foldl
      intro u r
      split
      · exact OnlyIn.refl _ _
      · dsimp only
        split
        · exact (only_modTrace _ _ _).mono (by simp)
        · refine OnlyIn.trans ?_ ((only_modTrace _ _ _).mono (by simp))
          split <;> exact (only_emit _ _).mono (by simp)

theorem only_pushTrace (n : Nat) (r : TraceRec) (s : State) : OnlyIn [.gl, .scribe, .out] s (pushTrace n r s) := by
  unfold pushTrace
  split
  · exact OnlyIn.refl _ _
  · split
    · exact (only_modTrace _ _ _).mono (by simp)
    · dsimp only
      have key : ∀ (b : Bool) (m k : Nat) (f g : TraceSlot → TraceSlot) (l : List TraceRec),
          OnlyIn [.gl, .scribe, .out] s (if b then writeTrace m l ((s.modTrace m f).modTrace k g) else s.modTrace m f) := by
        intro b m k f g l
        split
        · exact ((only_modTrace _ _ _).mono (by simp)).trans (((only_modTrace _ _ _).mono (by simp)).trans (only_writeTrace _ _ _))
        · exact (only_modTrace _ _ _).mono (by simp)
      exact key _ _ _ _ _ _

theorem only_traceCtx (p c b : Nat) (r : TraceRec) (s : State) : OnlyIn [.gl, .scribe, .out] s (traceCtx p c b r s) := by
  unfold traceCtx
  split
  · exact OnlyIn.refl _ _
  · split
    · exact only_pushTrace _ _ _
    · exact OnlyIn.refl _ _

theorem only_noteStart (r : CmdRef) (s : State) : OnlyIn [.cmds, .gl, .scribe, .out] s (noteStart r s) := by
  unfold noteStart
  dsimp only
  split
  · exact ((only_modCtx _ _ _).mono (by simp)).trans ((only_traceCtx _ _ _ _ _).mono (by simp))
  · exact (only_modCtx _ _ _).mono (by simp)

theorem only_modRing (s : State) (r : RingId) (f : RingRegs → RingRegs) : OnlyIn [.parts, .cmds] s (s.modRing r f) := by
  cases r
  · exact (only_modPart _ _ _).mono (by simp)
  · intro g hg; cases g <;> first | rfl | exact absurd (by simp) hg

theorem only_ringReply (ring : RingId) (rep : Reply) (s : State) : OnlyIn [.parts, .cmds, .out] s (ringReply ring rep s) := by
  unfold ringReply writeCompletion
  dsimp only
  split
  · exact (only_modRing _ _ _).mono (by simp)
  · exact ((only_modRing _ _ _).mono (by simp)).trans ((only_emit _ _).mono (by simp))

theorem only_deliver (src : Source) (rep : Reply) (s : State) : OnlyIn [.parts, .cmds, .out] s (deliver src rep s) := by
  unfold deliver
  split
  · split
    · exact (only_emit _ _).mono (by simp)
    · intro g hg; cases g <;> first | rfl | exact absurd (by simp) hg
  · exact only_ringReply _ _ _
  · exact only_ringReply _ _ _
  · split
    · exact (only_emit _ _).mono (by simp)
    · exact OnlyIn.refl _ _

theorem only_land (s : State) (r : CmdRef) : OnlyIn [.cmds] s (s.land r) := by
  intro g hg; cases g <;> first | rfl | exact absurd (by simp) hg

theorem only_noteDone (r : CmdRef) (st : Nat) (s : State) : OnlyIn [.parts, .cmds, .gl, .scribe, .out] s (noteDone r st s) := by
  unfold noteDone
  split
  · exact OnlyIn.refl _ _
  · dsimp only
    split
    · exact ((only_account _ _ _).mono (by simp)).trans
        (((only_modView _ _ _).mono (by simp)).trans ((only_traceCtx _ _ _ _ _).mono (by simp)))
    · exact ((only_account _ _ _).mono (by simp)).trans ((only_modView _ _ _).mono (by simp))

theorem only_answerWith (r : CmdRef) (st : Nat) (b : Bool) (v : BitVec 128) (s : State) :
    OnlyIn [.parts, .cmds, .gl, .scribe, .out] s (answerWith r st b v s) := by
  unfold answerWith
  dsimp only
  split
  · exact ((only_land _ _).mono (by simp)).trans (only_noteDone _ _ _)
  · exact ((only_land _ _).mono (by simp)).trans ((only_noteDone _ _ _).trans ((only_deliver _ _ _).mono (by simp)))

theorem only_complete (r : CmdRef) (st : Nat) (v : BitVec 128) (s : State) : OnlyIn replyAreas s (complete r st v s) := by
  unfold complete
  split
  · refine OnlyIn.trans (t := { s.land r with plumb := { s.plumb with discards := s.plumb.discards + 1 } }) ?_
      ((only_account _ _ _).mono (by simp))
    intro g hg; cases g <;> first | rfl | exact absurd (by simp) hg
  · exact (only_answerWith _ _ _ _ _).mono (by simp)

theorem only_hold (r : CmdRef) (s : State) : OnlyIn [.cmds] s (hold r s) := by
  intro g hg; cases g <;> first | rfl | exact absurd (by simp) hg

theorem only_drainHeld (s : State) : OnlyIn [.cmds, .out] s (drainHeld s) := by
  unfold drainHeld
  refine OnlyIn.trans (t := { s with cmds := { s.cmds with cmdHeld := [] } }) ?_
    (OnlyIn.foldl _ (fun _ _ => (only_emit _ _).mono (by simp)) _ _)
  intro g hg; cases g <;> first | rfl | exact absurd (by simp) hg

theorem only_setReadyLevel (b : Bool) (s : State) : OnlyIn [.cmds, .out] s (setReadyLevel b s) := by
  unfold setReadyLevel
  dsimp only
  split
  · refine OnlyIn.trans (t := { s with cmds := { s.cmds with cmdReady := b } }) ?_ (only_drainHeld _)
    intro g hg; cases g <;> first | rfl | exact absurd (by simp) hg
  · intro g hg; cases g <;> first | rfl | exact absurd (by simp) hg

theorem only_arrived (p : Packet) (s : State) : OnlyIn [.cmds, .out] s (arrived p s) := by
  unfold arrived
  split
  · exact only_setReadyLevel _ _
  · exact OnlyIn.refl _ _

/-- An advance of the expected sequence touches the contexts, the ring's count or the session. -/
theorem only_advanceSeq (r : CmdRef) (s : State) : OnlyIn [.cmds, .vs] s (advanceSeq r s) := by
  unfold advanceSeq
  split
  · intro g hg; cases g <;> first | rfl | exact absurd (by simp) hg
  · intro g hg; cases g <;> first | rfl | exact absurd (by simp) hg
  · exact (only_modCtx _ _ _).mono (by simp)

theorem only_noteServed (r : CmdRef) (s : State) : OnlyIn [.cmds] s (noteServed r s) := by
  unfold noteServed
  split
  · intro g hg; cases g <;> first | rfl | exact absurd (by simp) hg
  · exact OnlyIn.refl _ _

end Sys2Proof.Machine
end

