-- ==== Sys2Proof/Laws/Reply.lean ====
section
/-! SUPPORT. What a reply is to the source of its command. -/

namespace Sys2Proof.Machine

/-- The sessions are as they were. -/
theorem OnlyIn.vs {gs : List Area} {s t : State} (h : OnlyIn gs s t) (hg : Area.vs ∉ gs) : t.vs = s.vs := h .vs hg

theorem OnlyIn.cal {gs : List Area} {s t : State} (h : OnlyIn gs s t) (hg : Area.cal ∉ gs) : t.cal = s.cal := h .cal hg

/-- A source that is heard gets what is delivered to it. -/
theorem deliver_given {src : Source} {rep : Reply} {s : State} (hh : ∀ id, src = .session id → s.vs.sessions.any (fun x => x.id = id))
    (hp : ∀ q, src = .ring q → q < s.parts.length) : Given src rep (deliver src rep s) := by
  cases src with
  | cmd q =>
    unfold deliver Given
    dsimp only
    split
    · left; simp [State.emit]
    · right; simp
  | ring q =>
    unfold deliver ringReply writeCompletion Given
    dsimp only
    split
    · right
      simp [State.modRing, State.modPart, State.ringOf, State.part, List.getD_eq_getElem?_getD, hp q rfl]
    · left
      exact ⟨_, by simp [State.emit]; left; rfl⟩
  | mgmt =>
    unfold deliver ringReply writeCompletion Given
    dsimp only
    split
    · right
      simp [State.modRing, State.ringOf]
    · left
      exact ⟨_, by simp [State.emit]; left; rfl⟩
  | session id =>
    unfold deliver Given
    dsimp only
    rw [if_pos (hh id rfl)]
    simp [State.emit]

end Sys2Proof.Machine
end

