-- ==== Sys2Proof/Laws/Start.lean ====
section
/-! SUPPORT. The state in which an accepted command starts. -/

namespace Sys2Proof.Machine

/-- What of a context a start leaves alone: all but its expected sequence and its windows. -/
structure CtxKept (c d : Ctx) : Prop where
  slot : d.slot = c.slot
  part : d.part = c.part
  htLog2 : d.htLog2 = c.htLog2
  handles : d.handles = c.handles
  fences : d.fences = c.fences
  held : d.held = c.held
  openSet : d.openSet = c.openSet
  accounting : d.accounting = c.accounting

theorem CtxKept.rfl {c : Ctx} : CtxKept c c := ⟨Eq.refl _, Eq.refl _, Eq.refl _, Eq.refl _, Eq.refl _, Eq.refl _, Eq.refl _, Eq.refl _⟩

theorem CtxKept.trans {c d e : Ctx} (h : CtxKept c d) (k : CtxKept d e) : CtxKept c e :=
  ⟨k.slot.trans h.slot, k.part.trans h.part, k.htLog2.trans h.htLog2, k.handles.trans h.handles, k.fences.trans h.fences,
    k.held.trans h.held, k.openSet.trans h.openSet, k.accounting.trans h.accounting⟩

/-- What a start leaves alone in the list of contexts. -/
def CtxsKept (s u : State) : Prop := ∀ n c, s.ctx? n = some c → ∃ d, u.ctx? n = some d ∧ CtxKept c d

theorem CtxsKept.rfl {s : State} : CtxsKept s s := fun _ c h => ⟨c, h, CtxKept.rfl⟩

theorem CtxsKept.trans {s t u : State} (h : CtxsKept s t) (k : CtxsKept t u) : CtxsKept s u := by
  intro n c hc
  obtain ⟨d, hd, e⟩ := h n c hc
  obtain ⟨x, hx, y⟩ := k n d hd
  exact ⟨x, hx, e.trans y⟩

theorem CtxsKept.of_eq {s u : State} (h : u.cmds.ctxs = s.cmds.ctxs) : CtxsKept s u := by
  intro n c hc
  exact ⟨c, by simpa [State.ctx?, h] using hc, CtxKept.rfl⟩

/-- The context of a slot after every context of that slot has changed. -/
theorem ctx?_modCtx {s : State} {n m : Nat} {f : Ctx → Ctx} (hf : ∀ c, (f c).slot = c.slot) :
    (s.modCtx m f).ctx? n = (s.ctx? n).map (fun c => if c.slot = m then f c else c) := by
  simp only [State.modCtx, State.ctx?]
  induction s.cmds.ctxs with
  | nil => rfl
  | cons a l ih =>
    simp only [List.map_cons, List.find?_cons]
    by_cases ha : a.slot = m
    · simp only [ha, if_true, hf]
      by_cases hn : m = n
      · simp [hn, ha]
      · simp [hn, ih]
    · simp only [ha, if_false]
      by_cases hn : a.slot = n
      · simp [hn]
        intro h
        exact absurd (hn.trans h) ha
      · simp [hn, ih]

theorem CtxsKept.modCtx {s : State} {m : Nat} {f : Ctx → Ctx} (hf : ∀ c, CtxKept c (f c)) : CtxsKept s (s.modCtx m f) := by
  intro n c hc
  refine ⟨if c.slot = m then f c else c, ?_, ?_⟩
  · rw [ctx?_modCtx (fun c => (hf c).slot), hc]; rfl
  · split
    · exact hf c
    · exact CtxKept.rfl

/-- What a start leaves alone of the state: it moves the expected sequence, opens windows and may leave a record in a trace. -/
structure Started (s u : State) : Prop where
  only : OnlyIn [.cmds, .vs, .gl, .scribe, .out] s u
  quiet : Quiet s u
  ctxs : CtxsKept s u
  gens : u.cmds.gens = s.cmds.gens
  inflight : u.cmds.inflight = s.cmds.inflight
  glRest : u.gl = { s.gl with parcels := u.gl.parcels, nextId := u.gl.nextId }
  parcels : ∃ l, u.gl.parcels = s.gl.parcels ++ l ∧ ∀ x ∈ l, x.pseq = none ∧ x.eligibleAt = none
  halted : u.scribe.halted = s.scribe.halted
  sessions : ∀ id, u.vs.sessions.any (fun x => x.id = id) = s.vs.sessions.any (fun x => x.id = id)

theorem Started.refl (s : State) : Started s s :=
  ⟨OnlyIn.refl _ _, Quiet.rfl, CtxsKept.rfl, rfl, rfl, rfl, ⟨[], by simp⟩, rfl, fun _ => rfl⟩

theorem Started.trans {s t u : State} (h : Started s t) (k : Started t u) : Started s u := by
  refine ⟨h.only.trans k.only, h.quiet.trans k.quiet, h.ctxs.trans k.ctxs, k.gens.trans h.gens, k.inflight.trans h.inflight, ?_, ?_,
    k.halted.trans h.halted, fun id => (k.sessions id).trans (h.sessions id)⟩
  · rw [k.glRest, h.glRest]
  · obtain ⟨l, hl, h1⟩ := h.parcels
    obtain ⟨m, hm, h2⟩ := k.parcels
    refine ⟨l ++ m, by rw [hm, hl, List.append_assoc], fun x hx => ?_⟩
    rcases List.mem_append.mp hx with hx | hx
    · exact h1 x hx
    · exact h2 x hx

theorem Started.of_cmds {s u : State} (h : OnlyIn [.cmds, .vs, .scribe, .out] s u) (q : Quiet s u) (c : CtxsKept s u)
    (hg : u.cmds.gens = s.cmds.gens) (hi : u.cmds.inflight = s.cmds.inflight) (hh : u.scribe.halted = s.scribe.halted)
    (hs : ∀ id, u.vs.sessions.any (fun x => x.id = id) = s.vs.sessions.any (fun x => x.id = id)) : Started s u := by
  have e : u.gl = s.gl := h .gl (by decide)
  exact ⟨h.mono (by simp), q, c, hg, hi, by rw [e], ⟨[], by simp [e]⟩, hh, hs⟩

theorem started_emit (s : State) (o : Output) : Started s (s.emit o) :=
  Started.of_cmds ((only_emit _ _).mono (by simp)) (quiet_emit _ _) CtxsKept.rfl rfl rfl rfl (fun _ => rfl)

theorem started_modTrace (s : State) (n : Nat) (f : TraceSlot → TraceSlot) : Started s (s.modTrace n f) :=
  Started.of_cmds ((only_modTrace _ _ _).mono (by simp)) (quiet_modTrace _ _ _) (CtxsKept.of_eq rfl) rfl rfl rfl (fun _ => rfl)

theorem started_addParcel (s : State) (f : Nat → TxParcel) (hf : ∀ i, (f i).eligibleAt = none ∧ (f i).pseq = none) :
    Started s (s.addParcel f) :=
  ⟨(only_addParcel _ _).mono (by simp), quiet_addParcel _ _ (fun i => (hf i).1), CtxsKept.of_eq rfl, rfl, rfl, rfl,
    ⟨[f s.gl.nextId], rfl, fun x hx => by simp only [List.mem_singleton] at hx; subst hx; exact ⟨(hf _).2, (hf _).1⟩⟩, rfl,
    fun _ => rfl⟩

theorem Started.foldl {α : Type} (f : State → α → State) (hf : ∀ u a, Started u (f u a)) (l : List α) (s : State) :
    Started s (l.foldl f s) := by
  induction l generalizing s with
  | nil => exact Started.refl _
  | cons a l ih => exact (hf s a).trans (ih _)

theorem started_writeTrace (n : Nat) (recs : List TraceRec) (s : State) : Started s (writeTrace n recs s) := by
  unfold writeTrace
  split
  · exact Started.refl _
  · split
    · exact (started_addParcel _ _ (fun _ => ⟨rfl, rfl⟩)).trans (started_modTrace _ _ _)
    · apply Started.foldl
      intro u r
      split
      · exact Started.refl _
      · dsimp only
        split
        · exact started_modTrace _ _ _
        · refine Started.trans ?_ (started_modTrace _ _ _)
          split <;> exact started_emit _ _

theorem started_pushTrace (n : Nat) (r : TraceRec) (s : State) : Started s (pushTrace n r s) := by
  unfold pushTrace
  split
  · exact Started.refl _
  · split
    · exact started_modTrace _ _ _
    · dsimp only
      have key : ∀ (b : Bool) (m k : Nat) (f g : TraceSlot → TraceSlot) (l : List TraceRec),
          Started s (if b then writeTrace m l ((s.modTrace m f).modTrace k g) else s.modTrace m f) := by
        intro b m k f g l
        split
        · exact (started_modTrace _ _ _).trans ((started_modTrace _ _ _).trans (started_writeTrace _ _ _))
        · exact started_modTrace _ _ _
      exact key _ _ _ _ _ _

theorem started_traceCtx (p c b : Nat) (r : TraceRec) (s : State) : Started s (traceCtx p c b r s) := by
  unfold traceCtx
  split
  · exact Started.refl _
  · split
    · exact started_pushTrace _ _ _
    · exact Started.refl _

theorem started_modCtx (s : State) (n : Nat) (f : Ctx → Ctx) (hf : ∀ c, CtxKept c (f c)) : Started s (s.modCtx n f) :=
  Started.of_cmds ((only_modCtx _ _ _).mono (by simp)) (quiet_modCtx _ _ _) (CtxsKept.modCtx hf) rfl rfl rfl (fun _ => rfl)

theorem started_noteStart (r : CmdRef) (s : State) : Started s (noteStart r s) := by
  unfold noteStart
  dsimp only
  split
  · refine Started.trans (started_modCtx _ _ _ ?_) (started_traceCtx _ _ _ _ _)
    exact fun c => ⟨rfl, rfl, rfl, rfl, rfl, rfl, rfl, rfl⟩
  · exact started_modCtx _ _ _ (fun c => ⟨rfl, rfl, rfl, rfl, rfl, rfl, rfl, rfl⟩)

theorem started_setReadyLevel (b : Bool) (s : State) : Started s (setReadyLevel b s) := by
  unfold setReadyLevel
  dsimp only
  have h1 : Started s { s with cmds := { s.cmds with cmdReady := b } } := by
    refine Started.of_cmds ?_ ?_ (CtxsKept.of_eq rfl) rfl rfl rfl (fun _ => rfl)
    · intro g hg; cases g <;> first | rfl | exact absurd (by simp) hg
    · constructor <;> first | rfl | exact fun _ h => .inl h | exact id
  split
  · refine h1.trans ?_
    unfold drainHeld
    refine Started.trans (t := { s with cmds := { s.cmds with cmdReady := b, cmdHeld := [] } }) ?_
      (Started.foldl _ (fun _ _ => started_emit _ _) _ _)
    refine Started.of_cmds ?_ ?_ (CtxsKept.of_eq rfl) rfl rfl rfl (fun _ => rfl)
    · intro g hg; cases g <;> first | rfl | exact absurd (by simp) hg
    · constructor <;> first | rfl | exact fun _ h => .inl h | exact id
  · exact h1

theorem started_arrived (p : Packet) (s : State) : Started s (arrived p s) := by
  unfold arrived
  split
  · exact started_setReadyLevel _ _
  · exact Started.refl _

theorem started_advanceSeq (r : CmdRef) (s : State) : Started s (advanceSeq r s) := by
  unfold advanceSeq
  split
  · refine Started.of_cmds ?_ ?_ (CtxsKept.of_eq rfl) rfl rfl rfl (fun _ => rfl)
    · intro g hg; cases g <;> first | rfl | exact absurd (by simp) hg
    · constructor <;> first | rfl | exact fun _ h => .inl h | exact id
  · refine Started.of_cmds ?_ ?_ (CtxsKept.of_eq rfl) rfl rfl rfl (fun i => ?_)
    · intro g hg; cases g <;> first | rfl | exact absurd (by simp) hg
    · constructor <;> first | rfl | exact fun _ h => .inl h | exact id
    · simp only [List.any_map]
      congr 1
      funext x
      simp only [Function.comp]
      split <;> rfl
  · exact started_modCtx _ _ _ (fun c => ⟨rfl, rfl, rfl, rfl, rfl, rfl, rfl, rfl⟩)

theorem started_noteServed (r : CmdRef) (s : State) : Started s (noteServed r s) := by
  unfold noteServed
  split
  · refine Started.of_cmds ?_ ?_ (CtxsKept.of_eq rfl) rfl rfl rfl (fun _ => rfl)
    · intro g hg; cases g <;> first | rfl | exact absurd (by simp) hg
    · constructor <;> first | rfl | exact fun _ h => .inl h | exact id
  · exact Started.refl _

/-- A packet that passes its checks starts in a state that differs from the one it met by its start alone. -/
theorem submit_starts {op : Op} {p : Packet} {s : State} (a : Aux) (hc : s.calm) (hp : passes op p s) :
    ∃ u, submit op p a s = startOf op (named op p s) p a u ∧ Started s u ∧ ((∀ id, p.src ≠ .session id) → u.vs = s.vs) := by
  rw [submit_passes a hc hp]
  have h0 : Started s (noteServed (named op p s) (accepted op p s)) :=
    ((started_arrived p s).trans (started_advanceSeq _ _)).trans (started_noteServed _ _)
  have hr : { named op p s with start := (noteServed (named op p s) (accepted op p s)).now } = named op p s := by
    have e : (noteServed (named op p s) (accepted op p s)).cal = s.cal := h0.only .cal (by decide)
    have e2 : (arrived p s).cal = s.cal := (started_arrived p s).only .cal (by decide)
    have e3 : (noteServed (named op p s) (accepted op p s)).now = (named op p s).start := by
      show (noteServed (named op p s) (accepted op p s)).cal.now = (arrived p s).cal.now
      rw [e, e2]
    rw [e3]
  have hv : (∀ id, p.src ≠ .session id) → (noteServed (named op p s) (accepted op p s)).vs = s.vs := by
    intro hid
    rw [only_noteServed _ _ .vs (by decide)]
    refine Eq.trans ?_ ((only_arrived p s) .vs (by decide))
    unfold accepted advanceSeq
    split
    · rfl
    · rename_i id h
      exact absurd h (hid id)
    · rfl
  unfold begin_
  rw [hr]
  dsimp only
  split
  · exact ⟨_, rfl, h0.trans (started_noteStart _ _), fun h => Eq.trans ((only_noteStart _ _) .vs (by decide)) (hv h)⟩
  · exact ⟨_, rfl, h0, hv⟩

/-- A command that is not stale and whose source is heard has its reply when it ends. -/
theorem complete_replies {r : CmdRef} {w : State} {st : Nat} {v : BitVec 128} (hs : w.staleRef r = false)
    (hv : ∀ id, r.src = .session id → w.vs.sessions.any (fun x => x.id = id)) (hq : ∀ q, r.src = .ring q → q < w.parts.length) :
    Replied r st v w.now (complete r st v w) := by
  unfold complete
  rw [if_neg (by simp [hs])]
  unfold answer answerWith
  dsimp only
  by_cases hsup : st = stOk ∧ bitOf r.flags.toNat 0 = true
  · exact .inl hsup
  · refine .inr ?_
    have e : (decide (st = stOk) && bitOf r.flags.toNat 0) = false := by by_cases h : st = stOk <;> simp_all
    rw [if_neg (by simp [e])]
    have hd : OnlyIn [.parts, .cmds, .gl, .scribe, .out] w (noteDone r st (w.land r)) :=
      ((only_land _ _).mono (by simp)).trans (only_noteDone _ _ _)
    have hl : (noteDone r st (w.land r)).parts.length = w.parts.length := by
      unfold noteDone
      split
      · rfl
      · dsimp only
        split
        · rw [(only_traceCtx _ _ _ _ _) .parts (by decide)]
          simp [State.modView, State.modPart, account, State.modCtx, State.land]
        · simp [State.modView, State.modPart, account, State.modCtx, State.land]
    refine ⟨(replyOf r st false v w).rflags, ?_⟩
    have he : ({ seq := r.seq, status := st, cls := r.cls, rflags := (replyOf r st false v w).rflags, time := w.now
                 result := v } : Reply) = replyOf r st false v w := rfl
    rw [he]
    refine deliver_given (fun id hid => ?_) (fun q hq' => ?_)
    · rw [hd .vs (by decide)]
      exact hv id hid
    · rw [hl]
      exact hq q hq'

/-- The same of a packet's command. -/
theorem complete_answers {op : Op} {p : Packet} {s w : State} {st : Nat} {v : BitVec 128}
    (hs : w.staleRef (named op p s) = false) (hn : w.now = s.now)
    (hv : ∀ id, p.src = .session id → w.vs.sessions.any (fun x => x.id = id)) (hq : ∀ q, p.src = .ring q → q < w.parts.length) :
    Answered op p st v s (complete (named op p s) st v w) := by
  have h := complete_replies (r := named op p s) (st := st) (v := v) hs hv hq
  rw [hn] at h
  exact h

/-- What the general checks of R71 say of a context's packet. -/
theorem passes_ctx {op : Op} {p : Packet} {s : State} (hp : passes op p s) (hc : srcIsCtx p.src = true) :
    (∃ c, s.ctx? p.slot = some c ∧ c.part = p.part) ∧ s.genOf p.slot = bitsOf p.handle.toNat 24 8 ∧ p.part < s.parts.length := by
  simp only [passes, hears, Bool.and_eq_true, Option.isNone_iff_eq_none] at hp
  obtain ⟨⟨⟨⟨hu, hh⟩, he⟩, hl⟩, hs⟩ := hp
  have hst := started_arrived p s
  have hparts : (arrived p s).parts = s.parts := hst.only .parts (by decide)
  have hctxs : ∀ n, (arrived p s).ctx? n = s.ctx? n := by
    intro n
    have : (arrived p s).cmds.ctxs = s.cmds.ctxs := by
      unfold arrived
      split
      · unfold setReadyLevel
        dsimp only
        split
        · unfold drainHeld
          have key : ∀ (l : List (Source × Reply)) (u : State),
              (l.foldl (fun t h => t.emit (.reply h.1 h.2)) u).cmds = u.cmds := by
            intro l
            induction l with
            | nil => intro u; rfl
            | cons a l ih => intro u; rw [List.foldl_cons, ih]; rfl
          rw [key]
        · rfl
      · rfl
    simp [State.ctx?, this]
  have hgen : (arrived p s).genOf p.slot = s.genOf p.slot := by simp [State.genOf, hst.gens]
  have hsrc : (named op p s).src = p.src := rfl
  have hslot : (named op p s).slot = p.slot := rfl
  have hpart : (named op p s).part = p.part := rfl
  simp only [earlyRefusal] at he
  split at he
  · cases he
  · split at he
    · cases he
    · split at he
      · cases he
      · split at he
        · cases he
        · rename_i hbad
          split at he
          · cases he
          · rename_i hg
            refine ⟨?_, ?_, ?_⟩
            · simp only [badHandle, hsrc, hc, if_true, hslot, hctxs, hpart] at hbad
              cases hx : s.ctx? p.slot with
              | none => simp [hx] at hbad
              | some c => exact ⟨c, rfl, by simpa [hx] using hbad⟩
            · simp only [hsrc, hc, Bool.true_and, hslot, hgen, decide_eq_true_eq, not_not] at hg
              exact hg.symm
            · cases hs' : p.src with
              | cmd q => simp [heard, hs', hparts] at hh; simp [Packet.part, hs', srcPart, hh.1]
              | ring q => simp [heard, hs', hparts] at hh; simp [Packet.part, hs', srcPart, hh]
              | mgmt => simp [hs', srcIsCtx] at hc
              | session id => simp [hs', srcIsCtx] at hc

/-- A started command of a context is not stale. -/
theorem Started.fresh {op : Op} {p : Packet} {s u : State} (h : Started s u) (hp : passes op p s) :
    u.staleRef (named op p s) = false := by
  unfold State.staleRef
  have hsrc : (named op p s).src = p.src := rfl
  rw [hsrc]
  cases hc : srcIsCtx p.src
  · rfl
  · obtain ⟨⟨c, hc1, -⟩, hg, -⟩ := passes_ctx hp hc
    obtain ⟨d, hd, -⟩ := h.ctxs _ _ hc1
    have e1 : u.genOf (named op p s).slot = (named op p s).gen := by
      show assocGet u.cmds.gens p.slot 0 = _
      rw [h.gens]
      exact hg
    have e2 : u.ctx? (named op p s).slot = some d := hd
    simp [e1, e2]

/-- A packet that passes comes from a permitted issuer (R77, R78). -/
theorem passes_issuer {op : Op} {p : Packet} {s : State} (hp : passes op p s) : op.issuers.any (fun i => issuerIs i p.src) = true := by
  simp only [passes, Bool.and_eq_true, Option.isNone_iff_eq_none] at hp
  obtain ⟨⟨-, hl⟩, -⟩ := hp
  have hsrc : (named op p s).src = p.src := rfl
  simp only [lateRefusal, hsrc] at hl
  split at hl
  · cases hl
  · split at hl
    · cases hl
    · split at hl
      · cases hl
      · rename_i h
        simpa using h

/-- A reply of a command that starts and ends at once. -/
theorem Started.answers {op : Op} {p : Packet} {s u w : State} {st : Nat} {v : BitVec 128} (h : Started s u) (hp : passes op p s)
    (hc : srcIsCtx p.src = true) (hg : w.cmds.gens = u.cmds.gens) (hx : CtxsKept u w) (hn : w.cal = u.cal)
    (hl : w.parts.length = u.parts.length) : Answered op p st v s (complete (named op p s) st v w) := by
  have hu := h.only
  have hcal : u.cal = s.cal := hu .cal (by decide)
  refine complete_answers ?_ ?_ ?_ ?_
  · obtain ⟨⟨c, hc1, -⟩, hg1, -⟩ := passes_ctx hp hc
    obtain ⟨d, hd, -⟩ := (h.ctxs.trans hx) _ _ hc1
    have e1 : w.genOf (named op p s).slot = (named op p s).gen := by
      show assocGet w.cmds.gens p.slot 0 = _
      rw [hg, h.gens]
      exact hg1
    have e2 : w.ctx? (named op p s).slot = some d := hd
    simp [State.staleRef, e1, e2]
  · show w.cal.now = s.cal.now
    rw [hn, hcal]
  · intro id hid
    rw [hid] at hc
    cases hc
  · intro q hq
    have h3 := (passes_ctx hp hc).2.2
    rw [hl, hu .parts (by decide)]
    simpa [Packet.part, hq, srcPart] using h3

/-- A start that leaves the sessions alone. -/
theorem Started.onlyNoVs {s u : State} (h : Started s u) (hv : u.vs = s.vs) : OnlyIn replyAreas s u := by
  intro g hg
  cases g <;> first | exact hv | exact h.only _ (by simp_all)

/-- The queue of waiting commands lies in no area. -/
theorem OnlyIn.queue {gs : List Area} {s t : State} (h : OnlyIn gs s t) (q : List Instr) :
    OnlyIn gs s { t with pending := q } := by
  intro g hg
  have := h g hg
  cases g <;> exact this

theorem Answered.queue {op : Op} {p : Packet} {st : Nat} {v : BitVec 128} {s t : State} (h : Answered op p st v s t)
    (q : List Instr) : Answered op p st v s { t with pending := q } := h

/-- What a handle translates to after a start. -/
theorem translate_kept {s u : State} {c d : Ctx} (h : CtxKept c d) (hp : u.pegs = s.pegs) (x : Nat) :
    Sys2Proof.Machine.translate u d x = Sys2Proof.Machine.translate s c x := by
  simp only [Sys2Proof.Machine.translate, Ctx.entry?, h.handles, h.htLog2, State.slotState, State.peg?, hp]

end Sys2Proof.Machine
end

