-- ==== Sys2Proof/Laws/State.lean ====
section
/-! SUPPORT. What the state's named updates leave alone: one lemma for each field and update, so that no proof unfolds an update. -/

namespace Sys2Proof.Machine

section updates
variable (s : State)

@[simp] theorem State.modPart_cmds (p : Nat) (f : Part → Part) : (State.modPart s p f).cmds = s.cmds := rfl
@[simp] theorem State.modPart_gl (p : Nat) (f : Part → Part) : (State.modPart s p f).gl = s.gl := rfl
@[simp] theorem State.modPart_inl (p : Nat) (f : Part → Part) : (State.modPart s p f).inl = s.inl := rfl
@[simp] theorem State.modPart_sill (p : Nat) (f : Part → Part) : (State.modPart s p f).sill = s.sill := rfl
@[simp] theorem State.modPart_pegs (p : Nat) (f : Part → Part) : (State.modPart s p f).pegs = s.pegs := rfl
@[simp] theorem State.modPart_cal (p : Nat) (f : Part → Part) : (State.modPart s p f).cal = s.cal := rfl
@[simp] theorem State.modPart_damper (p : Nat) (f : Part → Part) : (State.modPart s p f).damper = s.damper := rfl
@[simp] theorem State.modPart_kp (p : Nat) (f : Part → Part) : (State.modPart s p f).kp = s.kp := rfl
@[simp] theorem State.modPart_vs (p : Nat) (f : Part → Part) : (State.modPart s p f).vs = s.vs := rfl
@[simp] theorem State.modPart_plumb (p : Nat) (f : Part → Part) : (State.modPart s p f).plumb = s.plumb := rfl
@[simp] theorem State.modPart_start (p : Nat) (f : Part → Part) : (State.modPart s p f).start = s.start := rfl
@[simp] theorem State.modPart_fuses (p : Nat) (f : Part → Part) : (State.modPart s p f).fuses = s.fuses := rfl
@[simp] theorem State.modPart_debugs (p : Nat) (f : Part → Part) : (State.modPart s p f).debugs = s.debugs := rfl
@[simp] theorem State.modPart_ret (p : Nat) (f : Part → Part) : (State.modPart s p f).ret = s.ret := rfl
@[simp] theorem State.modPart_scribe (p : Nat) (f : Part → Part) : (State.modPart s p f).scribe = s.scribe := rfl
@[simp] theorem State.modPart_tests (p : Nat) (f : Part → Part) : (State.modPart s p f).tests = s.tests := rfl
@[simp] theorem State.modPart_mail (p : Nat) (f : Part → Part) : (State.modPart s p f).mail = s.mail := rfl
@[simp] theorem State.modPart_out (p : Nat) (f : Part → Part) : (State.modPart s p f).out = s.out := rfl
@[simp] theorem State.modPart_fresh (p : Nat) (f : Part → Part) : (State.modPart s p f).fresh = s.fresh := rfl
@[simp] theorem State.modPart_pending (p : Nat) (f : Part → Part) : (State.modPart s p f).pending = s.pending := rfl

@[simp] theorem State.modLink_parts (n : Nat) (f : Link → Link) : (State.modLink s n f).parts = s.parts := rfl
@[simp] theorem State.modLink_cmds (n : Nat) (f : Link → Link) : (State.modLink s n f).cmds = s.cmds := rfl
@[simp] theorem State.modLink_inl (n : Nat) (f : Link → Link) : (State.modLink s n f).inl = s.inl := rfl
@[simp] theorem State.modLink_sill (n : Nat) (f : Link → Link) : (State.modLink s n f).sill = s.sill := rfl
@[simp] theorem State.modLink_pegs (n : Nat) (f : Link → Link) : (State.modLink s n f).pegs = s.pegs := rfl
@[simp] theorem State.modLink_cal (n : Nat) (f : Link → Link) : (State.modLink s n f).cal = s.cal := rfl
@[simp] theorem State.modLink_damper (n : Nat) (f : Link → Link) : (State.modLink s n f).damper = s.damper := rfl
@[simp] theorem State.modLink_kp (n : Nat) (f : Link → Link) : (State.modLink s n f).kp = s.kp := rfl
@[simp] theorem State.modLink_vs (n : Nat) (f : Link → Link) : (State.modLink s n f).vs = s.vs := rfl
@[simp] theorem State.modLink_plumb (n : Nat) (f : Link → Link) : (State.modLink s n f).plumb = s.plumb := rfl
@[simp] theorem State.modLink_start (n : Nat) (f : Link → Link) : (State.modLink s n f).start = s.start := rfl
@[simp] theorem State.modLink_fuses (n : Nat) (f : Link → Link) : (State.modLink s n f).fuses = s.fuses := rfl
@[simp] theorem State.modLink_debugs (n : Nat) (f : Link → Link) : (State.modLink s n f).debugs = s.debugs := rfl
@[simp] theorem State.modLink_ret (n : Nat) (f : Link → Link) : (State.modLink s n f).ret = s.ret := rfl
@[simp] theorem State.modLink_scribe (n : Nat) (f : Link → Link) : (State.modLink s n f).scribe = s.scribe := rfl
@[simp] theorem State.modLink_tests (n : Nat) (f : Link → Link) : (State.modLink s n f).tests = s.tests := rfl
@[simp] theorem State.modLink_mail (n : Nat) (f : Link → Link) : (State.modLink s n f).mail = s.mail := rfl
@[simp] theorem State.modLink_out (n : Nat) (f : Link → Link) : (State.modLink s n f).out = s.out := rfl
@[simp] theorem State.modLink_fresh (n : Nat) (f : Link → Link) : (State.modLink s n f).fresh = s.fresh := rfl
@[simp] theorem State.modLink_pending (n : Nat) (f : Link → Link) : (State.modLink s n f).pending = s.pending := rfl

@[simp] theorem State.modCtx_parts (slot : Nat) (f : Ctx → Ctx) : (State.modCtx s slot f).parts = s.parts := rfl
@[simp] theorem State.modCtx_gl (slot : Nat) (f : Ctx → Ctx) : (State.modCtx s slot f).gl = s.gl := rfl
@[simp] theorem State.modCtx_inl (slot : Nat) (f : Ctx → Ctx) : (State.modCtx s slot f).inl = s.inl := rfl
@[simp] theorem State.modCtx_sill (slot : Nat) (f : Ctx → Ctx) : (State.modCtx s slot f).sill = s.sill := rfl
@[simp] theorem State.modCtx_pegs (slot : Nat) (f : Ctx → Ctx) : (State.modCtx s slot f).pegs = s.pegs := rfl
@[simp] theorem State.modCtx_cal (slot : Nat) (f : Ctx → Ctx) : (State.modCtx s slot f).cal = s.cal := rfl
@[simp] theorem State.modCtx_damper (slot : Nat) (f : Ctx → Ctx) : (State.modCtx s slot f).damper = s.damper := rfl
@[simp] theorem State.modCtx_kp (slot : Nat) (f : Ctx → Ctx) : (State.modCtx s slot f).kp = s.kp := rfl
@[simp] theorem State.modCtx_vs (slot : Nat) (f : Ctx → Ctx) : (State.modCtx s slot f).vs = s.vs := rfl
@[simp] theorem State.modCtx_plumb (slot : Nat) (f : Ctx → Ctx) : (State.modCtx s slot f).plumb = s.plumb := rfl
@[simp] theorem State.modCtx_start (slot : Nat) (f : Ctx → Ctx) : (State.modCtx s slot f).start = s.start := rfl
@[simp] theorem State.modCtx_fuses (slot : Nat) (f : Ctx → Ctx) : (State.modCtx s slot f).fuses = s.fuses := rfl
@[simp] theorem State.modCtx_debugs (slot : Nat) (f : Ctx → Ctx) : (State.modCtx s slot f).debugs = s.debugs := rfl
@[simp] theorem State.modCtx_ret (slot : Nat) (f : Ctx → Ctx) : (State.modCtx s slot f).ret = s.ret := rfl
@[simp] theorem State.modCtx_scribe (slot : Nat) (f : Ctx → Ctx) : (State.modCtx s slot f).scribe = s.scribe := rfl
@[simp] theorem State.modCtx_tests (slot : Nat) (f : Ctx → Ctx) : (State.modCtx s slot f).tests = s.tests := rfl
@[simp] theorem State.modCtx_mail (slot : Nat) (f : Ctx → Ctx) : (State.modCtx s slot f).mail = s.mail := rfl
@[simp] theorem State.modCtx_out (slot : Nat) (f : Ctx → Ctx) : (State.modCtx s slot f).out = s.out := rfl
@[simp] theorem State.modCtx_fresh (slot : Nat) (f : Ctx → Ctx) : (State.modCtx s slot f).fresh = s.fresh := rfl
@[simp] theorem State.modCtx_pending (slot : Nat) (f : Ctx → Ctx) : (State.modCtx s slot f).pending = s.pending := rfl

@[simp] theorem State.emit_parts (o : Output) : (State.emit s o).parts = s.parts := rfl
@[simp] theorem State.emit_cmds (o : Output) : (State.emit s o).cmds = s.cmds := rfl
@[simp] theorem State.emit_gl (o : Output) : (State.emit s o).gl = s.gl := rfl
@[simp] theorem State.emit_inl (o : Output) : (State.emit s o).inl = s.inl := rfl
@[simp] theorem State.emit_sill (o : Output) : (State.emit s o).sill = s.sill := rfl
@[simp] theorem State.emit_pegs (o : Output) : (State.emit s o).pegs = s.pegs := rfl
@[simp] theorem State.emit_cal (o : Output) : (State.emit s o).cal = s.cal := rfl
@[simp] theorem State.emit_damper (o : Output) : (State.emit s o).damper = s.damper := rfl
@[simp] theorem State.emit_kp (o : Output) : (State.emit s o).kp = s.kp := rfl
@[simp] theorem State.emit_vs (o : Output) : (State.emit s o).vs = s.vs := rfl
@[simp] theorem State.emit_plumb (o : Output) : (State.emit s o).plumb = s.plumb := rfl
@[simp] theorem State.emit_start (o : Output) : (State.emit s o).start = s.start := rfl
@[simp] theorem State.emit_fuses (o : Output) : (State.emit s o).fuses = s.fuses := rfl
@[simp] theorem State.emit_debugs (o : Output) : (State.emit s o).debugs = s.debugs := rfl
@[simp] theorem State.emit_ret (o : Output) : (State.emit s o).ret = s.ret := rfl
@[simp] theorem State.emit_scribe (o : Output) : (State.emit s o).scribe = s.scribe := rfl
@[simp] theorem State.emit_tests (o : Output) : (State.emit s o).tests = s.tests := rfl
@[simp] theorem State.emit_mail (o : Output) : (State.emit s o).mail = s.mail := rfl
@[simp] theorem State.emit_fresh (o : Output) : (State.emit s o).fresh = s.fresh := rfl
@[simp] theorem State.emit_pending (o : Output) : (State.emit s o).pending = s.pending := rfl

@[simp] theorem State.raiseGen_parts (slot : Nat) : (State.raiseGen s slot).parts = s.parts := rfl
@[simp] theorem State.raiseGen_gl (slot : Nat) : (State.raiseGen s slot).gl = s.gl := rfl
@[simp] theorem State.raiseGen_inl (slot : Nat) : (State.raiseGen s slot).inl = s.inl := rfl
@[simp] theorem State.raiseGen_sill (slot : Nat) : (State.raiseGen s slot).sill = s.sill := rfl
@[simp] theorem State.raiseGen_pegs (slot : Nat) : (State.raiseGen s slot).pegs = s.pegs := rfl
@[simp] theorem State.raiseGen_cal (slot : Nat) : (State.raiseGen s slot).cal = s.cal := rfl
@[simp] theorem State.raiseGen_damper (slot : Nat) : (State.raiseGen s slot).damper = s.damper := rfl
@[simp] theorem State.raiseGen_kp (slot : Nat) : (State.raiseGen s slot).kp = s.kp := rfl
@[simp] theorem State.raiseGen_vs (slot : Nat) : (State.raiseGen s slot).vs = s.vs := rfl
@[simp] theorem State.raiseGen_plumb (slot : Nat) : (State.raiseGen s slot).plumb = s.plumb := rfl
@[simp] theorem State.raiseGen_start (slot : Nat) : (State.raiseGen s slot).start = s.start := rfl
@[simp] theorem State.raiseGen_fuses (slot : Nat) : (State.raiseGen s slot).fuses = s.fuses := rfl
@[simp] theorem State.raiseGen_debugs (slot : Nat) : (State.raiseGen s slot).debugs = s.debugs := rfl
@[simp] theorem State.raiseGen_ret (slot : Nat) : (State.raiseGen s slot).ret = s.ret := rfl
@[simp] theorem State.raiseGen_scribe (slot : Nat) : (State.raiseGen s slot).scribe = s.scribe := rfl
@[simp] theorem State.raiseGen_tests (slot : Nat) : (State.raiseGen s slot).tests = s.tests := rfl
@[simp] theorem State.raiseGen_mail (slot : Nat) : (State.raiseGen s slot).mail = s.mail := rfl
@[simp] theorem State.raiseGen_out (slot : Nat) : (State.raiseGen s slot).out = s.out := rfl
@[simp] theorem State.raiseGen_fresh (slot : Nat) : (State.raiseGen s slot).fresh = s.fresh := rfl
@[simp] theorem State.raiseGen_pending (slot : Nat) : (State.raiseGen s slot).pending = s.pending := rfl

@[simp] theorem State.setSrc_parts (n : Nat) (c : SrcCfg) : (State.setSrc s n c).parts = s.parts := rfl
@[simp] theorem State.setSrc_cmds (n : Nat) (c : SrcCfg) : (State.setSrc s n c).cmds = s.cmds := rfl
@[simp] theorem State.setSrc_gl (n : Nat) (c : SrcCfg) : (State.setSrc s n c).gl = s.gl := rfl
@[simp] theorem State.setSrc_inl (n : Nat) (c : SrcCfg) : (State.setSrc s n c).inl = s.inl := rfl
@[simp] theorem State.setSrc_sill (n : Nat) (c : SrcCfg) : (State.setSrc s n c).sill = s.sill := rfl
@[simp] theorem State.setSrc_pegs (n : Nat) (c : SrcCfg) : (State.setSrc s n c).pegs = s.pegs := rfl
@[simp] theorem State.setSrc_cal (n : Nat) (c : SrcCfg) : (State.setSrc s n c).cal = s.cal := rfl
@[simp] theorem State.setSrc_damper (n : Nat) (c : SrcCfg) : (State.setSrc s n c).damper = s.damper := rfl
@[simp] theorem State.setSrc_kp (n : Nat) (c : SrcCfg) : (State.setSrc s n c).kp = s.kp := rfl
@[simp] theorem State.setSrc_vs (n : Nat) (c : SrcCfg) : (State.setSrc s n c).vs = s.vs := rfl
@[simp] theorem State.setSrc_start (n : Nat) (c : SrcCfg) : (State.setSrc s n c).start = s.start := rfl
@[simp] theorem State.setSrc_fuses (n : Nat) (c : SrcCfg) : (State.setSrc s n c).fuses = s.fuses := rfl
@[simp] theorem State.setSrc_debugs (n : Nat) (c : SrcCfg) : (State.setSrc s n c).debugs = s.debugs := rfl
@[simp] theorem State.setSrc_ret (n : Nat) (c : SrcCfg) : (State.setSrc s n c).ret = s.ret := rfl
@[simp] theorem State.setSrc_scribe (n : Nat) (c : SrcCfg) : (State.setSrc s n c).scribe = s.scribe := rfl
@[simp] theorem State.setSrc_tests (n : Nat) (c : SrcCfg) : (State.setSrc s n c).tests = s.tests := rfl
@[simp] theorem State.setSrc_mail (n : Nat) (c : SrcCfg) : (State.setSrc s n c).mail = s.mail := rfl
@[simp] theorem State.setSrc_out (n : Nat) (c : SrcCfg) : (State.setSrc s n c).out = s.out := rfl
@[simp] theorem State.setSrc_fresh (n : Nat) (c : SrcCfg) : (State.setSrc s n c).fresh = s.fresh := rfl
@[simp] theorem State.setSrc_pending (n : Nat) (c : SrcCfg) : (State.setSrc s n c).pending = s.pending := rfl

@[simp] theorem countMalformed_parts  : (countMalformed s).parts = s.parts := rfl
@[simp] theorem countMalformed_cmds  : (countMalformed s).cmds = s.cmds := rfl
@[simp] theorem countMalformed_gl  : (countMalformed s).gl = s.gl := rfl
@[simp] theorem countMalformed_inl  : (countMalformed s).inl = s.inl := rfl
@[simp] theorem countMalformed_sill  : (countMalformed s).sill = s.sill := rfl
@[simp] theorem countMalformed_pegs  : (countMalformed s).pegs = s.pegs := rfl
@[simp] theorem countMalformed_cal  : (countMalformed s).cal = s.cal := rfl
@[simp] theorem countMalformed_damper  : (countMalformed s).damper = s.damper := rfl
@[simp] theorem countMalformed_kp  : (countMalformed s).kp = s.kp := rfl
@[simp] theorem countMalformed_plumb  : (countMalformed s).plumb = s.plumb := rfl
@[simp] theorem countMalformed_start  : (countMalformed s).start = s.start := rfl
@[simp] theorem countMalformed_fuses  : (countMalformed s).fuses = s.fuses := rfl
@[simp] theorem countMalformed_debug  : (countMalformed s).debugs = s.debugs := rfl
@[simp] theorem countMalformed_ret  : (countMalformed s).ret = s.ret := rfl
@[simp] theorem countMalformed_scribe  : (countMalformed s).scribe = s.scribe := rfl
@[simp] theorem countMalformed_tests  : (countMalformed s).tests = s.tests := rfl
@[simp] theorem countMalformed_mail  : (countMalformed s).mail = s.mail := rfl
@[simp] theorem countMalformed_out  : (countMalformed s).out = s.out := rfl
@[simp] theorem countMalformed_fresh  : (countMalformed s).fresh = s.fresh := rfl
@[simp] theorem countMalformed_pending  : (countMalformed s).pending = s.pending := rfl

@[simp] theorem loseSettings_parts (unit : Nat) (mask : BitVec 8) (last : Nat) : (loseSettings unit mask last s).parts = s.parts := rfl
@[simp] theorem loseSettings_cmds (unit : Nat) (mask : BitVec 8) (last : Nat) : (loseSettings unit mask last s).cmds = s.cmds := rfl
@[simp] theorem loseSettings_gl (unit : Nat) (mask : BitVec 8) (last : Nat) : (loseSettings unit mask last s).gl = s.gl := rfl
@[simp] theorem loseSettings_inl (unit : Nat) (mask : BitVec 8) (last : Nat) : (loseSettings unit mask last s).inl = s.inl := rfl
@[simp] theorem loseSettings_sill (unit : Nat) (mask : BitVec 8) (last : Nat) : (loseSettings unit mask last s).sill = s.sill := rfl
@[simp] theorem loseSettings_pegs (unit : Nat) (mask : BitVec 8) (last : Nat) : (loseSettings unit mask last s).pegs = s.pegs := rfl
@[simp] theorem loseSettings_cal (unit : Nat) (mask : BitVec 8) (last : Nat) : (loseSettings unit mask last s).cal = s.cal := rfl
@[simp] theorem loseSettings_damper (unit : Nat) (mask : BitVec 8) (last : Nat) : (loseSettings unit mask last s).damper = s.damper := rfl
@[simp] theorem loseSettings_kp (unit : Nat) (mask : BitVec 8) (last : Nat) : (loseSettings unit mask last s).kp = s.kp := rfl
@[simp] theorem loseSettings_vs (unit : Nat) (mask : BitVec 8) (last : Nat) : (loseSettings unit mask last s).vs = s.vs := rfl
@[simp] theorem loseSettings_plumb (unit : Nat) (mask : BitVec 8) (last : Nat) : (loseSettings unit mask last s).plumb = s.plumb := rfl
@[simp] theorem loseSettings_start (unit : Nat) (mask : BitVec 8) (last : Nat) : (loseSettings unit mask last s).start = s.start := rfl
@[simp] theorem loseSettings_fuses (unit : Nat) (mask : BitVec 8) (last : Nat) : (loseSettings unit mask last s).fuses = s.fuses := rfl
@[simp] theorem loseSettings_debugs (unit : Nat) (mask : BitVec 8) (last : Nat) : (loseSettings unit mask last s).debugs = s.debugs := rfl
@[simp] theorem loseSettings_scribe (unit : Nat) (mask : BitVec 8) (last : Nat) : (loseSettings unit mask last s).scribe = s.scribe := rfl
@[simp] theorem loseSettings_tests (unit : Nat) (mask : BitVec 8) (last : Nat) : (loseSettings unit mask last s).tests = s.tests := rfl
@[simp] theorem loseSettings_mail (unit : Nat) (mask : BitVec 8) (last : Nat) : (loseSettings unit mask last s).mail = s.mail := rfl
@[simp] theorem loseSettings_out (unit : Nat) (mask : BitVec 8) (last : Nat) : (loseSettings unit mask last s).out = s.out := rfl
@[simp] theorem loseSettings_fresh (unit : Nat) (mask : BitVec 8) (last : Nat) : (loseSettings unit mask last s).fresh = s.fresh := rfl
@[simp] theorem loseSettings_pending (unit : Nat) (mask : BitVec 8) (last : Nat) : (loseSettings unit mask last s).pending = s.pending := rfl

@[simp] theorem State.modParcel_parts (id : Nat) (f : TxParcel → TxParcel) : (State.modParcel s id f).parts = s.parts := rfl
@[simp] theorem State.modParcel_cmds (id : Nat) (f : TxParcel → TxParcel) : (State.modParcel s id f).cmds = s.cmds := rfl
@[simp] theorem State.modParcel_inl (id : Nat) (f : TxParcel → TxParcel) : (State.modParcel s id f).inl = s.inl := rfl
@[simp] theorem State.modParcel_sill (id : Nat) (f : TxParcel → TxParcel) : (State.modParcel s id f).sill = s.sill := rfl
@[simp] theorem State.modParcel_pegs (id : Nat) (f : TxParcel → TxParcel) : (State.modParcel s id f).pegs = s.pegs := rfl
@[simp] theorem State.modParcel_cal (id : Nat) (f : TxParcel → TxParcel) : (State.modParcel s id f).cal = s.cal := rfl
@[simp] theorem State.modParcel_damper (id : Nat) (f : TxParcel → TxParcel) : (State.modParcel s id f).damper = s.damper := rfl
@[simp] theorem State.modParcel_kp (id : Nat) (f : TxParcel → TxParcel) : (State.modParcel s id f).kp = s.kp := rfl
@[simp] theorem State.modParcel_vs (id : Nat) (f : TxParcel → TxParcel) : (State.modParcel s id f).vs = s.vs := rfl
@[simp] theorem State.modParcel_plumb (id : Nat) (f : TxParcel → TxParcel) : (State.modParcel s id f).plumb = s.plumb := rfl
@[simp] theorem State.modParcel_start (id : Nat) (f : TxParcel → TxParcel) : (State.modParcel s id f).start = s.start := rfl
@[simp] theorem State.modParcel_fuses (id : Nat) (f : TxParcel → TxParcel) : (State.modParcel s id f).fuses = s.fuses := rfl
@[simp] theorem State.modParcel_debugs (id : Nat) (f : TxParcel → TxParcel) : (State.modParcel s id f).debugs = s.debugs := rfl
@[simp] theorem State.modParcel_ret (id : Nat) (f : TxParcel → TxParcel) : (State.modParcel s id f).ret = s.ret := rfl
@[simp] theorem State.modParcel_scribe (id : Nat) (f : TxParcel → TxParcel) : (State.modParcel s id f).scribe = s.scribe := rfl
@[simp] theorem State.modParcel_tests (id : Nat) (f : TxParcel → TxParcel) : (State.modParcel s id f).tests = s.tests := rfl
@[simp] theorem State.modParcel_mail (id : Nat) (f : TxParcel → TxParcel) : (State.modParcel s id f).mail = s.mail := rfl
@[simp] theorem State.modParcel_out (id : Nat) (f : TxParcel → TxParcel) : (State.modParcel s id f).out = s.out := rfl
@[simp] theorem State.modParcel_fresh (id : Nat) (f : TxParcel → TxParcel) : (State.modParcel s id f).fresh = s.fresh := rfl
@[simp] theorem State.modParcel_pending (id : Nat) (f : TxParcel → TxParcel) : (State.modParcel s id f).pending = s.pending := rfl

@[simp] theorem State.addParcel_parts (f : Nat → TxParcel) : (State.addParcel s f).parts = s.parts := rfl
@[simp] theorem State.addParcel_cmds (f : Nat → TxParcel) : (State.addParcel s f).cmds = s.cmds := rfl
@[simp] theorem State.addParcel_inl (f : Nat → TxParcel) : (State.addParcel s f).inl = s.inl := rfl
@[simp] theorem State.addParcel_sill (f : Nat → TxParcel) : (State.addParcel s f).sill = s.sill := rfl
@[simp] theorem State.addParcel_pegs (f : Nat → TxParcel) : (State.addParcel s f).pegs = s.pegs := rfl
@[simp] theorem State.addParcel_cal (f : Nat → TxParcel) : (State.addParcel s f).cal = s.cal := rfl
@[simp] theorem State.addParcel_damper (f : Nat → TxParcel) : (State.addParcel s f).damper = s.damper := rfl
@[simp] theorem State.addParcel_kp (f : Nat → TxParcel) : (State.addParcel s f).kp = s.kp := rfl
@[simp] theorem State.addParcel_vs (f : Nat → TxParcel) : (State.addParcel s f).vs = s.vs := rfl
@[simp] theorem State.addParcel_plumb (f : Nat → TxParcel) : (State.addParcel s f).plumb = s.plumb := rfl
@[simp] theorem State.addParcel_start (f : Nat → TxParcel) : (State.addParcel s f).start = s.start := rfl
@[simp] theorem State.addParcel_fuses (f : Nat → TxParcel) : (State.addParcel s f).fuses = s.fuses := rfl
@[simp] theorem State.addParcel_debugs (f : Nat → TxParcel) : (State.addParcel s f).debugs = s.debugs := rfl
@[simp] theorem State.addParcel_ret (f : Nat → TxParcel) : (State.addParcel s f).ret = s.ret := rfl
@[simp] theorem State.addParcel_scribe (f : Nat → TxParcel) : (State.addParcel s f).scribe = s.scribe := rfl
@[simp] theorem State.addParcel_tests (f : Nat → TxParcel) : (State.addParcel s f).tests = s.tests := rfl
@[simp] theorem State.addParcel_mail (f : Nat → TxParcel) : (State.addParcel s f).mail = s.mail := rfl
@[simp] theorem State.addParcel_out (f : Nat → TxParcel) : (State.addParcel s f).out = s.out := rfl
@[simp] theorem State.addParcel_fresh (f : Nat → TxParcel) : (State.addParcel s f).fresh = s.fresh := rfl
@[simp] theorem State.addParcel_pending (f : Nat → TxParcel) : (State.addParcel s f).pending = s.pending := rfl

@[simp] theorem State.modTrace_parts (n : Nat) (f : TraceSlot → TraceSlot) : (State.modTrace s n f).parts = s.parts := rfl
@[simp] theorem State.modTrace_cmds (n : Nat) (f : TraceSlot → TraceSlot) : (State.modTrace s n f).cmds = s.cmds := rfl
@[simp] theorem State.modTrace_gl (n : Nat) (f : TraceSlot → TraceSlot) : (State.modTrace s n f).gl = s.gl := rfl
@[simp] theorem State.modTrace_inl (n : Nat) (f : TraceSlot → TraceSlot) : (State.modTrace s n f).inl = s.inl := rfl
@[simp] theorem State.modTrace_sill (n : Nat) (f : TraceSlot → TraceSlot) : (State.modTrace s n f).sill = s.sill := rfl
@[simp] theorem State.modTrace_pegs (n : Nat) (f : TraceSlot → TraceSlot) : (State.modTrace s n f).pegs = s.pegs := rfl
@[simp] theorem State.modTrace_cal (n : Nat) (f : TraceSlot → TraceSlot) : (State.modTrace s n f).cal = s.cal := rfl
@[simp] theorem State.modTrace_damper (n : Nat) (f : TraceSlot → TraceSlot) : (State.modTrace s n f).damper = s.damper := rfl
@[simp] theorem State.modTrace_kp (n : Nat) (f : TraceSlot → TraceSlot) : (State.modTrace s n f).kp = s.kp := rfl
@[simp] theorem State.modTrace_vs (n : Nat) (f : TraceSlot → TraceSlot) : (State.modTrace s n f).vs = s.vs := rfl
@[simp] theorem State.modTrace_plumb (n : Nat) (f : TraceSlot → TraceSlot) : (State.modTrace s n f).plumb = s.plumb := rfl
@[simp] theorem State.modTrace_start (n : Nat) (f : TraceSlot → TraceSlot) : (State.modTrace s n f).start = s.start := rfl
@[simp] theorem State.modTrace_fuses (n : Nat) (f : TraceSlot → TraceSlot) : (State.modTrace s n f).fuses = s.fuses := rfl
@[simp] theorem State.modTrace_debugs (n : Nat) (f : TraceSlot → TraceSlot) : (State.modTrace s n f).debugs = s.debugs := rfl
@[simp] theorem State.modTrace_ret (n : Nat) (f : TraceSlot → TraceSlot) : (State.modTrace s n f).ret = s.ret := rfl
@[simp] theorem State.modTrace_tests (n : Nat) (f : TraceSlot → TraceSlot) : (State.modTrace s n f).tests = s.tests := rfl
@[simp] theorem State.modTrace_mail (n : Nat) (f : TraceSlot → TraceSlot) : (State.modTrace s n f).mail = s.mail := rfl
@[simp] theorem State.modTrace_out (n : Nat) (f : TraceSlot → TraceSlot) : (State.modTrace s n f).out = s.out := rfl
@[simp] theorem State.modTrace_fresh (n : Nat) (f : TraceSlot → TraceSlot) : (State.modTrace s n f).fresh = s.fresh := rfl
@[simp] theorem State.modTrace_pending (n : Nat) (f : TraceSlot → TraceSlot) : (State.modTrace s n f).pending = s.pending := rfl

@[simp] theorem State.land_parts (r : CmdRef) : (State.land s r).parts = s.parts := rfl
@[simp] theorem State.land_gl (r : CmdRef) : (State.land s r).gl = s.gl := rfl
@[simp] theorem State.land_inl (r : CmdRef) : (State.land s r).inl = s.inl := rfl
@[simp] theorem State.land_sill (r : CmdRef) : (State.land s r).sill = s.sill := rfl
@[simp] theorem State.land_pegs (r : CmdRef) : (State.land s r).pegs = s.pegs := rfl
@[simp] theorem State.land_cal (r : CmdRef) : (State.land s r).cal = s.cal := rfl
@[simp] theorem State.land_damper (r : CmdRef) : (State.land s r).damper = s.damper := rfl
@[simp] theorem State.land_kp (r : CmdRef) : (State.land s r).kp = s.kp := rfl
@[simp] theorem State.land_vs (r : CmdRef) : (State.land s r).vs = s.vs := rfl
@[simp] theorem State.land_plumb (r : CmdRef) : (State.land s r).plumb = s.plumb := rfl
@[simp] theorem State.land_start (r : CmdRef) : (State.land s r).start = s.start := rfl
@[simp] theorem State.land_fuses (r : CmdRef) : (State.land s r).fuses = s.fuses := rfl
@[simp] theorem State.land_debugs (r : CmdRef) : (State.land s r).debugs = s.debugs := rfl
@[simp] theorem State.land_ret (r : CmdRef) : (State.land s r).ret = s.ret := rfl
@[simp] theorem State.land_scribe (r : CmdRef) : (State.land s r).scribe = s.scribe := rfl
@[simp] theorem State.land_tests (r : CmdRef) : (State.land s r).tests = s.tests := rfl
@[simp] theorem State.land_mail (r : CmdRef) : (State.land s r).mail = s.mail := rfl
@[simp] theorem State.land_out (r : CmdRef) : (State.land s r).out = s.out := rfl
@[simp] theorem State.land_fresh (r : CmdRef) : (State.land s r).fresh = s.fresh := rfl
@[simp] theorem State.land_pending (r : CmdRef) : (State.land s r).pending = s.pending := rfl

@[simp] theorem hold_parts (r : CmdRef) : (hold r s).parts = s.parts := rfl
@[simp] theorem hold_gl (r : CmdRef) : (hold r s).gl = s.gl := rfl
@[simp] theorem hold_inl (r : CmdRef) : (hold r s).inl = s.inl := rfl
@[simp] theorem hold_sill (r : CmdRef) : (hold r s).sill = s.sill := rfl
@[simp] theorem hold_pegs (r : CmdRef) : (hold r s).pegs = s.pegs := rfl
@[simp] theorem hold_cal (r : CmdRef) : (hold r s).cal = s.cal := rfl
@[simp] theorem hold_damper (r : CmdRef) : (hold r s).damper = s.damper := rfl
@[simp] theorem hold_kp (r : CmdRef) : (hold r s).kp = s.kp := rfl
@[simp] theorem hold_vs (r : CmdRef) : (hold r s).vs = s.vs := rfl
@[simp] theorem hold_plumb (r : CmdRef) : (hold r s).plumb = s.plumb := rfl
@[simp] theorem hold_start (r : CmdRef) : (hold r s).start = s.start := rfl
@[simp] theorem hold_fuses (r : CmdRef) : (hold r s).fuses = s.fuses := rfl
@[simp] theorem hold_debugs (r : CmdRef) : (hold r s).debugs = s.debugs := rfl
@[simp] theorem hold_ret (r : CmdRef) : (hold r s).ret = s.ret := rfl
@[simp] theorem hold_scribe (r : CmdRef) : (hold r s).scribe = s.scribe := rfl
@[simp] theorem hold_tests (r : CmdRef) : (hold r s).tests = s.tests := rfl
@[simp] theorem hold_mail (r : CmdRef) : (hold r s).mail = s.mail := rfl
@[simp] theorem hold_out (r : CmdRef) : (hold r s).out = s.out := rfl
@[simp] theorem hold_fresh (r : CmdRef) : (hold r s).fresh = s.fresh := rfl
@[simp] theorem hold_pending (r : CmdRef) : (hold r s).pending = s.pending := rfl

@[simp] theorem State.modPeg_parts (idx : Nat) (f : Peg → Peg) : (State.modPeg s idx f).parts = s.parts := rfl
@[simp] theorem State.modPeg_cmds (idx : Nat) (f : Peg → Peg) : (State.modPeg s idx f).cmds = s.cmds := rfl
@[simp] theorem State.modPeg_gl (idx : Nat) (f : Peg → Peg) : (State.modPeg s idx f).gl = s.gl := rfl
@[simp] theorem State.modPeg_inl (idx : Nat) (f : Peg → Peg) : (State.modPeg s idx f).inl = s.inl := rfl
@[simp] theorem State.modPeg_sill (idx : Nat) (f : Peg → Peg) : (State.modPeg s idx f).sill = s.sill := rfl
@[simp] theorem State.modPeg_cal (idx : Nat) (f : Peg → Peg) : (State.modPeg s idx f).cal = s.cal := rfl
@[simp] theorem State.modPeg_damper (idx : Nat) (f : Peg → Peg) : (State.modPeg s idx f).damper = s.damper := rfl
@[simp] theorem State.modPeg_kp (idx : Nat) (f : Peg → Peg) : (State.modPeg s idx f).kp = s.kp := rfl
@[simp] theorem State.modPeg_vs (idx : Nat) (f : Peg → Peg) : (State.modPeg s idx f).vs = s.vs := rfl
@[simp] theorem State.modPeg_plumb (idx : Nat) (f : Peg → Peg) : (State.modPeg s idx f).plumb = s.plumb := rfl
@[simp] theorem State.modPeg_start (idx : Nat) (f : Peg → Peg) : (State.modPeg s idx f).start = s.start := rfl
@[simp] theorem State.modPeg_fuses (idx : Nat) (f : Peg → Peg) : (State.modPeg s idx f).fuses = s.fuses := rfl
@[simp] theorem State.modPeg_debugs (idx : Nat) (f : Peg → Peg) : (State.modPeg s idx f).debugs = s.debugs := rfl
@[simp] theorem State.modPeg_ret (idx : Nat) (f : Peg → Peg) : (State.modPeg s idx f).ret = s.ret := rfl
@[simp] theorem State.modPeg_scribe (idx : Nat) (f : Peg → Peg) : (State.modPeg s idx f).scribe = s.scribe := rfl
@[simp] theorem State.modPeg_tests (idx : Nat) (f : Peg → Peg) : (State.modPeg s idx f).tests = s.tests := rfl
@[simp] theorem State.modPeg_mail (idx : Nat) (f : Peg → Peg) : (State.modPeg s idx f).mail = s.mail := rfl
@[simp] theorem State.modPeg_out (idx : Nat) (f : Peg → Peg) : (State.modPeg s idx f).out = s.out := rfl
@[simp] theorem State.modPeg_fresh (idx : Nat) (f : Peg → Peg) : (State.modPeg s idx f).fresh = s.fresh := rfl
@[simp] theorem State.modPeg_pending (idx : Nat) (f : Peg → Peg) : (State.modPeg s idx f).pending = s.pending := rfl

@[simp] theorem State.dropWaiter_parts (w : Waiter) : (State.dropWaiter s w).parts = s.parts := rfl
@[simp] theorem State.dropWaiter_cmds (w : Waiter) : (State.dropWaiter s w).cmds = s.cmds := rfl
@[simp] theorem State.dropWaiter_gl (w : Waiter) : (State.dropWaiter s w).gl = s.gl := rfl
@[simp] theorem State.dropWaiter_inl (w : Waiter) : (State.dropWaiter s w).inl = s.inl := rfl
@[simp] theorem State.dropWaiter_sill (w : Waiter) : (State.dropWaiter s w).sill = s.sill := rfl
@[simp] theorem State.dropWaiter_cal (w : Waiter) : (State.dropWaiter s w).cal = s.cal := rfl
@[simp] theorem State.dropWaiter_damper (w : Waiter) : (State.dropWaiter s w).damper = s.damper := rfl
@[simp] theorem State.dropWaiter_kp (w : Waiter) : (State.dropWaiter s w).kp = s.kp := rfl
@[simp] theorem State.dropWaiter_vs (w : Waiter) : (State.dropWaiter s w).vs = s.vs := rfl
@[simp] theorem State.dropWaiter_plumb (w : Waiter) : (State.dropWaiter s w).plumb = s.plumb := rfl
@[simp] theorem State.dropWaiter_start (w : Waiter) : (State.dropWaiter s w).start = s.start := rfl
@[simp] theorem State.dropWaiter_fuses (w : Waiter) : (State.dropWaiter s w).fuses = s.fuses := rfl
@[simp] theorem State.dropWaiter_debugs (w : Waiter) : (State.dropWaiter s w).debugs = s.debugs := rfl
@[simp] theorem State.dropWaiter_ret (w : Waiter) : (State.dropWaiter s w).ret = s.ret := rfl
@[simp] theorem State.dropWaiter_scribe (w : Waiter) : (State.dropWaiter s w).scribe = s.scribe := rfl
@[simp] theorem State.dropWaiter_tests (w : Waiter) : (State.dropWaiter s w).tests = s.tests := rfl
@[simp] theorem State.dropWaiter_mail (w : Waiter) : (State.dropWaiter s w).mail = s.mail := rfl
@[simp] theorem State.dropWaiter_out (w : Waiter) : (State.dropWaiter s w).out = s.out := rfl
@[simp] theorem State.dropWaiter_fresh (w : Waiter) : (State.dropWaiter s w).fresh = s.fresh := rfl
@[simp] theorem State.dropWaiter_pending (w : Waiter) : (State.dropWaiter s w).pending = s.pending := rfl

@[simp] theorem State.modWaiter_parts (ref : CmdRef) (f : Waiter → Waiter) : (State.modWaiter s ref f).parts = s.parts := rfl
@[simp] theorem State.modWaiter_cmds (ref : CmdRef) (f : Waiter → Waiter) : (State.modWaiter s ref f).cmds = s.cmds := rfl
@[simp] theorem State.modWaiter_gl (ref : CmdRef) (f : Waiter → Waiter) : (State.modWaiter s ref f).gl = s.gl := rfl
@[simp] theorem State.modWaiter_inl (ref : CmdRef) (f : Waiter → Waiter) : (State.modWaiter s ref f).inl = s.inl := rfl
@[simp] theorem State.modWaiter_sill (ref : CmdRef) (f : Waiter → Waiter) : (State.modWaiter s ref f).sill = s.sill := rfl
@[simp] theorem State.modWaiter_cal (ref : CmdRef) (f : Waiter → Waiter) : (State.modWaiter s ref f).cal = s.cal := rfl
@[simp] theorem State.modWaiter_damper (ref : CmdRef) (f : Waiter → Waiter) : (State.modWaiter s ref f).damper = s.damper := rfl
@[simp] theorem State.modWaiter_kp (ref : CmdRef) (f : Waiter → Waiter) : (State.modWaiter s ref f).kp = s.kp := rfl
@[simp] theorem State.modWaiter_vs (ref : CmdRef) (f : Waiter → Waiter) : (State.modWaiter s ref f).vs = s.vs := rfl
@[simp] theorem State.modWaiter_plumb (ref : CmdRef) (f : Waiter → Waiter) : (State.modWaiter s ref f).plumb = s.plumb := rfl
@[simp] theorem State.modWaiter_start (ref : CmdRef) (f : Waiter → Waiter) : (State.modWaiter s ref f).start = s.start := rfl
@[simp] theorem State.modWaiter_fuses (ref : CmdRef) (f : Waiter → Waiter) : (State.modWaiter s ref f).fuses = s.fuses := rfl
@[simp] theorem State.modWaiter_debugs (ref : CmdRef) (f : Waiter → Waiter) : (State.modWaiter s ref f).debugs = s.debugs := rfl
@[simp] theorem State.modWaiter_ret (ref : CmdRef) (f : Waiter → Waiter) : (State.modWaiter s ref f).ret = s.ret := rfl
@[simp] theorem State.modWaiter_scribe (ref : CmdRef) (f : Waiter → Waiter) : (State.modWaiter s ref f).scribe = s.scribe := rfl
@[simp] theorem State.modWaiter_tests (ref : CmdRef) (f : Waiter → Waiter) : (State.modWaiter s ref f).tests = s.tests := rfl
@[simp] theorem State.modWaiter_mail (ref : CmdRef) (f : Waiter → Waiter) : (State.modWaiter s ref f).mail = s.mail := rfl
@[simp] theorem State.modWaiter_out (ref : CmdRef) (f : Waiter → Waiter) : (State.modWaiter s ref f).out = s.out := rfl
@[simp] theorem State.modWaiter_fresh (ref : CmdRef) (f : Waiter → Waiter) : (State.modWaiter s ref f).fresh = s.fresh := rfl
@[simp] theorem State.modWaiter_pending (ref : CmdRef) (f : Waiter → Waiter) : (State.modWaiter s ref f).pending = s.pending := rfl

@[simp] theorem State.modLane_parts (g : Nat) (f : GuardLane → GuardLane) : (State.modLane s g f).parts = s.parts := rfl
@[simp] theorem State.modLane_cmds (g : Nat) (f : GuardLane → GuardLane) : (State.modLane s g f).cmds = s.cmds := rfl
@[simp] theorem State.modLane_gl (g : Nat) (f : GuardLane → GuardLane) : (State.modLane s g f).gl = s.gl := rfl
@[simp] theorem State.modLane_inl (g : Nat) (f : GuardLane → GuardLane) : (State.modLane s g f).inl = s.inl := rfl
@[simp] theorem State.modLane_pegs (g : Nat) (f : GuardLane → GuardLane) : (State.modLane s g f).pegs = s.pegs := rfl
@[simp] theorem State.modLane_cal (g : Nat) (f : GuardLane → GuardLane) : (State.modLane s g f).cal = s.cal := rfl
@[simp] theorem State.modLane_damper (g : Nat) (f : GuardLane → GuardLane) : (State.modLane s g f).damper = s.damper := rfl
@[simp] theorem State.modLane_kp (g : Nat) (f : GuardLane → GuardLane) : (State.modLane s g f).kp = s.kp := rfl
@[simp] theorem State.modLane_vs (g : Nat) (f : GuardLane → GuardLane) : (State.modLane s g f).vs = s.vs := rfl
@[simp] theorem State.modLane_plumb (g : Nat) (f : GuardLane → GuardLane) : (State.modLane s g f).plumb = s.plumb := rfl
@[simp] theorem State.modLane_start (g : Nat) (f : GuardLane → GuardLane) : (State.modLane s g f).start = s.start := rfl
@[simp] theorem State.modLane_fuses (g : Nat) (f : GuardLane → GuardLane) : (State.modLane s g f).fuses = s.fuses := rfl
@[simp] theorem State.modLane_debugs (g : Nat) (f : GuardLane → GuardLane) : (State.modLane s g f).debugs = s.debugs := rfl
@[simp] theorem State.modLane_ret (g : Nat) (f : GuardLane → GuardLane) : (State.modLane s g f).ret = s.ret := rfl
@[simp] theorem State.modLane_scribe (g : Nat) (f : GuardLane → GuardLane) : (State.modLane s g f).scribe = s.scribe := rfl
@[simp] theorem State.modLane_tests (g : Nat) (f : GuardLane → GuardLane) : (State.modLane s g f).tests = s.tests := rfl
@[simp] theorem State.modLane_mail (g : Nat) (f : GuardLane → GuardLane) : (State.modLane s g f).mail = s.mail := rfl
@[simp] theorem State.modLane_out (g : Nat) (f : GuardLane → GuardLane) : (State.modLane s g f).out = s.out := rfl
@[simp] theorem State.modLane_fresh (g : Nat) (f : GuardLane → GuardLane) : (State.modLane s g f).fresh = s.fresh := rfl
@[simp] theorem State.modLane_pending (g : Nat) (f : GuardLane → GuardLane) : (State.modLane s g f).pending = s.pending := rfl

@[simp] theorem State.setRecord_parts (r : CtrRecord) : (State.setRecord s r).parts = s.parts := rfl
@[simp] theorem State.setRecord_cmds (r : CtrRecord) : (State.setRecord s r).cmds = s.cmds := rfl
@[simp] theorem State.setRecord_gl (r : CtrRecord) : (State.setRecord s r).gl = s.gl := rfl
@[simp] theorem State.setRecord_inl (r : CtrRecord) : (State.setRecord s r).inl = s.inl := rfl
@[simp] theorem State.setRecord_pegs (r : CtrRecord) : (State.setRecord s r).pegs = s.pegs := rfl
@[simp] theorem State.setRecord_cal (r : CtrRecord) : (State.setRecord s r).cal = s.cal := rfl
@[simp] theorem State.setRecord_damper (r : CtrRecord) : (State.setRecord s r).damper = s.damper := rfl
@[simp] theorem State.setRecord_kp (r : CtrRecord) : (State.setRecord s r).kp = s.kp := rfl
@[simp] theorem State.setRecord_vs (r : CtrRecord) : (State.setRecord s r).vs = s.vs := rfl
@[simp] theorem State.setRecord_plumb (r : CtrRecord) : (State.setRecord s r).plumb = s.plumb := rfl
@[simp] theorem State.setRecord_start (r : CtrRecord) : (State.setRecord s r).start = s.start := rfl
@[simp] theorem State.setRecord_fuses (r : CtrRecord) : (State.setRecord s r).fuses = s.fuses := rfl
@[simp] theorem State.setRecord_debugs (r : CtrRecord) : (State.setRecord s r).debugs = s.debugs := rfl
@[simp] theorem State.setRecord_ret (r : CtrRecord) : (State.setRecord s r).ret = s.ret := rfl
@[simp] theorem State.setRecord_scribe (r : CtrRecord) : (State.setRecord s r).scribe = s.scribe := rfl
@[simp] theorem State.setRecord_tests (r : CtrRecord) : (State.setRecord s r).tests = s.tests := rfl
@[simp] theorem State.setRecord_mail (r : CtrRecord) : (State.setRecord s r).mail = s.mail := rfl
@[simp] theorem State.setRecord_out (r : CtrRecord) : (State.setRecord s r).out = s.out := rfl
@[simp] theorem State.setRecord_fresh (r : CtrRecord) : (State.setRecord s r).fresh = s.fresh := rfl
@[simp] theorem State.setRecord_pending (r : CtrRecord) : (State.setRecord s r).pending = s.pending := rfl

@[simp] theorem State.modAccess_parts (id : Nat) (f : MemAccess → MemAccess) : (State.modAccess s id f).parts = s.parts := rfl
@[simp] theorem State.modAccess_cmds (id : Nat) (f : MemAccess → MemAccess) : (State.modAccess s id f).cmds = s.cmds := rfl
@[simp] theorem State.modAccess_gl (id : Nat) (f : MemAccess → MemAccess) : (State.modAccess s id f).gl = s.gl := rfl
@[simp] theorem State.modAccess_inl (id : Nat) (f : MemAccess → MemAccess) : (State.modAccess s id f).inl = s.inl := rfl
@[simp] theorem State.modAccess_pegs (id : Nat) (f : MemAccess → MemAccess) : (State.modAccess s id f).pegs = s.pegs := rfl
@[simp] theorem State.modAccess_cal (id : Nat) (f : MemAccess → MemAccess) : (State.modAccess s id f).cal = s.cal := rfl
@[simp] theorem State.modAccess_damper (id : Nat) (f : MemAccess → MemAccess) : (State.modAccess s id f).damper = s.damper := rfl
@[simp] theorem State.modAccess_kp (id : Nat) (f : MemAccess → MemAccess) : (State.modAccess s id f).kp = s.kp := rfl
@[simp] theorem State.modAccess_vs (id : Nat) (f : MemAccess → MemAccess) : (State.modAccess s id f).vs = s.vs := rfl
@[simp] theorem State.modAccess_plumb (id : Nat) (f : MemAccess → MemAccess) : (State.modAccess s id f).plumb = s.plumb := rfl
@[simp] theorem State.modAccess_start (id : Nat) (f : MemAccess → MemAccess) : (State.modAccess s id f).start = s.start := rfl
@[simp] theorem State.modAccess_fuses (id : Nat) (f : MemAccess → MemAccess) : (State.modAccess s id f).fuses = s.fuses := rfl
@[simp] theorem State.modAccess_debugs (id : Nat) (f : MemAccess → MemAccess) : (State.modAccess s id f).debugs = s.debugs := rfl
@[simp] theorem State.modAccess_ret (id : Nat) (f : MemAccess → MemAccess) : (State.modAccess s id f).ret = s.ret := rfl
@[simp] theorem State.modAccess_scribe (id : Nat) (f : MemAccess → MemAccess) : (State.modAccess s id f).scribe = s.scribe := rfl
@[simp] theorem State.modAccess_tests (id : Nat) (f : MemAccess → MemAccess) : (State.modAccess s id f).tests = s.tests := rfl
@[simp] theorem State.modAccess_mail (id : Nat) (f : MemAccess → MemAccess) : (State.modAccess s id f).mail = s.mail := rfl
@[simp] theorem State.modAccess_out (id : Nat) (f : MemAccess → MemAccess) : (State.modAccess s id f).out = s.out := rfl
@[simp] theorem State.modAccess_fresh (id : Nat) (f : MemAccess → MemAccess) : (State.modAccess s id f).fresh = s.fresh := rfl
@[simp] theorem State.modAccess_pending (id : Nat) (f : MemAccess → MemAccess) : (State.modAccess s id f).pending = s.pending := rfl

@[simp] theorem State.dropAccess_parts (id : Nat) : (State.dropAccess s id).parts = s.parts := rfl
@[simp] theorem State.dropAccess_cmds (id : Nat) : (State.dropAccess s id).cmds = s.cmds := rfl
@[simp] theorem State.dropAccess_gl (id : Nat) : (State.dropAccess s id).gl = s.gl := rfl
@[simp] theorem State.dropAccess_inl (id : Nat) : (State.dropAccess s id).inl = s.inl := rfl
@[simp] theorem State.dropAccess_pegs (id : Nat) : (State.dropAccess s id).pegs = s.pegs := rfl
@[simp] theorem State.dropAccess_cal (id : Nat) : (State.dropAccess s id).cal = s.cal := rfl
@[simp] theorem State.dropAccess_damper (id : Nat) : (State.dropAccess s id).damper = s.damper := rfl
@[simp] theorem State.dropAccess_kp (id : Nat) : (State.dropAccess s id).kp = s.kp := rfl
@[simp] theorem State.dropAccess_vs (id : Nat) : (State.dropAccess s id).vs = s.vs := rfl
@[simp] theorem State.dropAccess_plumb (id : Nat) : (State.dropAccess s id).plumb = s.plumb := rfl
@[simp] theorem State.dropAccess_start (id : Nat) : (State.dropAccess s id).start = s.start := rfl
@[simp] theorem State.dropAccess_fuses (id : Nat) : (State.dropAccess s id).fuses = s.fuses := rfl
@[simp] theorem State.dropAccess_debugs (id : Nat) : (State.dropAccess s id).debugs = s.debugs := rfl
@[simp] theorem State.dropAccess_ret (id : Nat) : (State.dropAccess s id).ret = s.ret := rfl
@[simp] theorem State.dropAccess_scribe (id : Nat) : (State.dropAccess s id).scribe = s.scribe := rfl
@[simp] theorem State.dropAccess_tests (id : Nat) : (State.dropAccess s id).tests = s.tests := rfl
@[simp] theorem State.dropAccess_mail (id : Nat) : (State.dropAccess s id).mail = s.mail := rfl
@[simp] theorem State.dropAccess_out (id : Nat) : (State.dropAccess s id).out = s.out := rfl
@[simp] theorem State.dropAccess_fresh (id : Nat) : (State.dropAccess s id).fresh = s.fresh := rfl
@[simp] theorem State.dropAccess_pending (id : Nat) : (State.dropAccess s id).pending = s.pending := rfl

@[simp] theorem State.dropSled_parts (q : SledReq) : (State.dropSled s q).parts = s.parts := rfl
@[simp] theorem State.dropSled_cmds (q : SledReq) : (State.dropSled s q).cmds = s.cmds := rfl
@[simp] theorem State.dropSled_gl (q : SledReq) : (State.dropSled s q).gl = s.gl := rfl
@[simp] theorem State.dropSled_inl (q : SledReq) : (State.dropSled s q).inl = s.inl := rfl
@[simp] theorem State.dropSled_pegs (q : SledReq) : (State.dropSled s q).pegs = s.pegs := rfl
@[simp] theorem State.dropSled_cal (q : SledReq) : (State.dropSled s q).cal = s.cal := rfl
@[simp] theorem State.dropSled_damper (q : SledReq) : (State.dropSled s q).damper = s.damper := rfl
@[simp] theorem State.dropSled_kp (q : SledReq) : (State.dropSled s q).kp = s.kp := rfl
@[simp] theorem State.dropSled_vs (q : SledReq) : (State.dropSled s q).vs = s.vs := rfl
@[simp] theorem State.dropSled_plumb (q : SledReq) : (State.dropSled s q).plumb = s.plumb := rfl
@[simp] theorem State.dropSled_start (q : SledReq) : (State.dropSled s q).start = s.start := rfl
@[simp] theorem State.dropSled_fuses (q : SledReq) : (State.dropSled s q).fuses = s.fuses := rfl
@[simp] theorem State.dropSled_debugs (q : SledReq) : (State.dropSled s q).debugs = s.debugs := rfl
@[simp] theorem State.dropSled_ret (q : SledReq) : (State.dropSled s q).ret = s.ret := rfl
@[simp] theorem State.dropSled_scribe (q : SledReq) : (State.dropSled s q).scribe = s.scribe := rfl
@[simp] theorem State.dropSled_tests (q : SledReq) : (State.dropSled s q).tests = s.tests := rfl
@[simp] theorem State.dropSled_mail (q : SledReq) : (State.dropSled s q).mail = s.mail := rfl
@[simp] theorem State.dropSled_out (q : SledReq) : (State.dropSled s q).out = s.out := rfl
@[simp] theorem State.dropSled_fresh (q : SledReq) : (State.dropSled s q).fresh = s.fresh := rfl
@[simp] theorem State.dropSled_pending (q : SledReq) : (State.dropSled s q).pending = s.pending := rfl

@[simp] theorem releaseHeld_parts (access addr : Nat) : (releaseHeld access addr s).parts = s.parts := rfl
@[simp] theorem releaseHeld_cmds (access addr : Nat) : (releaseHeld access addr s).cmds = s.cmds := rfl
@[simp] theorem releaseHeld_gl (access addr : Nat) : (releaseHeld access addr s).gl = s.gl := rfl
@[simp] theorem releaseHeld_inl (access addr : Nat) : (releaseHeld access addr s).inl = s.inl := rfl
@[simp] theorem releaseHeld_pegs (access addr : Nat) : (releaseHeld access addr s).pegs = s.pegs := rfl
@[simp] theorem releaseHeld_cal (access addr : Nat) : (releaseHeld access addr s).cal = s.cal := rfl
@[simp] theorem releaseHeld_damper (access addr : Nat) : (releaseHeld access addr s).damper = s.damper := rfl
@[simp] theorem releaseHeld_kp (access addr : Nat) : (releaseHeld access addr s).kp = s.kp := rfl
@[simp] theorem releaseHeld_vs (access addr : Nat) : (releaseHeld access addr s).vs = s.vs := rfl
@[simp] theorem releaseHeld_plumb (access addr : Nat) : (releaseHeld access addr s).plumb = s.plumb := rfl
@[simp] theorem releaseHeld_start (access addr : Nat) : (releaseHeld access addr s).start = s.start := rfl
@[simp] theorem releaseHeld_fuses (access addr : Nat) : (releaseHeld access addr s).fuses = s.fuses := rfl
@[simp] theorem releaseHeld_debugs (access addr : Nat) : (releaseHeld access addr s).debugs = s.debugs := rfl
@[simp] theorem releaseHeld_ret (access addr : Nat) : (releaseHeld access addr s).ret = s.ret := rfl
@[simp] theorem releaseHeld_scribe (access addr : Nat) : (releaseHeld access addr s).scribe = s.scribe := rfl
@[simp] theorem releaseHeld_tests (access addr : Nat) : (releaseHeld access addr s).tests = s.tests := rfl
@[simp] theorem releaseHeld_mail (access addr : Nat) : (releaseHeld access addr s).mail = s.mail := rfl
@[simp] theorem releaseHeld_out (access addr : Nat) : (releaseHeld access addr s).out = s.out := rfl
@[simp] theorem releaseHeld_fresh (access addr : Nat) : (releaseHeld access addr s).fresh = s.fresh := rfl
@[simp] theorem releaseHeld_pending (access addr : Nat) : (releaseHeld access addr s).pending = s.pending := rfl

@[simp] theorem State.modResv_parts (entry : Nat) (f : Resv → Resv) : (State.modResv s entry f).parts = s.parts := rfl
@[simp] theorem State.modResv_cmds (entry : Nat) (f : Resv → Resv) : (State.modResv s entry f).cmds = s.cmds := rfl
@[simp] theorem State.modResv_gl (entry : Nat) (f : Resv → Resv) : (State.modResv s entry f).gl = s.gl := rfl
@[simp] theorem State.modResv_inl (entry : Nat) (f : Resv → Resv) : (State.modResv s entry f).inl = s.inl := rfl
@[simp] theorem State.modResv_sill (entry : Nat) (f : Resv → Resv) : (State.modResv s entry f).sill = s.sill := rfl
@[simp] theorem State.modResv_pegs (entry : Nat) (f : Resv → Resv) : (State.modResv s entry f).pegs = s.pegs := rfl
@[simp] theorem State.modResv_damper (entry : Nat) (f : Resv → Resv) : (State.modResv s entry f).damper = s.damper := rfl
@[simp] theorem State.modResv_kp (entry : Nat) (f : Resv → Resv) : (State.modResv s entry f).kp = s.kp := rfl
@[simp] theorem State.modResv_vs (entry : Nat) (f : Resv → Resv) : (State.modResv s entry f).vs = s.vs := rfl
@[simp] theorem State.modResv_plumb (entry : Nat) (f : Resv → Resv) : (State.modResv s entry f).plumb = s.plumb := rfl
@[simp] theorem State.modResv_start (entry : Nat) (f : Resv → Resv) : (State.modResv s entry f).start = s.start := rfl
@[simp] theorem State.modResv_fuses (entry : Nat) (f : Resv → Resv) : (State.modResv s entry f).fuses = s.fuses := rfl
@[simp] theorem State.modResv_debugs (entry : Nat) (f : Resv → Resv) : (State.modResv s entry f).debugs = s.debugs := rfl
@[simp] theorem State.modResv_ret (entry : Nat) (f : Resv → Resv) : (State.modResv s entry f).ret = s.ret := rfl
@[simp] theorem State.modResv_scribe (entry : Nat) (f : Resv → Resv) : (State.modResv s entry f).scribe = s.scribe := rfl
@[simp] theorem State.modResv_tests (entry : Nat) (f : Resv → Resv) : (State.modResv s entry f).tests = s.tests := rfl
@[simp] theorem State.modResv_mail (entry : Nat) (f : Resv → Resv) : (State.modResv s entry f).mail = s.mail := rfl
@[simp] theorem State.modResv_out (entry : Nat) (f : Resv → Resv) : (State.modResv s entry f).out = s.out := rfl
@[simp] theorem State.modResv_fresh (entry : Nat) (f : Resv → Resv) : (State.modResv s entry f).fresh = s.fresh := rfl
@[simp] theorem State.modResv_pending (entry : Nat) (f : Resv → Resv) : (State.modResv s entry f).pending = s.pending := rfl

@[simp] theorem State.setShaper_parts (h : Shaper) : (State.setShaper s h).parts = s.parts := rfl
@[simp] theorem State.setShaper_cmds (h : Shaper) : (State.setShaper s h).cmds = s.cmds := rfl
@[simp] theorem State.setShaper_gl (h : Shaper) : (State.setShaper s h).gl = s.gl := rfl
@[simp] theorem State.setShaper_inl (h : Shaper) : (State.setShaper s h).inl = s.inl := rfl
@[simp] theorem State.setShaper_sill (h : Shaper) : (State.setShaper s h).sill = s.sill := rfl
@[simp] theorem State.setShaper_pegs (h : Shaper) : (State.setShaper s h).pegs = s.pegs := rfl
@[simp] theorem State.setShaper_damper (h : Shaper) : (State.setShaper s h).damper = s.damper := rfl
@[simp] theorem State.setShaper_kp (h : Shaper) : (State.setShaper s h).kp = s.kp := rfl
@[simp] theorem State.setShaper_vs (h : Shaper) : (State.setShaper s h).vs = s.vs := rfl
@[simp] theorem State.setShaper_plumb (h : Shaper) : (State.setShaper s h).plumb = s.plumb := rfl
@[simp] theorem State.setShaper_start (h : Shaper) : (State.setShaper s h).start = s.start := rfl
@[simp] theorem State.setShaper_fuses (h : Shaper) : (State.setShaper s h).fuses = s.fuses := rfl
@[simp] theorem State.setShaper_debugs (h : Shaper) : (State.setShaper s h).debugs = s.debugs := rfl
@[simp] theorem State.setShaper_ret (h : Shaper) : (State.setShaper s h).ret = s.ret := rfl
@[simp] theorem State.setShaper_scribe (h : Shaper) : (State.setShaper s h).scribe = s.scribe := rfl
@[simp] theorem State.setShaper_tests (h : Shaper) : (State.setShaper s h).tests = s.tests := rfl
@[simp] theorem State.setShaper_mail (h : Shaper) : (State.setShaper s h).mail = s.mail := rfl
@[simp] theorem State.setShaper_out (h : Shaper) : (State.setShaper s h).out = s.out := rfl
@[simp] theorem State.setShaper_fresh (h : Shaper) : (State.setShaper s h).fresh = s.fresh := rfl
@[simp] theorem State.setShaper_pending (h : Shaper) : (State.setShaper s h).pending = s.pending := rfl

@[simp] theorem State.modGroup_parts (part num : Nat) (f : Group → Group) : (State.modGroup s part num f).parts = s.parts := rfl
@[simp] theorem State.modGroup_cmds (part num : Nat) (f : Group → Group) : (State.modGroup s part num f).cmds = s.cmds := rfl
@[simp] theorem State.modGroup_gl (part num : Nat) (f : Group → Group) : (State.modGroup s part num f).gl = s.gl := rfl
@[simp] theorem State.modGroup_sill (part num : Nat) (f : Group → Group) : (State.modGroup s part num f).sill = s.sill := rfl
@[simp] theorem State.modGroup_pegs (part num : Nat) (f : Group → Group) : (State.modGroup s part num f).pegs = s.pegs := rfl
@[simp] theorem State.modGroup_cal (part num : Nat) (f : Group → Group) : (State.modGroup s part num f).cal = s.cal := rfl
@[simp] theorem State.modGroup_damper (part num : Nat) (f : Group → Group) : (State.modGroup s part num f).damper = s.damper := rfl
@[simp] theorem State.modGroup_kp (part num : Nat) (f : Group → Group) : (State.modGroup s part num f).kp = s.kp := rfl
@[simp] theorem State.modGroup_vs (part num : Nat) (f : Group → Group) : (State.modGroup s part num f).vs = s.vs := rfl
@[simp] theorem State.modGroup_plumb (part num : Nat) (f : Group → Group) : (State.modGroup s part num f).plumb = s.plumb := rfl
@[simp] theorem State.modGroup_start (part num : Nat) (f : Group → Group) : (State.modGroup s part num f).start = s.start := rfl
@[simp] theorem State.modGroup_fuses (part num : Nat) (f : Group → Group) : (State.modGroup s part num f).fuses = s.fuses := rfl
@[simp] theorem State.modGroup_debugs (part num : Nat) (f : Group → Group) : (State.modGroup s part num f).debugs = s.debugs := rfl
@[simp] theorem State.modGroup_ret (part num : Nat) (f : Group → Group) : (State.modGroup s part num f).ret = s.ret := rfl
@[simp] theorem State.modGroup_scribe (part num : Nat) (f : Group → Group) : (State.modGroup s part num f).scribe = s.scribe := rfl
@[simp] theorem State.modGroup_tests (part num : Nat) (f : Group → Group) : (State.modGroup s part num f).tests = s.tests := rfl
@[simp] theorem State.modGroup_mail (part num : Nat) (f : Group → Group) : (State.modGroup s part num f).mail = s.mail := rfl
@[simp] theorem State.modGroup_out (part num : Nat) (f : Group → Group) : (State.modGroup s part num f).out = s.out := rfl
@[simp] theorem State.modGroup_fresh (part num : Nat) (f : Group → Group) : (State.modGroup s part num f).fresh = s.fresh := rfl
@[simp] theorem State.modGroup_pending (part num : Nat) (f : Group → Group) : (State.modGroup s part num f).pending = s.pending := rfl

@[simp] theorem State.dropUnfold_parts (r : CmdRef) : (State.dropUnfold s r).parts = s.parts := rfl
@[simp] theorem State.dropUnfold_cmds (r : CmdRef) : (State.dropUnfold s r).cmds = s.cmds := rfl
@[simp] theorem State.dropUnfold_gl (r : CmdRef) : (State.dropUnfold s r).gl = s.gl := rfl
@[simp] theorem State.dropUnfold_sill (r : CmdRef) : (State.dropUnfold s r).sill = s.sill := rfl
@[simp] theorem State.dropUnfold_pegs (r : CmdRef) : (State.dropUnfold s r).pegs = s.pegs := rfl
@[simp] theorem State.dropUnfold_cal (r : CmdRef) : (State.dropUnfold s r).cal = s.cal := rfl
@[simp] theorem State.dropUnfold_damper (r : CmdRef) : (State.dropUnfold s r).damper = s.damper := rfl
@[simp] theorem State.dropUnfold_kp (r : CmdRef) : (State.dropUnfold s r).kp = s.kp := rfl
@[simp] theorem State.dropUnfold_vs (r : CmdRef) : (State.dropUnfold s r).vs = s.vs := rfl
@[simp] theorem State.dropUnfold_plumb (r : CmdRef) : (State.dropUnfold s r).plumb = s.plumb := rfl
@[simp] theorem State.dropUnfold_start (r : CmdRef) : (State.dropUnfold s r).start = s.start := rfl
@[simp] theorem State.dropUnfold_fuses (r : CmdRef) : (State.dropUnfold s r).fuses = s.fuses := rfl
@[simp] theorem State.dropUnfold_debugs (r : CmdRef) : (State.dropUnfold s r).debugs = s.debugs := rfl
@[simp] theorem State.dropUnfold_ret (r : CmdRef) : (State.dropUnfold s r).ret = s.ret := rfl
@[simp] theorem State.dropUnfold_scribe (r : CmdRef) : (State.dropUnfold s r).scribe = s.scribe := rfl
@[simp] theorem State.dropUnfold_tests (r : CmdRef) : (State.dropUnfold s r).tests = s.tests := rfl
@[simp] theorem State.dropUnfold_mail (r : CmdRef) : (State.dropUnfold s r).mail = s.mail := rfl
@[simp] theorem State.dropUnfold_out (r : CmdRef) : (State.dropUnfold s r).out = s.out := rfl
@[simp] theorem State.dropUnfold_fresh (r : CmdRef) : (State.dropUnfold s r).fresh = s.fresh := rfl
@[simp] theorem State.dropUnfold_pending (r : CmdRef) : (State.dropUnfold s r).pending = s.pending := rfl

@[simp] theorem State.dropParcel_parts (id : Nat) : (State.dropParcel s id).parts = s.parts := rfl
@[simp] theorem State.dropParcel_cmds (id : Nat) : (State.dropParcel s id).cmds = s.cmds := rfl
@[simp] theorem State.dropParcel_inl (id : Nat) : (State.dropParcel s id).inl = s.inl := rfl
@[simp] theorem State.dropParcel_sill (id : Nat) : (State.dropParcel s id).sill = s.sill := rfl
@[simp] theorem State.dropParcel_pegs (id : Nat) : (State.dropParcel s id).pegs = s.pegs := rfl
@[simp] theorem State.dropParcel_cal (id : Nat) : (State.dropParcel s id).cal = s.cal := rfl
@[simp] theorem State.dropParcel_damper (id : Nat) : (State.dropParcel s id).damper = s.damper := rfl
@[simp] theorem State.dropParcel_kp (id : Nat) : (State.dropParcel s id).kp = s.kp := rfl
@[simp] theorem State.dropParcel_vs (id : Nat) : (State.dropParcel s id).vs = s.vs := rfl
@[simp] theorem State.dropParcel_plumb (id : Nat) : (State.dropParcel s id).plumb = s.plumb := rfl
@[simp] theorem State.dropParcel_start (id : Nat) : (State.dropParcel s id).start = s.start := rfl
@[simp] theorem State.dropParcel_fuses (id : Nat) : (State.dropParcel s id).fuses = s.fuses := rfl
@[simp] theorem State.dropParcel_debugs (id : Nat) : (State.dropParcel s id).debugs = s.debugs := rfl
@[simp] theorem State.dropParcel_ret (id : Nat) : (State.dropParcel s id).ret = s.ret := rfl
@[simp] theorem State.dropParcel_scribe (id : Nat) : (State.dropParcel s id).scribe = s.scribe := rfl
@[simp] theorem State.dropParcel_tests (id : Nat) : (State.dropParcel s id).tests = s.tests := rfl
@[simp] theorem State.dropParcel_mail (id : Nat) : (State.dropParcel s id).mail = s.mail := rfl
@[simp] theorem State.dropParcel_out (id : Nat) : (State.dropParcel s id).out = s.out := rfl
@[simp] theorem State.dropParcel_fresh (id : Nat) : (State.dropParcel s id).fresh = s.fresh := rfl
@[simp] theorem State.dropParcel_pending (id : Nat) : (State.dropParcel s id).pending = s.pending := rfl

@[simp] theorem addRamp_parts (amount length : Nat) (up halt : Bool) : (addRamp amount length up halt s).parts = s.parts := rfl
@[simp] theorem addRamp_cmds (amount length : Nat) (up halt : Bool) : (addRamp amount length up halt s).cmds = s.cmds := rfl
@[simp] theorem addRamp_gl (amount length : Nat) (up halt : Bool) : (addRamp amount length up halt s).gl = s.gl := rfl
@[simp] theorem addRamp_inl (amount length : Nat) (up halt : Bool) : (addRamp amount length up halt s).inl = s.inl := rfl
@[simp] theorem addRamp_sill (amount length : Nat) (up halt : Bool) : (addRamp amount length up halt s).sill = s.sill := rfl
@[simp] theorem addRamp_pegs (amount length : Nat) (up halt : Bool) : (addRamp amount length up halt s).pegs = s.pegs := rfl
@[simp] theorem addRamp_cal (amount length : Nat) (up halt : Bool) : (addRamp amount length up halt s).cal = s.cal := rfl
@[simp] theorem addRamp_kp (amount length : Nat) (up halt : Bool) : (addRamp amount length up halt s).kp = s.kp := rfl
@[simp] theorem addRamp_vs (amount length : Nat) (up halt : Bool) : (addRamp amount length up halt s).vs = s.vs := rfl
@[simp] theorem addRamp_plumb (amount length : Nat) (up halt : Bool) : (addRamp amount length up halt s).plumb = s.plumb := rfl
@[simp] theorem addRamp_start (amount length : Nat) (up halt : Bool) : (addRamp amount length up halt s).start = s.start := rfl
@[simp] theorem addRamp_fuses (amount length : Nat) (up halt : Bool) : (addRamp amount length up halt s).fuses = s.fuses := rfl
@[simp] theorem addRamp_debugs (amount length : Nat) (up halt : Bool) : (addRamp amount length up halt s).debugs = s.debugs := rfl
@[simp] theorem addRamp_ret (amount length : Nat) (up halt : Bool) : (addRamp amount length up halt s).ret = s.ret := rfl
@[simp] theorem addRamp_scribe (amount length : Nat) (up halt : Bool) : (addRamp amount length up halt s).scribe = s.scribe := rfl
@[simp] theorem addRamp_tests (amount length : Nat) (up halt : Bool) : (addRamp amount length up halt s).tests = s.tests := rfl
@[simp] theorem addRamp_mail (amount length : Nat) (up halt : Bool) : (addRamp amount length up halt s).mail = s.mail := rfl
@[simp] theorem addRamp_out (amount length : Nat) (up halt : Bool) : (addRamp amount length up halt s).out = s.out := rfl
@[simp] theorem addRamp_fresh (amount length : Nat) (up halt : Bool) : (addRamp amount length up halt s).fresh = s.fresh := rfl
@[simp] theorem addRamp_pending (amount length : Nat) (up halt : Bool) : (addRamp amount length up halt s).pending = s.pending := rfl

@[simp] theorem State.modRow_parts (p : Nat) (f : GrantRow → GrantRow) : (State.modRow s p f).parts = s.parts := rfl
@[simp] theorem State.modRow_cmds (p : Nat) (f : GrantRow → GrantRow) : (State.modRow s p f).cmds = s.cmds := rfl
@[simp] theorem State.modRow_gl (p : Nat) (f : GrantRow → GrantRow) : (State.modRow s p f).gl = s.gl := rfl
@[simp] theorem State.modRow_inl (p : Nat) (f : GrantRow → GrantRow) : (State.modRow s p f).inl = s.inl := rfl
@[simp] theorem State.modRow_sill (p : Nat) (f : GrantRow → GrantRow) : (State.modRow s p f).sill = s.sill := rfl
@[simp] theorem State.modRow_pegs (p : Nat) (f : GrantRow → GrantRow) : (State.modRow s p f).pegs = s.pegs := rfl
@[simp] theorem State.modRow_cal (p : Nat) (f : GrantRow → GrantRow) : (State.modRow s p f).cal = s.cal := rfl
@[simp] theorem State.modRow_kp (p : Nat) (f : GrantRow → GrantRow) : (State.modRow s p f).kp = s.kp := rfl
@[simp] theorem State.modRow_vs (p : Nat) (f : GrantRow → GrantRow) : (State.modRow s p f).vs = s.vs := rfl
@[simp] theorem State.modRow_plumb (p : Nat) (f : GrantRow → GrantRow) : (State.modRow s p f).plumb = s.plumb := rfl
@[simp] theorem State.modRow_start (p : Nat) (f : GrantRow → GrantRow) : (State.modRow s p f).start = s.start := rfl
@[simp] theorem State.modRow_fuses (p : Nat) (f : GrantRow → GrantRow) : (State.modRow s p f).fuses = s.fuses := rfl
@[simp] theorem State.modRow_debugs (p : Nat) (f : GrantRow → GrantRow) : (State.modRow s p f).debugs = s.debugs := rfl
@[simp] theorem State.modRow_ret (p : Nat) (f : GrantRow → GrantRow) : (State.modRow s p f).ret = s.ret := rfl
@[simp] theorem State.modRow_scribe (p : Nat) (f : GrantRow → GrantRow) : (State.modRow s p f).scribe = s.scribe := rfl
@[simp] theorem State.modRow_tests (p : Nat) (f : GrantRow → GrantRow) : (State.modRow s p f).tests = s.tests := rfl
@[simp] theorem State.modRow_mail (p : Nat) (f : GrantRow → GrantRow) : (State.modRow s p f).mail = s.mail := rfl
@[simp] theorem State.modRow_out (p : Nat) (f : GrantRow → GrantRow) : (State.modRow s p f).out = s.out := rfl
@[simp] theorem State.modRow_fresh (p : Nat) (f : GrantRow → GrantRow) : (State.modRow s p f).fresh = s.fresh := rfl
@[simp] theorem State.modRow_pending (p : Nat) (f : GrantRow → GrantRow) : (State.modRow s p f).pending = s.pending := rfl

@[simp] theorem dmEvent_parts  : (dmEvent s).parts = s.parts := rfl
@[simp] theorem dmEvent_cmds  : (dmEvent s).cmds = s.cmds := rfl
@[simp] theorem dmEvent_gl  : (dmEvent s).gl = s.gl := rfl
@[simp] theorem dmEvent_inl  : (dmEvent s).inl = s.inl := rfl
@[simp] theorem dmEvent_sill  : (dmEvent s).sill = s.sill := rfl
@[simp] theorem dmEvent_pegs  : (dmEvent s).pegs = s.pegs := rfl
@[simp] theorem dmEvent_cal  : (dmEvent s).cal = s.cal := rfl
@[simp] theorem dmEvent_kp  : (dmEvent s).kp = s.kp := rfl
@[simp] theorem dmEvent_vs  : (dmEvent s).vs = s.vs := rfl
@[simp] theorem dmEvent_plumb  : (dmEvent s).plumb = s.plumb := rfl
@[simp] theorem dmEvent_start  : (dmEvent s).start = s.start := rfl
@[simp] theorem dmEvent_fuses  : (dmEvent s).fuses = s.fuses := rfl
@[simp] theorem dmEvent_debug  : (dmEvent s).debugs = s.debugs := rfl
@[simp] theorem dmEvent_ret  : (dmEvent s).ret = s.ret := rfl
@[simp] theorem dmEvent_scribe  : (dmEvent s).scribe = s.scribe := rfl
@[simp] theorem dmEvent_tests  : (dmEvent s).tests = s.tests := rfl
@[simp] theorem dmEvent_mail  : (dmEvent s).mail = s.mail := rfl
@[simp] theorem dmEvent_out  : (dmEvent s).out = s.out := rfl
@[simp] theorem dmEvent_fresh  : (dmEvent s).fresh = s.fresh := rfl
@[simp] theorem dmEvent_pending  : (dmEvent s).pending = s.pending := rfl

@[simp] theorem State.putSlot_parts (k : KeySlot) : (State.putSlot s k).parts = s.parts := rfl
@[simp] theorem State.putSlot_cmds (k : KeySlot) : (State.putSlot s k).cmds = s.cmds := rfl
@[simp] theorem State.putSlot_gl (k : KeySlot) : (State.putSlot s k).gl = s.gl := rfl
@[simp] theorem State.putSlot_inl (k : KeySlot) : (State.putSlot s k).inl = s.inl := rfl
@[simp] theorem State.putSlot_sill (k : KeySlot) : (State.putSlot s k).sill = s.sill := rfl
@[simp] theorem State.putSlot_pegs (k : KeySlot) : (State.putSlot s k).pegs = s.pegs := rfl
@[simp] theorem State.putSlot_cal (k : KeySlot) : (State.putSlot s k).cal = s.cal := rfl
@[simp] theorem State.putSlot_damper (k : KeySlot) : (State.putSlot s k).damper = s.damper := rfl
@[simp] theorem State.putSlot_vs (k : KeySlot) : (State.putSlot s k).vs = s.vs := rfl
@[simp] theorem State.putSlot_plumb (k : KeySlot) : (State.putSlot s k).plumb = s.plumb := rfl
@[simp] theorem State.putSlot_start (k : KeySlot) : (State.putSlot s k).start = s.start := rfl
@[simp] theorem State.putSlot_fuses (k : KeySlot) : (State.putSlot s k).fuses = s.fuses := rfl
@[simp] theorem State.putSlot_debugs (k : KeySlot) : (State.putSlot s k).debugs = s.debugs := rfl
@[simp] theorem State.putSlot_ret (k : KeySlot) : (State.putSlot s k).ret = s.ret := rfl
@[simp] theorem State.putSlot_scribe (k : KeySlot) : (State.putSlot s k).scribe = s.scribe := rfl
@[simp] theorem State.putSlot_tests (k : KeySlot) : (State.putSlot s k).tests = s.tests := rfl
@[simp] theorem State.putSlot_mail (k : KeySlot) : (State.putSlot s k).mail = s.mail := rfl
@[simp] theorem State.putSlot_out (k : KeySlot) : (State.putSlot s k).out = s.out := rfl
@[simp] theorem State.putSlot_fresh (k : KeySlot) : (State.putSlot s k).fresh = s.fresh := rfl
@[simp] theorem State.putSlot_pending (k : KeySlot) : (State.putSlot s k).pending = s.pending := rfl

@[simp] theorem countSpdm_parts  : (countSpdm s).parts = s.parts := rfl
@[simp] theorem countSpdm_cmds  : (countSpdm s).cmds = s.cmds := rfl
@[simp] theorem countSpdm_gl  : (countSpdm s).gl = s.gl := rfl
@[simp] theorem countSpdm_inl  : (countSpdm s).inl = s.inl := rfl
@[simp] theorem countSpdm_sill  : (countSpdm s).sill = s.sill := rfl
@[simp] theorem countSpdm_pegs  : (countSpdm s).pegs = s.pegs := rfl
@[simp] theorem countSpdm_cal  : (countSpdm s).cal = s.cal := rfl
@[simp] theorem countSpdm_damper  : (countSpdm s).damper = s.damper := rfl
@[simp] theorem countSpdm_kp  : (countSpdm s).kp = s.kp := rfl
@[simp] theorem countSpdm_plumb  : (countSpdm s).plumb = s.plumb := rfl
@[simp] theorem countSpdm_start  : (countSpdm s).start = s.start := rfl
@[simp] theorem countSpdm_fuses  : (countSpdm s).fuses = s.fuses := rfl
@[simp] theorem countSpdm_debug  : (countSpdm s).debugs = s.debugs := rfl
@[simp] theorem countSpdm_ret  : (countSpdm s).ret = s.ret := rfl
@[simp] theorem countSpdm_scribe  : (countSpdm s).scribe = s.scribe := rfl
@[simp] theorem countSpdm_tests  : (countSpdm s).tests = s.tests := rfl
@[simp] theorem countSpdm_mail  : (countSpdm s).mail = s.mail := rfl
@[simp] theorem countSpdm_out  : (countSpdm s).out = s.out := rfl
@[simp] theorem countSpdm_fresh  : (countSpdm s).fresh = s.fresh := rfl
@[simp] theorem countSpdm_pending  : (countSpdm s).pending = s.pending := rfl

@[simp] theorem endSession_parts (id : Nat) : (endSession id s).parts = s.parts := rfl
@[simp] theorem endSession_cmds (id : Nat) : (endSession id s).cmds = s.cmds := rfl
@[simp] theorem endSession_gl (id : Nat) : (endSession id s).gl = s.gl := rfl
@[simp] theorem endSession_inl (id : Nat) : (endSession id s).inl = s.inl := rfl
@[simp] theorem endSession_sill (id : Nat) : (endSession id s).sill = s.sill := rfl
@[simp] theorem endSession_pegs (id : Nat) : (endSession id s).pegs = s.pegs := rfl
@[simp] theorem endSession_cal (id : Nat) : (endSession id s).cal = s.cal := rfl
@[simp] theorem endSession_damper (id : Nat) : (endSession id s).damper = s.damper := rfl
@[simp] theorem endSession_kp (id : Nat) : (endSession id s).kp = s.kp := rfl
@[simp] theorem endSession_plumb (id : Nat) : (endSession id s).plumb = s.plumb := rfl
@[simp] theorem endSession_start (id : Nat) : (endSession id s).start = s.start := rfl
@[simp] theorem endSession_fuses (id : Nat) : (endSession id s).fuses = s.fuses := rfl
@[simp] theorem endSession_debugs (id : Nat) : (endSession id s).debugs = s.debugs := rfl
@[simp] theorem endSession_ret (id : Nat) : (endSession id s).ret = s.ret := rfl
@[simp] theorem endSession_scribe (id : Nat) : (endSession id s).scribe = s.scribe := rfl
@[simp] theorem endSession_tests (id : Nat) : (endSession id s).tests = s.tests := rfl
@[simp] theorem endSession_mail (id : Nat) : (endSession id s).mail = s.mail := rfl
@[simp] theorem endSession_out (id : Nat) : (endSession id s).out = s.out := rfl
@[simp] theorem endSession_fresh (id : Nat) : (endSession id s).fresh = s.fresh := rfl
@[simp] theorem endSession_pending (id : Nat) : (endSession id s).pending = s.pending := rfl

@[simp] theorem State.modStream_parts (n : Nat) (f : IdeStream → IdeStream) : (State.modStream s n f).parts = s.parts := rfl
@[simp] theorem State.modStream_cmds (n : Nat) (f : IdeStream → IdeStream) : (State.modStream s n f).cmds = s.cmds := rfl
@[simp] theorem State.modStream_gl (n : Nat) (f : IdeStream → IdeStream) : (State.modStream s n f).gl = s.gl := rfl
@[simp] theorem State.modStream_inl (n : Nat) (f : IdeStream → IdeStream) : (State.modStream s n f).inl = s.inl := rfl
@[simp] theorem State.modStream_sill (n : Nat) (f : IdeStream → IdeStream) : (State.modStream s n f).sill = s.sill := rfl
@[simp] theorem State.modStream_pegs (n : Nat) (f : IdeStream → IdeStream) : (State.modStream s n f).pegs = s.pegs := rfl
@[simp] theorem State.modStream_cal (n : Nat) (f : IdeStream → IdeStream) : (State.modStream s n f).cal = s.cal := rfl
@[simp] theorem State.modStream_damper (n : Nat) (f : IdeStream → IdeStream) : (State.modStream s n f).damper = s.damper := rfl
@[simp] theorem State.modStream_kp (n : Nat) (f : IdeStream → IdeStream) : (State.modStream s n f).kp = s.kp := rfl
@[simp] theorem State.modStream_plumb (n : Nat) (f : IdeStream → IdeStream) : (State.modStream s n f).plumb = s.plumb := rfl
@[simp] theorem State.modStream_start (n : Nat) (f : IdeStream → IdeStream) : (State.modStream s n f).start = s.start := rfl
@[simp] theorem State.modStream_fuses (n : Nat) (f : IdeStream → IdeStream) : (State.modStream s n f).fuses = s.fuses := rfl
@[simp] theorem State.modStream_debugs (n : Nat) (f : IdeStream → IdeStream) : (State.modStream s n f).debugs = s.debugs := rfl
@[simp] theorem State.modStream_ret (n : Nat) (f : IdeStream → IdeStream) : (State.modStream s n f).ret = s.ret := rfl
@[simp] theorem State.modStream_scribe (n : Nat) (f : IdeStream → IdeStream) : (State.modStream s n f).scribe = s.scribe := rfl
@[simp] theorem State.modStream_tests (n : Nat) (f : IdeStream → IdeStream) : (State.modStream s n f).tests = s.tests := rfl
@[simp] theorem State.modStream_mail (n : Nat) (f : IdeStream → IdeStream) : (State.modStream s n f).mail = s.mail := rfl
@[simp] theorem State.modStream_out (n : Nat) (f : IdeStream → IdeStream) : (State.modStream s n f).out = s.out := rfl
@[simp] theorem State.modStream_fresh (n : Nat) (f : IdeStream → IdeStream) : (State.modStream s n f).fresh = s.fresh := rfl
@[simp] theorem State.modStream_pending (n : Nat) (f : IdeStream → IdeStream) : (State.modStream s n f).pending = s.pending := rfl

@[simp] theorem endRung_parts (g : RunningRung) : (endRung g s).parts = s.parts := rfl
@[simp] theorem endRung_cmds (g : RunningRung) : (endRung g s).cmds = s.cmds := rfl
@[simp] theorem endRung_gl (g : RunningRung) : (endRung g s).gl = s.gl := rfl
@[simp] theorem endRung_inl (g : RunningRung) : (endRung g s).inl = s.inl := rfl
@[simp] theorem endRung_sill (g : RunningRung) : (endRung g s).sill = s.sill := rfl
@[simp] theorem endRung_pegs (g : RunningRung) : (endRung g s).pegs = s.pegs := rfl
@[simp] theorem endRung_cal (g : RunningRung) : (endRung g s).cal = s.cal := rfl
@[simp] theorem endRung_damper (g : RunningRung) : (endRung g s).damper = s.damper := rfl
@[simp] theorem endRung_kp (g : RunningRung) : (endRung g s).kp = s.kp := rfl
@[simp] theorem endRung_vs (g : RunningRung) : (endRung g s).vs = s.vs := rfl
@[simp] theorem endRung_start (g : RunningRung) : (endRung g s).start = s.start := rfl
@[simp] theorem endRung_fuses (g : RunningRung) : (endRung g s).fuses = s.fuses := rfl
@[simp] theorem endRung_debugs (g : RunningRung) : (endRung g s).debugs = s.debugs := rfl
@[simp] theorem endRung_ret (g : RunningRung) : (endRung g s).ret = s.ret := rfl
@[simp] theorem endRung_scribe (g : RunningRung) : (endRung g s).scribe = s.scribe := rfl
@[simp] theorem endRung_tests (g : RunningRung) : (endRung g s).tests = s.tests := rfl
@[simp] theorem endRung_mail (g : RunningRung) : (endRung g s).mail = s.mail := rfl
@[simp] theorem endRung_out (g : RunningRung) : (endRung g s).out = s.out := rfl
@[simp] theorem endRung_fresh (g : RunningRung) : (endRung g s).fresh = s.fresh := rfl
@[simp] theorem endRung_pending (g : RunningRung) : (endRung g s).pending = s.pending := rfl

@[simp] theorem State.modRung_parts (g : RunningRung) (f : RunningRung → RunningRung) : (State.modRung s g f).parts = s.parts := rfl
@[simp] theorem State.modRung_cmds (g : RunningRung) (f : RunningRung → RunningRung) : (State.modRung s g f).cmds = s.cmds := rfl
@[simp] theorem State.modRung_gl (g : RunningRung) (f : RunningRung → RunningRung) : (State.modRung s g f).gl = s.gl := rfl
@[simp] theorem State.modRung_inl (g : RunningRung) (f : RunningRung → RunningRung) : (State.modRung s g f).inl = s.inl := rfl
@[simp] theorem State.modRung_sill (g : RunningRung) (f : RunningRung → RunningRung) : (State.modRung s g f).sill = s.sill := rfl
@[simp] theorem State.modRung_pegs (g : RunningRung) (f : RunningRung → RunningRung) : (State.modRung s g f).pegs = s.pegs := rfl
@[simp] theorem State.modRung_cal (g : RunningRung) (f : RunningRung → RunningRung) : (State.modRung s g f).cal = s.cal := rfl
@[simp] theorem State.modRung_damper (g : RunningRung) (f : RunningRung → RunningRung) : (State.modRung s g f).damper = s.damper := rfl
@[simp] theorem State.modRung_kp (g : RunningRung) (f : RunningRung → RunningRung) : (State.modRung s g f).kp = s.kp := rfl
@[simp] theorem State.modRung_vs (g : RunningRung) (f : RunningRung → RunningRung) : (State.modRung s g f).vs = s.vs := rfl
@[simp] theorem State.modRung_start (g : RunningRung) (f : RunningRung → RunningRung) : (State.modRung s g f).start = s.start := rfl
@[simp] theorem State.modRung_fuses (g : RunningRung) (f : RunningRung → RunningRung) : (State.modRung s g f).fuses = s.fuses := rfl
@[simp] theorem State.modRung_debugs (g : RunningRung) (f : RunningRung → RunningRung) : (State.modRung s g f).debugs = s.debugs := rfl
@[simp] theorem State.modRung_ret (g : RunningRung) (f : RunningRung → RunningRung) : (State.modRung s g f).ret = s.ret := rfl
@[simp] theorem State.modRung_scribe (g : RunningRung) (f : RunningRung → RunningRung) : (State.modRung s g f).scribe = s.scribe := rfl
@[simp] theorem State.modRung_tests (g : RunningRung) (f : RunningRung → RunningRung) : (State.modRung s g f).tests = s.tests := rfl
@[simp] theorem State.modRung_mail (g : RunningRung) (f : RunningRung → RunningRung) : (State.modRung s g f).mail = s.mail := rfl
@[simp] theorem State.modRung_out (g : RunningRung) (f : RunningRung → RunningRung) : (State.modRung s g f).out = s.out := rfl
@[simp] theorem State.modRung_fresh (g : RunningRung) (f : RunningRung → RunningRung) : (State.modRung s g f).fresh = s.fresh := rfl
@[simp] theorem State.modRung_pending (g : RunningRung) (f : RunningRung → RunningRung) : (State.modRung s g f).pending = s.pending := rfl

@[simp] theorem State.modRun_parts (point target : Nat) (f : TestRun → TestRun) : (State.modRun s point target f).parts = s.parts := rfl
@[simp] theorem State.modRun_cmds (point target : Nat) (f : TestRun → TestRun) : (State.modRun s point target f).cmds = s.cmds := rfl
@[simp] theorem State.modRun_gl (point target : Nat) (f : TestRun → TestRun) : (State.modRun s point target f).gl = s.gl := rfl
@[simp] theorem State.modRun_inl (point target : Nat) (f : TestRun → TestRun) : (State.modRun s point target f).inl = s.inl := rfl
@[simp] theorem State.modRun_sill (point target : Nat) (f : TestRun → TestRun) : (State.modRun s point target f).sill = s.sill := rfl
@[simp] theorem State.modRun_pegs (point target : Nat) (f : TestRun → TestRun) : (State.modRun s point target f).pegs = s.pegs := rfl
@[simp] theorem State.modRun_cal (point target : Nat) (f : TestRun → TestRun) : (State.modRun s point target f).cal = s.cal := rfl
@[simp] theorem State.modRun_damper (point target : Nat) (f : TestRun → TestRun) : (State.modRun s point target f).damper = s.damper := rfl
@[simp] theorem State.modRun_kp (point target : Nat) (f : TestRun → TestRun) : (State.modRun s point target f).kp = s.kp := rfl
@[simp] theorem State.modRun_vs (point target : Nat) (f : TestRun → TestRun) : (State.modRun s point target f).vs = s.vs := rfl
@[simp] theorem State.modRun_plumb (point target : Nat) (f : TestRun → TestRun) : (State.modRun s point target f).plumb = s.plumb := rfl
@[simp] theorem State.modRun_start (point target : Nat) (f : TestRun → TestRun) : (State.modRun s point target f).start = s.start := rfl
@[simp] theorem State.modRun_fuses (point target : Nat) (f : TestRun → TestRun) : (State.modRun s point target f).fuses = s.fuses := rfl
@[simp] theorem State.modRun_debugs (point target : Nat) (f : TestRun → TestRun) : (State.modRun s point target f).debugs = s.debugs := rfl
@[simp] theorem State.modRun_ret (point target : Nat) (f : TestRun → TestRun) : (State.modRun s point target f).ret = s.ret := rfl
@[simp] theorem State.modRun_scribe (point target : Nat) (f : TestRun → TestRun) : (State.modRun s point target f).scribe = s.scribe := rfl
@[simp] theorem State.modRun_mail (point target : Nat) (f : TestRun → TestRun) : (State.modRun s point target f).mail = s.mail := rfl
@[simp] theorem State.modRun_out (point target : Nat) (f : TestRun → TestRun) : (State.modRun s point target f).out = s.out := rfl
@[simp] theorem State.modRun_fresh (point target : Nat) (f : TestRun → TestRun) : (State.modRun s point target f).fresh = s.fresh := rfl
@[simp] theorem State.modRun_pending (point target : Nat) (f : TestRun → TestRun) : (State.modRun s point target f).pending = s.pending := rfl

@[simp] theorem State.dropRun_parts (kind point target : Nat) : (State.dropRun s kind point target).parts = s.parts := rfl
@[simp] theorem State.dropRun_cmds (kind point target : Nat) : (State.dropRun s kind point target).cmds = s.cmds := rfl
@[simp] theorem State.dropRun_gl (kind point target : Nat) : (State.dropRun s kind point target).gl = s.gl := rfl
@[simp] theorem State.dropRun_inl (kind point target : Nat) : (State.dropRun s kind point target).inl = s.inl := rfl
@[simp] theorem State.dropRun_sill (kind point target : Nat) : (State.dropRun s kind point target).sill = s.sill := rfl
@[simp] theorem State.dropRun_pegs (kind point target : Nat) : (State.dropRun s kind point target).pegs = s.pegs := rfl
@[simp] theorem State.dropRun_cal (kind point target : Nat) : (State.dropRun s kind point target).cal = s.cal := rfl
@[simp] theorem State.dropRun_damper (kind point target : Nat) : (State.dropRun s kind point target).damper = s.damper := rfl
@[simp] theorem State.dropRun_kp (kind point target : Nat) : (State.dropRun s kind point target).kp = s.kp := rfl
@[simp] theorem State.dropRun_vs (kind point target : Nat) : (State.dropRun s kind point target).vs = s.vs := rfl
@[simp] theorem State.dropRun_plumb (kind point target : Nat) : (State.dropRun s kind point target).plumb = s.plumb := rfl
@[simp] theorem State.dropRun_start (kind point target : Nat) : (State.dropRun s kind point target).start = s.start := rfl
@[simp] theorem State.dropRun_fuses (kind point target : Nat) : (State.dropRun s kind point target).fuses = s.fuses := rfl
@[simp] theorem State.dropRun_debugs (kind point target : Nat) : (State.dropRun s kind point target).debugs = s.debugs := rfl
@[simp] theorem State.dropRun_ret (kind point target : Nat) : (State.dropRun s kind point target).ret = s.ret := rfl
@[simp] theorem State.dropRun_scribe (kind point target : Nat) : (State.dropRun s kind point target).scribe = s.scribe := rfl
@[simp] theorem State.dropRun_mail (kind point target : Nat) : (State.dropRun s kind point target).mail = s.mail := rfl
@[simp] theorem State.dropRun_out (kind point target : Nat) : (State.dropRun s kind point target).out = s.out := rfl
@[simp] theorem State.dropRun_fresh (kind point target : Nat) : (State.dropRun s kind point target).fresh = s.fresh := rfl
@[simp] theorem State.dropRun_pending (kind point target : Nat) : (State.dropRun s kind point target).pending = s.pending := rfl

@[simp] theorem clearRecords_parts (first count : Nat) : (clearRecords first count s).parts = s.parts := rfl
@[simp] theorem clearRecords_cmds (first count : Nat) : (clearRecords first count s).cmds = s.cmds := rfl
@[simp] theorem clearRecords_gl (first count : Nat) : (clearRecords first count s).gl = s.gl := rfl
@[simp] theorem clearRecords_inl (first count : Nat) : (clearRecords first count s).inl = s.inl := rfl
@[simp] theorem clearRecords_pegs (first count : Nat) : (clearRecords first count s).pegs = s.pegs := rfl
@[simp] theorem clearRecords_cal (first count : Nat) : (clearRecords first count s).cal = s.cal := rfl
@[simp] theorem clearRecords_damper (first count : Nat) : (clearRecords first count s).damper = s.damper := rfl
@[simp] theorem clearRecords_kp (first count : Nat) : (clearRecords first count s).kp = s.kp := rfl
@[simp] theorem clearRecords_vs (first count : Nat) : (clearRecords first count s).vs = s.vs := rfl
@[simp] theorem clearRecords_plumb (first count : Nat) : (clearRecords first count s).plumb = s.plumb := rfl
@[simp] theorem clearRecords_start (first count : Nat) : (clearRecords first count s).start = s.start := rfl
@[simp] theorem clearRecords_fuses (first count : Nat) : (clearRecords first count s).fuses = s.fuses := rfl
@[simp] theorem clearRecords_debugs (first count : Nat) : (clearRecords first count s).debugs = s.debugs := rfl
@[simp] theorem clearRecords_ret (first count : Nat) : (clearRecords first count s).ret = s.ret := rfl
@[simp] theorem clearRecords_scribe (first count : Nat) : (clearRecords first count s).scribe = s.scribe := rfl
@[simp] theorem clearRecords_tests (first count : Nat) : (clearRecords first count s).tests = s.tests := rfl
@[simp] theorem clearRecords_mail (first count : Nat) : (clearRecords first count s).mail = s.mail := rfl
@[simp] theorem clearRecords_out (first count : Nat) : (clearRecords first count s).out = s.out := rfl
@[simp] theorem clearRecords_fresh (first count : Nat) : (clearRecords first count s).fresh = s.fresh := rfl
@[simp] theorem clearRecords_pending (first count : Nat) : (clearRecords first count s).pending = s.pending := rfl

@[simp] theorem dropHalf_parts (via : Access) (w : Nat) (write : Bool) : (dropHalf via w write s).parts = s.parts := rfl
@[simp] theorem dropHalf_cmds (via : Access) (w : Nat) (write : Bool) : (dropHalf via w write s).cmds = s.cmds := rfl
@[simp] theorem dropHalf_gl (via : Access) (w : Nat) (write : Bool) : (dropHalf via w write s).gl = s.gl := rfl
@[simp] theorem dropHalf_inl (via : Access) (w : Nat) (write : Bool) : (dropHalf via w write s).inl = s.inl := rfl
@[simp] theorem dropHalf_sill (via : Access) (w : Nat) (write : Bool) : (dropHalf via w write s).sill = s.sill := rfl
@[simp] theorem dropHalf_pegs (via : Access) (w : Nat) (write : Bool) : (dropHalf via w write s).pegs = s.pegs := rfl
@[simp] theorem dropHalf_cal (via : Access) (w : Nat) (write : Bool) : (dropHalf via w write s).cal = s.cal := rfl
@[simp] theorem dropHalf_damper (via : Access) (w : Nat) (write : Bool) : (dropHalf via w write s).damper = s.damper := rfl
@[simp] theorem dropHalf_kp (via : Access) (w : Nat) (write : Bool) : (dropHalf via w write s).kp = s.kp := rfl
@[simp] theorem dropHalf_plumb (via : Access) (w : Nat) (write : Bool) : (dropHalf via w write s).plumb = s.plumb := rfl
@[simp] theorem dropHalf_start (via : Access) (w : Nat) (write : Bool) : (dropHalf via w write s).start = s.start := rfl
@[simp] theorem dropHalf_fuses (via : Access) (w : Nat) (write : Bool) : (dropHalf via w write s).fuses = s.fuses := rfl
@[simp] theorem dropHalf_debugs (via : Access) (w : Nat) (write : Bool) : (dropHalf via w write s).debugs = s.debugs := rfl
@[simp] theorem dropHalf_ret (via : Access) (w : Nat) (write : Bool) : (dropHalf via w write s).ret = s.ret := rfl
@[simp] theorem dropHalf_scribe (via : Access) (w : Nat) (write : Bool) : (dropHalf via w write s).scribe = s.scribe := rfl
@[simp] theorem dropHalf_tests (via : Access) (w : Nat) (write : Bool) : (dropHalf via w write s).tests = s.tests := rfl
@[simp] theorem dropHalf_mail (via : Access) (w : Nat) (write : Bool) : (dropHalf via w write s).mail = s.mail := rfl
@[simp] theorem dropHalf_out (via : Access) (w : Nat) (write : Bool) : (dropHalf via w write s).out = s.out := rfl
@[simp] theorem dropHalf_fresh (via : Access) (w : Nat) (write : Bool) : (dropHalf via w write s).fresh = s.fresh := rfl
@[simp] theorem dropHalf_pending (via : Access) (w : Nat) (write : Bool) : (dropHalf via w write s).pending = s.pending := rfl

@[simp] theorem selectTap_parts (k : Nat) : (selectTap k s).parts = s.parts := rfl
@[simp] theorem selectTap_cmds (k : Nat) : (selectTap k s).cmds = s.cmds := rfl
@[simp] theorem selectTap_gl (k : Nat) : (selectTap k s).gl = s.gl := rfl
@[simp] theorem selectTap_inl (k : Nat) : (selectTap k s).inl = s.inl := rfl
@[simp] theorem selectTap_sill (k : Nat) : (selectTap k s).sill = s.sill := rfl
@[simp] theorem selectTap_pegs (k : Nat) : (selectTap k s).pegs = s.pegs := rfl
@[simp] theorem selectTap_cal (k : Nat) : (selectTap k s).cal = s.cal := rfl
@[simp] theorem selectTap_damper (k : Nat) : (selectTap k s).damper = s.damper := rfl
@[simp] theorem selectTap_kp (k : Nat) : (selectTap k s).kp = s.kp := rfl
@[simp] theorem selectTap_plumb (k : Nat) : (selectTap k s).plumb = s.plumb := rfl
@[simp] theorem selectTap_start (k : Nat) : (selectTap k s).start = s.start := rfl
@[simp] theorem selectTap_fuses (k : Nat) : (selectTap k s).fuses = s.fuses := rfl
@[simp] theorem selectTap_debugs (k : Nat) : (selectTap k s).debugs = s.debugs := rfl
@[simp] theorem selectTap_ret (k : Nat) : (selectTap k s).ret = s.ret := rfl
@[simp] theorem selectTap_scribe (k : Nat) : (selectTap k s).scribe = s.scribe := rfl
@[simp] theorem selectTap_tests (k : Nat) : (selectTap k s).tests = s.tests := rfl
@[simp] theorem selectTap_mail (k : Nat) : (selectTap k s).mail = s.mail := rfl
@[simp] theorem selectTap_out (k : Nat) : (selectTap k s).out = s.out := rfl
@[simp] theorem selectTap_fresh (k : Nat) : (selectTap k s).fresh = s.fresh := rfl
@[simp] theorem selectTap_pending (k : Nat) : (selectTap k s).pending = s.pending := rfl

@[simp] theorem State.atTime_parts (t : Nat) : (s.atTime t).parts = s.parts := rfl
@[simp] theorem State.atTime_cmds (t : Nat) : (s.atTime t).cmds = s.cmds := rfl
@[simp] theorem State.atTime_gl (t : Nat) : (s.atTime t).gl = s.gl := rfl
@[simp] theorem State.atTime_inl (t : Nat) : (s.atTime t).inl = s.inl := rfl
@[simp] theorem State.atTime_sill (t : Nat) : (s.atTime t).sill = s.sill := rfl
@[simp] theorem State.atTime_pegs (t : Nat) : (s.atTime t).pegs = s.pegs := rfl
@[simp] theorem State.atTime_damper (t : Nat) : (s.atTime t).damper = s.damper := rfl
@[simp] theorem State.atTime_kp (t : Nat) : (s.atTime t).kp = s.kp := rfl
@[simp] theorem State.atTime_vs (t : Nat) : (s.atTime t).vs = s.vs := rfl
@[simp] theorem State.atTime_plumb (t : Nat) : (s.atTime t).plumb = s.plumb := rfl
@[simp] theorem State.atTime_fuses (t : Nat) : (s.atTime t).fuses = s.fuses := rfl
@[simp] theorem State.atTime_debugs (t : Nat) : (s.atTime t).debugs = s.debugs := rfl
@[simp] theorem State.atTime_ret (t : Nat) : (s.atTime t).ret = s.ret := rfl
@[simp] theorem State.atTime_scribe (t : Nat) : (s.atTime t).scribe = s.scribe := rfl
@[simp] theorem State.atTime_tests (t : Nat) : (s.atTime t).tests = s.tests := rfl
@[simp] theorem State.atTime_mail (t : Nat) : (s.atTime t).mail = s.mail := rfl
@[simp] theorem State.atTime_out (t : Nat) : (s.atTime t).out = s.out := rfl
@[simp] theorem State.atTime_fresh (t : Nat) : (s.atTime t).fresh = s.fresh := rfl
@[simp] theorem State.atTime_pending (t : Nat) : (s.atTime t).pending = s.pending := rfl

@[simp] theorem State.modView_cmds (p : Nat) (f : View → View) : (s.modView p f).cmds = s.cmds := rfl
@[simp] theorem State.modView_gl (p : Nat) (f : View → View) : (s.modView p f).gl = s.gl := rfl
@[simp] theorem State.modView_inl (p : Nat) (f : View → View) : (s.modView p f).inl = s.inl := rfl
@[simp] theorem State.modView_sill (p : Nat) (f : View → View) : (s.modView p f).sill = s.sill := rfl
@[simp] theorem State.modView_pegs (p : Nat) (f : View → View) : (s.modView p f).pegs = s.pegs := rfl
@[simp] theorem State.modView_cal (p : Nat) (f : View → View) : (s.modView p f).cal = s.cal := rfl
@[simp] theorem State.modView_damper (p : Nat) (f : View → View) : (s.modView p f).damper = s.damper := rfl
@[simp] theorem State.modView_kp (p : Nat) (f : View → View) : (s.modView p f).kp = s.kp := rfl
@[simp] theorem State.modView_vs (p : Nat) (f : View → View) : (s.modView p f).vs = s.vs := rfl
@[simp] theorem State.modView_plumb (p : Nat) (f : View → View) : (s.modView p f).plumb = s.plumb := rfl
@[simp] theorem State.modView_start (p : Nat) (f : View → View) : (s.modView p f).start = s.start := rfl
@[simp] theorem State.modView_fuses (p : Nat) (f : View → View) : (s.modView p f).fuses = s.fuses := rfl
@[simp] theorem State.modView_debugs (p : Nat) (f : View → View) : (s.modView p f).debugs = s.debugs := rfl
@[simp] theorem State.modView_ret (p : Nat) (f : View → View) : (s.modView p f).ret = s.ret := rfl
@[simp] theorem State.modView_scribe (p : Nat) (f : View → View) : (s.modView p f).scribe = s.scribe := rfl
@[simp] theorem State.modView_tests (p : Nat) (f : View → View) : (s.modView p f).tests = s.tests := rfl
@[simp] theorem State.modView_mail (p : Nat) (f : View → View) : (s.modView p f).mail = s.mail := rfl
@[simp] theorem State.modView_out (p : Nat) (f : View → View) : (s.modView p f).out = s.out := rfl
@[simp] theorem State.modView_fresh (p : Nat) (f : View → View) : (s.modView p f).fresh = s.fresh := rfl
@[simp] theorem State.modView_pending (p : Nat) (f : View → View) : (s.modView p f).pending = s.pending := rfl

@[simp] theorem State.draw_parts  : (s.draw.2).parts = s.parts := rfl
@[simp] theorem State.draw_cmds  : (s.draw.2).cmds = s.cmds := rfl
@[simp] theorem State.draw_gl  : (s.draw.2).gl = s.gl := rfl
@[simp] theorem State.draw_inl  : (s.draw.2).inl = s.inl := rfl
@[simp] theorem State.draw_sill  : (s.draw.2).sill = s.sill := rfl
@[simp] theorem State.draw_pegs  : (s.draw.2).pegs = s.pegs := rfl
@[simp] theorem State.draw_cal  : (s.draw.2).cal = s.cal := rfl
@[simp] theorem State.draw_damper  : (s.draw.2).damper = s.damper := rfl
@[simp] theorem State.draw_kp  : (s.draw.2).kp = s.kp := rfl
@[simp] theorem State.draw_vs  : (s.draw.2).vs = s.vs := rfl
@[simp] theorem State.draw_plumb  : (s.draw.2).plumb = s.plumb := rfl
@[simp] theorem State.draw_start  : (s.draw.2).start = s.start := rfl
@[simp] theorem State.draw_fuses  : (s.draw.2).fuses = s.fuses := rfl
@[simp] theorem State.draw_debug  : (s.draw.2).debugs = s.debugs := rfl
@[simp] theorem State.draw_ret  : (s.draw.2).ret = s.ret := rfl
@[simp] theorem State.draw_scribe  : (s.draw.2).scribe = s.scribe := rfl
@[simp] theorem State.draw_tests  : (s.draw.2).tests = s.tests := rfl
@[simp] theorem State.draw_mail  : (s.draw.2).mail = s.mail := rfl
@[simp] theorem State.draw_out  : (s.draw.2).out = s.out := rfl
@[simp] theorem State.draw_pending  : (s.draw.2).pending = s.pending := rfl

/-! ### What an update's own field holds -/

@[simp] theorem State.emit_out (o : Output) : (s.emit o).out = o :: s.out := rfl
@[simp] theorem State.draw_fresh : s.draw.2.fresh = s.fresh + 1 := rfl
@[simp] theorem State.modPart_parts (p : Nat) (f : Part → Part) : (s.modPart p f).parts = s.parts.modify p f := rfl
@[simp] theorem countMalformed_malformed : (countMalformed s).vs.malformed = bump 65535 s.vs.malformed := rfl

end updates

end Sys2Proof.Machine
end

