-- ==== Sys2Proof/WellFormed.lean ====
section
/-! DEFINITION. Which terms of Instr stand for commands: every field within the width and the range its rule gives it. -/

namespace Sys2Proof

/-- A number of `w` bits. -/
def fits (w n : Nat) : Bool := n < 2 ^ w

/-- Partitions P0 to P15 (R389). -/
def partOk (p : Nat) : Bool := p < 16

/-- Links 0 to 63 (R34). -/
def linkOk (n : Nat) : Bool := n < 64

/-- Sources name partitions (R52). -/
def sourceOk : Source → Bool
  | .cmd p => partOk p
  | .ring p => partOk p
  | .mgmt => true
  | .session _ => true

/-- A packet's fields (R56). -/
def packetOk (p : Packet) : Bool :=
  sourceOk p.src && fits 8 p.fmt && fits 32 p.seq && fits 16 p.layer && fits 16 p.operator && fits 32 p.step

/-- Sill tiles 0 to 3 and sleds 0 to 7 (R207). -/
def memReadOk : MemRead → Bool
  | .ok _ => true
  | .uncorrectable t => t < 4
  | .checkFail t => t < 4
  | .sledFail k => k < 8

def blobOk (b : Blob) : Bool := memReadOk b.read

/-- The header fields of a binding set (R382). -/
def bindSetOk (b : BindSet) : Bool :=
  memReadOk b.read && fits 8 b.format && fits 16 b.count && fits 8 b.minSvn && b.entry.elim true blobOk

/-- The fields of a token (R475). -/
def debugTokenOk (t : DebugToken) : Bool := memReadOk t.read && fits 24 t.domain && fits 8 t.part && fits 128 t.commit

/-- The scope of a response (R478). -/
def respOk (d : DebugResp) : Bool := fits 8 d.scope

/-- What a packet carries beside it. -/
def auxOk : Aux → Bool
  | .none => true
  | .mem m => memReadOk m
  | .blob b => blobOk b
  | .bindSet b => bindSetOk b
  | .token t => debugTokenOk t
  | .resp d => respOk d
  | .failed _ => true
  | .twins _ => true

/-- A raw packet's CLASS and OPCODE bytes (R56). -/
def rawOk (w : RawPacket) : Bool := fits 8 w.cls && fits 8 w.opcode && packetOk w.pkt && auxOk w.aux

/-- A virtual function is a partition's (R371). -/
def accessOk : Access → Bool
  | .vf p => partOk p
  | _ => true

def ringIdOk : RingId → Bool
  | .part p => partOk p
  | .mgmt => true

/-- A flit header's widths (R89). -/
def flitHdrOk (h : FlitHdr) : Bool :=
  fits 4 h.ftype && fits 3 h.cls && fits 12 h.lseq && fits 12 h.ackSeq && fits 5 h.hops && fits 11 h.src && fits 11 h.dst &&
    fits 24 h.domain && fits 8 h.routeEpoch && fits 9 h.fidx && fits 12 h.ptag && fits 4 h.creditVc && fits 6 h.creditCnt

/-- A PACK record's widths (R114). -/
def recordOk (r : PackRecord) : Bool := fits 32 r.pseq && fits 8 r.epoch && fits 8 r.result

/-- A PACK's fields (R114). -/
def packOk (k : Pack) : Bool :=
  fits 11 k.src && fits 24 k.domain && fits 3 k.cls && k.records.length ≤ 24 && k.records.all recordOk

/-- A flit's payload of at most 224 bytes (R89, R114). -/
def payloadOk : Payload → Bool
  | .zeros => true
  | .bytes b => b.length ≤ 224
  | .sealed _ i => fits 9 i
  | .pack rs => rs.length ≤ 24 && rs.all recordOk

def rxFlitOk (f : RxFlit) : Bool := flitHdrOk f.hdr && payloadOk f.payload

/-- A pool message's widths (R196). -/
def poolMsgOk (m : PoolMsg) : Bool :=
  fits 8 m.rop && fits 8 m.atype && fits 4 m.mask && fits 8 m.result && fits 8 m.aflags && fits 32 m.aseq && fits 48 m.offset &&
    fits 12 m.context && m.line.length ≤ 256

/-- A peg message's widths (R230). -/
def pegMsgOk (m : PegMsg) : Bool :=
  fits 8 m.msg && fits 16 m.status && fits 16 m.slot && fits 8 m.slotGen && partOk m.part && fits 12 m.context && fits 32 m.seq &&
    fits 64 m.deadline && fits 64 m.applyAt

def bodyOk : ParcelBody → Bool
  | .data b => b.length ≤ 65536
  | .chunk b => b.length ≤ 65536
  | .peg m => pegMsgOk m
  | .atomicReq m => poolMsgOk m
  | .atomicResp m => poolMsgOk m

/-- A parcel header's widths (R107). -/
def parcelHdrOk (h : ParcelHdr) : Bool :=
  fits 8 h.pkind && fits 11 h.src && fits 11 h.dst && fits 24 h.domain && fits 8 h.cls && fits 32 h.length && fits 32 h.pseq &&
    fits 32 h.recvTag && fits 64 h.deadline

/-- A gathered parcel's identification, its ejection pair (0 to 95) and a Sill tile (R89, R111). -/
def rxParcelOk (x : RxParcel) : Bool :=
  fits 11 x.flitSrc && fits 11 x.flitDst && fits 24 x.flitDomain && fits 3 x.flitCls && fits 12 x.ptag && fits 8 x.epoch &&
    parcelHdrOk x.hdr && x.lanePair < 96 && bodyOk x.body && x.placeUncorrectable.elim true (fun t => t < 4)

/-- A BOUND_NOTICE (R276). -/
def noticeOk (n : BoundNotice) : Bool := fits 12 n.ptag && fits 11 n.dst && fits 8 n.reason

/-- A HALT or RESUME flit (R503). -/
def haltFlitOk (f : HaltFlit) : Bool := fits 32 f.haltId && fits 24 f.domain && fits 64 f.time

/-- A PROBE flit (R518). -/
def probeOk (p : Probe) : Bool := fits 8 p.kind && fits 8 p.pattern && fits 32 p.seq && fits 64 p.leftAt && fits 32 p.turn

/-- A HELLO (R377). -/
def helloOk (m : Hello) : Bool := fits 16 m.chip && fits 8 m.link && fits 8 m.role

/-- A 256 B line (R186). -/
def lineOk (l : List Byte) : Bool := l.length = 256

/-- A tier 0 sector as the stack returns it: 72 symbols (R178). -/
def sectorOk (s : Sector) : Bool := s.length = 72

/-- Channels 0 to 7 (R540). -/
def chOk (c : Nat) : Bool := c < 8

/-- A start's findings: bank rows, engines and Kingpost units (R33, R324, R331). -/
def findingsOk (f : StartFindings) : Bool :=
  f.failedEngines.all (fits 12) && f.failedUnits.all (fun u => 0xF0 ≤ u && u ≤ 0xF3)

def unitDataOk (d : UnitData) : Bool := d.lanePair < 96 && memReadOk d.localRead
def weightUnitOk (d : WeightUnit) : Bool := d.lanePair < 72 && d.uncorrectable.elim true (fun t => t < 4)

/-- An SPDM request's certificate slot (R366). -/
def spdmReqOk : SpdmReq → Bool
  | .getCertificate k => fits 8 k
  | _ => true

/-- A register offset of the 64 MiB window (R529). -/
def offsetOk (o : Nat) : Bool := fits 26 o

/-- IDE streams 0 to 8, sub-streams and key sets as bytes hold them (R369). -/
def ideOk (stream sub keySet : Nat) : Bool := fits 8 stream && fits 4 sub && fits 1 keySet

/-- Every field of a command within its range. -/
def Instr.wellFormed (i : Instr) : Bool :=
  match i with
  | .send p => packetOk p
  | .sendMirror p => packetOk p
  | .recvPost p => packetOk p
  | .recvCancel p => packetOk p
  | .ringSetup p list => packetOk p && memReadOk list
  | .allReduce p => packetOk p
  | .reduceScatter p => packetOk p
  | .allGather p => packetOk p
  | .broadcast p => packetOk p
  | .unfold p => packetOk p
  | .atomic p => packetOk p
  | .invalidate p => packetOk p
  | .pegAlloc p => packetOk p
  | .pegFree p => packetOk p
  | .signal p => packetOk p
  | .wait p => packetOk p
  | .fence p => packetOk p
  | .exportPeg p => packetOk p
  | .importPeg p => packetOk p
  | .ringDeclare p => packetOk p
  | .pegRead p => packetOk p
  | .keyLoad p blob => packetOk p && blobOk blob
  | .keyEvict p => packetOk p
  | .keyGenerate p _ => packetOk p
  | .keyQuery p => packetOk p
  | .keyPinRc p blob => packetOk p && blobOk blob
  | .bindUnwrap p set => packetOk p && bindSetOk set
  | .getEvidence p _ => packetOk p
  | .getCerts p => packetOk p
  | .getMeasurements p => packetOk p
  | .neighbourKeyx p => packetOk p
  | .keyClaim p _ => packetOk p
  | .partCreate p desc => packetOk p && memReadOk desc
  | .partSeal p => packetOk p
  | .partDestroy p => packetOk p
  | .partRelease p => packetOk p
  | .ctxRegister p => packetOk p
  | .ctxRelease p scrub => packetOk p && memReadOk scrub
  | .tdiBind p => packetOk p
  | .partQuery p => packetOk p
  | .ctxReset p => packetOk p
  | .admitRequest p => packetOk p
  | .admitRelease p => packetOk p
  | .shaperSet p => packetOk p
  | .p0Reserve p => packetOk p
  | .sharedOptIn p => packetOk p
  | .calQuery p => packetOk p
  | .setPkgLimit p => packetOk p
  | .grantQuery p => packetOk p
  | .enterState p => packetOk p
  | .throttleQuery p => packetOk p
  | .counterSample p => packetOk p
  | .traceStart p => packetOk p
  | .traceStop p => packetOk p
  | .halt p => packetOk p
  | .resume p => packetOk p
  | .debugOpenTenant p token => packetOk p && debugTokenOk token
  | .debugOpenOperator p => packetOk p
  | .debugChallenge p _ => packetOk p
  | .debugResponse p resp => packetOk p && respOk resp
  | .lcQuery p => packetOk p
  | .lcTransition p => packetOk p
  | .lcStatus p => packetOk p
  | .katRun p failed => packetOk p && failed.all (fits 12)
  | .loopback p => packetOk p
  | .faultInject p => packetOk p
  | .memtest p => packetOk p
  | .sqTailDoorbell via ring tail => accessOk via && ringIdOk ring && fits 16 tail
  | .cqHeadAdvance via ring head => accessOk via && ringIdOk ring && fits 16 head
  | .ringEnableWrite via ring _ => accessOk via && ringIdOk ring
  | .ringFetch ring entries => ringIdOk ring && entries.length ≤ 32 && entries.all rawOk
  | .completionWrite ring => ringIdOk ring
  | .parcelEligible _ => true
  | .flitSend link slot _ lanePair source => linkOk link && slot < 781 && lanePair < 96 && memReadOk source
  | .flitReceive link flit => linkOk link && rxFlitOk flit
  | .ackTimeout link => linkOk link
  | .linkUp link => linkOk link
  | .linkTrained link => linkOk link
  | .linkDown link => linkOk link
  | .linkSilenceTimeout link => linkOk link
  | .exchangeRetry link => linkOk link
  | .keyxHello link msg => linkOk link && helloOk msg
  | .keyxCerts link _ => linkOk link
  | .keyxKemI link _ => linkOk link
  | .keyxKemR link _ => linkOk link
  | .keyxConfirm link _ => linkOk link
  | .keyxRefuse link reason => linkOk link && fits 8 reason
  | .keyxTimeout link => linkOk link
  | .hopKeyRotation link => linkOk link
  | .keyxRotate link n => linkOk link && fits 32 n
  | .keyxRotateAck link n => linkOk link && fits 32 n
  | .rotateResend link => linkOk link
  | .parcelAccept parcel => rxParcelOk parcel
  | .packReceive pack => packOk pack
  | .parcelDeclaredLost _ => true
  | .ldtPassed _ => true
  | .boundNoticeSend link _ => linkOk link
  | .boundNoticeReceive notice => noticeOk notice
  | .reduceForwardUnit part group unit _ data => partOk part && fits 8 group && fits 32 unit && unitDataOk data
  | .collectiveTimeout part group => partOk part && fits 8 group
  | .unfoldUnit part slot seq unit data => partOk part && fits 12 slot && fits 32 seq && fits 32 unit && weightUnitOk data
  | .memRead port part addr op => port < 24 && partOk part && fits 48 addr && fits 8 op && (op < 0x11 || 0x14 < op)
  | .memWrite port part addr op data => port < 24 && partOk part && fits 48 addr && (0x11 ≤ op && op ≤ 0x14) && data.length = 32 * 2 ^ (op - 0x10)
  | .stackAnswer _ first second _ => first.all sectorOk && second.all sectorOk
  | .tier1Answer _ line _ _ _ => lineOk line
  | .sledAnswer link tag status line _ _ _ => linkOk link && fits 16 tag && fits 8 status && (line.length = 256 || line.isEmpty)
  | .sledTimeout link tag => linkOk link && fits 16 tag
  | .poolRequestHome src domain pseq cls req line => fits 11 src && fits 24 domain && fits 32 pseq && fits 3 cls && poolMsgOk req && memReadOk line
  | .answerTimeout _ => true
  | .patrolRead addr first second => fits 48 addr && sectorOk first && sectorOk second
  | .counterSweep page => fits 30 page
  | .granuleCleaned => true
  | .pegRequestApply src domain msg => fits 11 src && fits 24 domain && pegMsgOk msg
  | .pegAnswerApply src domain msg => fits 11 src && fits 24 domain && pegMsgOk msg
  | .pegWaitTimeout part slot seq => partOk part && fits 12 slot && fits 32 seq
  | .remoteRegistrationDrop src part context seq => fits 11 src && partOk part && fits 12 context && fits 32 seq
  | .sliceEnd part cls _ => partOk part && fits 3 cls
  | .runLimitFault part slot seq => partOk part && fits 12 slot && fits 32 seq
  | .calendarTick => true
  | .frameBoundary => true
  | .framePEdge tod _ => fits 64 tod
  | .frameLockLost => true
  | .budgetTick => true
  | .powerEpochBoundary => true
  | .telemWord _ => true
  | .telemLost => true
  | .grantViolation part => partOk part
  | .limitAlertChange _ => true
  | .regulatorAlert => true
  | .laneGroupGate tile group => tile < 12 && group < 3
  | .laneGroupWake tile group => tile < 12 && group < 3
  | .lowPowerEntry => true
  | .l2ExitComplete => true
  | .rootMonitorCheck count => fits 16 count
  | .chipRstReq => true
  | .corePowerFall => true
  | .powerLoss => true
  | .coldStart f => findingsOk f
  | .warmStart f => findingsOk f
  | .vppFuseRecheck _ => true
  | .imageFetch _ => true
  | .entropyHealthFail => true
  | .reseedComplete _ => true
  | .kpCflow => true
  | .teardownComplete part => partOk part
  | .strikeS1End part => partOk part
  | .strikeReserveGrant part => partOk part
  | .strikeS3End part => partOk part
  | .strikeS4End part => partOk part
  | .engineRung engine => fits 12 engine
  | .engineCheckDone engine _ => fits 12 engine
  | .partitionRung part => partOk part
  | .partitionRungComplete part => partOk part
  | .chipRung cause _ => fits 8 cause
  | .trayRung cause => fits 8 cause
  | .ladderTimeout rung scope units engines => fits 3 rung && fits 12 scope && fits 14 units && engines.all (fits 12)
  | .resetReqEngine target => fits 12 target
  | .resetReqPartition target => fits 12 target
  | .resetReqChip target => fits 12 target
  | .partResetReq via part => accessOk via && partOk part
  | .dumpAck => true
  | .linkEnableWrite link _ => linkOk link
  | .linkRearm link => linkOk link
  | .backOkWrite => true
  | .bootGoWrite _ => true
  | .haltCtrlHalt via _ domain => accessOk via && fits 24 domain
  | .haltCtrlResume via _ domain => accessOk via && fits 24 domain
  | .haltCut => true
  | .haltFlitReceive link flit => linkOk link && haltFlitOk flit
  | .resumeFlitReceive link flit => linkOk link && haltFlitOk flit
  | .haltRestart => true
  | .traceSample slot => slot < 17
  | .echoRequestReceive link probe => linkOk link && probeOk probe
  | .echoResponseReceive link probe => linkOk link && probeOk probe
  | .mbInPush via ch _ => accessOk via && chOk ch
  | .mbOutPop via ch => accessOk via && chOk ch
  | .mbInReady via ch => accessOk via && chOk ch
  | .mbResync via ch => accessOk via && chOk ch
  | .mbTestDoorbell via ch bit => accessOk via && chOk ch && fits 5 bit
  | .mbAssignWrite _ => true
  | .ping ch => chOk ch
  | .blockState ch => chOk ch
  | .partState ch => chOk ch
  | .noticeMask ch => chOk ch
  | .mbMessageTimeout ch => chOk ch
  | .noticeFault ch => chOk ch
  | .noticePart ch => chOk ch
  | .noticeStart ch => chOk ch
  | .noticeLost ch => chOk ch
  | .functionLevelReset fn => fn.elim true partOk
  | .pcieLinkReset => true
  | .doeDiscovery index => fits 8 index
  | .spdmRequest req => spdmReqOk req
  | .spdmSessionEstablish id _ _ _ => fits 32 id
  | .vendorDefinedRequest session _ _ pkt => fits 32 session && rawOk pkt
  | .ideKmQuery session => fits 32 session
  | .ideKmKeyProg session stream sub keySet streamId _ _ => fits 32 session && fits 8 stream && fits 4 sub && fits 1 keySet && fits 8 streamId
  | .ideKmKSetGo session stream sub keySet => fits 32 session && fits 8 stream && fits 4 sub && fits 1 keySet
  | .ideKmKSetStop session stream sub keySet => fits 32 session && fits 8 stream && fits 4 sub && fits 1 keySet
  | .ideCheckFailure stream => fits 8 stream
  | .tdiBadRequest part => partOk part
  | .getTdispVersion session _ => fits 32 session
  | .getTdispCapabilities session _ => fits 32 session
  | .lockInterfaceRequest session _ _ _ _ _ => fits 32 session
  | .getDeviceInterfaceReport session _ => fits 32 session
  | .getDeviceInterfaceState session _ => fits 32 session
  | .startInterfaceRequest session _ => fits 32 session
  | .stopInterfaceRequest session _ => fits 32 session
  | .pcieLoopbackEntry => true
  | .tapBypass => true
  | .tapIdcode => true
  | .tapRegAccess _ offset _ => fits 26 offset
  | .tapScan => true
  | .tapMbist pkt => packetOk pkt
  | .tapFault pkt => packetOk pkt
  | .registerWrite via offset _ _ => accessOk via && fits 26 offset
  | .malformedRegisterAccess via offset _ _ => accessOk via && fits 26 offset
  | .cmdReady => true
  | .p0DrainDeadline _ => true
  | .controllerWriteAck _ _ => true
  | .spdmHeartbeatTimeout session => fits 32 session
  | .loopbackRunEnd point target r0 r1 r2 r3 _ => fits 8 point && fits 16 target && fits 32 r0 && fits 32 r1 && fits 32 r2 && fits 32 r3
  | .memtestEnd tier first tested failing firstFail => fits 1 tier && fits 32 first && fits 32 tested && fits 32 failing && fits 64 firstFail

end Sys2Proof
end

