-- ==== Sys2Proof/Tests/Slice0.lean ====
section
/-! SUPPORT. Tests: an ill-formed term for each check of WellFormed, small tests of single commands with values from the spec, and for
each obligation with hypotheses concrete states and operands that meet them. -/

namespace Sys2Proof.Tests

set_option Elab.async false

open Sys2Proof Sys2Proof.Machine

/-! ### States and packets -/

/-- A packet with its parameters as byte offset, byte length and value (R56). -/
def pk (src : Source) (slot seq : Nat) (fields : List (Nat × Nat × Nat)) : Packet :=
  { src := src, ready := true, fmt := 1, flags := 0, seq := seq, handle := BitVec.ofNat 32 slot, layer := 0, operator := 0, step := 0
    params := BitVec.ofNat 352 (fields.foldl (fun n f => n + f.2.2 % 2 ^ (8 * f.2.1) * 2 ^ (8 * (f.1 - 20))) 0) }

/-- A packet of the context 1 of partition 1 at the CMD port. -/
abbrev pkC (fields : List (Nat × Nat × Nat)) : Packet := pk (.cmd 1) 1 0 fields

/-- A packet of the management ring. -/
abbrev pkM (fields : List (Nat × Nat × Nat)) : Packet := pk .mgmt 0 0 fields

/-- A link as it is once its exchange has ended. -/
def keyedLink : Link :=
  { Link.reset with state := .keyed, pcsUp := true, secret := true, initiator := true, peer := some 1, credits := List.replicate 10 32 }

/-- Shares of a partition. -/
def someShares : Shares :=
  { Shares.zero with keySlots := 8, contexts := 8, pegs := 64, handles := 64, waiters := 16, groups := 4, resvs := 16, ctrWays := 1, poolWays := 1 }

/-- A sealed partition p with its domain, tier 0 granules 64 p to 64 p + 63 and shares. -/
def sealedPart (p : Nat) : Part :=
  { Part.reset with pstate := .sealed, domain := 0x100 + p, resvW := 400, t0 := [{ first := 64 * p, count := 64 }]
                    shares := { someShares with ctxBase := 8 * p - 7, contexts := if p = 0 then 1 else 8 }, tierKey := some p }

/-- A READY block in Production at position (0, 0, 0) of a 4 × 4 × 2 machine: partitions 0 and 1 are sealed, each has one context,
partition 1 holds its domain key, and the links of bundle 0 are KEYED. -/
def live : State :=
  { State.reset with
    parts := sealedPart 0 :: sealedPart 1 :: List.replicate 14 Part.reset
    cmds := { State.reset.cmds with ctxs := [newCtx 0 0 4 0, newCtx 1 1 4 0], cmdReady := true }
    gl := { State.reset.gl with coord := 0x133000, links := List.replicate 8 keyedLink ++ List.replicate 56 Link.reset }
    sill := { State.reset.sill with unclean := [] }
    cal := { State.reset.cal with now := 5000000, locked := true, firstEdge := true, frameOk := true, todOk := true }
    kp := { State.reset.kp with
      ready := true, svn := 3
      slots := [{ part := 1, slot := 0, state := .loaded, usage := 0, attr := 0, keyId := 1, domain := 0x101, prefix_ := 0, key := 7
                  noDebug := false, evict := none, users := [] }] }
    start := { State.reset.start with
      step := 14, kind := 1, bootState := 3, image := some ⟨true, false, 3, true, true⟩, purlin := [1], rootOk := true
      aonOnSosc := false, rootCount := 31250, rootGood := 3, pwrAon := true, pwrCore := true, ctlOn := true, gltOn := 0xFF
      sltOn := 0xF, inReset := false }
    fuses := { State.reset.fuses with
      intent := [32, 32, 0], completion := [32, 32, 0], bankA := .complete, inUse := some false, vpp := true, lc := .production } }

/-! ### Witnesses: registers and rings -/

/-- `live` with its management ring served, deep enough and with one entry submitted. -/
def liveRing : State :=
  { live with cmds := { live.cmds with mgmtRing := { RingRegs.reset with sqLog2 := 6, cqLog2 := 6, enable := true, sqTail := 1 } } }

def aReply : Reply := { seq := 5, status := 0, cls := 4, rflags := 0, time := 0, result := 0 }

def liveHeld : State :=
  { liveRing with cmds := { liveRing.cmds with mgmtRing := { liveRing.cmds.mgmtRing with held := [aReply] }, cmdHeld := [(.cmd 1, aReply)] } }

def liveFull : State :=
  { liveRing with cmds := { liveRing.cmds with mgmtRing := { liveRing.cmds.mgmtRing with held := List.replicate 64 aReply, cqTail := 64 } } }

def lcRaw : RawPacket := { cls := 11, opcode := 1, pkt := pk .mgmt 0 0 [], aux := .none }
def badFmtP : Packet := { pkC [] with fmt := 2 }
def notReady : State := { live with kp := { live.kp with ready := false } }

/-! ### Witnesses: parcels and links -/

/-- The name of a command of context 1 of partition 1. -/
def refC (cls op : Nat) : CmdRef :=
  { src := .cmd 1, part := 1, slot := 1, gen := 0, seq := 0, cls := cls, op := op, flags := 0, layer := 0, operator := 0, step := 0
    start := 0 }

/-- A SEND's parcel of partition 1 to chip 1 as best effort, accepted and not yet eligible. -/
def parcelBe : TxParcel :=
  { id := 0, part := 1, kind := .data, ref := some (refC 5 1), dst := 1, cls := 4, srcAddr := 0x400000000, length := 64, recvTag := 9
    kindInfo := 0, body := .data [], resv := none, mirror := false, acceptedAt := 0, eligibleAt := none, deadline := 0, pseq := none
    ptag := 0, epoch := 0, epochM := 0, iv := 0, hops := 1, flits := 1, sent := 0, sentMirror := 0, leftAt := none, broken := false
    detourNotices := 0, delay := 0, lane := none, drain := false }

/-- A reservation of partition 1 on bundle 0, class 1. -/
def resvT : Resv :=
  { entry := 0, gen := 1, part := 1, cls := 1, resource := 1, mask := 1, maxHops := 2, detour := false, mirror := false, tier := false
    rate := 10, maxParcel := 4, bound := 20000, slots := 10, units := 10, homes := 0, pos := 0, state := .active, links := [some 0]
    shaperRate := 0, tokens := 10000000, tokensAt := 0 }

/-- `live` with parcels waiting, and their commands in flight. -/
def withParcels (ps : List TxParcel) : State :=
  { live with
    gl := { live.gl with parcels := ps, nextId := 8 }
    cmds := { live.cmds with inflight := ps.filterMap (fun x => x.ref.map (fun r => { ref := r, preempted := false, overrun := false })) }
    cal := { live.cal with resvs := [resvT], resvGens := [(0, 1)] } }

def liveBe : State := withParcels [parcelBe]
def parcelResv : TxParcel := { parcelBe with cls := 1, resv := some 0 }
def liveResv : State := withParcels [parcelResv]
/-- A parcel that has become eligible within its bound, with part of it sent. -/
def parcelOpen : TxParcel := { parcelResv with eligibleAt := some 4999000, deadline := 5019000, pseq := some 3, ptag := 5, flits := 2, sent := 1 }
def liveOpen : State := withParcels [parcelOpen]
/-- A parcel that has left. -/
def parcelLeft : TxParcel := { parcelOpen with sent := 2, leftAt := some 5000000 }
def liveLeft : State := withParcels [parcelLeft]

def noticeHere : BoundNotice := { ptag := 5, dst := 1, reason := 1 }
def noticeElse : BoundNotice := { ptag := 6, dst := 1, reason := 1 }

def aPosted : Posted := { ref := { refC 5 3 with op := 3 }, addr := 0x400000000, len := 64, tag := 9, filter := 0xFFFF }
def livePosted : State :=
  { live with
    gl := { live.gl with posted := [aPosted] }
    cmds := { live.cmds with inflight := [{ ref := aPosted.ref, preempted := false, overrun := false }] } }

/-- A DATA parcel of 4 bytes from chip 1. -/
def rxData : RxParcel :=
  { flitSrc := 1, flitDst := 0, flitDomain := 0x101, flitCls := 4, ptag := 0, mirror := false, epoch := 2
    hdr := { pkind := 1, mirrorSent := false, src := 1, dst := 0, domain := 0x101, cls := 4, length := 4, pseq := 0, recvTag := 9
             deadline := 0, kindInfo := 0 }
    tagOk := true, twinsOk := true, lanePair := 0, body := .data [1, 2, 3, 4], placeUncorrectable := none }
def aBuffer : State := livePosted
def aWindow : State :=
  { livePosted with gl := { livePosted.gl with windows := [{ part := 1, src := 1, base := 1, received := [] }] } }
def aRecord : PackRecord := { pseq := 3, epoch := 0, result := 0, copy := false, staged := false }
def aPack : Pack := { src := 1, domain := 0x101, cls := 1, gmacOk := true, records := [aRecord] }

def sendP : Packet := pkC [(20, 2, 1), (22, 1, 4), (24, 6, 0x400000000), (32, 4, 64), (36, 4, 9)]
/-- P0 with its domain key and a reservation. -/
def liveZero : State :=
  { live with
    kp := { live.kp with slots := live.kp.slots.map (fun k => { k with part := 0, domain := 0x100 }) }
    cal := { live.cal with resvs := [{ resvT with part := 0 }], resvGens := [(0, 1)] } }
def mirrorP : Packet :=
  pk (.cmd 0) 0 0 [(20, 2, 2), (22, 1, 1), (24, 6, 0x1000), (32, 4, 64), (36, 4, 9), (40, 4, 0x10010000)]
def postP : Packet := pkC [(20, 6, 0x400000000), (28, 4, 64), (32, 4, 9), (36, 2, 0xFFFF)]
def cancelP : Packet := pkC [(20, 4, 9), (24, 2, 0xFFFF)]

/-- `live` with link n changed. -/
def withLink (n : Nat) (f : Link → Link) : State := { live with gl := { live.gl with links := live.gl.links.modify n f } }

def linkUpS : State := withLink 8 id
def linkPcs : State := withLink 8 (fun l => { l with pcsUp := true, enable := false })
def linkTraining : State := withLink 8 (fun l => { l with state := .training })
def linkDisabled : State := withLink 8 (fun l => { l with state := .disabled })
def linkUnkeyed : State := withLink 8 (fun l => { l with state := .unkeyed })
def linkAt (k : KeyxStep) (init : Bool) : State :=
  withLink 8 (fun l => { l with state := .unkeyed, keyx := k, initiator := init, keyxAt := 4000000, peer := some 5 })
def aHello : Hello := { chip := 4, coord := 0x133004, link := 8, role := 0, wellFormed := true }
def goodCerts : CertsSeen := { wellFormed := true, claimsProduction := true, chainsOk := true, modelOk := true, idHash := 7 }
def goodKem : KemSeen := { wellFormed := true, decapsOk := true, confirmOk := true, twinsOk := true }
def keyxP : Packet := pkM [(20, 1, 8)]

/-- Link 0 waiting for an acknowledgement of a ROTATE. -/
def linkRotating : State := withLink 0 (fun l => { l with rotating := true, rotateSent := some 4000000 })
def linkResponder : State := withLink 0 (fun l => { l with initiator := false })
def zeroHdr : FlitHdr :=
  { ftype := 0, keyPhase := false, cls := 0, lseq := 0, ackSeq := 0, ackValid := false, nak := false, last := false, mirror := false
    hops := 0, src := 0, dst := 0, dl := false, domain := 0, routeEpoch := 0, fidx := 0, ptag := 0, creditVc := 0, creditCnt := 0
    reserved := false }

/-! ### Witnesses: flits, groups, memory and the pool -/

def qZero : QFlit :=
  { hdr := zeroHdr, payload := .zeros, owner := none, resv := none, transit := false, queuedAt := 0, noticed := false
    detoured := false, from_ := none }
def linkReplay : State := withLink 0 (fun l => { l with replay := [(0, qZero)], txSeq := 1 })
def linkResend : State := withLink 0 (fun l => { l with replay := [(0, qZero)], resend := [0], txSeq := 1 })
/-- A best effort parcel with a PSEQ and one flit, eligible. -/
def parcelGo : TxParcel := { parcelBe with eligibleAt := some 4999000, pseq := some 3, ptag := 7 }
def liveGo : State :=
  let s := withParcels [parcelGo]
  { s with damper := { s.damper with rows := s.damper.rows.modify 1 (fun g => { g with grant := 1000 }) } }
def linkQuar : State := withLink 0 (fun l => { l with state := .quarantined, keyx := .idle })
/-- A flit of chip 1 for another chip that waits on link 0. -/
def qTransit : QFlit :=
  { qZero with hdr := { zeroHdr with ftype := 1, cls := 1, src := 1, dst := 2, ptag := 5 }, transit := true }
def linkTransit : State := withLink 0 (fun l => { l with txq := [qTransit] })
def aProbe : Probe := { kind := 1, pattern := 0, seq := 0, leftAt := 7, turn := 0, replayed := false, data := [] }

def rxNull : RxFlit :=
  { hdr := { zeroHdr with src := 1, ackValid := true }, payload := .zeros, checkOk := true, nullOk := true, keyxHello := false }
def rxFor : RxFlit :=
  { rxNull with hdr := { zeroHdr with ftype := 1, cls := 4, src := 1, dst := 0, ptag := 7, domain := 0x101, last := true } }
def rxOn : RxFlit := { rxFor with hdr := { rxFor.hdr with src := 0, dst := 1 } }
def rxBad : RxFlit := { rxNull with checkOk := false }

def ringSetupP : Packet := pkC [(20, 1, 2), (22, 2, 2), (24, 6, 0x400000000), (32, 6, 0x400010000)]
def ringFreeP : Packet := pkC [(20, 1, 2)]
/-- A group of chips 0 and 1 at this chip. -/
def aGroup : Group :=
  { part := 1, num := 2, members := [0, 1], pos := 0, stageAddr := 0x400010000, inst := 0, running := none, staged := []
    arrived := [], awaitConsumed := [], credits := 64 }
def liveGroup : State := { live with inl := { live.inl with groups := [aGroup] } }
/-- OP and formats of a SUM of FP32, 4 elements, as best effort. -/
def allReduceP : Packet :=
  pkC [(20, 1, 2), (21, 1, 1), (22, 1, 1), (23, 1, 1), (24, 6, 0x400000000), (32, 6, 0x400001000), (40, 4, 4), (44, 1, 4), (52, 2, 10)]
def allGatherP : Packet :=
  pkC [(20, 1, 2), (21, 1, 0), (22, 1, 1), (23, 1, 1), (24, 6, 0x400000000), (32, 6, 0x400001000), (40, 4, 4), (44, 1, 4), (52, 2, 10)]
def broadcastP : Packet :=
  pkC [(20, 1, 2), (21, 1, 0), (22, 1, 1), (23, 1, 1), (24, 6, 0x400000000), (32, 6, 0x400000000), (40, 4, 4), (44, 1, 4),
       (46, 2, 1), (52, 2, 10)]
/-- An ALL_REDUCE of 4 FP32 elements in progress on it. -/
def aRun : Collective :=
  { ref := refC 5 2, op := 1, inFmt := 1, outFmt := 1, srcAddr := 0x400000000, dstAddr := 0x400001000, count := 4, cls := 4
    root := 0, resv := none, timeoutUs := 10, saturate := false, fenceSet := false, received := 0, sent := 0, saturations := 0
    toWrite := 2, toSend := 2, handled := [], ownDone := [], unsettled := 0, delay := 0, lastChunk := 4990000, preempted := false }
def runGroup : Group := { aGroup with running := some aRun }
def liveRun : State :=
  { live with
    inl := { live.inl with groups := [runGroup] }
    cmds := { live.cmds with inflight := [{ ref := aRun.ref, preempted := false, overrun := false }] } }
def aUnitData : UnitData := { lanePair := 0, localRead := .ok (List.replicate 8 0), twinsOk := true }

/-- An image of one block of MXFP8 in one unit, to BF16. -/
def unfoldP : Packet :=
  { pkC [(20, 1, 0x20), (21, 1, 2), (22, 1, 0), (23, 1, 0), (24, 6, 0x400000000), (30, 6, 0x400100000), (36, 6, 0x400200000),
         (56, 4, 0), (60, 2, 1), (62, 2, 0)] with flags := 0x40 }
def unfoldKey : State :=
  { live with kp := { live.kp with slots := live.kp.slots.map (fun k => { k with attr := 8 }) } }
def unfoldSlot : KeySlot :=
  { part := 1, slot := 0, state := .loaded, usage := 0, attr := 8, keyId := 1, domain := 0x101, prefix_ := 0, key := 7
    noDebug := false, evict := none, users := [] }
def anUnfold : Unfolding :=
  { ref := { refC 6 1 with op := 1 }, desc := 0x220, imageAddr := 0x400000000, tagAddr := 0x400100000, outAddr := 0x400200000
    scaleAddr := 0, imageId := 0, first := 0, blocks := 1, keySlot := 0, cls := 1, pendingUnits := [0], verified := 0, written := 0
    saturations := 0, delay := 0 }
def liveUnfold : State :=
  { live with
    inl := { live.inl with unfolds := [anUnfold] }
    cmds := { live.cmds with inflight := [{ ref := anUnfold.ref, preempted := false, overrun := false }] } }
def aWeight (ok : Bool) : WeightUnit :=
  { plain := List.replicate 4080 0, tagOk := ok, twinsOk := true, lanePair := 0, uncorrectable := none }

/-- A read of the die in progress. -/
def readAccess : MemAccess :=
  { id := 4, port := some 3, group := 1, part := 1, addr := 0x400000000, size := 64, write := false, data := [], cls := 4
    issuedAt := 4999000, begun := true, recordWait := false, reseal := false, need := [0x4000000], got := [], retried := false
    answer := none }
def liveRead (a : MemAccess) : State := { live with sill := { live.sill with accesses := [a], nextAccess := 5 } }
def tier1Access : MemAccess := { readAccess with addr := 0x10000000000, need := [0x100000000] }
def sledAccess : MemAccess := { readAccess with addr := ownBase, need := [ownBase / 256] }
def zeroSector : Sector := (encodeSectors 1 (List.replicate 64 0)).headD []
def sledRead1 : SledReq := { link := 48, tag := 2, access := 4, line := ownBase / 256, write := false, sentAt := 4999000 }
def liveSled : State := { liveRead sledAccess with sill := { (liveRead sledAccess).sill with sleds := [sledRead1] } }
def sledWrite1 : SledReq := { sledRead1 with write := true }
def heldSled : HeldLine := { access := 4, part := 1, addr := ownBase, data := [] }
def heldTier1 : HeldLine := { heldSled with addr := 0x10000000000 }
def liveSledW : State :=
  { live with sill := { live.sill with sleds := [sledWrite1], heldLines := [heldSled], nextAccess := 5 } }
def liveHeldLine : State :=
  { live with sill := { live.sill with heldLines := [heldTier1], nextAccess := 5 } }

/-- Partition 1 with granule 0 of the pool here, and region 3 of the pool at chip 1. -/
def poolPart : Part :=
  let p := sealedPart 1
  { p with t2 := [{ first := 0, count := 64 }], view := { p.view with poolMap := [(3, 1, true)] } }
def livePool : State :=
  { live with parts := live.parts.set 1 poolPart, sill := { live.sill with poolEn := true } }
def readMsg : PoolMsg := poolReq 1 0 0xF false 0 0x100 1 0 0 []
def addMsg : PoolMsg := poolReq 0x11 0x0C 0 false 9 0x100 1 5 0 []
def inboxOf (m : PoolMsg) : PoolIn := { src := 1, domain := 0x101, pseq := 4, cls := 4, req := m, waited := false }
def liveInbox (m : PoolMsg) : State :=
  { livePool with sill := { livePool.sill with inbox := [inboxOf m] } }
def aRemote : RemoteReq :=
  { id := 6, part := 1, home := 1, ref := some (refC 6 2), access := none, addr := apBase + 3 * 2 ^ 41, rop := 0x11, context := 1
    aseq := 9, pseq := some 4, settledAt := some 4000000, dropFill := false, resentBe := false }
def liveRemote : State :=
  { live with
    sill := { live.sill with remote := [aRemote] }
    cmds := { live.cmds with inflight := [{ ref := refC 6 2, preempted := false, overrun := false }] } }
def liveSweep : State :=
  { live with sill := { live.sill with sweep := [{ first := 3, count := 4 }]
                                       records := [{ page := 5, major := 1, minors := List.replicate 16 0, keyEpoch := 2 }] } }
def poolLine : PoolLine := { part := 1, addr := apBase + 3 * 2 ^ 41, data := List.replicate 256 0 }
def livePoolLine : State := { livePool with sill := { livePool.sill with pool := [poolLine] } }
def invalidateP : Packet := { pkC [(24, 6, ownBase), (32, 4, 1)] with flags := 0x40 }
def atomicP : Packet :=
  { pkC [(20, 1, 1), (21, 1, 0x0C), (24, 6, apBase + 3 * 2 ^ 41), (32, 4, 9), (36, 4, 5)] with flags := 0x40 }

/-! ### Witnesses: pegs and keys -/

/-- A live event peg of context 1 of partition 1. -/
def aPeg (i v : Nat) : Peg :=
  { idx := i, value := BitVec.ofNat 64 v, isValue := false, state := .live, slotGen := 1, ownerPart := 1, ownerCtx := 1, role := .none
    partner := 0, depth := 0, orphanedAt := 0 }
def ownEntry (i : Nat) : HandleEntry := { idx := i, gen := 2, target := some (.owner i 1), checkOk := true }
/-- Handles 0 to 3 of context 1: pegs 0 and 1, the event of another chip, and a local import of peg 1. -/
def pegCtx : Ctx :=
  { newCtx 1 1 4 0 with handles := [ownEntry 0, ownEntry 1, { idx := 2, gen := 2, target := some (.remote 1 1 9 1 7), checkOk := true },
      { idx := 3, gen := 2, target := some (.localImport 1 1 7), checkOk := true }] }
def withPegs (gs : List Peg) (c : Ctx) : State :=
  { live with pegs := { live.pegs with slots := gs }, cmds := { live.cmds with ctxs := [newCtx 0 0 4 0, c] } }
def livePegs : State := withPegs [aPeg 0 5, aPeg 1 3] pegCtx
def handle (i : Nat) : Nat := mkHandle i 2
/-- Peg 0 with a local waiter and a remote one that a signal of 1 satisfies. -/
def aWaiter : Waiter :=
  { ref := { refC 7 4 with seq := 77 }, peg := 0, remoteChip := none, target := 6, deadline := 5100000, lastArmed := 5
    preempted := false, heldAnswer := none, homePart := 1, homeGen := 1 }
def aRemoteWait : RemoteWait := { src := 1, part := 1, context := 3, seq := 4, peg := 0, target := 6, deadline := 5100000 }
def livePegWaits : State :=
  { livePegs with
    pegs := { livePegs.pegs with waiters := [aWaiter], remote := [aRemoteWait] }
    cmds := { livePegs.cmds with inflight := [{ ref := aWaiter.ref, preempted := false, overrun := false }] } }
def livePegTop : State := withPegs [aPeg 0 pegMax] pegCtx
def aMember : FenceMember := { parcel := 0, settled := false, dst := 1, mirror := false, epoch := 0, epochM := 0 }
def aFence : Fence := { ref := { refC 7 5 with seq := 70 }, members := [aMember], failed := false }
def fenceCtx : Ctx := { pegCtx with fences := [aFence] }
def openCtx : Ctx := { pegCtx with openSet := [aMember] }
def livePegFence : State := withPegs [aPeg 0 5] fenceCtx
def livePegOpen : State := withPegs [aPeg 0 5] openCtx
def pegAllocP : Packet := pkC [(20, 1, 1), (24, 8, 17)]
def pegFreeP : Packet := pkC [(20, 4, handle 0)]
def pegFreeFarP : Packet := pkC [(20, 4, handle 2)]
def signalP : Packet := pkC [(20, 4, handle 0), (24, 8, 1)]
def signalFarP : Packet := pkC [(20, 4, handle 2), (24, 8, 1)]
def waitP (target timeout : Nat) : Packet := pkC [(20, 4, handle 0), (24, 8, target), (32, 4, timeout)]
def fenceP : Packet := pkC []
def exportP : Packet := pkC [(20, 4, handle 0), (24, 1, 7)]
/-- A name of peg 1 of partition 1 here, and one of a peg at chip 1. -/
def importP : Packet := pkC [(24, 8, 1 + 2 ^ 16 + 2 ^ 35 + 7 * 2 ^ 39)]
def importFarP : Packet := pkC [(24, 8, 9 + 2 ^ 16 + 2 ^ 24 + 2 ^ 35 + 7 * 2 ^ 39)]
def declareP : Packet := pkC [(20, 4, handle 0), (24, 4, handle 1), (28, 4, 2)]
def undeclareP : Packet := pkC [(20, 4, handle 0)]
def ringA : Peg := { aPeg 0 5 with role := .producer, partner := 1, depth := 2 }
def ringB : Peg := { aPeg 1 3 with role := .consumer, partner := 0, depth := 2 }
def liveRingPegs : State := withPegs [ringA, ringB] pegCtx
def aSignalMsg : PegMsg := pegMsg 0x01 0 0 1 1 3 4 2 0 0
def livePegIn : State := { livePegs with pegs := { livePegs.pegs with inbox := [⟨1, 0x101, aSignalMsg⟩] } }
def farWaiter : Waiter := { aWaiter with remoteChip := some 1 }
def anAnswer : PegMsg := pegMsg 0x12 stOk 0 1 1 1 77 6 0 0
def livePegAnswer : State :=
  { livePegWaits with pegs := { livePegWaits.pegs with waiters := [farWaiter], inbox := [⟨1, 0x101, anAnswer⟩] } }

/-- A blob of a key: kind, usage, attributes, domain and prefix. -/
def aBlob (kind usage attr domain pre : Nat) : Blob :=
  { read := .ok [], header := BitVec.ofNat 640 (1 + 2 ^ 8 * kind + 2 ^ 16 * usage + 2 ^ 24 + 2 ^ 32 * attr + 2 ^ 64 * domain +
      2 ^ 96 * pre + 2 ^ 160 * 5)
    padZero := true, targetOk := true, key := some 9, twinsOk := true }
def weightBlob : Blob := aBlob 2 2 8 0x101 0
def domainBlob2 : Blob := aBlob 1 1 7 0x102 3
def pinBlob : Blob := aBlob 1 1 0x407 0x100 3
def boundBlob : Blob := aBlob 1 2 8 0x101 0
def keyLoadP : Packet := pkC [(20, 6, 0x400000000), (28, 2, 140), (32, 2, 7)]
def aSession : Session := { id := 3, tsm := true, mutualAuth := true, verifierId := 6, expected := 0 }
/-- A session's KEY_LOAD for partition 2, sealed and without its domain key. -/
def liveSession : State :=
  { live with parts := live.parts.set 2 (sealedPart 2), vs := { live.vs with sessions := [aSession] } }
def keyLoadSession : Packet := pk (.session 3) 0 0 [(28, 2, 1796), (30, 1, 2), (32, 2, 0)]
def keyPinP : Packet := pk (.cmd 0) 0 0 [(20, 6, 0x1000), (28, 2, 1796), (32, 2, 0)]
def liveKeyless : State := { live with kp := { live.kp with slots := [] } }
def bindP : Packet := pkC [(20, 6, 0x400000000), (28, 4, 1972), (32, 2, 7)]
def aBindSet : BindSet :=
  { read := .ok [], zerosOk := true, format := 1, flags := 2, count := 1, minSvn := 2, verifierId := 0, entry := some boundBlob
    policyMacOk := true }
def keyGenP : Packet := pkC [(20, 2, 7), (24, 6, 0x400000000)]
def weightSlot : KeySlot :=
  { part := 1, slot := 7, state := .loaded, usage := 2, attr := 8, keyId := 5, domain := 0x101, prefix_ := 0, key := 9
    noDebug := false, evict := none, users := [] }
def liveWeights : State := { live with kp := { live.kp with slots := live.kp.slots ++ [weightSlot] } }
/-- The same with an UNFOLD in progress that names the slot. -/
def liveWeightsUsed : State :=
  { liveUnfold with
    kp := liveWeights.kp, inl := { live.inl with unfolds := [{ anUnfold with keySlot := 7 }] } }
def slotP : Packet := pkC [(20, 2, 7)]
def slotP8 : Packet := pkC [(20, 2, 3)]
def liveEntropy : State := { live with kp := { live.kp with entropyFail := true } }
def evidenceP : Packet := pkC [(20, 32, 99), (52, 1, 0x80), (56, 6, 0x400000000)]
def evidenceM : Packet := pkM [(20, 32, 99), (52, 1, 0x80), (56, 6, 0x400000000)]
def claimP : Packet := pkC [(20, 32, 99), (54, 2, 0), (56, 6, 0x400000000)]
def certsM : Packet := pkM [(20, 1, 0), (24, 6, 0x400000000), (30, 4, 32768)]
def measureM : Packet := pkM [(20, 1, 255), (24, 6, 0x400000000), (30, 4, 512)]

/-! ### Witnesses: partitions, the calendar and the Damper -/

/-- A description of partition 2 with one tier 0 range. -/
def descBytes : List Byte :=
  leBytes 256 (0x102 + 400 * 2 ^ 32 + 8 * 2 ^ 48 + 8 * 2 ^ 64 + 64 * 2 ^ 80 + 64 * 2 ^ 112 + 16 * 2 ^ 144 + 4 * 2 ^ 160 +
    16 * 2 ^ 176 + 2 ^ 192 + 2 ^ 200 + 16 * 2 ^ 208 + (200 + 64 * 2 ^ 16) * 2 ^ 512)
def createP : Packet := pkM [(20, 1, 2), (24, 8, 0x1000)]
/-- Partition 2 as it is created. -/
def createdPart : Part := { sealedPart 2 with pstate := .created }
def liveCreated : State := { live with parts := live.parts.set 2 createdPart }
def name2 : Packet := pkM [(20, 1, 2)]
def bindTdiP : Packet := pkM [(20, 1, 2), (21, 1, 1)]
def liveStream : State :=
  { liveCreated with vs := { live.vs with streams := live.vs.streams.set 1 { IdeStream.reset with secure := true, tee := true } } }
def registerP : Packet := pkC [(20, 1, 4)]
def uncleanP : Packet := pkM [(21, 1, 1)]
def queryP : Packet := pkC []
/-- Partition 1 with a second context at rest. -/
def liveTwo : State := { live with cmds := { live.cmds with ctxs := live.cmds.ctxs ++ [newCtx 2 1 4 0] } }
def ctxP : Packet := pkC [(20, 4, 2)]
def drainRef : CmdRef := { refC 9 1 with src := .mgmt }
def drainRung : RunningRung :=
  { rung := .context, scope := 1, src := 0x87, begun := true, startedAt := 0, timerFrom := none, cmd := some drainRef
    tenant := false, work := [] }
def drainParcel : TxParcel := { parcelOpen with drain := true, ref := none, deadline := 5019000 }
def liveDrain : State :=
  { live with
    gl := { live.gl with parcels := [drainParcel], nextId := 8 }
    cal := { live.cal with resvs := [resvT], resvGens := [(0, 1)] }
    cmds := { live.cmds with inflight := [{ ref := drainRef, preempted := false, overrun := false }] }
    plumb := { live.plumb with rungs := [drainRung] } }
def endingPart (ph : Phase) (st : PState) : Part :=
  { sealedPart 2 with pstate := st, phase := ph, phaseAt := 3000000, tornAt := 3000000 }
def liveEnding (ph : Phase) (st : PState) : State := { live with parts := live.parts.set 2 (endingPart ph st) }
def destroyRef : CmdRef := { refC 9 3 with src := .mgmt, part := noPart, slot := 0 }
def liveS4 : State :=
  let s := liveEnding .s4 .striking
  { s with
    parts := s.parts.modify 2 (fun q => { q with endDestroy := some destroyRef })
    cmds := { s.cmds with inflight := [{ ref := destroyRef, preempted := false, overrun := false }] } }
def liveUnclean : State := { live with sill := { live.sill with unclean := [{ first := 7, count := 2 }] } }

def admitP : Packet := pkC [(20, 1, 2), (21, 1, 1), (22, 1, 1), (23, 1, 2), (24, 4, 1000), (28, 4, 4096)]
def liveResvs : State := withParcels []
def releaseP : Packet := pkC [(20, 4, resvT.id)]
def shaperP : Packet := pkC [(20, 4, 1), (24, 4, 500), (28, 4, 4096)]
def shaperResvP : Packet := pkC [(20, 4, resvT.id), (24, 4, 5)]
def p0ReserveP : Packet := pkM [(20, 2, 100), (22, 2, 200), (24, 2, 200), (26, 2, 300), (28, 2, 1000)]
def optInP : Packet := pkC [(20, 1, 1)]
def calQueryP : Packet := pkC [(20, 4, resvT.id)]
/-- Context 1 of partition 1 holds a slice of BE. -/
def liveSlice : State := { live with cal := { live.cal with slices := [(1, 4, 1)] } }
def parcelTwo : TxParcel := { parcelBe with ref := some { refC 5 1 with slot := 2 } }
def liveSliceOwn : State :=
  { liveBe with cal := { liveBe.cal with slices := [(1, 4, 1)] } }
def liveSliceTwo : State :=
  let s := withParcels [parcelTwo]
  { s with cal := { s.cal with slices := [(1, 4, 1)] }, cmds := { s.cmds with ctxs := s.cmds.ctxs ++ [newCtx 2 1 4 0] } }
def runInflight : Inflight := { ref := refC 5 1, preempted := false, overrun := true }
def liveOverrun : State := { live with cmds := { live.cmds with inflight := [runInflight] }
                                       plumb := { live.plumb with srcs := [(0xA1, { (live.src 0xA1) with thresh := 9 })] } }
def liveFrameEnd : State := { live with cal := { live.cal with tick := 9999, locked := false } }
def liveFrameHeld : State := { live with cal := { live.cal with tick := 9999 } }
def liveOptIn : State :=
  { live with parts := live.parts.modify 1 (fun q => { q with view := { q.view with optPending := some true } }) }
def liveNoEdge : State := { live with cal := { live.cal with firstEdge := false, locked := false } }
/-- The next edge comes on time, and late. -/
def liveEdge : State := { live with cal := { live.cal with now := 9999990, expectAt := 10000000 } }
def liveEdgeLate : State := { live with cal := { live.cal with now := 10000050, expectAt := 10000000 } }

def limitP : Packet := pkM [(20, 2, 300)]
def liveBallast : State := { live with damper := { live.damper with rated := List.replicate 32 100 } }
def grantP : Packet := pkC []
def enterP (g : Nat) : Packet := pkM [(20, 1, g)]
/-- No partition is there. -/
def liveBare : State :=
  { live with parts := List.replicate 16 Part.reset, cmds := { live.cmds with ctxs := [] }, kp := { live.kp with slots := [] } }
def liveL (l : LState) : State := { live with damper := { live.damper with lstate := l } }
def liveMoving (a b : LState) : State :=
  { liveBare with damper := { liveBare.damper with lstate := a, moving := some (a, b) } }
def liveHalted : State := { live with scribe := { live.scribe with halted := true } }
/-- A telemetry word: kind, index and value. -/
def telem (kind index v : Nat) : Word := BitVec.ofNat 32 (v + 2 ^ 24 * index + 2 ^ 28 * kind)
def liveMissed : State := { live with damper := { live.damper with missed := 2 } }
def liveOver : State :=
  { live with damper := { live.damper with rows := live.damper.rows.modify 1 (fun g => { g with overTicks := 3 }), alertSince := some 100 } }

/-! ### Witnesses: traces, halts, debug, starts and the ladder -/

def sampleP : Packet := pkC [(20, 1, 0), (24, 4, 1), (32, 6, 0x400000000), (40, 4, 64)]
def engineP : Packet := pkC [(20, 1, 4), (22, 2, 0x100), (32, 6, 0x400000000), (40, 4, 144)]
/-- Partition 1 with its tenant debug open. -/
def liveTenant : State := { live with parts := live.parts.modify 1 (fun q => { q with tenantDebug := true }) }
def traceP : Packet := pkC [(20, 1, 1), (22, 1, 1), (24, 6, 0x400000000), (32, 4, 4096)]
def aTrace : TraceSlot :=
  { slot := 1, scope := 1, ctx := 1, events := 0x11, bufAddr := 0x400000000, bufLen := 4096, wrap := false, export_ := false
    exportDst := 0, exportTag := 0, resv := 0, sampleUs := 10, sampledAt := 4995000, queued := [], lostQueued := 0, written := 64
    lost := 0, active := true }
def liveTrace : State := { live with scribe := { live.scribe with traces := [aTrace] } }
def haltP : Packet := pkM []
def haltAtP : Packet := pkM [(20, 1, 2), (24, 8, 6000000)]
/-- `live` with its operator debug open. -/
def liveOp : State := { live with debugs := { live.debugs with operator := true } }
def liveOpHalted : State := { liveOp with scribe := { live.scribe with halted := true, haltId := 7, cut := 4900000 } }
/-- A block in the Test state, where full debug is open. -/
def liveTest : State := { live with fuses := { live.fuses with lc := .test } }
def liveTestHalted : State := { liveTest with scribe := liveOpHalted.scribe }
def aHaltFlit (id : Nat) : HaltFlit := { haltId := id, domain := 0, atValid := true, time := 6000000 }
def haltRef : CmdRef := { refC 12 4 with src := .mgmt, part := noPart, slot := 0 }
def liveCut : State :=
  { liveOp with
    scribe := { live.scribe with cutAt := some (5000024, 2048, some haltRef) }
    cmds := { live.cmds with inflight := [{ ref := haltRef, preempted := false, overrun := false }] } }
def resumeP : Packet := pkM [(24, 4, 7)]
def liveRestart : State :=
  { liveOpHalted with
    scribe := { liveOpHalted.scribe with restartAt := some (5200000, some haltRef) }
    cmds := { live.cmds with inflight := [{ ref := haltRef, preempted := false, overrun := false }] } }
def tenantP : Packet := pkC [(24, 6, 0x400000000), (32, 2, 288)]
def liveVerified : State := { live with parts := live.parts.modify 1 (fun q => { q with verifierId := some 6 }) }
def aToken : DebugToken :=
  { read := .ok [], wellFormed := true, targetOk := true, domain := 0x101, part := 1, commit := commitOf (liveVerified.key? 1 0)
    spkiHash := 6, sigOk := true }
def challengeP : Packet := pkM [(24, 6, 0x1000), (30, 4, 8192)]
def responseP : Packet := pkM [(24, 6, 0x1000), (30, 2, 4851)]
def aResponse : DebugResp := { challengeHashOk := true, deviceIdOk := true, scope := 1, sigsOk := true }
def liveChallenged : State := { liveBare with debugs := { live.debugs with challenge := some (1, 6000000) } }
def emptyM : Packet := pkM []
def eolP : Packet := pkM [(20, 1, 8), (21, 1, 247)]

def goodFindings : StartFindings :=
  { purlinA := List.replicate 72 3, purlinB := List.replicate 72 3, rsCheckAOk := true, rsCheckBOk := true, vppFuse := true
    failedEngines := [], failedUnits := [], pcsCoefficientsLost := false }
/-- The fuses at the end of a first cold start. -/
def blankFuses : Fuses := { State.reset.fuses with vpp := true, bankA := .complete, inUse := some false }
/-- The readings of channel 4 differ. -/
def badFindings : StartFindings := { goodFindings with purlinB := (List.replicate 72 3).set 4 5 }
def anImage (svn : Nat) (ok : Bool) : BootImage := { formatOk := ok, commitSvn := true, svn := svn, sigsOk := true, endorsed := true }
def chipRung : RunningRung :=
  { rung := .chip, scope := 0, src := 0x0D, begun := true, startedAt := 4000000, timerFrom := some 4000000, cmd := none, tenant := false
    work := [] }
def liveWarm : State :=
  { live with
    start := { live.start with inReset := true, step := 0 }
    kp := { live.kp with ready := false, slots := [] }
    plumb := { live.plumb with rungs := [chipRung], causes := [0x0D] } }
def liveAwaits : State :=
  { live with
    start := { live.start with step := 9, go := true, image := none, bootState := 0 }
    kp := { live.kp with ready := false, slots := [] }
    fuses := { live.fuses with svnMin := 2 } }
def liveRoll : State :=
  { live with
    start := { live.start with step := 5, image := none, findings := some goodFindings }
    kp := { live.kp with ready := false, slots := [] }
    fuses := { live.fuses with intent := [32, 0, 0], completion := [0, 0, 0], lc := .blank, rollWaiting := true, vpp := false } }
def bootWord : Word := 0x210

def aRung (r : Rung) (scope : Nat) (begun : Bool) : RunningRung :=
  { chipRung with rung := r, scope := scope, src := 0x87, begun := begun, timerFrom := if begun then some 4990000 else none }
def liveRung (r : Rung) (scope : Nat) (begun : Bool) : State :=
  { live with plumb := { live.plumb with rungs := [aRung r scope begun] } }
def liveRungActive : State :=
  let s := liveRung .partition 1 true
  { s with parts := s.parts.modify 1 (fun q => { q with pstate := .faulted, view := { q.view with rungActive := true } }) }
def liveTrayAsked : State := { live with plumb := { live.plumb with trayAsked := some 6 } }
def liveWatched : State := { live with plumb := { live.plumb with watched := [(1, 1, 4990000)] } }

/-! ### Witnesses: mailboxes, tests, sessions and registers -/

def withChan (c : Nat) (q : Channel) : State := { live with mail := { live.mail with chans := live.mail.chans.set c q } }
/-- Kingpost has halted, so nothing looks at the doorbells. -/
def liveKpHalted : State := { live with kp := { live.kp with halted := true } }
/-- Channel 4 with words in both queues and a dropped notice. -/
def fullChan : Channel := { Channel.reset with inq := [0x20001], inAt := [4990000], outq := [3], lost := 1, noticesDropped := 2 }
def liveMail : State := withChan 4 fullChan
def assignWord : Word := 0x82
/-- A message: the words waiting in IN of channel 4. -/
def liveMsg (ws : List Word) : State :=
  withChan 4 { Channel.reset with inq := ws, inAt := ws.map (fun _ => 4990000) }
def pingWords : List Word := [0x20001, 7, 8]
def noWords : List Word := []
def partWords : List Word := [0x1103]
def aNotice (service : Nat) : Notice := { service := service, part := none, payload := [5] }
def liveNotice (service : Nat) : State := withChan 4 { Channel.reset with waiting := [aNotice service] }

def loopP : Packet := pkM [(20, 1, 1), (21, 1, 0x21), (22, 2, 3), (24, 1, 0), (26, 2, 5)]
def loopStopP : Packet := pkM [(20, 1, 0), (21, 1, 0x21), (22, 2, 3)]
def testRef : CmdRef := { refC 13 2 with src := .mgmt, part := noPart, slot := 0 }
def aRunOf (kind point target : Nat) : TestRun :=
  { ref := some testRef, kind := kind, point := point, target := target, count := 5, pattern := 1, arg := 0, startedAt := 4000000
    sent := 2, answered := 0, replayed := 0, lMin := 0, lMax := 0, enableAfter := false, stopped := false }
def liveRunOf (kind point target : Nat) : State :=
  { live with
    tests := { live.tests with runs := [aRunOf kind point target] }
    cmds := { live.cmds with inflight := [{ ref := testRef, preempted := false, overrun := false }] } }
def katP : Packet := pkM [(20, 1, 2), (22, 2, 1)]
def injectP : Packet := pkM [(20, 1, 1), (22, 2, 0x201), (24, 4, 1)]
def memtestP : Packet := pkM [(20, 1, 1), (21, 1, 0), (24, 4, 1000), (28, 4, 4)]
def echoAnswer : Probe := { kind := 2, pattern := 1, seq := 1, leftAt := 4999000, turn := 10, replayed := false, data := [] }

/-- Session 3 of an operator, and of a TSM. -/
def opSession : Session := { aSession with tsm := false }
def liveOperator : State :=
  { live with vs := { live.vs with sessions := [opSession], spdmPhase := 3 } }
def livePhase (n : Nat) : State := { live with vs := { live.vs with spdmPhase := n } }
def badRaw : RawPacket := { lcRaw with pkt := { (pk .mgmt 0 0 []) with fmt := 2 } }
/-- Session 3 is the TSM's, stream 2 has a key, and TDI 1 is bound to it in the state given. -/
def liveTdi (t : TdiState) : State :=
  { live with
    parts := live.parts.modify 1 (fun q => { q with tdi := t, tdiBound := true, tdiStream := 2 })
    vs := { live.vs with
      sessions := [aSession]
      streams := live.vs.streams.set 2 { IdeStream.reset with secure := true, tee := true, keys := [(1, 0)] } } }
def liveTdiStruck : State :=
  let s := liveTdi .error
  { s with parts := s.parts.modify 1 (fun q => { q with pstate := .striking, phase := .s1 }) }
def livePcie : State := { liveTdi .run with vs := { (liveTdi .run).vs with streams := live.vs.streams } }
/-- The low half of LC_BOOT_ADDR is held. -/
def liveHalf : State :=
  { live with vs := { live.vs with halves := [(.pf false, 0x100, true, 0x5000)] }, start := { live.start with bootState := 0 } }

/-! ### Terms that are refused -/

def okPacket : Packet := pkC []

theorem smoke_part : (Instr.teardownComplete 15).wellFormed = true ∧ (Instr.teardownComplete 16).wellFormed = false := by decide +kernel
theorem smoke_link : (Instr.linkUp 63).wellFormed = true ∧ (Instr.linkUp 64).wellFormed = false := by decide +kernel
theorem smoke_source : (Instr.send okPacket).wellFormed = true ∧ (Instr.send { okPacket with src := .cmd 16 }).wellFormed = false ∧
    (Instr.send { okPacket with src := .ring 16 }).wellFormed = false := by decide +kernel
theorem smoke_packet : (Instr.fence { okPacket with fmt := 256 }).wellFormed = false ∧
    (Instr.fence { okPacket with seq := 2 ^ 32 }).wellFormed = false ∧ (Instr.fence { okPacket with layer := 65536 }).wellFormed = false ∧
    (Instr.fence { okPacket with operator := 65536 }).wellFormed = false ∧
    (Instr.fence { okPacket with step := 2 ^ 32 }).wellFormed = false := by decide +kernel
theorem smoke_memRead : (Instr.ringSetup okPacket (.uncorrectable 3)).wellFormed = true ∧
    (Instr.ringSetup okPacket (.uncorrectable 4)).wellFormed = false ∧ (Instr.ringSetup okPacket (.checkFail 4)).wellFormed = false ∧
    (Instr.ringSetup okPacket (.sledFail 8)).wellFormed = false := by decide +kernel
theorem smoke_blob : (Instr.keyLoad okPacket weightBlob).wellFormed = true ∧
    (Instr.keyLoad okPacket { weightBlob with read := .sledFail 8 }).wellFormed = false := by decide +kernel
theorem smoke_bindSet : (Instr.bindUnwrap okPacket aBindSet).wellFormed = true ∧
    (Instr.bindUnwrap okPacket { aBindSet with format := 256 }).wellFormed = false ∧
    (Instr.bindUnwrap okPacket { aBindSet with count := 65536 }).wellFormed = false ∧
    (Instr.bindUnwrap okPacket { aBindSet with minSvn := 256 }).wellFormed = false := by decide +kernel
theorem smoke_token : (Instr.debugOpenTenant okPacket { aToken with commit := 0 }).wellFormed = true ∧
    (Instr.debugOpenTenant okPacket { aToken with domain := 2 ^ 24, commit := 0 }).wellFormed = false ∧
    (Instr.debugOpenTenant okPacket { aToken with commit := 2 ^ 128 }).wellFormed = false := by decide +kernel
theorem smoke_resp : (Instr.debugResponse okPacket aResponse).wellFormed = true ∧
    (Instr.debugResponse okPacket { aResponse with scope := 256 }).wellFormed = false := by decide +kernel
theorem smoke_raw : (Instr.ringFetch .mgmt [lcRaw]).wellFormed = true ∧
    (Instr.ringFetch .mgmt [{ lcRaw with cls := 256 }]).wellFormed = false ∧
    (Instr.ringFetch .mgmt [{ lcRaw with opcode := 256 }]).wellFormed = false ∧
    (Instr.ringFetch .mgmt [{ lcRaw with aux := .mem (.checkFail 4) }]).wellFormed = false ∧
    (Instr.ringFetch .mgmt (List.replicate 33 lcRaw)).wellFormed = false := by decide +kernel
theorem smoke_access : (Instr.mbOutPop (.vf 15) 0).wellFormed = true ∧ (Instr.mbOutPop (.vf 16) 0).wellFormed = false := by decide +kernel
theorem smoke_ring : (Instr.completionWrite (.part 15)).wellFormed = true ∧ (Instr.completionWrite (.part 16)).wellFormed = false := by
  decide +kernel
theorem smoke_flitHdr : (Instr.flitReceive 0 rxNull).wellFormed = true ∧
    (Instr.flitReceive 0 { rxNull with hdr := { zeroHdr with ftype := 16 } }).wellFormed = false ∧
    (Instr.flitReceive 0 { rxNull with hdr := { zeroHdr with ptag := 4096 } }).wellFormed = false := by decide +kernel
theorem smoke_payload : (Instr.flitReceive 0 { rxNull with payload := .bytes (List.replicate 225 0) }).wellFormed = false ∧
    (Instr.flitReceive 0 { rxNull with payload := .sealed 0 512 }).wellFormed = false := by decide +kernel
theorem smoke_pack : (Instr.packReceive aPack).wellFormed = true ∧ (Instr.packReceive { aPack with src := 2048 }).wellFormed = false ∧
    (Instr.packReceive { aPack with records := [{ aRecord with epoch := 256 }] }).wellFormed = false ∧
    (Instr.packReceive { aPack with records := List.replicate 25 aRecord }).wellFormed = false := by decide +kernel
theorem smoke_poolMsg : (Instr.poolRequestHome 1 1 0 4 readMsg (.ok [])).wellFormed = true ∧
    (Instr.poolRequestHome 1 1 0 4 { readMsg with mask := 16 } (.ok [])).wellFormed = false ∧
    (Instr.poolRequestHome 1 1 0 4 { readMsg with line := List.replicate 257 0 } (.ok [])).wellFormed = false := by decide +kernel
theorem smoke_pegMsg : (Instr.pegRequestApply 1 1 aSignalMsg).wellFormed = true ∧
    (Instr.pegRequestApply 1 1 { aSignalMsg with part := 16 }).wellFormed = false ∧
    (Instr.pegRequestApply 1 1 { aSignalMsg with slot := 65536 }).wellFormed = false := by decide +kernel
theorem smoke_parcel : (Instr.parcelAccept rxData).wellFormed = true ∧
    (Instr.parcelAccept { rxData with lanePair := 96 }).wellFormed = false ∧
    (Instr.parcelAccept { rxData with hdr := { rxData.hdr with src := 2048 } }).wellFormed = false ∧
    (Instr.parcelAccept { rxData with body := .peg { aSignalMsg with context := 4096 } }).wellFormed = false ∧
    (Instr.parcelAccept { rxData with placeUncorrectable := some 4 }).wellFormed = false := by decide +kernel
theorem smoke_notice : (Instr.boundNoticeReceive ⟨4095, 2047, 255⟩).wellFormed = true ∧
    (Instr.boundNoticeReceive ⟨4096, 1, 1⟩).wellFormed = false := by decide +kernel
theorem smoke_haltFlit : (Instr.haltFlitReceive 0 (aHaltFlit 7)).wellFormed = true ∧
    (Instr.haltFlitReceive 0 { aHaltFlit 7 with domain := 2 ^ 24 }).wellFormed = false := by decide +kernel
theorem smoke_probe : (Instr.echoRequestReceive 0 aProbe).wellFormed = true ∧
    (Instr.echoRequestReceive 0 { aProbe with seq := 2 ^ 32 }).wellFormed = false := by decide +kernel
theorem smoke_hello : (Instr.keyxHello 0 aHello).wellFormed = true ∧
    (Instr.keyxHello 0 { aHello with chip := 65536 }).wellFormed = false := by decide +kernel
theorem smoke_line : (Instr.tier1Answer 0 (List.replicate 256 0) true true false).wellFormed = true ∧
    (Instr.tier1Answer 0 [] true true false).wellFormed = false := by decide +kernel
theorem smoke_sector : (Instr.patrolRead 0 (List.replicate 72 0) (List.replicate 72 0)).wellFormed = true ∧
    (Instr.patrolRead 0 (List.replicate 64 0) (List.replicate 72 0)).wellFormed = false := by decide +kernel
theorem smoke_channel : (Instr.ping 7).wellFormed = true ∧ (Instr.ping 8).wellFormed = false := by decide +kernel
theorem smoke_findings : (Instr.coldStart goodFindings).wellFormed = true ∧
    (Instr.coldStart { goodFindings with failedUnits := [0xF4] }).wellFormed = false ∧
    (Instr.coldStart { goodFindings with failedEngines := [4096] }).wellFormed = false := by decide +kernel
theorem smoke_unitData : (Instr.reduceForwardUnit 1 2 0 false aUnitData).wellFormed = true ∧
    (Instr.reduceForwardUnit 1 2 0 false { aUnitData with lanePair := 96 }).wellFormed = false := by decide +kernel
theorem smoke_weightUnit : (Instr.unfoldUnit 1 1 0 0 { aWeight true with plain := [] }).wellFormed = true ∧
    (Instr.unfoldUnit 1 1 0 0 { aWeight true with plain := [], lanePair := 72 }).wellFormed = false ∧
    (Instr.unfoldUnit 1 1 0 0 { aWeight true with plain := [], uncorrectable := some 4 }).wellFormed = false := by decide +kernel
theorem smoke_spdm : (Instr.spdmRequest (.getCertificate 255)).wellFormed = true ∧
    (Instr.spdmRequest (.getCertificate 256)).wellFormed = false := by decide +kernel
theorem smoke_offset : (Instr.registerWrite (.pf true) (2 ^ 26 - 4) 0 false).wellFormed = true ∧
    (Instr.registerWrite (.pf true) (2 ^ 26) 0 false).wellFormed = false := by decide +kernel
theorem smoke_ide : (Instr.ideKmKSetGo 3 255 15 1).wellFormed = true ∧ (Instr.ideKmKSetGo 3 256 0 0).wellFormed = false ∧
    (Instr.ideKmKSetGo 3 0 16 0).wellFormed = false ∧ (Instr.ideKmKSetGo 3 0 0 2).wellFormed = false := by decide +kernel
theorem smoke_ops : (Instr.memRead 23 0 0 1).wellFormed = true ∧ (Instr.memRead 24 0 0 1).wellFormed = false ∧
    (Instr.memRead 0 0 0 0x11).wellFormed = false ∧ (Instr.memWrite 0 0 0 0x11 (List.replicate 64 0)).wellFormed = true ∧
    (Instr.memWrite 0 0 0 0x11 []).wellFormed = false ∧ (Instr.memWrite 0 0 (2 ^ 48) 0x11 (List.replicate 64 0)).wellFormed = false := by
  decide +kernel
theorem smoke_slots : (Instr.traceSample 16).wellFormed = true ∧ (Instr.traceSample 17).wellFormed = false ∧
    (Instr.flitSend 0 781 true 0 (.ok [])).wellFormed = false ∧ (Instr.flitSend 0 0 true 96 (.ok [])).wellFormed = false ∧
    (Instr.laneGroupGate 12 0).wellFormed = false ∧ (Instr.laneGroupGate 0 3).wellFormed = false := by decide +kernel

/-! ### Small tests -/

/-- IDCODE of a block whose MANUF fuses are blank: 1, 0x0D08 at bit 12, 1 at bit 28 (R536). -/
theorem test_idcode : exec .tapIdcode live = .next { live with vs := { live.vs with tap := 1 }, out := [.tap 0x10D08001] } := rfl
/-- A CLASS_FLAGS bit that SEND does not have is reported at byte 2, a reserved byte at its offset (R56, R71). -/
theorem test_malformed : earlyRefusal .recvCancel (named .recvCancel (pkC [(30, 1, 9)]) live) (pkC [(30, 1, 9)]) live =
    some (stMalformed, 30) := by decide +kernel
/-- 1.0 and 2.0 in FP32 add up to 3.0 (R150). -/
theorem test_combine : (combineBytes 1 1 (some [0, 0, 0x80, 0x3F]) [0, 0, 0, 0x40]).1 = [0, 0, 0x40, 0x40] := by decide +kernel
/-- A sector of zeros has check symbols of zeros, and a wrong symbol of a lane with no retired symbols is found (R178). -/
theorem test_sector : zeroSector = List.replicate 72 0 ∧ rsDecode [] (zeroSector.set 3 1) = none ∧
    rsDecode [3] (zeroSector.set 3 1) = some (List.replicate 64 0, true) := by decide +kernel
/-- 1000 MB/s, 4096 B parcels and 2 hops: 2000 + 2 × 250 + 4096 ns (R263, R266). -/
theorem test_bound : (admitReq 1 admitP).bound = 6596 ∧ (admitReq 1 admitP).units = 4 := by decide +kernel
/-- An image below SVN_MIN is refused and the state of LC_BOOT says so (R464, R465). -/
theorem test_rollback : (match exec (.imageFetch (anImage 1 true)) liveAwaits with | .next t => t.start.bootState | _ => 0) = 5 := by
  decide +kernel
/-- A second peg of a full partition without an orphan is refused. -/
theorem test_pegShare : (match exec (.pegAlloc pegAllocP) { livePegs with
      parts := livePegs.parts.modify 1 (fun q => { q with shares := { q.shares with pegs := 2 } }) } with
    | .next t => t.pegs.slots.length | _ => 0) = 2 := by decide +kernel

/-! ### Witnesses -/

theorem of_none {α : Type} {P : α → Prop} {o : Option α} (h : o = none) : ∀ x, o = some x → P x := by
  intro x hx; rw [h] at hx; cases hx
theorem of_some {α : Type} {P : α → Prop} {o : Option α} {y : α} (h : o = some y) (k : P y) : ∀ x, o = some x → P x := by
  intro x hx; rw [h] at hx; cases hx; exact k
theorem token_ok : tokenOk liveVerified tenantP.part aToken = true := by
  have h : aToken.commit = commitOf (liveVerified.key? 1 0) := rfl
  have h2 : tenantP.part = 1 := by decide +kernel
  simp only [tokenOk, h2, h]
  simp only [decide_true]
  decide +kernel
theorem bare_free : ∀ q : Nat, q ≠ 0 → (liveChallenged.part q).pstate = PState.free := by
  intro q _
  show ((List.replicate 16 Part.reset).getD q Part.reset).pstate = PState.free
  rcases Nat.lt_or_ge q 16 with h | h
  · exact (by decide +kernel : ∀ n, n < 16 → ((List.replicate 16 Part.reset).getD n Part.reset).pstate = PState.free) q h
  · rw [List.getD_eq_default _ _ (by simpa using h)]; rfl

theorem witness_DoorbellsStayLooked :
    (live.doorbellsLooked ∧ step live = Host.Outcome.next (match step live with | Host.Outcome.next t => t | _ => live)) :=
  ⟨(by intro _; decide +kernel), rfl⟩

theorem witness_RefusedCommandsChangeNothing :
    (packetOf (Instr.recvPost badFmtP) = some (Op.recvPost, badFmtP) ∧ live.calm = true ∧ hears badFmtP live = true ∧
      earlyRefusal Op.recvPost (named Op.recvPost badFmtP live) badFmtP (arrived badFmtP live) = some (stMalformed, 3)) ∧
    (packetOf (Instr.partQuery (pkC [])) = some (Op.partQuery, pkC []) ∧ notReady.calm = true ∧ hears (pkC []) notReady = true ∧
      earlyRefusal Op.partQuery (named Op.partQuery (pkC []) notReady) (pkC []) (arrived (pkC []) notReady) = none ∧
      lateRefusal Op.partQuery (named Op.partQuery (pkC []) notReady) (accepted Op.partQuery (pkC []) notReady) = some (stWrongState, 2823)) ∧
    (packetOf (Instr.setPkgLimit (pkC [(20, 2, 300)])) = some (Op.setPkgLimit, pkC [(20, 2, 300)]) ∧ live.calm = true ∧
      hears (pkC [(20, 2, 300)]) live = true ∧
      earlyRefusal Op.setPkgLimit (named Op.setPkgLimit (pkC [(20, 2, 300)]) live) (pkC [(20, 2, 300)]) (arrived (pkC [(20, 2, 300)]) live) = none ∧
      lateRefusal Op.setPkgLimit (named Op.setPkgLimit (pkC [(20, 2, 300)]) live) (accepted Op.setPkgLimit (pkC [(20, 2, 300)]) live) = some (stNotPermitted, 0)) :=
  ⟨by decide +kernel, by decide +kernel, by decide +kernel⟩

theorem witness_ThermalRampAndIdleRegisters :
    (live.calm = true ∧ live.up = true) ∧
    (live.calm = true ∧ live.up = true) :=
  ⟨by decide +kernel, by decide +kernel⟩

theorem witness_IdentityRegister :
    ((live.calm = true ∧ live.start.pwrAon = true) ∧ (∀ (p : ℕ), Access.tap ≠ Access.vf p)) :=
  ⟨by decide +kernel, (by intro p h; cases h)⟩

theorem witness_RingPointersAndEnableAreWritten :
    ((liveRing.calm = true ∧ liveRing.up = true ∧
      2 ^ (liveRing.ringOf RingId.mgmt).sqLog2 < (100 % 65536 + 65536 - (liveRing.ringOf RingId.mgmt).sqHead) % 65536) ∧
      (∀ (p : ℕ), RingId.mgmt = RingId.part p → p < 16 ∧ p < liveRing.parts.length) ∧
      (∀ (p : ℕ), RingId.mgmt = RingId.part p → viewGate (Access.pf true) p liveRing = none ∧
      ∀ (q : ℕ), Access.pf true = Access.vf q → q = p) ∧ (RingId.mgmt = RingId.mgmt → ∀ (q : ℕ), Access.pf true ≠ Access.vf q)) ∧
    ((liveRing.calm = true ∧ liveRing.up = true ∧
      (64 % 65536 + 65536 - (liveRing.ringOf RingId.mgmt).sqHead) % 65536 ≤ 2 ^ (liveRing.ringOf RingId.mgmt).sqLog2) ∧
      (∀ (p : ℕ), RingId.mgmt = RingId.part p → p < 16 ∧ p < liveRing.parts.length) ∧
      (∀ (p : ℕ), RingId.mgmt = RingId.part p → viewGate (Access.pf true) p liveRing = none ∧
      ∀ (q : ℕ), Access.pf true = Access.vf q → q = p) ∧ (RingId.mgmt = RingId.mgmt → ∀ (q : ℕ), Access.pf true ≠ Access.vf q)) ∧
    ((liveFull.calm = true ∧ liveFull.up = true) ∧ (∀ (p : ℕ), RingId.mgmt = RingId.part p → p < 16 ∧ p < liveFull.parts.length) ∧
      (∀ (p : ℕ), RingId.mgmt = RingId.part p → viewGate (Access.pf true) p liveFull = none ∧
      ∀ (q : ℕ), Access.pf true = Access.vf q → q = p) ∧ (RingId.mgmt = RingId.mgmt → ∀ (q : ℕ), Access.pf true ≠ Access.vf q)) ∧
    ((live.calm = true ∧ live.up = true) ∧ (∀ (p : ℕ), RingId.mgmt = RingId.part p → p < 16 ∧ p < live.parts.length) ∧
      (∀ (p : ℕ), RingId.mgmt = RingId.part p → viewGate (Access.pf true) p live = none ∧
      ∀ (q : ℕ), Access.pf true = Access.vf q → q = p) ∧ (RingId.mgmt = RingId.mgmt → ∀ (q : ℕ), Access.pf true ≠ Access.vf q)) ∧
    ((live.calm = true ∧ live.up = true ∧
      2 ^ (live.ringOf (RingId.part 1)).sqLog2 < (100 % 65536 + 65536 - (live.ringOf (RingId.part 1)).sqHead) % 65536) ∧
      (∀ (p : ℕ), RingId.part 1 = RingId.part p → p < 16 ∧ p < live.parts.length) ∧
      (∀ (p : ℕ), RingId.part 1 = RingId.part p → viewGate (Access.vf 1) p live = none ∧ ∀ (q : ℕ), Access.vf 1 = Access.vf q → q = p) ∧
      (RingId.part 1 = RingId.mgmt → ∀ (q : ℕ), Access.vf 1 ≠ Access.vf q)) :=
  ⟨⟨by decide +kernel, (by intro p h; cases h), (by intro p h; cases h), (by intro _ q h; cases h)⟩, ⟨by decide +kernel,
      (by intro p h; cases h), (by intro p h; cases h), (by intro _ q h; cases h)⟩, ⟨by decide +kernel, (by intro p h; cases h),
      (by intro p h; cases h), (by intro _ q h; cases h)⟩, ⟨by decide +kernel, (by intro p h; cases h), (by intro p h; cases h),
      (by intro _ q h; cases h)⟩, ⟨by decide +kernel, (by intro p h; cases h; decide +kernel),
      (by intro p h; cases h; exact And.intro (by decide +kernel) (by intro q h; cases h; rfl)), (by intro h; cases h)⟩⟩

theorem witness_RingsAreFetchedAndAnswered :
    ((liveRing.calm = true ∧ ringFetches RingId.mgmt liveRing = true ∧ (liveRing.ringOf RingId.mgmt).sqUsed ≠ 0 ∧
      liveRing.ringRoom RingId.mgmt = true ∧ opOf lcRaw.cls lcRaw.opcode = some Op.lcQuery) ∧
      (∀ (p : ℕ), RingId.mgmt = RingId.part p → p < 16 ∧ p < liveRing.parts.length)) ∧
    ((liveFull.calm = true ∧ ringFetches RingId.mgmt liveFull = true ∧ (liveFull.ringOf RingId.mgmt).sqUsed ≠ 0 ∧
      liveFull.ringRoom RingId.mgmt = false) ∧ (∀ (p : ℕ), RingId.mgmt = RingId.part p → p < 16 ∧ p < liveFull.parts.length)) ∧
    ((liveHeld.calm = true ∧ liveHeld.up = true ∧ (liveHeld.ringOf RingId.mgmt).held = [aReply] ∧
      (liveHeld.ringOf RingId.mgmt).cqFull = false ∧ liveHeld.ringHeld RingId.mgmt = false) ∧
      (∀ (p : ℕ), RingId.mgmt = RingId.part p → p < 16 ∧ p < liveHeld.parts.length)) ∧
    (liveHeld.calm = true ∧ liveHeld.up = true) :=
  ⟨⟨by decide +kernel, (by intro p h; cases h)⟩, ⟨by decide +kernel, (by intro p h; cases h)⟩, ⟨by decide +kernel,
      (by intro p h; cases h)⟩, by decide +kernel⟩

theorem witness_SendAndReceiveCommandsComplete :
    ((live.calm = true ∧ passes Op.send sendP live = true ∧ live.ctx? sendP.slot = some (newCtx 1 1 4 0) ∧
      (pf sendP 22 1 ≠ 4 → (live.sendResv sendP.part (pf sendP 22 1) (pf sendP 40 4)).isSome = true) ∧
      live.inCarve sendP.part (pf sendP 24 6) (pf sendP 32 4) = true ∧ sendRefusal live sendP.part = none) ∧
      (Op.send, false, Instr.send) ∈ [(Op.send, false, Instr.send), (Op.sendMirror, true, Instr.sendMirror)]) ∧
    ((liveZero.calm = true ∧ passes Op.sendMirror mirrorP liveZero = true ∧ liveZero.ctx? mirrorP.slot = some (newCtx 0 0 4 0) ∧
      (pf mirrorP 22 1 ≠ 4 → (liveZero.sendResv mirrorP.part (pf mirrorP 22 1) (pf mirrorP 40 4)).isSome = true) ∧
      liveZero.inCarve mirrorP.part (pf mirrorP 24 6) (pf mirrorP 32 4) = true ∧ sendRefusal liveZero mirrorP.part = none) ∧
      (Op.sendMirror, true, Instr.sendMirror) ∈ [(Op.send, false, Instr.send), (Op.sendMirror, true, Instr.sendMirror)]) ∧
    (live.calm = true ∧ passes Op.recvPost postP live = true ∧ live.inCarve postP.part (pf postP 20 6) (pf postP 28 4) = true ∧
      (List.filter (fun x => decide (x.ref.part = postP.part)) live.gl.posted).length < 1024) ∧
    (livePosted.calm = true ∧ passes Op.recvCancel cancelP livePosted = true ∧
      List.find? (fun b => decide (b.ref.part = cancelP.part) && decide (b.ref.slot = cancelP.slot) && decide (b.tag = pf cancelP 20 4) && decide (b.filter = pf cancelP 24 2)) livePosted.gl.posted = some aPosted) :=
  ⟨⟨by decide +kernel, (by simp)⟩, ⟨by decide +kernel, (by simp)⟩, by decide +kernel, by decide +kernel⟩

theorem witness_ParcelsBecomeEligibleAndBoundsBreak :
    ((liveResv.calm = true ∧ liveResv.running = true ∧ liveResv.parcel? 0 = some parcelResv ∧ parcelResv.eligibleAt = none ∧
      (liveResv.part parcelResv.part).struck = false ∧ liveResv.headParcel parcelResv = true ∧ liveResv.creditFor parcelResv = true ∧
      liveResv.reaches parcelResv.dst = true ∧ parcelResv.cls ≠ 4 ∧ parcelResv.resv = some 0 ∧ liveResv.resv? 0 = some resvT ∧
      resvT.state ≠ ResvState.degraded ∧ resvT.flitCost parcelResv.flits ≤ (liveResv.refill resvT).tokens) ∧
      (∀ (c : ℕ), parcelResv.ctx = some c → liveResv.maySlice parcelResv.part parcelResv.cls c = true)) ∧
    ((liveBe.calm = true ∧ liveBe.running = true ∧ liveBe.parcel? 0 = some parcelBe ∧ parcelBe.eligibleAt = none ∧
      (liveBe.part parcelBe.part).struck = false ∧ liveBe.headParcel parcelBe = true ∧ liveBe.creditFor parcelBe = true ∧
      liveBe.reaches parcelBe.dst = true ∧ parcelBe.cls = 4 ∧ liveBe.shaper? parcelBe.part 1 = none) ∧
      (∀ (c : ℕ), parcelBe.ctx = some c → liveBe.maySlice parcelBe.part parcelBe.cls c = true)) ∧
    (liveOpen.calm = true ∧ liveOpen.running = true ∧ liveOpen.parcel? 0 = some parcelOpen ∧ parcelOpen.broken = false ∧
      parcelOpen.kind = TxKind.data ∧ parcelOpen.ref = some (refC 5 1) ∧ parcelOpen.bounded = true ∧ parcelOpen.resv = some 0 ∧
      liveOpen.resv? 0 = some resvT ∧ parcelOpen.gone resvT = false ∧ liveOpen.answersTo (refC 5 1) = true) ∧
    (liveOpen.calm = true ∧ liveOpen.running = true ∧
      List.find? (fun x => decide (x.ptag = noticeHere.ptag) && decide (x.dst = noticeHere.dst) && x.pseq.isSome && decide (1 ≤ x.cls) && decide (x.cls ≤ 3)) liveOpen.gl.parcels = some parcelOpen ∧
      liveOpen.parcel? parcelOpen.id = some parcelOpen ∧ noticeHere.reason = 1 ∧ liveOpen.now < parcelOpen.deadline ∧
      parcelOpen.broken = false ∧ parcelOpen.kind = TxKind.data ∧ parcelOpen.ref = some (refC 5 1) ∧ liveOpen.answersTo (refC 5 1) = true) ∧
    (liveOpen.calm = true ∧ liveOpen.running = true ∧
      List.find? (fun x => decide (x.ptag = noticeElse.ptag) && decide (x.dst = noticeElse.dst) && x.pseq.isSome && decide (1 ≤ x.cls) && decide (x.cls ≤ 3)) liveOpen.gl.parcels = none) :=
  ⟨⟨by decide +kernel, of_some (y := 1) (by decide +kernel) (by decide +kernel)⟩, ⟨by decide +kernel,
      of_some (y := 1) (by decide +kernel) (by decide +kernel)⟩, by decide +kernel, by decide +kernel, by decide +kernel⟩

theorem witness_ParcelsAreAcceptedOnce :
    (livePosted.calm = true ∧ livePosted.running = true ∧ livePosted.tests.injections = [] ∧
      livePosted.blocked (512 + rxData.lanePair % 96) = false ∧ rxData.flitDst = livePosted.chip ∧
      livePosted.partOfDomain rxData.hdr.domain = some 1 ∧ rxData.hdr.src = rxData.flitSrc ∧ rxData.hdr.dst = rxData.flitDst ∧
      rxData.hdr.domain = rxData.flitDomain ∧ rxData.hdr.cls = rxData.flitCls ∧ rxData.hdr.pkind = bodyKind rxData.body ∧
      (livePosted.key? 1 0).isSome = true ∧ rxData.twinsOk = true ∧ rxData.tagOk = true ∧
      (livePosted.window 1 rxData.hdr.src).base ≤ rxData.hdr.pseq ∧
      (livePosted.window 1 rxData.hdr.src).received.contains rxData.hdr.pseq = false ∧
      rxData.hdr.pseq < (livePosted.window 1 rxData.hdr.src).base + 128 ∧ (¬(1 ≤ rxData.hdr.cls ∧ rxData.hdr.cls ≤ 3 ∧
      rxData.hdr.deadline < livePosted.now)) ∧ rxData.placeUncorrectable = none ∧ rxData.body = ParcelBody.data [1, 2, 3, 4] ∧
      livePosted.bufferFor 1 rxData = some aPosted ∧ place livePosted 1 aPosted.addr [1, 2, 3, 4].length = Place.tier0 aPosted.addr ∧
      livePosted.answersTo aPosted.ref = true) ∧
    (aWindow.calm = true ∧ aWindow.running = true ∧ aWindow.tests.injections = [] ∧ aWindow.blocked (512 + rxData.lanePair % 96) = false ∧
      rxData.flitDst = aWindow.chip ∧ aWindow.partOfDomain rxData.hdr.domain = some 1 ∧ rxData.hdr.src = rxData.flitSrc ∧
      rxData.hdr.dst = rxData.flitDst ∧ rxData.hdr.domain = rxData.flitDomain ∧ rxData.hdr.cls = rxData.flitCls ∧
      rxData.hdr.pkind = bodyKind rxData.body ∧ (aWindow.key? 1 0).isSome = true ∧ rxData.twinsOk = true ∧ rxData.tagOk = true ∧
      (rxData.hdr.pseq < (aWindow.window 1 rxData.hdr.src).base ∨ (aWindow.window 1 rxData.hdr.src).received.contains rxData.hdr.pseq = true)) :=
  ⟨by decide +kernel, by decide +kernel⟩

theorem witness_ParcelsSettleOrAreLost :
    (liveLeft.calm = true ∧ liveLeft.running = true ∧ (∀ c ∈ liveLeft.cmds.ctxs, c.fences = []) ∧
      liveLeft.partOfDomain aPack.domain = some 1 ∧ aPack.gmacOk = true ∧ (liveLeft.key? 1 0).isSome = true ∧ aPack.records = [aRecord] ∧
      aRecord.result = 0 ∧
      List.find? (fun x => decide (x.part = 1) && decide (x.dst = aPack.src) && decide (x.cls = aPack.cls) && decide (x.pseq = some aRecord.pseq)) liveLeft.gl.parcels = some parcelLeft ∧
      parcelLeft.kind = TxKind.data ∧ parcelLeft.ref = some (refC 5 1) ∧ parcelLeft.broken = false ∧ parcelLeft.drain = false ∧
      parcelLeft.cls ≠ 4 ∧ parcelLeft.id < liveLeft.gl.nextId ∧ liveLeft.answersTo (refC 5 1) = true) ∧
    (liveLeft.calm = true ∧ liveLeft.running = true ∧ (∀ c ∈ liveLeft.cmds.ctxs, c.fences = []) ∧ liveLeft.parcel? 0 = some parcelLeft ∧
      parcelLeft.leftAt = some 5000000 ∧ parcelLeft.kind = TxKind.data ∧ parcelLeft.ref = some (refC 5 1) ∧ parcelLeft.broken = false ∧
      parcelLeft.drain = false ∧ parcelLeft.id < liveLeft.gl.nextId ∧ liveLeft.answersTo (refC 5 1) = true ∧ parcelLeft.part < 16 ∧
      parcelLeft.part < liveLeft.parts.length ∧ (liveLeft.part parcelLeft.part).pstate = PState.sealed ∧
      (liveLeft.part parcelLeft.part).view.rungActive = false) :=
  ⟨by decide +kernel, by decide +kernel⟩

theorem witness_LinksComeUpAndGoDown :
    (linkUpS.calm = true ∧ linkUpS.gl.links[8]? = some Link.reset ∧ linkUpS.tileOn 8 = true ∧ Link.reset.enable = true ∧
      Link.reset.state = LinkState.down ∧ Link.reset.retired = false) ∧
    (linkPcs.calm = true ∧ linkPcs.gl.links[8]? = some (linkPcs.link 8) ∧ linkPcs.tileOn 8 = true ∧ linkPcs.portTest 8 = false ∧
      (linkPcs.link 8).state = LinkState.down ∧ (linkPcs.link 8).pcsUp = true ∧ (linkPcs.link 8).retired = false) ∧
    (linkTraining.calm = true ∧ linkTraining.gl.links[8]? = some (linkTraining.link 8) ∧ linkTraining.up = true ∧
      (linkTraining.link 8).state = LinkState.training) ∧
    (linkDisabled.calm = true ∧ linkDisabled.gl.links[8]? = some (linkDisabled.link 8) ∧ linkDisabled.up = true ∧
      (linkDisabled.link 8).state = LinkState.disabled ∧ (linkDisabled.link 8).enable = true) ∧
    (live.calm = true ∧ live.gl.parcels = [] ∧ live.tests.runs = [] ∧ (∀ c ∈ live.cmds.ctxs, c.fences = []) ∧
      live.gl.links[0]? = some keyedLink ∧ keyedLink.state ≠ LinkState.disabled ∧ keyedLink.state ≠ LinkState.down) ∧
    (live.calm = true ∧ live.gl.parcels = [] ∧ live.tests.runs = [] ∧ (∀ c ∈ live.cmds.ctxs, c.fences = []) ∧
      live.gl.links[0]? = some keyedLink ∧ live.up = true ∧
      (keyedLink.state = LinkState.unkeyed ∨ keyedLink.state = LinkState.keyed ∨ keyedLink.state = LinkState.quarantined)) ∧
    (live.calm = true ∧ live.gl.parcels = [] ∧ live.tests.runs = [] ∧ (∀ c ∈ live.cmds.ctxs, c.fences = []) ∧
      live.gl.links[0]? = some keyedLink ∧ live.up = true ∧ keyedLink.state ≠ LinkState.down) := by
  and_intros <;> decide +kernel

theorem witness_NeighbourExchangeAdvances :
    ((linkAt KeyxStep.helloSent false).calm = true ∧
      (linkAt KeyxStep.helloSent false).gl.links[8]? = some ((linkAt KeyxStep.helloSent false).link 8) ∧
      exchanging (linkAt KeyxStep.helloSent false) 8 = true ∧ aHello.wellFormed = true ∧
      (((linkAt KeyxStep.helloSent false).link 8).keyx = KeyxStep.idle ∨ ((linkAt KeyxStep.helloSent false).link 8).keyx = KeyxStep.helloSent ∨ ((linkAt KeyxStep.helloSent false).link 8).keyx = KeyxStep.refused)) ∧
    ((linkAt KeyxStep.helloSeen true).calm = true ∧
      (linkAt KeyxStep.helloSeen true).gl.links[8]? = some ((linkAt KeyxStep.helloSeen true).link 8) ∧
      exchanging (linkAt KeyxStep.helloSeen true) 8 = true ∧ ((linkAt KeyxStep.helloSeen true).link 8).keyx = KeyxStep.helloSeen ∧
      ((linkAt KeyxStep.helloSeen true).link 8).helloReason = 0 ∧ goodCerts.wellFormed = true ∧ goodCerts.claimsProduction = true ∧
      goodCerts.chainsOk = true ∧ goodCerts.modelOk = true) ∧
    ((linkAt KeyxStep.certsSeen false).calm = true ∧ (linkAt KeyxStep.certsSeen false).tests.injections = [] ∧
      (linkAt KeyxStep.certsSeen false).gl.links[8]? = some ((linkAt KeyxStep.certsSeen false).link 8) ∧
      exchanging (linkAt KeyxStep.certsSeen false) 8 = true ∧ goodKem.wellFormed = true ∧ goodKem.decapsOk = true ∧
      goodKem.twinsOk = true ∧ ((linkAt KeyxStep.certsSeen false).link 8).keyx = KeyxStep.certsSeen) ∧
    ((linkAt KeyxStep.kemI true).calm = true ∧ (linkAt KeyxStep.kemI true).tests.injections = [] ∧
      (linkAt KeyxStep.kemI true).gl.links[8]? = some ((linkAt KeyxStep.kemI true).link 8) ∧
      exchanging (linkAt KeyxStep.kemI true) 8 = true ∧ goodKem.wellFormed = true ∧ goodKem.decapsOk = true ∧ goodKem.twinsOk = true ∧
      ((linkAt KeyxStep.kemI true).link 8).keyx = KeyxStep.kemI ∧ goodKem.confirmOk = true ∧ (linkAt KeyxStep.kemI true).gl.parcels = [] ∧
      (∀ c ∈ (linkAt KeyxStep.kemI true).cmds.ctxs, c.fences = [])) ∧
    ((linkAt KeyxStep.kemR false).calm = true ∧ (linkAt KeyxStep.kemR false).tests.injections = [] ∧
      (linkAt KeyxStep.kemR false).gl.links[8]? = some ((linkAt KeyxStep.kemR false).link 8) ∧
      exchanging (linkAt KeyxStep.kemR false) 8 = true ∧ goodKem.wellFormed = true ∧ goodKem.decapsOk = true ∧ goodKem.twinsOk = true ∧
      ((linkAt KeyxStep.kemR false).link 8).keyx = KeyxStep.kemR ∧ goodKem.confirmOk = true ∧
      (linkAt KeyxStep.kemR false).gl.parcels = [] ∧ (∀ c ∈ (linkAt KeyxStep.kemR false).cmds.ctxs, c.fences = [])) ∧
    ((linkAt KeyxStep.kemI true).calm = true ∧ (linkAt KeyxStep.kemI true).gl.links[8]? = some ((linkAt KeyxStep.kemI true).link 8) ∧
      exchanging (linkAt KeyxStep.kemI true) 8 = true ∧ ((linkAt KeyxStep.kemI true).link 8).keyx ≠ KeyxStep.idle ∧
      ((linkAt KeyxStep.kemI true).link 8).keyx ≠ KeyxStep.refused) ∧
    ((linkAt KeyxStep.refused true).calm = true ∧
      (linkAt KeyxStep.refused true).gl.links[8]? = some ((linkAt KeyxStep.refused true).link 8) ∧
      exchanging (linkAt KeyxStep.refused true) 8 = true ∧ ((linkAt KeyxStep.refused true).link 8).keyx = KeyxStep.refused) ∧
    (linkUnkeyed.calm = true ∧ passes Op.neighbourKeyx keyxP linkUnkeyed = true ∧
      linkUnkeyed.gl.links[pf keyxP 20 1]? = some (linkUnkeyed.link 8) ∧ (linkUnkeyed.link 8).state = LinkState.unkeyed ∧
      (linkUnkeyed.link 8).keyxCmd = none) := by
  and_intros <;> decide +kernel

theorem witness_HopKeysRotateAndFlitsAreResent :
    (live.calm = true ∧ live.gl.links[0]? = some keyedLink ∧ live.up = true ∧ keyedLink.state = LinkState.keyed ∧
      keyedLink.initiator = true ∧ keyedLink.rotateSent = none ∧ keyedLink.rotations < 65535) ∧
    (linkResponder.calm = true ∧ linkResponder.gl.links[0]? = some (linkResponder.link 0) ∧ linkResponder.up = true ∧
      (linkResponder.link 0).state = LinkState.keyed ∧ (linkResponder.link 0).initiator = false) ∧
    (linkRotating.calm = true ∧ linkRotating.gl.links[0]? = some (linkRotating.link 0) ∧ linkRotating.up = true ∧
      (linkRotating.link 0).state = LinkState.keyed ∧ (linkRotating.link 0).rotateSent.isSome = true) ∧
    (linkReplay.calm = true ∧ linkReplay.gl.links[0]? = some (linkReplay.link 0) ∧ linkReplay.up = true ∧
      (linkReplay.link 0).state = LinkState.keyed ∧ linkReplay.scribe.halted = false ∧ (linkReplay.link 0).replay ≠ []) := by
  and_intros <;> decide +kernel

theorem witness_FlitsNoticesAndEchoesLeave :
    (live.calm = true ∧ live.gl.links[0]? = some keyedLink ∧ live.up = true ∧ live.tests.injections = [] ∧
      live.blocked (256 + 0 % 96) = false ∧ keyedLink.state = LinkState.keyed ∧ keyedLink.txSeq ≠ 2 ^ 32 - 1 ∧
      (live.scribe.halted = true ∨ live.gl.parcels = [] ∧ live.gl.packq = [] ∧ keyedLink.resend = [] ∧ keyedLink.txq = [])) ∧
    (linkResend.calm = true ∧ linkResend.gl.links[0]? = some (linkResend.link 0) ∧ linkResend.up = true ∧
      linkResend.tests.injections = [] ∧ linkResend.blocked (256 + 0 % 96) = false ∧ (linkResend.link 0).state = LinkState.keyed ∧
      (linkResend.link 0).txSeq ≠ 2 ^ 32 - 1 ∧ linkResend.scribe.halted = false ∧ (linkResend.link 0).resend = [0] ∧
      List.find? (fun e => decide (e.1 = 0)) (linkResend.link 0).replay = some (0, qZero) ∧ qZero.hdr.ftype = 0 ∧
      (0 < 48 → linkResend.slotUse 0 (1 % 781) = SlotUse.open_)) ∧
    (liveGo.calm = true ∧ liveGo.gl.links[0]? = some keyedLink ∧ liveGo.up = true ∧ liveGo.tests.injections = [] ∧
      liveGo.blocked (256 + 0 % 96) = false ∧ keyedLink.state = LinkState.keyed ∧ keyedLink.txSeq ≠ 2 ^ 32 - 1 ∧
      liveGo.scribe.halted = false ∧ keyedLink.resend = [] ∧ keyedLink.txq = [] ∧ keyedLink.replay = [] ∧ liveGo.gl.packq = [] ∧
      liveGo.gl.parcels = [parcelGo] ∧ liveGo.slotUse 0 (2 % 781) = SlotUse.open_ ∧ parcelGo.cls = 4 ∧ parcelGo.pseq = some 3 ∧
      parcelGo.eligibleAt.isSome = true ∧ parcelGo.mirror = false ∧ parcelGo.sent < parcelGo.flits ∧ liveGo.beOpen parcelGo.part = true ∧
      0 < keyedLink.credits.getD 8 0 ∧ liveGo.wayOut liveGo.chip parcelGo.dst parcelGo.ptag false = Way.link 0 false) ∧
    (linkQuar.calm = true ∧ linkQuar.gl.links[0]? = some (linkQuar.link 0) ∧ linkQuar.up = true ∧ linkQuar.tests.injections = [] ∧
      linkQuar.blocked (256 + 0 % 96) = false ∧
      ((linkQuar.link 0).state = LinkState.unkeyed ∨ (linkQuar.link 0).state = LinkState.quarantined)) ∧
    (linkTransit.calm = true ∧ linkTransit.running = true ∧ (linkTransit.link 0).txq = [qTransit] ∧ qTransit.transit = true ∧
      qTransit.hdr.ftype = 1 ∧ 1 ≤ qTransit.hdr.cls ∧ qTransit.hdr.cls ≤ 3 ∧ qTransit.noticed = false ∧
      (false = true → qTransit.detoured = true) ∧ (false = false → qTransit.queuedAt + 78 ≤ linkTransit.now) ∧
      (linkTransit.gl.notices.contains (qTransit.hdr.src, qTransit.hdr.ptag, if false = true then 2 else 1) = false) ∧
      linkTransit.wayOut linkTransit.chip qTransit.hdr.src 0 false = Way.link 1 false) ∧
    ((live.calm = true ∧ live.gl.links[0]? = some keyedLink ∧ live.running = true ∧ live.fuses.lc = LcState.production ∧
      keyedLink.state = LinkState.keyed ∧ keyedLink.txSeq ≠ 2 ^ 32 - 1 ∧ aProbe.kind = 1) ∧
      (∀ (e : ℕ), keyedLink.echoAt = some e → e + 1000 ≤ live.now)) :=
  ⟨by decide +kernel, by decide +kernel, by decide +kernel, by decide +kernel, by decide +kernel, ⟨by decide +kernel,
      of_none (by decide +kernel)⟩⟩

theorem witness_FlitsArrive :
    (live.calm = true ∧ live.gl.links[0]? = some keyedLink ∧ live.up = true ∧ keyedLink.state = LinkState.keyed ∧
      keyedLink.rxRefusing = false ∧ rxNull.checkOk = true ∧ flitMalformed live 0 rxNull.hdr = false ∧
      rxNull.hdr.keyPhase = keyedLink.rxPhase ∧ rxNull.hdr.lseq = keyedLink.rxSeq % 4096 ∧ rxNull.hdr.ftype = 0) ∧
    (live.calm = true ∧ live.gl.links[0]? = some keyedLink ∧ live.up = true ∧ keyedLink.state = LinkState.keyed ∧
      keyedLink.rxRefusing = false ∧ rxFor.checkOk = true ∧ flitMalformed live 0 rxFor.hdr = false ∧
      rxFor.hdr.keyPhase = keyedLink.rxPhase ∧ rxFor.hdr.lseq = keyedLink.rxSeq % 4096 ∧ live.scribe.halted = false ∧
      rxFor.hdr.ftype = 1 ∧ rxFor.hdr.dst = live.chip) ∧
    (live.calm = true ∧ live.gl.links[0]? = some keyedLink ∧ live.up = true ∧ keyedLink.state = LinkState.keyed ∧
      keyedLink.rxRefusing = false ∧ rxOn.checkOk = true ∧ flitMalformed live 0 rxOn.hdr = false ∧ rxOn.hdr.keyPhase = keyedLink.rxPhase ∧
      rxOn.hdr.lseq = keyedLink.rxSeq % 4096 ∧ live.scribe.halted = false ∧ rxOn.hdr.ftype = 1 ∧ rxOn.hdr.dst ≠ live.chip ∧
      rxOn.hdr.hops < 28 ∧ live.wayOut rxOn.hdr.src rxOn.hdr.dst rxOn.hdr.ptag rxOn.hdr.mirror = Way.link 0 false) ∧
    (live.calm = true ∧ live.gl.links[0]? = some keyedLink ∧ live.up = true ∧ keyedLink.state = LinkState.keyed ∧
      keyedLink.rxRefusing = false ∧ rxBad.checkOk = false ∧ (rxBad.nullOk && rxBad.keyxHello) = false ∧ keyedLink.failTimes.length < 32) := by
  and_intros <;> decide +kernel

theorem witness_GroupsAndCollectivesStart :
    (live.calm = true ∧ passes Op.ringSetup ringSetupP live = true ∧ pf ringSetupP 22 2 ≠ 0 ∧
      [0, 1] = memberList (pf ringSetupP 22 2) [0, 0, 1, 0] ∧
      live.inCarve ringSetupP.part (pf ringSetupP 24 6) (2 * pf ringSetupP 22 2) = true ∧
      live.inCarve ringSetupP.part (pf ringSetupP 32 6) 262144 = true ∧ pf ringSetupP 32 6 + 262144 ≤ t0End ∧
      live.group? ringSetupP.part (pf ringSetupP 20 1) = none ∧ badList live [0, 1] = false ∧
      (List.filter (fun g => decide (g.part = ringSetupP.part)) live.inl.groups).length < (live.part ringSetupP.part).shares.groups) ∧
    (liveGroup.calm = true ∧ passes Op.ringSetup ringFreeP liveGroup = true ∧ pf ringFreeP 22 2 = 0 ∧
      liveGroup.group? ringFreeP.part (pf ringFreeP 20 1) = some aGroup ∧ aGroup.running = none ∧ aGroup.staged = []) ∧
    ((liveGroup.calm = true ∧ passes Op.allReduce allReduceP liveGroup = true ∧
      liveGroup.group? allReduceP.part (pf allReduceP 20 1) = some aGroup ∧
      shapeOf 2 1 1 1 4 2 = shapeOf 2 (pf allReduceP 21 1) (pf allReduceP 22 1) (pf allReduceP 23 1) (pf allReduceP 40 4) aGroup.size ∧
      (srcBytes 2 (shapeOf 2 1 1 1 4 2) aGroup.size (decide (aGroup.pos = pf allReduceP 46 2)) ≠ 0 → liveGroup.inCarve allReduceP.part (pf allReduceP 24 6) (srcBytes 2 (shapeOf 2 1 1 1 4 2) aGroup.size (decide (aGroup.pos = pf allReduceP 46 2))) = true) ∧
      (dstBytes 2 (shapeOf 2 1 1 1 4 2) aGroup.size (decide (aGroup.pos = pf allReduceP 46 2)) ≠ 0 → liveGroup.inCarve allReduceP.part (pf allReduceP 32 6) (dstBytes 2 (shapeOf 2 1 1 1 4 2) aGroup.size (decide (aGroup.pos = pf allReduceP 46 2))) = true) ∧
      (pf allReduceP 44 1 ≠ 4 → (liveGroup.sendResv allReduceP.part (pf allReduceP 44 1) (pf allReduceP 48 4)).isSome = true) ∧
      sendRefusal liveGroup allReduceP.part = none) ∧
      (Op.allReduce, 2, Instr.allReduce) ∈ [(Op.allReduce, 2, Instr.allReduce), (Op.reduceScatter, 3, Instr.reduceScatter), (Op.allGather, 4, Instr.allGather), (Op.broadcast, 5, Instr.broadcast)]) ∧
    ((liveGroup.calm = true ∧ passes Op.reduceScatter allReduceP liveGroup = true ∧
      liveGroup.group? allReduceP.part (pf allReduceP 20 1) = some aGroup ∧
      shapeOf 3 1 1 1 4 2 = shapeOf 3 (pf allReduceP 21 1) (pf allReduceP 22 1) (pf allReduceP 23 1) (pf allReduceP 40 4) aGroup.size ∧
      (srcBytes 3 (shapeOf 3 1 1 1 4 2) aGroup.size (decide (aGroup.pos = pf allReduceP 46 2)) ≠ 0 → liveGroup.inCarve allReduceP.part (pf allReduceP 24 6) (srcBytes 3 (shapeOf 3 1 1 1 4 2) aGroup.size (decide (aGroup.pos = pf allReduceP 46 2))) = true) ∧
      (dstBytes 3 (shapeOf 3 1 1 1 4 2) aGroup.size (decide (aGroup.pos = pf allReduceP 46 2)) ≠ 0 → liveGroup.inCarve allReduceP.part (pf allReduceP 32 6) (dstBytes 3 (shapeOf 3 1 1 1 4 2) aGroup.size (decide (aGroup.pos = pf allReduceP 46 2))) = true) ∧
      (pf allReduceP 44 1 ≠ 4 → (liveGroup.sendResv allReduceP.part (pf allReduceP 44 1) (pf allReduceP 48 4)).isSome = true) ∧
      sendRefusal liveGroup allReduceP.part = none) ∧
      (Op.reduceScatter, 3, Instr.reduceScatter) ∈ [(Op.allReduce, 2, Instr.allReduce), (Op.reduceScatter, 3, Instr.reduceScatter), (Op.allGather, 4, Instr.allGather), (Op.broadcast, 5, Instr.broadcast)]) ∧
    ((liveGroup.calm = true ∧ passes Op.allGather allGatherP liveGroup = true ∧
      liveGroup.group? allGatherP.part (pf allGatherP 20 1) = some aGroup ∧
      shapeOf 4 0 1 1 4 2 = shapeOf 4 (pf allGatherP 21 1) (pf allGatherP 22 1) (pf allGatherP 23 1) (pf allGatherP 40 4) aGroup.size ∧
      (srcBytes 4 (shapeOf 4 0 1 1 4 2) aGroup.size (decide (aGroup.pos = pf allGatherP 46 2)) ≠ 0 → liveGroup.inCarve allGatherP.part (pf allGatherP 24 6) (srcBytes 4 (shapeOf 4 0 1 1 4 2) aGroup.size (decide (aGroup.pos = pf allGatherP 46 2))) = true) ∧
      (dstBytes 4 (shapeOf 4 0 1 1 4 2) aGroup.size (decide (aGroup.pos = pf allGatherP 46 2)) ≠ 0 → liveGroup.inCarve allGatherP.part (pf allGatherP 32 6) (dstBytes 4 (shapeOf 4 0 1 1 4 2) aGroup.size (decide (aGroup.pos = pf allGatherP 46 2))) = true) ∧
      (pf allGatherP 44 1 ≠ 4 → (liveGroup.sendResv allGatherP.part (pf allGatherP 44 1) (pf allGatherP 48 4)).isSome = true) ∧
      sendRefusal liveGroup allGatherP.part = none) ∧
      (Op.allGather, 4, Instr.allGather) ∈ [(Op.allReduce, 2, Instr.allReduce), (Op.reduceScatter, 3, Instr.reduceScatter), (Op.allGather, 4, Instr.allGather), (Op.broadcast, 5, Instr.broadcast)]) ∧
    ((liveGroup.calm = true ∧ passes Op.broadcast broadcastP liveGroup = true ∧
      liveGroup.group? broadcastP.part (pf broadcastP 20 1) = some aGroup ∧
      shapeOf 5 0 1 1 4 2 = shapeOf 5 (pf broadcastP 21 1) (pf broadcastP 22 1) (pf broadcastP 23 1) (pf broadcastP 40 4) aGroup.size ∧
      (srcBytes 5 (shapeOf 5 0 1 1 4 2) aGroup.size (decide (aGroup.pos = pf broadcastP 46 2)) ≠ 0 → liveGroup.inCarve broadcastP.part (pf broadcastP 24 6) (srcBytes 5 (shapeOf 5 0 1 1 4 2) aGroup.size (decide (aGroup.pos = pf broadcastP 46 2))) = true) ∧
      (dstBytes 5 (shapeOf 5 0 1 1 4 2) aGroup.size (decide (aGroup.pos = pf broadcastP 46 2)) ≠ 0 → liveGroup.inCarve broadcastP.part (pf broadcastP 32 6) (dstBytes 5 (shapeOf 5 0 1 1 4 2) aGroup.size (decide (aGroup.pos = pf broadcastP 46 2))) = true) ∧
      (pf broadcastP 44 1 ≠ 4 → (liveGroup.sendResv broadcastP.part (pf broadcastP 44 1) (pf broadcastP 48 4)).isSome = true) ∧
      sendRefusal liveGroup broadcastP.part = none) ∧
      (Op.broadcast, 5, Instr.broadcast) ∈ [(Op.allReduce, 2, Instr.allReduce), (Op.reduceScatter, 3, Instr.reduceScatter), (Op.allGather, 4, Instr.allGather), (Op.broadcast, 5, Instr.broadcast)]) :=
  ⟨by decide +kernel, by decide +kernel, ⟨by decide +kernel, (by simp)⟩, ⟨by decide +kernel, (by simp)⟩, ⟨by decide +kernel, (by simp)⟩,
      ⟨by decide +kernel, (by simp)⟩⟩

theorem witness_CollectiveUnitsAndTimeout :
    (liveRun.calm = true ∧ liveRun.running = true ∧ liveRun.tests.injections = [] ∧
      liveRun.blocked (256 + aUnitData.lanePair % 96) = false ∧ liveRun.group? 1 2 = some runGroup ∧ runGroup.running = some aRun ∧
      runGroup.part = 1 ∧ runGroup.num = 2 ∧ aRun.preempted = false ∧ aRun.handled.contains (1, false) = false ∧
      shapeOf 2 1 1 1 4 2 = shapeOf aRun.opc aRun.op aRun.inFmt aRun.outFmt aRun.count runGroup.size ∧
      1 < shardsOf aRun.opc runGroup.size * (shapeOf 2 1 1 1 4 2).ur ∧ aUnitData.twinsOk = true ∧
      aUnitData.localRead = MemRead.ok (List.replicate 8 0) ∧ runGroup.pos = (1 / (shapeOf 2 1 1 1 4 2).ur + 1) % runGroup.size ∧
      runGroup.pos ≠ 1 / (shapeOf 2 1 1 1 4 2).ur) ∧
    (liveRun.calm = true ∧ liveRun.running = true ∧ liveRun.group? 1 2 = some runGroup ∧ runGroup.running = some aRun ∧
      aRun.preempted = false ∧ 1 < liveRun.parts.length ∧ (liveRun.part 1).pstate = PState.sealed ∧
      (liveRun.part 1).view.rungActive = false) :=
  ⟨by decide +kernel, by decide +kernel⟩

theorem witness_UnfoldStartsAndItsUnitsEndIt :
    (unfoldKey.calm = true ∧ passes Op.unfold unfoldP unfoldKey = true ∧
      (0, 1) = unitRange (pf unfoldP 20 1) (pf unfoldP 56 4) (pf unfoldP 60 2) ∧
      unfoldKey.inCarve unfoldP.part (pf unfoldP 24 6 + 4096 * 0) (4096 * 1) = true ∧
      unfoldKey.inCarve unfoldP.part (pf unfoldP 30 6 + 16 * 0) (16 * 1) = true ∧
      unfoldKey.inCarve unfoldP.part (pf unfoldP 36 6) (32 * pf unfoldP 60 2 * unfoldWidth (pf unfoldP 21 1)) = true ∧
      (pbit unfoldP 22 0 = true → unfoldKey.inCarve unfoldP.part (pf unfoldP 42 6) (pf unfoldP 60 2) = true) ∧
      pf unfoldP 24 6 + 4096 * 0 < apBase ∧ pf unfoldP 30 6 + 16 * 0 < apBase ∧
      lacksSillResv unfoldKey unfoldP.part (flagClass unfoldP) = false ∧
      unfoldKey.keyFor (named Op.unfold unfoldP unfoldKey) (pbits unfoldP 62 0 10) = some unfoldSlot ∧
      bitOf (BitVec.toNat unfoldSlot.attr) 3 = true) ∧
    (liveUnfold.calm = true ∧ liveUnfold.running = true ∧ liveUnfold.tests.injections = [] ∧
      liveUnfold.blocked (768 + (aWeight true).lanePair % 72) = false ∧ liveUnfold.inl.unfolds = [anUnfold] ∧ anUnfold.ref.part = 1 ∧
      anUnfold.ref.slot = 1 ∧ anUnfold.ref.seq = 0 ∧ anUnfold.pendingUnits = [0] ∧ anUnfold.cls ≠ 4 ∧
      (aWeight true).uncorrectable = none ∧ (aWeight true).twinsOk = true ∧ liveUnfold.answersTo anUnfold.ref = true ∧
      (aWeight true).tagOk = true ∧ (liveUnfold.part 1).t1 = [] ∧ (liveUnfold.part 1).t2 = []) ∧
    (liveUnfold.calm = true ∧ liveUnfold.running = true ∧ liveUnfold.tests.injections = [] ∧
      liveUnfold.blocked (768 + (aWeight false).lanePair % 72) = false ∧ liveUnfold.inl.unfolds = [anUnfold] ∧ anUnfold.ref.part = 1 ∧
      anUnfold.ref.slot = 1 ∧ anUnfold.ref.seq = 0 ∧ anUnfold.pendingUnits = [0] ∧ anUnfold.cls ≠ 4 ∧
      (aWeight false).uncorrectable = none ∧ (aWeight false).twinsOk = true ∧ liveUnfold.answersTo anUnfold.ref = true ∧
      (aWeight false).tagOk = false ∧ 1 < liveUnfold.parts.length ∧ (liveUnfold.part 1).pstate = PState.sealed ∧
      (liveUnfold.part 1).view.rungActive = false) :=
  ⟨by decide +kernel, by decide +kernel, by decide +kernel⟩

theorem witness_MemoryAccessesOfTheDieAreServed :
    (live.calm = true ∧ live.running = true ∧ live.kp.ready = true ∧ live.sill.accesses = [] ∧ memOp 17 = some (true, 64) ∧
      (live.part 1).pstate ≠ PState.faulted ∧ (live.part 1).struck = false ∧ place live 1 17179869184 64 = Place.tier0 17179869184) ∧
    (live.calm = true ∧ live.running = true ∧ live.kp.ready = true ∧ live.sill.accesses = [] ∧ live.sill.heldLines = [] ∧
      memOp 1 = some (false, 64) ∧ (live.part 1).pstate ≠ PState.faulted ∧ (live.part 1).struck = false ∧
      place live 1 17179869184 64 = Place.tier0 17179869184) ∧
    (live.calm = true ∧ live.running = true ∧ live.kp.ready = true ∧ live.sill.accesses = [] ∧ memOp 1 = some (false, 64) ∧
      (live.part 1).pstate ≠ PState.faulted ∧ (live.part 1).struck = false ∧ place live 1 0 64 = Place.refused) :=
  ⟨by decide +kernel, by decide +kernel, by decide +kernel⟩

theorem witness_AnswersOfControllersAndSledsTakeEffect :
    ((liveRead readAccess).calm = true ∧ (liveRead readAccess).tests.injections = [] ∧
      (liveRead readAccess).sill.accesses = [readAccess] ∧ readAccess.id = 4 ∧ readAccess.port = some 3 ∧ readAccess.answer = none ∧
      readAccess.recordWait = false ∧ readAccess.addr < t0End ∧ readAccess.write = false ∧ readAccess.begun = true ∧
      readAccess.size = 64 ∧ readAccess.got = [] ∧ (List.replicate 64 0).length = 64 ∧
      rsDecode ((liveRead readAccess).lane (laneOf readAccess.addr)).retired zeroSector = some (List.replicate 64 0, false)) ∧
    ((liveRead tier1Access).calm = true ∧ (liveRead tier1Access).tests.injections = [] ∧
      (liveRead tier1Access).sill.accesses = [tier1Access] ∧ tier1Access.id = 4 ∧ tier1Access.port = some 3 ∧ tier1Access.answer = none ∧
      tier1Access.recordWait = false ∧ t0End ≤ tier1Access.addr ∧ tier1Access.addr < ownBase ∧ tier1Access.write = false ∧
      tier1Access.begun = true ∧ tier1Access.need = [4294967296]) ∧
    (liveSled.calm = true ∧ liveSled.tests.injections = [] ∧ liveSled.sill.accesses = [sledAccess] ∧ liveSled.sill.sleds = [sledRead1] ∧
      sledRead1.link = 48 ∧ sledRead1.tag = 2 ∧ sledRead1.write = false ∧ sledRead1.access = sledAccess.id ∧ sledAccess.port = some 3 ∧
      sledAccess.answer = none ∧ sledAccess.recordWait = false ∧ ownBase ≤ sledAccess.addr ∧ sledAccess.write = false ∧
      sledAccess.begun = true ∧ sledAccess.need = [sledRead1.line]) ∧
    (liveSledW.calm = true ∧ liveSledW.tests.injections = [] ∧ liveSledW.sill.accesses = [] ∧ liveSledW.sill.sleds = [sledWrite1] ∧
      sledWrite1.link = 48 ∧ sledWrite1.tag = 2 ∧ sledWrite1.write = true ∧ liveSledW.sill.heldLines = [heldSled] ∧
      heldSled.access = sledWrite1.access ∧ heldSled.addr = 256 * sledWrite1.line) ∧
    (liveSledW.calm = true ∧ liveSledW.running = true ∧ liveSledW.sill.accesses = [] ∧ liveSledW.sill.sleds = [sledWrite1] ∧
      sledWrite1.link = 48 ∧ sledWrite1.tag = 2 ∧ sledWrite1.write = true ∧ sledOwner sledWrite1 liveSledW = some 1 ∧
      1 < liveSledW.parts.length ∧ (liveSledW.part 1).pstate = PState.sealed ∧ (liveSledW.part 1).view.rungActive = false) ∧
    (liveHeldLine.calm = true ∧ liveHeldLine.sill.heldLines = [heldTier1] ∧ heldTier1.access = 4 ∧ heldTier1.addr < ownBase) := by
  and_intros <;> decide +kernel

theorem witness_PoolHomeAnswersAndTimesOut :
    ((liveInbox readMsg).calm = true ∧ (liveInbox readMsg).sill.inbox = [inboxOf readMsg] ∧ (inboxOf readMsg).src = 1 ∧
      (inboxOf readMsg).domain = 257 ∧ (inboxOf readMsg).pseq = 4 ∧ (inboxOf readMsg).cls = 4 ∧ (inboxOf readMsg).req = readMsg ∧
      (liveInbox readMsg).partOfDomain 257 = some 1 ∧ (liveInbox readMsg).sill.accesses = [] ∧ (liveInbox readMsg).sill.poolEn = true ∧
      rangesCover ((liveInbox readMsg).part 1).t2 gran12 (readMsg.offset / 256 * 256) 256 = true ∧ readMsg.rop = 1 ∧
      1 ≠ (liveInbox readMsg).chip) ∧
    ((liveInbox addMsg).calm = true ∧ (liveInbox addMsg).sill.inbox = [inboxOf addMsg] ∧ (inboxOf addMsg).src = 1 ∧
      (inboxOf addMsg).domain = 257 ∧ (inboxOf addMsg).pseq = 4 ∧ (inboxOf addMsg).cls = 4 ∧ (inboxOf addMsg).req = addMsg ∧
      (liveInbox addMsg).partOfDomain 257 = some 1 ∧ (liveInbox addMsg).sill.accesses = [] ∧ (liveInbox addMsg).sill.poolEn = true ∧
      rangesCover ((liveInbox addMsg).part 1).t2 gran12 (addMsg.offset / 256 * 256) 256 = true ∧ 17 ≤ addMsg.rop ∧ addMsg.retry = false ∧
      (liveInbox addMsg).ledgerEntry 1 1 addMsg.aseq = none ∧ 1 ≠ (liveInbox addMsg).chip) ∧
    (liveRemote.calm = true ∧ liveRemote.running = true ∧ liveRemote.sill.remote = [aRemote] ∧ aRemote.id = 6 ∧
      aRemote.settledAt = some 4000000 ∧ aRemote.ref = some (refC 6 2) ∧ aRemote.part < 16 ∧ aRemote.part < liveRemote.parts.length ∧
      (liveRemote.part aRemote.part).pstate = PState.sealed ∧ (liveRemote.part aRemote.part).view.rungActive = false) :=
  ⟨by decide +kernel, by decide +kernel, by decide +kernel⟩

theorem witness_PatrolSweepAndPoolCommandsComplete :
    (live.calm = true ∧ rsDecode (live.lane (laneOf 17179869184)).retired zeroSector = some (List.replicate 64 0, false)) ∧
    (liveSweep.calm = true ∧ inRanges liveSweep.sill.sweep 5 = true ∧
      (∀ q < 16, (liveSweep.part q).tierKey ≠ some (liveSweep.record 5).keyEpoch)) ∧
    (livePoolLine.calm = true ∧ passes Op.invalidate invalidateP livePoolLine = true ∧ ownBase = pf invalidateP 24 6 ∧
      ownBase + 4096 = ownBase + 4096 * pf invalidateP 32 4 ∧ t0End ≤ ownBase ∧ (ownBase + 4096 ≤ t1Base ∨ t1End ≤ ownBase) ∧
      livePoolLine.inCarve invalidateP.part ownBase (ownBase + 4096 - ownBase) = true ∧
      lacksSillResv livePoolLine invalidateP.part (flagClass invalidateP) = false) ∧
    (livePoolLine.calm = true ∧ passes Op.atomic atomicP livePoolLine = true ∧ inLowTiers (pf atomicP 24 6) = false ∧
      place livePoolLine atomicP.part (pf atomicP 24 6) (atypeBytes (pf atomicP 21 1)) = Place.remote 1 0 ∧
      lacksSillResv livePoolLine atomicP.part (flagClass atomicP) = false ∧ 1 ≠ livePoolLine.chip) := by
  and_intros <;> decide +kernel

theorem witness_PegAllocAndPegFreeComplete :
    (livePegs.calm = true ∧ passes Op.pegAlloc pegAllocP livePegs = true ∧ livePegs.ctx? pegAllocP.slot = some pegCtx ∧
      pegCtx.freeIndex = some 4 ∧ ((livePegs.pegsOf pegAllocP.part).length < (livePegs.part pegAllocP.part).shares.pegs ∧
      (List.filter (fun g => g.state != PegState.free) livePegs.pegs.slots).length < 65536 ∨ (oldestOrphan (livePegs.pegsOf pegAllocP.part)).isSome = true)) ∧
    (livePegWaits.calm = true ∧ passes Op.pegFree pegFreeP livePegWaits = true ∧ livePegWaits.ctx? pegFreeP.slot = some pegCtx ∧
      Machine.translate livePegWaits pegCtx (pf pegFreeP 20 4) = Xlat.owner 0 (aPeg 0 5) ∧
      (∀ w ∈ livePegWaits.pegs.remote, w.peg = 0 → livePegWaits.reaches w.src = true)) ∧
    ((livePegs.calm = true ∧ passes Op.pegFree pegFreeFarP livePegs = true ∧ livePegs.ctx? pegFreeFarP.slot = some pegCtx ∧
      Machine.translate livePegs pegCtx (pf pegFreeFarP 20 4) = Xlat.remote 1 1 9 1 7) ∧
      ((∃ i g r, Xlat.remote 1 1 9 1 7 = Xlat.imported i g r) ∨ ∃ ch pt i g r, Xlat.remote 1 1 9 1 7 = Xlat.remote ch pt i g r)) :=
  ⟨by decide +kernel, by decide +kernel, ⟨by decide +kernel, Or.inr ⟨_, _, _, _, _, rfl⟩⟩⟩

theorem witness_SignalCompletes :
    ((livePegWaits.calm = true ∧ passes Op.signal signalP livePegWaits = true ∧ livePegWaits.ctx? signalP.slot = some pegCtx ∧
      pegCtx.fences = [] ∧ BitVec.toNat (aPeg 0 5).value ≠ pegMax ∧ signalValue (aPeg 0 5) (pf signalP 24 8) ≠ pegMax ∧
      ringAllows livePegWaits (aPeg 0 5) (signalValue (aPeg 0 5) (pf signalP 24 8)) = true ∧ (¬((aPeg 0 5).isValue = true ∧
      pf signalP 24 8 < BitVec.toNat (aPeg 0 5).value)) ∧
      (∀ w ∈ livePegWaits.pegs.remote, w.peg = 0 → livePegWaits.reaches w.src = true)) ∧
      (Machine.translate livePegWaits pegCtx (pf signalP 20 4) = Xlat.owner 0 (aPeg 0 5) ∨ ∃ r, Machine.translate livePegWaits pegCtx (pf signalP 20 4) = Xlat.imported 0 (aPeg 0 5) r ∧
      bitOf r 0 = true)) ∧
    (livePegTop.calm = true ∧ passes Op.signal signalP livePegTop = true ∧ livePegTop.ctx? signalP.slot = some pegCtx ∧
      pegCtx.fences = [] ∧ Machine.translate livePegTop pegCtx (pf signalP 20 4) = Xlat.owner 0 (aPeg 0 pegMax) ∧
      BitVec.toNat (aPeg 0 pegMax).value = pegMax) ∧
    (livePegFence.calm = true ∧ passes Op.signal signalP livePegFence = true ∧ livePegFence.ctx? signalP.slot = some fenceCtx ∧
      fenceCtx.fences.getLast? = some aFence) ∧
    (livePegs.calm = true ∧ passes Op.signal signalFarP livePegs = true ∧ livePegs.ctx? signalFarP.slot = some pegCtx ∧
      pegCtx.fences = [] ∧ Machine.translate livePegs pegCtx (pf signalFarP 20 4) = Xlat.remote 1 1 9 1 7 ∧ bitOf 7 0 = true ∧
      livePegs.reaches 1 = true) :=
  ⟨⟨by decide +kernel, Or.inl (by decide +kernel)⟩, by decide +kernel, by decide +kernel, by decide +kernel⟩

theorem witness_WaitAndFenceComplete :
    ((livePegs.calm = true ∧ passes Op.wait (waitP 5 0) livePegs = true ∧ livePegs.ctx? (waitP 5 0).slot = some pegCtx ∧
      satisfies (aPeg 0 5).value (BitVec.ofNat 64 (pf (waitP 5 0) 24 8)) = true) ∧
      (Machine.translate livePegs pegCtx (pf (waitP 5 0) 20 4) = Xlat.owner 0 (aPeg 0 5) ∨ ∃ r, Machine.translate livePegs pegCtx (pf (waitP 5 0) 20 4) = Xlat.imported 0 (aPeg 0 5) r ∧
      bitOf r 1 = true)) ∧
    ((livePegs.calm = true ∧ passes Op.wait (waitP 6 0) livePegs = true ∧ livePegs.ctx? (waitP 6 0).slot = some pegCtx ∧
      satisfies (aPeg 0 5).value (BitVec.ofNat 64 (pf (waitP 6 0) 24 8)) = false ∧ pf (waitP 6 0) 32 4 = 0) ∧
      (Machine.translate livePegs pegCtx (pf (waitP 6 0) 20 4) = Xlat.owner 0 (aPeg 0 5) ∨ ∃ r, Machine.translate livePegs pegCtx (pf (waitP 6 0) 20 4) = Xlat.imported 0 (aPeg 0 5) r ∧
      bitOf r 1 = true)) ∧
    ((livePegs.calm = true ∧ passes Op.wait (waitP 6 9) livePegs = true ∧ livePegs.ctx? (waitP 6 9).slot = some pegCtx ∧
      satisfies (aPeg 0 5).value (BitVec.ofNat 64 (pf (waitP 6 9) 24 8)) = false ∧ pf (waitP 6 9) 32 4 ≠ 0 ∧
      livePegs.waitersUsed (waitP 6 9).part < (livePegs.part (waitP 6 9).part).shares.waiters) ∧
      (Machine.translate livePegs pegCtx (pf (waitP 6 9) 20 4) = Xlat.owner 0 (aPeg 0 5) ∨ ∃ r, Machine.translate livePegs pegCtx (pf (waitP 6 9) 20 4) = Xlat.imported 0 (aPeg 0 5) r ∧
      bitOf r 1 = true)) ∧
    (livePegs.calm = true ∧ passes Op.fence fenceP livePegs = true ∧ livePegs.ctx? fenceP.slot = some pegCtx ∧ pegCtx.fences = [] ∧
      pegCtx.held = [] ∧
      ([] = pegCtx.openSet ++ if bitOf (BitVec.toNat fenceP.flags) 4 = true then poolMembers fenceP.part livePegs else []) ∧
      (∀ m ∈ [], memberDone livePegs fenceP.part m = true)) ∧
    (livePegOpen.calm = true ∧ passes Op.fence fenceP livePegOpen = true ∧ livePegOpen.ctx? fenceP.slot = some openCtx ∧
      openCtx.fences = [] ∧ openCtx.held = [] ∧
      ([aMember] = openCtx.openSet ++ if bitOf (BitVec.toNat fenceP.flags) 4 = true then poolMembers fenceP.part livePegOpen else []) ∧
      (∃ m ∈ [aMember], memberDone livePegOpen fenceP.part m = false)) :=
  ⟨⟨by decide +kernel, Or.inl (by decide +kernel)⟩, ⟨by decide +kernel, Or.inl (by decide +kernel)⟩, ⟨by decide +kernel,
      Or.inl (by decide +kernel)⟩, by decide +kernel, by decide +kernel⟩

theorem witness_ExportImportRingDeclarePegReadComplete :
    (livePegs.calm = true ∧ passes Op.exportPeg exportP livePegs = true ∧ livePegs.ctx? exportP.slot = some pegCtx ∧
      Machine.translate livePegs pegCtx (pf exportP 20 4) = Xlat.owner 0 (aPeg 0 5)) ∧
    ((livePegs.calm = true ∧ passes Op.importPeg importP livePegs = true ∧ livePegs.ctx? importP.slot = some pegCtx ∧
      pegCtx.freeIndex = some 4) ∧ (bitsOf (pf importP 24 8) 24 11 = livePegs.chip ∧ bitsOf (pf importP 24 8) 35 4 = importP.part ∧
      (∃ g, (livePegs.slotState (bitsOf (pf importP 24 8) 0 16) (bitsOf (pf importP 24 8) 16 8)).1 = some g ∧
      g.ownerPart = importP.part) ∧
      HandleTarget.localImport 1 1 7 = HandleTarget.localImport (bitsOf (pf importP 24 8) 0 16) (bitsOf (pf importP 24 8) 16 8) (bitsOf (pf importP 24 8) 39 3) ∨ bitsOf (pf importP 24 8) 24 11 ≠ livePegs.chip ∧
      bitOf (bitsOf (pf importP 24 8) 39 3) 2 = true ∧
      HandleTarget.localImport 1 1 7 = HandleTarget.remote (bitsOf (pf importP 24 8) 24 11) (bitsOf (pf importP 24 8) 35 4) (bitsOf (pf importP 24 8) 0 16) (bitsOf (pf importP 24 8) 16 8) (bitsOf (pf importP 24 8) 39 3))) ∧
    ((livePegs.calm = true ∧ passes Op.importPeg importFarP livePegs = true ∧ livePegs.ctx? importFarP.slot = some pegCtx ∧
      pegCtx.freeIndex = some 4) ∧ (bitsOf (pf importFarP 24 8) 24 11 = livePegs.chip ∧
      bitsOf (pf importFarP 24 8) 35 4 = importFarP.part ∧
      (∃ g, (livePegs.slotState (bitsOf (pf importFarP 24 8) 0 16) (bitsOf (pf importFarP 24 8) 16 8)).1 = some g ∧
      g.ownerPart = importFarP.part) ∧
      HandleTarget.remote 1 1 9 1 7 = HandleTarget.localImport (bitsOf (pf importFarP 24 8) 0 16) (bitsOf (pf importFarP 24 8) 16 8) (bitsOf (pf importFarP 24 8) 39 3) ∨ bitsOf (pf importFarP 24 8) 24 11 ≠ livePegs.chip ∧
      bitOf (bitsOf (pf importFarP 24 8) 39 3) 2 = true ∧
      HandleTarget.remote 1 1 9 1 7 = HandleTarget.remote (bitsOf (pf importFarP 24 8) 24 11) (bitsOf (pf importFarP 24 8) 35 4) (bitsOf (pf importFarP 24 8) 0 16) (bitsOf (pf importFarP 24 8) 16 8) (bitsOf (pf importFarP 24 8) 39 3))) ∧
    (livePegs.calm = true ∧ passes Op.ringDeclare declareP livePegs = true ∧ livePegs.ctx? declareP.slot = some pegCtx ∧
      Machine.translate livePegs pegCtx (pf declareP 20 4) = Xlat.owner 0 (aPeg 0 5) ∧ pf declareP 28 4 ≠ 0 ∧
      Machine.translate livePegs pegCtx (pf declareP 24 4) = Xlat.owner 1 (aPeg 1 3) ∧ (aPeg 0 5).isValue = false ∧
      (aPeg 1 3).isValue = false ∧ (aPeg 0 5).role = RingRole.none ∧ (aPeg 1 3).role = RingRole.none ∧
      BitVec.toNat (aPeg 1 3).value ≤ BitVec.toNat (aPeg 0 5).value ∧
      BitVec.toNat (aPeg 0 5).value - BitVec.toNat (aPeg 1 3).value ≤ pf declareP 28 4) ∧
    (liveRingPegs.calm = true ∧ passes Op.ringDeclare undeclareP liveRingPegs = true ∧ liveRingPegs.ctx? undeclareP.slot = some pegCtx ∧
      Machine.translate liveRingPegs pegCtx (pf undeclareP 20 4) = Xlat.owner 0 ringA ∧ pf undeclareP 28 4 = 0 ∧
      ringA.role = RingRole.producer) ∧
    ((livePegs.calm = true ∧ passes Op.pegRead pegFreeP livePegs = true ∧ livePegs.ctx? pegFreeP.slot = some pegCtx) ∧
      (Machine.translate livePegs pegCtx (pf pegFreeP 20 4) = Xlat.owner 0 (aPeg 0 5) ∨ ∃ r, Machine.translate livePegs pegCtx (pf pegFreeP 20 4) = Xlat.imported 0 (aPeg 0 5) r ∧
      bitOf r 1 = true)) :=
  ⟨by decide +kernel, ⟨by decide +kernel, Or.inl ⟨by decide +kernel, by decide +kernel, ⟨aPeg 1 3, by decide +kernel, by decide +kernel⟩,
      by decide +kernel⟩⟩, ⟨by decide +kernel, Or.inr (by decide +kernel)⟩, by decide +kernel, by decide +kernel, ⟨by decide +kernel,
      Or.inl (by decide +kernel)⟩⟩

theorem witness_PegMessagesAndDeadlinesTakeEffect :
    (livePegIn.calm = true ∧ livePegIn.pegs.inbox = [{ src := 1, domain := 257, msg := aSignalMsg }] ∧
      livePegIn.partOfDomain 257 = some 1 ∧ livePegIn.stalled (1536 + aSignalMsg.slot % 8) = false ∧ aSignalMsg.msg = 1 ∧
      aSignalMsg.part = 1 ∧ (livePegIn.slotState aSignalMsg.slot aSignalMsg.slotGen).1 = some (aPeg 0 5) ∧ (aPeg 0 5).ownerPart = 1 ∧
      BitVec.toNat (aPeg 0 5).value ≠ pegMax ∧ signalValue (aPeg 0 5) (BitVec.toNat aSignalMsg.value) ≠ pegMax ∧
      ringAllows livePegIn (aPeg 0 5) (signalValue (aPeg 0 5) (BitVec.toNat aSignalMsg.value)) = true ∧ (¬((aPeg 0 5).isValue = true ∧
      BitVec.toNat aSignalMsg.value < BitVec.toNat (aPeg 0 5).value)) ∧ livePegIn.reaches 1 = true ∧
      (∀ w ∈ livePegIn.pegs.remote, w.peg = aSignalMsg.slot → livePegIn.reaches w.src = true)) ∧
    (livePegAnswer.calm = true ∧ livePegAnswer.pegs.inbox = [{ src := 1, domain := 257, msg := anAnswer }] ∧
      livePegAnswer.partOfDomain 257 = some 1 ∧ anAnswer.msg = 18 ∧ livePegAnswer.pegs.waiters = [farWaiter] ∧
      farWaiter.remoteChip = some 1 ∧ farWaiter.ref.part = 1 ∧ farWaiter.ref.slot = anAnswer.context ∧ farWaiter.ref.seq = anAnswer.seq ∧
      farWaiter.preempted = false ∧ livePegAnswer.staleRef farWaiter.ref = false) ∧
    (livePegWaits.calm = true ∧ livePegWaits.running = true ∧ livePegWaits.pegs.waiters = [aWaiter] ∧ aWaiter.ref.part = 1 ∧
      aWaiter.ref.slot = 1 ∧ aWaiter.ref.seq = 77 ∧ aWaiter.remoteChip = none ∧ aWaiter.preempted = false ∧ aWaiter.deadline ≠ 0 ∧
      1 < livePegWaits.parts.length) ∧
    (livePegWaits.calm = true ∧ livePegWaits.running = true ∧ livePegWaits.pegs.remote = [aRemoteWait] ∧ aRemoteWait.src = 1 ∧
      aRemoteWait.part = 1 ∧ aRemoteWait.context = 3 ∧ aRemoteWait.seq = 4) := by
  and_intros <;> decide +kernel

theorem witness_KeysAreLoaded :
    (live.calm = true ∧ live.tests.injections = [] ∧ passes Op.keyLoad keyLoadP live = true ∧ srcIsCtx keyLoadP.src = true ∧
      slotCheck live keyLoadP.part (pf keyLoadP 32 2) = Except.ok 7 ∧
      live.inCarve keyLoadP.part (pf keyLoadP 20 6) (pf keyLoadP 28 2) = true ∧ readCause weightBlob.read = none ∧
      blobEarly live keyLoadP.part { usage := 2, kind := 2, pin := false } (pf keyLoadP 32 2) (pf keyLoadP 28 2) weightBlob = none ∧
      weightBlob.twinsOk = true ∧ weightBlob.key = some 9 ∧ live.weightKeys < 256) ∧
    (liveSession.calm = true ∧ liveSession.tests.injections = [] ∧ passes Op.keyLoad keyLoadSession liveSession = true ∧
      liveSession.session? keyLoadSession.src = some aSession ∧ aSession.mutualAuth = true ∧ 2 = pbits keyLoadSession 30 0 4 ∧
      2 < liveSession.parts.length ∧ (liveSession.part 2).pstate ≠ PState.free ∧ (liveSession.part 2).pstate ≠ PState.created ∧
      slotCheck liveSession 2 (pf keyLoadSession 32 2) = Except.ok 0 ∧
      blobEarly liveSession 2 { usage := 1, kind := 1, pin := false } (pf keyLoadSession 32 2) (pf keyLoadSession 28 2) domainBlob2 = none ∧
      domainBlob2.twinsOk = true ∧ domainBlob2.key = some 9 ∧ blobLate liveSession 2 aSession.verifierId 9 domainBlob2 = none) ∧
    (liveKeyless.calm = true ∧ liveKeyless.tests.injections = [] ∧ passes Op.keyPinRc keyPinP liveKeyless = true ∧
      slotCheck liveKeyless keyPinP.part (pf keyPinP 32 2) = Except.ok 0 ∧
      liveKeyless.inCarve keyPinP.part (pf keyPinP 20 6) (pf keyPinP 28 2) = true ∧ readCause pinBlob.read = none ∧
      blobEarly liveKeyless keyPinP.part { usage := 1, kind := 1, pin := true } (pf keyPinP 32 2) (pf keyPinP 28 2) pinBlob = none ∧
      pinBlob.twinsOk = true ∧ pinBlob.key = some 9 ∧ liveKeyless.slot? keyPinP.part 0 = none) ∧
    (live.calm = true ∧ live.tests.injections = [] ∧ passes Op.bindUnwrap bindP live = true ∧
      slotCheck live bindP.part (pf bindP 32 2) = Except.ok 7 ∧ live.inCarve bindP.part (pf bindP 20 6) (pf bindP 28 4) = true ∧
      (live.key? bindP.part 0).isSome = true ∧ readCause aBindSet.read = none ∧ aBindSet.entry = some boundBlob ∧
      policyOk live bindP.part (pf bindP 28 4) aBindSet = true ∧
      blobEarly live bindP.part { usage := 2, kind := 1, pin := false } (pf bindP 32 2) 1796 boundBlob = none ∧ boundBlob.twinsOk = true ∧
      aBindSet.policyMacOk = true ∧ boundBlob.key = some 9 ∧ live.weightKeys < 256) := by
  and_intros <;> decide +kernel

theorem witness_KeysAreMadeAndKingpostActs :
    (live.calm = true ∧ live.tests.injections = [] ∧ passes Op.keyGenerate keyGenP live = true ∧ live.kp.entropyFail = false ∧
      slotCheck live keyGenP.part (pf keyGenP 20 2) = Except.ok 7 ∧ live.inCarve keyGenP.part (pf keyGenP 24 6) 140 = true ∧
      place live keyGenP.part (pf keyGenP 24 6) 140 = Place.tier0 (pf keyGenP 24 6) ∧ (live.key? keyGenP.part 0).isSome = true ∧
      live.weightKeys < 256) ∧
    ((liveWeights.calm = true ∧ passes Op.keyEvict slotP liveWeights = true ∧
      1 = aboutPart (named Op.keyEvict slotP liveWeights) (pbits slotP 22 0 4) ∧
      mgmtRefusal (named Op.keyEvict slotP liveWeights) 1 liveWeights = none ∧ (liveWeights.part 1).pstate ≠ PState.created ∧
      pf slotP 20 2 ≠ 0 ∧ liveWeights.slot? 1 (pf slotP 20 2) = some weightSlot ∧ slotUsers liveWeights 1 (pf slotP 20 2) = []) ∧
      (∀ (x : Session), liveWeights.session? slotP.src = some x → liveWeights.sessionReaches x 1 = true)) ∧
    ((liveWeightsUsed.calm = true ∧ passes Op.keyEvict slotP liveWeightsUsed = true ∧
      1 = aboutPart (named Op.keyEvict slotP liveWeightsUsed) (pbits slotP 22 0 4) ∧
      mgmtRefusal (named Op.keyEvict slotP liveWeightsUsed) 1 liveWeightsUsed = none ∧ (liveWeightsUsed.part 1).pstate ≠ PState.created ∧
      pf slotP 20 2 ≠ 0 ∧ liveWeightsUsed.slot? 1 (pf slotP 20 2) = some weightSlot ∧
      anUnfold.ref ∈ slotUsers liveWeightsUsed 1 (pf slotP 20 2) ∧ liveWeightsUsed.pendingRef anUnfold.ref = true) ∧
      (∀ (x : Session), liveWeightsUsed.session? slotP.src = some x → liveWeightsUsed.sessionReaches x 1 = true)) ∧
    (liveWeights.calm = true ∧ passes Op.keyQuery slotP8 liveWeights = true ∧
      1 = aboutPart (named Op.keyQuery slotP8 liveWeights) (pbits slotP8 22 0 4) ∧
      mgmtRefusal (named Op.keyQuery slotP8 liveWeights) 1 liveWeights = none ∧ (liveWeights.part 1).pstate ≠ PState.created ∧
      pf slotP8 20 2 < (liveWeights.part 1).shares.keySlots ∧ liveWeights.slot? 1 (pf slotP8 20 2) = none) ∧
    (liveWeights.calm = true ∧ passes Op.keyQuery slotP liveWeights = true ∧
      1 = aboutPart (named Op.keyQuery slotP liveWeights) (pbits slotP 22 0 4) ∧
      mgmtRefusal (named Op.keyQuery slotP liveWeights) 1 liveWeights = none ∧ (liveWeights.part 1).pstate ≠ PState.created ∧
      pf slotP 20 2 < (liveWeights.part 1).shares.keySlots ∧ liveWeights.slot? 1 (pf slotP 20 2) = some weightSlot) ∧
    (live.calm = true ∧ live.up = true) ∧
    (liveEntropy.calm = true ∧ liveEntropy.up = true ∧ liveEntropy.kp.entropyFail = true) ∧
    (live.calm = true ∧ live.up = true ∧ live.kp.halted = false) :=
  ⟨by decide +kernel, ⟨by decide +kernel, of_none (by decide +kernel)⟩, ⟨by decide +kernel, of_none (by decide +kernel)⟩,
      by decide +kernel, by decide +kernel, by decide +kernel, by decide +kernel, by decide +kernel⟩

theorem witness_EvidenceIsDelivered :
    (live.calm = true ∧ live.tests.injections = [] ∧ passes Op.getEvidence evidenceP live = true ∧
      (pbit evidenceP 52 7 = true → evidenceP.src = Source.mgmt → namedRefusal live (pbits evidenceP 52 0 4) = none) ∧
      (srcIsCtx evidenceP.src = true → live.inCarve evidenceP.part (pf evidenceP 56 6) 5107 = true ∧
      place live evidenceP.part (pf evidenceP 56 6) 5107 = Place.tier0 (pf evidenceP 56 6))) ∧
    ((live.calm = true ∧ live.tests.injections = [] ∧ passes Op.keyClaim claimP live = true ∧
      1 = aboutPart (named Op.keyClaim claimP live) (pbits claimP 52 0 4) ∧
      live.key? 1 (pf claimP 54 2) = some (live.kp.slots.headD unfoldSlot) ∧
      (srcIsCtx claimP.src = true → live.inCarve claimP.part (pf claimP 56 6) 5139 = true ∧
      place live claimP.part (pf claimP 56 6) 5139 = Place.tier0 (pf claimP 56 6))) ∧
      (∀ (x : Session), live.session? claimP.src = some x → live.sessionReaches x 1 = true)) ∧
    ((live.calm = true ∧ passes Op.getCerts certsM live = true ∧ 32768 ≤ pf certsM 30 4) ∧
      (∀ n ≤ 32768, srcIsCtx certsM.src = true → live.inCarve certsM.part (pf certsM 24 6) n = true ∧
      place live certsM.part (pf certsM 24 6) n = Place.tier0 (pf certsM 24 6))) ∧
    ((live.calm = true ∧ passes Op.getMeasurements measureM live = true ∧ 512 ≤ pf measureM 30 4) ∧
      (∀ n ≤ 512, srcIsCtx measureM.src = true → live.inCarve measureM.part (pf measureM 24 6) n = true ∧
      place live measureM.part (pf measureM 24 6) n = Place.tier0 (pf measureM 24 6))) :=
  ⟨by decide +kernel, ⟨by decide +kernel, of_none (by decide +kernel)⟩, ⟨by decide +kernel, fun _ _ h => absurd h (by decide +kernel)⟩,
      ⟨by decide +kernel, fun _ _ h => absurd h (by decide +kernel)⟩⟩

theorem witness_PartitionCommandsComplete :
    (live.calm = true ∧ passes Op.partCreate createP live = true ∧ 2 = pbits createP 20 0 4 ∧ 2 < live.parts.length ∧
      partDesc descBytes = partDesc (readBytes (MemRead.ok descBytes)) ∧ (live.part 2).struck = false ∧
      (live.part 2).pstate = PState.free ∧ descOffence live (readBytes (MemRead.ok descBytes)) = none ∧ (partDesc descBytes).domain ≠ 0 ∧
      ((live.othersHeld 2).any fun x => decide (x.domain = (partDesc descBytes).domain)) = false ∧
      rangesTaken live 2 (partDesc descBytes) = false ∧
      ((partDesc descBytes).t0.any fun x => live.sill.unclean.any fun y => y.meets x) = false ∧
      shareShort live 2 (partDesc descBytes) = none ∧ live.committed + (partDesc descBytes).resvW ≤ 16 * live.damper.pkgLimit ∧
      live.kp.entropyFail = false ∧ (live.sill.records.any fun x => decide (x.keyEpoch = live.sill.nextEpoch)) = false) ∧
    (liveCreated.calm = true ∧ 2 = pbits name2 20 0 4 ∧ 2 < liveCreated.parts.length ∧ namedRefusal liveCreated 2 = none ∧
      passes Op.partSeal name2 liveCreated = true ∧ (liveCreated.part 2).pstate = PState.created) ∧
    (liveStream.calm = true ∧ 2 = pbits bindTdiP 20 0 4 ∧ 2 < liveStream.parts.length ∧ namedRefusal liveStream 2 = none ∧
      passes Op.tdiBind bindTdiP liveStream = true ∧ (liveStream.part 2).pstate ≠ PState.faulted ∧
      (liveStream.part 2).tdi = TdiState.unlocked ∧
      (pf bindTdiP 21 1 ≠ 0 → ((List.range 16).any fun k => decide (k ≠ 2) && (liveStream.part k).tdiBound && decide ((liveStream.part k).tdiStream = pf bindTdiP 21 1)) = false ∧
      ((liveStream.stream (pf bindTdiP 21 1)).secure && (liveStream.stream (pf bindTdiP 21 1)).tee) = true)) ∧
    (live.calm = true ∧ passes Op.ctxRegister registerP live = true ∧
      1 = aboutPart (named Op.ctxRegister registerP live) (pbits registerP 21 0 4) ∧
      mgmtRefusal (named Op.ctxRegister registerP live) 1 live = none ∧
      List.find? (fun k => (live.ctx? k).isNone) (List.map (fun i => (live.part 1).shares.ctxBase + i) (List.range (live.part 1).shares.contexts)) = some 2 ∧
      List.foldl (fun m c => m + 2 ^ c.htLog2) (2 ^ pf registerP 20 1) (List.filter (fun c => decide (c.part = 1)) live.cmds.ctxs) ≤ (live.part 1).shares.handles) ∧
    (live.calm = true ∧ passes Op.partQuery uncleanP live = true ∧
      0 = aboutPart (named Op.partQuery uncleanP live) (pbits uncleanP 20 0 4) ∧ pf uncleanP 21 1 = 1 ∧ uncleanP.src = Source.mgmt) ∧
    (live.calm = true ∧ passes Op.partQuery queryP live = true ∧ 1 = aboutPart (named Op.partQuery queryP live) (pbits queryP 20 0 4) ∧
      pf queryP 21 1 = 0) := by
  and_intros <;> decide +kernel

theorem witness_ContextsAreResetAndReleased :
    (liveTwo.calm = true ∧ passes Op.ctxReset ctxP liveTwo = true ∧ namedCtx liveTwo ctxP.src (pf ctxP 20 4) = some (newCtx 2 1 4 0) ∧
      mgmtRefusal (named Op.ctxReset ctxP liveTwo) (newCtx 2 1 4 0).part liveTwo = none ∧
      liveTwo.coveredBy Rung.context (newCtx 2 1 4 0).slot = none ∧ liveTwo.ctxRests (newCtx 2 1 4 0).slot = true) ∧
    (liveTwo.calm = true ∧ passes Op.ctxRelease ctxP liveTwo = true ∧ namedCtx liveTwo ctxP.src (pf ctxP 20 4) = some (newCtx 2 1 4 0) ∧
      mgmtRefusal (named Op.ctxRelease ctxP liveTwo) (newCtx 2 1 4 0).part liveTwo = none ∧
      (srcIsCtx ctxP.src = true → (newCtx 2 1 4 0).slot ≠ ctxP.slot) ∧ pf ctxP 26 2 = 0 ∧ liveTwo.ctxRests (newCtx 2 1 4 0).slot = true) ∧
    (State.calm { liveDrain with plumb := { liveDrain.plumb with rungs := [] } } = true ∧ liveDrain.running = true ∧
      liveDrain.gl.parcels = [drainParcel] ∧ drainParcel.id = 0 ∧ drainParcel.drain = true ∧ drainParcel.deadline ≠ 0 ∧
      liveDrain.plumb.rungs = [drainRung] ∧ drainRung.rung = Rung.context ∧ drainRung.begun = true ∧ drainRung.timerFrom = none ∧
      drainRung.cmd = some drainRef ∧ drainRef.src = Source.mgmt ∧ (liveDrain.inflight? drainRef).isSome = true) :=
  ⟨by decide +kernel, by decide +kernel, by decide +kernel⟩

theorem witness_PartitionsEnd :
    (liveCreated.calm = true ∧ passes Op.partDestroy name2 liveCreated = true ∧ 2 = pbits name2 20 0 4 ∧ 2 < liveCreated.parts.length ∧
      namedRefusal liveCreated 2 = none ∧ liveCreated.plumb.rungs = [] ∧
      List.filter (fun c => decide (c.part = 2)) liveCreated.cmds.ctxs = [] ∧ (∀ g ∈ liveCreated.pegs.slots, g.ownerPart ≠ 2)) ∧
    (live.calm = true ∧ passes Op.partRelease queryP live = true ∧ live.plumb.rungs = [] ∧
      List.filter (fun c => decide (c.part = queryP.part)) live.cmds.ctxs = [newCtx 1 1 4 0] ∧ (newCtx 1 1 4 0).slot = queryP.slot ∧
      live.ctxRests queryP.slot = true ∧ (∀ g ∈ live.pegs.slots, g.ownerPart ≠ queryP.part)) ∧
    ((live.calm = true ∧ live.up = true ∧ 1 < live.parts.length ∧ viewGate (Access.vf 1) 1 live = none ∧
      (live.part 1).pstate ≠ PState.free ∧ live.coveredBy Rung.partition 1 = none ∧ live.plumb.causes = [] ∧ (live.src 135).thresh = 0) ∧
      (∀ (k : ℕ), Access.vf 1 = Access.vf k → k = 1)) :=
  ⟨by decide +kernel, by decide +kernel, ⟨by decide +kernel, (by intro k h; cases h; rfl)⟩⟩

theorem witness_StrikesRunTheirPhases :
    (((liveEnding Phase.teardown PState.ending).calm = true ∧ (liveEnding Phase.teardown PState.ending).running = true ∧
      2 < (liveEnding Phase.teardown PState.ending).parts.length ∧
      ((liveEnding Phase.teardown PState.ending).part 2).phase = Phase.teardown ∧
      ((liveEnding Phase.teardown PState.ending).part 2).pstate = PState.ending ∧
      (liveEnding Phase.teardown PState.ending).teardownOpen 2 = false ∧
      ((liveEnding Phase.teardown PState.ending).sill.accesses.all fun a => decide (a.part ≠ 2)) = true) ∧
      (∀ (r : CmdRef), ((liveEnding Phase.teardown PState.ending).part 2).endRelease = some r → r.src = Source.cmd 2)) ∧
    ((liveEnding Phase.s1 PState.striking).calm = true ∧ (liveEnding Phase.s1 PState.striking).running = true ∧
      2 < (liveEnding Phase.s1 PState.striking).parts.length ∧ ((liveEnding Phase.s1 PState.striking).part 2).phase = Phase.s1) ∧
    ((liveEnding Phase.s2 PState.striking).calm = true ∧ (liveEnding Phase.s2 PState.striking).running = true ∧
      2 < (liveEnding Phase.s2 PState.striking).parts.length ∧ ((liveEnding Phase.s2 PState.striking).part 2).phase = Phase.s2 ∧
      reserveBlocked (liveEnding Phase.s2 PState.striking) 2 = false) ∧
    ((liveEnding Phase.s3 PState.striking).calm = true ∧ (liveEnding Phase.s3 PState.striking).running = true ∧
      2 < (liveEnding Phase.s3 PState.striking).parts.length ∧ ((liveEnding Phase.s3 PState.striking).part 2).phase = Phase.s3) ∧
    ((liveS4.calm = true ∧ liveS4.running = true ∧ 2 < liveS4.parts.length ∧ (liveS4.part 2).phase = Phase.s4) ∧
      (∀ (r : CmdRef), (liveS4.part 2).endDestroy = some r → r.src = Source.mgmt)) ∧
    (liveUnclean.calm = true ∧ liveUnclean.running = true ∧
      ((List.range 16).any fun k => decide ((liveUnclean.part k).phase = Phase.s2) || decide ((liveUnclean.part k).phase = Phase.s3)) = false ∧
      lowestOf liveUnclean.sill.unclean = some 7) :=
  ⟨⟨by decide +kernel, of_none (by decide +kernel)⟩, by decide +kernel, by decide +kernel, by decide +kernel, ⟨by decide +kernel,
      of_some (y := destroyRef) (by decide +kernel) (by decide +kernel)⟩, by decide +kernel⟩

theorem witness_CalendarCommandsComplete :
    (live.calm = true ∧ passes Op.admitRequest admitP live = true ∧
      1 = aboutPart (named Op.admitRequest admitP live) (pbits admitP 32 0 4) ∧
      mgmtRefusal (named Op.admitRequest admitP live) 1 live = none ∧ (pf admitP 20 1 = 1 → 1 = 0) ∧
      (pf admitP 20 1 = 3 → (live.part 1).view.shared = true) ∧ live.cal.frameOk = true ∧
      (live.resvsOf 1).length < (live.part 1).shares.resvs ∧ live.cal.resvs.length < 1024 ∧ admitPos live (admitReq 1 admitP) = some 0) ∧
    (liveResvs.calm = true ∧ passes Op.admitRelease releaseP liveResvs = true ∧
      mgmtRefusal (named Op.admitRelease releaseP liveResvs) (resvPart (pf releaseP 20 4)) liveResvs = none ∧
      namedResv releaseP.src (pf releaseP 20 4) liveResvs = some resvT ∧
      List.filter (fun y => decide (y.entry = resvT.entry)) liveResvs.cal.resvs = [resvT] ∧
      (∀ y ∈ liveResvs.gl.parcels, y.resv ≠ some resvT.entry)) ∧
    (live.calm = true ∧ passes Op.shaperSet shaperP live = true ∧ beTarget (pf shaperP 20 4) = true ∧ srcIsCtx shaperP.src = true) ∧
    (liveResvs.calm = true ∧ passes Op.shaperSet shaperResvP liveResvs = true ∧ beTarget (pf shaperResvP 20 4) = false ∧
      mgmtRefusal (named Op.shaperSet shaperResvP liveResvs) (resvPart (pf shaperResvP 20 4)) liveResvs = none ∧
      namedResv shaperResvP.src (pf shaperResvP 20 4) liveResvs = some resvT) ∧
    (live.calm = true ∧ passes Op.p0Reserve p0ReserveP live = true ∧ live.cal.frameOk = true ∧ p0Room live (p0ShareOf p0ReserveP) = true ∧
      p0Covers live (p0ShareOf p0ReserveP) = true) ∧
    (live.calm = true ∧ passes Op.sharedOptIn optInP live = true ∧
      (pf optInP 20 1 = 0 → ((live.resvsOf optInP.part).any fun x => decide (x.cls = 3)) = false)) ∧
    (live.calm = true ∧ passes Op.calQuery queryP live = true ∧ pf queryP 20 4 = 0) ∧
    (liveResvs.calm = true ∧ passes Op.calQuery calQueryP liveResvs = true ∧ pf calQueryP 20 4 ≠ 0 ∧
      mgmtRefusal (named Op.calQuery calQueryP liveResvs) (resvPart (pf calQueryP 20 4)) liveResvs = none ∧
      liveResvs.resv? (bitsOf (pf calQueryP 20 4) 0 10) = some resvT ∧ resvT.id = pf calQueryP 20 4 ∧
      (srcIsCtx calQueryP.src = true → resvT.part = calQueryP.part)) := by
  and_intros <;> decide +kernel

theorem witness_SlicesAndRunLimits :
    (liveSlice.calm = true ∧ liveSlice.running = true ∧ liveSlice.sliceOf 1 4 = some 1 ∧ nextReady liveSlice 1 4 1 = none) ∧
    (liveSliceOwn.calm = true ∧ liveSliceOwn.running = true ∧ liveSliceOwn.sliceOf 1 4 = some 1 ∧ nextReady liveSliceOwn 1 4 1 = some 1) ∧
    (liveSliceTwo.calm = true ∧ liveSliceTwo.running = true ∧ liveSliceTwo.sliceOf 1 4 = some 1 ∧ nextReady liveSliceTwo 1 4 1 = some 2 ∧
      liveSliceTwo.readyIn 1 4 1 = false ∧ liveSliceTwo.ctx? 2 = some (newCtx 2 1 4 0) ∧ (newCtx 2 1 4 0).preempted.contains 4 = false) ∧
    (liveOverrun.calm = true ∧ liveOverrun.running = true ∧ liveOverrun.cmds.inflight = [runInflight] ∧ runInflight.ref.part = 1 ∧
      runInflight.ref.slot = 1 ∧ runInflight.ref.seq = 0 ∧ runInflight.ref.src = Source.cmd 1 ∧
      isFirmwareClass runInflight.ref.cls = false ∧ liveOverrun.staleRef runInflight.ref = false ∧
      liveOverrun.coveredBy Rung.context 1 = none ∧
      State.ctxRests { liveOverrun with cmds := { liveOverrun.cmds with inflight := [] } } 1 = true ∧
      (liveOverrun.src (160 + 1)).times.length + 1 < (liveOverrun.src (160 + 1)).thresh) := by
  and_intros <;> decide +kernel

theorem witness_TimeAndFramesAdvance :
    (live.calm = true ∧ live.counting = true ∧ live.tests.runs = [] ∧ live.cal.tick < 9999) ∧
    (liveFrameEnd.calm = true ∧ liveFrameEnd.counting = true ∧ liveFrameEnd.tests.runs = [] ∧ 9999 ≤ liveFrameEnd.cal.tick ∧
      liveFrameEnd.cal.locked = false) ∧
    (liveFrameHeld.calm = true ∧ liveFrameHeld.counting = true ∧ liveFrameHeld.tests.runs = [] ∧ 9999 ≤ liveFrameHeld.cal.tick ∧
      liveFrameHeld.cal.locked = true) ∧
    (liveOptIn.calm = true ∧ liveOptIn.counting = true) ∧
    (liveNoEdge.calm = true ∧ liveNoEdge.counting = true ∧ liveNoEdge.cal.firstEdge = false) ∧
    (liveEdge.calm = true ∧ liveEdge.counting = true ∧ liveEdge.cal.firstEdge = true ∧ liveEdge.cal.locked = true ∧
      10000000 = liveEdge.cal.lastTod + 10000000 ∧ within100 liveEdge.now liveEdge.cal.expectAt = true ∧ liveEdge.now ≤ 10000000 ∧
      (∀ x ∈ liveEdge.gl.parcels, x.bounded = true → 10000000 ≤ x.deadline)) ∧
    (liveEdgeLate.calm = true ∧ liveEdgeLate.counting = true ∧ liveEdgeLate.cal.firstEdge = true ∧ liveEdgeLate.cal.locked = true ∧
      10000000 = liveEdgeLate.cal.lastTod + 10000000 ∧ within100 liveEdgeLate.now liveEdgeLate.cal.expectAt = true ∧
      10000000 < liveEdgeLate.now) ∧
    (live.calm = true ∧ live.up = true ∧ live.counting = true ∧ live.cal.locked = true) := by
  and_intros <;> decide +kernel

theorem witness_DamperCommandsComplete :
    (liveBallast.calm = true ∧ passes Op.setPkgLimit limitP liveBallast = true ∧ liveBallast.committed ≤ 16 * pf limitP 20 2 ∧
      16 * pf limitP 20 2 ≤ liveBallast.ballastCapacity + 16 * liveBallast.damper.idleW) ∧
    (live.calm = true ∧ 1 = aboutPart (named Op.grantQuery grantP live) (pbits grantP 20 0 4) ∧ passes Op.grantQuery grantP live = true ∧
      mgmtRefusal (named Op.grantQuery grantP live) 1 live = none) ∧
    (live.calm = true ∧ 1 = aboutPart (named Op.grantQuery grantP live) (pbits grantP 20 0 4) ∧
      passes Op.throttleQuery grantP live = true ∧ mgmtRefusal (named Op.throttleQuery grantP live) 1 live = none) ∧
    (live.calm = true ∧ passes Op.enterState (enterP 0) live = true ∧ LState.l0 = lstateOf (pf (enterP 0) 20 1) ∧
      LState.l0 = live.damper.lstate) ∧
    (liveBare.calm = true ∧ passes Op.enterState (enterP 2) liveBare = true ∧ LState.l2 = lstateOf (pf (enterP 2) 20 1) ∧
      LState.l2 ≠ liveBare.damper.lstate ∧ liveBare.scribe.halted = false ∧ liveBare.damper.emergency = false ∧
      liveBare.damper.moving = none ∧ (LState.l2 = LState.l2 ∨ LState.l2 = LState.l3) ∧
      (liveBare.parts.any fun q => decide (q.pstate ≠ PState.free)) = false) ∧
    ((liveL LState.l2).calm = true ∧ passes Op.enterState (enterP 0) (liveL LState.l2) = true ∧
      LState.l0 = lstateOf (pf (enterP 0) 20 1) ∧ LState.l0 ≠ (liveL LState.l2).damper.lstate ∧ (liveL LState.l2).scribe.halted = false ∧
      (liveL LState.l2).damper.emergency = false ∧ (liveL LState.l2).damper.moving = none ∧
      (LState.l0 = LState.l0 ∨ LState.l0 = LState.l1) ∧ (liveL LState.l2).damper.lstate = LState.l2) ∧
    (live.calm = true ∧ passes Op.enterState (enterP 1) live = true ∧ LState.l1 = lstateOf (pf (enterP 1) 20 1) ∧
      LState.l1 ≠ live.damper.lstate ∧ live.scribe.halted = false ∧ live.damper.emergency = false ∧ live.damper.moving = none ∧
      (LState.l1 = LState.l0 ∨ LState.l1 = LState.l1) ∧ live.damper.lstate ≠ LState.l2) := by
  and_intros <;> decide +kernel

theorem witness_BudgetTicksMoveGrantsSlowly :
    (live.calm = true ∧ live.counting = true ∧ live.scribe.halted = false) ∧
    (liveHalted.calm = true ∧ liveHalted.counting = true ∧ liveHalted.scribe.halted = true) ∧
    (live.calm = true ∧ live.up = true) :=
  ⟨by decide +kernel, by decide +kernel, by decide +kernel⟩

theorem witness_TelemetryAndAlertsAct :
    (live.calm = true ∧ live.up = true ∧ live.tests.injections = [] ∧ 900 = bitsOf (BitVec.toNat (telem 1 0 900)) 0 24 ∧
      bitsOf (BitVec.toNat (telem 1 0 900)) 28 4 = 1) ∧
    (live.calm = true ∧ live.up = true ∧ live.tests.injections = [] ∧ 900 = bitsOf (BitVec.toNat (telem 2 3 900)) 0 24 ∧
      bitsOf (BitVec.toNat (telem 2 3 900)) 28 4 = 2) ∧
    (live.calm = true ∧ live.up = true ∧ live.tests.injections = [] ∧ 900 = bitsOf (BitVec.toNat (telem 3 3 900)) 0 24 ∧
      bitsOf (BitVec.toNat (telem 3 3 900)) 28 4 = 3 ∧ 900 = signedOf 16 (bitsOf 900 0 16) ∧ 900 < 16 * ↑live.damper.tTrip ∧
      900 < 16 * ↑live.damper.tCrit) ∧
    (live.calm = true ∧ live.up = true ∧ live.tests.injections = [] ∧ 1680 = bitsOf (BitVec.toNat (telem 3 3 1680)) 0 24 ∧
      bitsOf (BitVec.toNat (telem 3 3 1680)) 28 4 = 3 ∧ 1680 = signedOf 16 (bitsOf 1680 0 16) ∧ 1680 < 16 * ↑live.damper.tTrip ∧
      16 * ↑live.damper.tCrit ≤ 1680 ∧ live.damper.emergency = false ∧ live.damper.tripped = false) ∧
    (live.calm = true ∧ live.up = true ∧ live.tests.injections = [] ∧ 1840 = bitsOf (BitVec.toNat (telem 3 3 1840)) 0 24 ∧
      bitsOf (BitVec.toNat (telem 3 3 1840)) 28 4 = 3 ∧ 1840 = signedOf 16 (bitsOf 1840 0 16) ∧ 16 * ↑live.damper.tTrip ≤ 1840 ∧
      live.damper.tripped = false) ∧
    (live.calm = true ∧ live.up = true ∧ live.tests.injections = [] ∧ 900 = bitsOf (BitVec.toNat (telem 4 1 900)) 0 24 ∧
      bitsOf (BitVec.toNat (telem 4 1 900)) 28 4 = 4 ∧ 1 = bitsOf (BitVec.toNat (telem 4 1 900)) 24 4 ∧ 1 < live.damper.rows.length) ∧
    (live.calm = true ∧ live.up = true ∧ live.tests.injections = [] ∧ 0 = bitsOf (BitVec.toNat (telem 5 1 0)) 0 24 ∧
      bitsOf (BitVec.toNat (telem 5 1 0)) 28 4 = 5) ∧
    (live.calm = true ∧ live.up = true ∧ live.tests.injections = [] ∧ 0 = bitsOf (BitVec.toNat (telem 6 1 0)) 0 24 ∧
      (bitsOf (BitVec.toNat (telem 6 1 0)) 28 4 = 0 ∨ 5 < bitsOf (BitVec.toNat (telem 6 1 0)) 28 4)) ∧
    (liveMissed.calm = true ∧ liveMissed.up = true ∧ liveMissed.damper.telemLost = false ∧ 2 ≤ liveMissed.damper.missed) ∧
    (liveOver.calm = true ∧ liveOver.up = true ∧ 3 ≤ (liveOver.grantRow 1).overTicks) ∧
    (liveOver.calm = true ∧ liveOver.up = true) ∧
    (liveOver.calm = true ∧ liveOver.up = true ∧ liveOver.damper.alertSince = some 100) := by
  and_intros <;> decide +kernel

theorem witness_LowPowerIsEnteredAndLeft :
    ((liveL LState.l1).calm = true ∧ (liveL LState.l1).up = true ∧ (liveL LState.l1).damper.lstate = LState.l1 ∧
      (liveL LState.l1).tileHeld 9 = false ∧ (liveL LState.l1).damper.gated.contains (9, 0) = false) ∧
    ((liveL LState.l1).calm = true) ∧
    ((liveMoving LState.l0 LState.l2).calm = true ∧ (liveMoving LState.l0 LState.l2).running = true ∧
      (liveMoving LState.l0 LState.l2).gl.parcels = [] ∧ (liveMoving LState.l0 LState.l2).tests.runs = [] ∧
      (∀ c ∈ (liveMoving LState.l0 LState.l2).cmds.ctxs, c.fences = []) ∧
      (liveMoving LState.l0 LState.l2).damper.moving = some (LState.l0, LState.l2)) ∧
    ((liveMoving LState.l0 LState.l3).calm = true ∧ (liveMoving LState.l0 LState.l3).running = true ∧
      (liveMoving LState.l0 LState.l3).gl.parcels = [] ∧ (liveMoving LState.l0 LState.l3).tests.runs = [] ∧
      (∀ c ∈ (liveMoving LState.l0 LState.l3).cmds.ctxs, c.fences = []) ∧
      (liveMoving LState.l0 LState.l3).damper.moving = some (LState.l0, LState.l3)) ∧
    ((liveMoving LState.l2 LState.l0).calm = true ∧ (liveMoving LState.l2 LState.l0).running = true ∧
      (liveMoving LState.l2 LState.l0).damper.moving = some (LState.l2, LState.l0) ∧ (LState.l0 = LState.l0 ∨ LState.l0 = LState.l1)) := by
  and_intros <;> decide +kernel

theorem witness_SamplesAndTracesComplete :
    (live.calm = true ∧ passes Op.counterSample sampleP live = true ∧ pf sampleP 20 1 < 3 ∧
      1 = aboutPart (named Op.counterSample sampleP live) (pbits sampleP 21 0 4) ∧
      mgmtRefusal (named Op.counterSample sampleP live) 1 live = none ∧ accountView live sampleP.src 1 (pf sampleP 20 1) = some false ∧
      namedCtx live sampleP.src (pf sampleP 24 4) = some (newCtx 1 1 4 0) ∧ (newCtx 1 1 4 0).part = 1 ∧ 64 ≤ pf sampleP 40 4 ∧
      (srcIsCtx sampleP.src = true → live.inCarve sampleP.part (pf sampleP 32 6) 64 = true ∧
      place live sampleP.part (pf sampleP 32 6) 64 = Place.tier0 (pf sampleP 32 6))) ∧
    (liveTenant.calm = true ∧ passes Op.counterSample engineP liveTenant = true ∧ 3 ≤ pf engineP 20 1 ∧
      1 = aboutPart (named Op.counterSample engineP liveTenant) (pbits engineP 21 0 4) ∧
      (1 = if pf engineP 22 2 = 65535 then allEngines.length else 1) ∧
      (pf engineP 20 1 = 4 → mgmtRefusal (named Op.counterSample engineP liveTenant) 1 liveTenant = none) ∧
      engineView liveTenant engineP.src 1 (pf engineP 20 1) = true ∧ 144 * 1 ≤ pf engineP 40 4 ∧
      (∀ x ∈ liveTenant.scribe.engines, x.stalls.length = 16) ∧
      (srcIsCtx engineP.src = true → liveTenant.inCarve engineP.part (pf engineP 32 6) (144 * 1) = true ∧
      place liveTenant engineP.part (pf engineP 32 6) (144 * 1) = Place.tier0 (pf engineP 32 6))) ∧
    (live.calm = true ∧ passes Op.traceStart traceP live = true ∧ 1 = traceSlotOf (named Op.traceStart traceP live) traceP ∧
      (1 ≠ 16 → mgmtRefusal (named Op.traceStart traceP live) 1 live = none) ∧ traceView live traceP.src 1 (pbits traceP 22 0 6) = true ∧
      live.traceSlot? 1 = none ∧ (1 ≠ 16 → pbit traceP 36 1 = false → live.inCarve 1 (pf traceP 24 6) (pf traceP 32 4) = true) ∧
      (1 ≠ 16 → pbit traceP 36 1 = true → pf traceP 44 4 ≠ 0 → (live.sendResv 1 (resvCls (pf traceP 44 4)) (pf traceP 44 4)).isSome = true)) ∧
    (liveTrace.calm = true ∧ passes Op.traceStop queryP liveTrace = true ∧
      1 = aboutPart (named Op.traceStop queryP liveTrace) (pf queryP 20 1) ∧
      (1 ≠ 16 → mgmtRefusal (named Op.traceStop queryP liveTrace) 1 liveTrace = none) ∧ traceView liveTrace queryP.src 1 0 = true ∧
      liveTrace.traceSlot? 1 = some aTrace) ∧
    (liveTrace.calm = true ∧ liveTrace.running = true ∧ liveTrace.traceSlot? 1 = some aTrace ∧ bitOf aTrace.events 4 = true) := by
  and_intros <;> decide +kernel

theorem witness_HaltsAreAskedForAndCut :
    (liveOp.calm = true ∧ passes Op.halt haltAtP liveOp = true ∧ liveOp.opDebug = true ∧ liveOp.scribe.cutAt = none ∧
      resumedNow liveOp = none ∧ (some 6000000 = if pbit haltAtP 20 1 = true then some (pf haltAtP 24 8) else none) ∧
      liveOp.scribe.halted = false) ∧
    (liveOpHalted.calm = true ∧ passes Op.halt haltP liveOpHalted = true ∧ liveOpHalted.opDebug = true ∧
      liveOpHalted.scribe.cutAt = none ∧ resumedNow liveOpHalted = none ∧
      (none = if pbit haltP 20 1 = true then some (pf haltP 24 8) else none) ∧ liveOpHalted.scribe.halted = true) ∧
    (liveTest.calm = true ∧ liveTest.up = true ∧ liveTest.fullDebug = true ∧ liveTest.scribe.cutAt = none ∧
      liveTest.scribe.halted = false) ∧
    (live.calm = true ∧ live.gl.links[0]? = some keyedLink ∧ keyedLink.state = LinkState.keyed ∧ live.up = true ∧
      live.scribe.seen.contains ((aHaltFlit 9).haltId, false) = false ∧ actsOn live (aHaltFlit 9) = false) ∧
    (liveOp.calm = true ∧ liveOp.gl.links[0]? = some keyedLink ∧ keyedLink.state = LinkState.keyed ∧ liveOp.up = true ∧
      liveOp.scribe.seen.contains ((aHaltFlit 9).haltId, false) = false ∧ actsOn liveOp (aHaltFlit 9) = true ∧
      liveOp.scribe.halted = false ∧ liveOp.scribe.cutAt = none) ∧
    ((liveCut.calm = true ∧ liveCut.running = true ∧ liveCut.scribe.cutAt = some (5000024, 2048, some haltRef)) ∧
      (∀ (r : CmdRef), some haltRef = some r → r.src = Source.mgmt)) :=
  ⟨by decide +kernel, by decide +kernel, by decide +kernel, by decide +kernel, by decide +kernel, ⟨by decide +kernel,
      of_some rfl (by decide +kernel)⟩⟩

theorem witness_HaltsEnd :
    (liveOpHalted.calm = true ∧ passes Op.resume resumeP liveOpHalted = true ∧ liveOpHalted.opDebug = true ∧
      liveOpHalted.canResume = true ∧ pf resumeP 24 4 = liveOpHalted.scribe.haltId) ∧
    (liveTestHalted.calm = true ∧ liveTestHalted.up = true ∧ liveTestHalted.fullDebug = true ∧ liveTestHalted.canResume = true) ∧
    (liveOpHalted.calm = true ∧ liveOpHalted.gl.links[0]? = some keyedLink ∧ keyedLink.state = LinkState.keyed ∧ liveOpHalted.up = true ∧
      liveOpHalted.scribe.seen.contains ((aHaltFlit 7).haltId, true) = false ∧ actsOn liveOpHalted (aHaltFlit 7) = true ∧
      liveOpHalted.canResume = true ∧ (aHaltFlit 7).haltId = liveOpHalted.scribe.haltId) ∧
    ((liveRestart.calm = true ∧ liveRestart.up = true ∧ liveRestart.scribe.halted = true ∧
      liveRestart.scribe.restartAt = some (5200000, some haltRef) ∧ liveRestart.gl.postCut = [] ∧
      (∀ x ∈ liveRestart.gl.parcels, x.bounded = true → max liveRestart.now 5200000 ≤ x.deadline)) ∧
      (∀ (r : CmdRef), some haltRef = some r → r.src = Source.mgmt)) :=
  ⟨by decide +kernel, by decide +kernel, by decide +kernel, ⟨by decide +kernel, of_some rfl (by decide +kernel)⟩⟩

theorem witness_DebugOpens :
    (live.calm = true ∧ passes Op.debugOpenOperator emptyM live = true) ∧
    (liveTenant.calm = true ∧ passes Op.debugOpenTenant tenantP liveTenant = true ∧ (liveTenant.part tenantP.part).tenantDebug = true) ∧
    ((liveVerified.calm = true ∧ passes Op.debugOpenTenant tenantP liveVerified = true ∧
      (liveVerified.part tenantP.part).tenantDebug = false ∧ liveVerified.inCarve tenantP.part (pf tenantP 24 6) 288 = true ∧
      readCause aToken.read = none) ∧ tokenOk liveVerified tenantP.part aToken = true) ∧
    (live.calm = true ∧ live.tests.injections = [] ∧ passes Op.debugChallenge challengeP live = true ∧
      256 + sigBytes ≤ pf challengeP 30 4) ∧
    ((liveChallenged.calm = true ∧ passes Op.debugResponse responseP liveChallenged = true ∧ liveChallenged.fullDebug = false ∧
      liveChallenged.debugs.challenge = some (1, 6000000) ∧ liveChallenged.now < 6000000 ∧ aResponse.challengeHashOk = true ∧
      aResponse.deviceIdOk = true ∧ aResponse.scope = 1 ∧ aResponse.sigsOk = true) ∧
      (∀ (q : ℕ), q ≠ 0 → (liveChallenged.part q).pstate = PState.free)) :=
  ⟨by decide +kernel, by decide +kernel, ⟨by decide +kernel, token_ok⟩, by decide +kernel, ⟨by decide +kernel, bare_free⟩⟩

theorem witness_LifeCycleCommandsComplete :
    (live.calm = true ∧ passes Op.lcQuery emptyM live = true) ∧
    (live.calm = true ∧ passes Op.lcStatus emptyM live = true) ∧
    (live.calm = true ∧ passes Op.lcTransition eolP live = true ∧ live.lcPendingRow = none ∧
      (pf eolP 20 1 = 2 → live.fuses.inUse.isSome = true) ∧ live.fuses.vpp = true ∧ transitionTo live.fuses.lc (pf eolP 20 1) = some 2) :=
  ⟨by decide +kernel, by decide +kernel, by decide +kernel⟩

theorem witness_StartsRunTheirSteps :
    (State.reset.calm = true ∧ (∀ q ∈ State.reset.mail.chans, q.dbIn = 0) ∧ State.reset.start.pwrAon = false ∧
      badChannel goodFindings.purlinA goodFindings.purlinB = none ∧ State.reset.start.image = none ∧
      resolveLc State.reset = Resolved.state LcState.blank ∧ LcState.blank ≠ LcState.endOfLife ∧
      rsBanks { State.reset.fuses with vpp := goodFindings.vppFuse } (decide (LcState.blank = LcState.blank)) goodFindings.rsCheckAOk goodFindings.rsCheckBOk = some blankFuses ∧
      goodFindings.failedUnits = [] ∧ goodFindings.failedEngines = []) ∧
    (State.reset.calm = true ∧ (∀ q ∈ State.reset.mail.chans, q.dbIn = 0) ∧ State.reset.start.pwrAon = false ∧
      badChannel badFindings.purlinA badFindings.purlinB = some 4) ∧
    (liveWarm.calm = true ∧ (∀ q ∈ liveWarm.mail.chans, q.dbIn = 0) ∧ liveWarm.start.pwrAon = true ∧ liveWarm.start.inReset = true ∧
      liveWarm.start.trayReq = false ∧ liveWarm.start.rootWait = false ∧
      (liveWarm.plumb.rungs.any fun x => decide (x.rung = Rung.chip) && x.begun) = true ∧ goodFindings.pcsCoefficientsLost = false ∧
      liveWarm.start.purlin ≠ [] ∧
      liveWarm.start.image = some { formatOk := true, commitSvn := false, svn := 3, sigsOk := true, endorsed := true } ∧
      liveWarm.start.reload = false ∧ resolveLc liveWarm = Resolved.state LcState.production ∧ LcState.production ≠ LcState.endOfLife ∧
      rsBanks { liveWarm.fuses with vpp := goodFindings.vppFuse } (decide (LcState.production = LcState.blank)) goodFindings.rsCheckAOk goodFindings.rsCheckBOk = some live.fuses ∧
      goodFindings.failedUnits = [] ∧ goodFindings.failedEngines = []) ∧
    (liveAwaits.calm = true ∧ (∀ q ∈ liveAwaits.mail.chans, q.dbIn = 0) ∧ liveAwaits.awaitsImage = true ∧ liveAwaits.start.go = true ∧
      ((anImage 3 false).formatOk && (anImage 3 false).sigsOk && decide ((anImage 3 false).svn ≤ 64)) = false) ∧
    (liveAwaits.calm = true ∧ (∀ q ∈ liveAwaits.mail.chans, q.dbIn = 0) ∧ liveAwaits.awaitsImage = true ∧ liveAwaits.start.go = true ∧
      (anImage 1 true).formatOk = true ∧ (anImage 1 true).sigsOk = true ∧ (anImage 1 true).svn ≤ 64 ∧
      (anImage 1 true).svn < liveAwaits.fuses.svnMin) ∧
    (liveAwaits.calm = true ∧ (∀ q ∈ liveAwaits.mail.chans, q.dbIn = 0) ∧ liveAwaits.awaitsImage = true ∧ liveAwaits.start.go = true ∧
      (anImage 3 true).formatOk = true ∧ (anImage 3 true).sigsOk = true ∧ (anImage 3 true).svn ≤ 64 ∧
      liveAwaits.fuses.svnMin ≤ (anImage 3 true).svn) ∧
    (liveAwaits.calm = true ∧ liveAwaits.up = true ∧ liveAwaits.start.bootState ≠ 1 ∧ liveAwaits.start.bootState ≠ 2) ∧
    (liveRoll.calm = true ∧ liveRoll.up = true ∧ liveRoll.fuses.rollWaiting = true) ∧
    (liveRoll.calm = true ∧ liveRoll.up = true ∧ liveRoll.fuses.rollWaiting = true ∧ resolveLc liveRoll = Resolved.roll 0 ∧
      liveRoll.start.findings = some goodFindings ∧ goodFindings.failedUnits = [] ∧ goodFindings.failedEngines = [] ∧
      liveRoll.start.image = none) := by
  and_intros <;> decide +kernel

theorem witness_PowerAndResetPinsAct :
    (live.calm = true ∧ live.start.pwrAon = true ∧ live.damper.lstate ≠ LState.l3 ∧ rootInRange 31250 = true) ∧
    (live.calm = true ∧ live.start.pwrAon = true ∧ live.damper.lstate ≠ LState.l3 ∧ rootInRange 9 = false ∧ live.start.rootWait = false ∧
      live.start.trayReq = false ∧ live.plumb.causes = []) ∧
    (live.calm = true ∧ live.start.pwrAon = true ∧ live.damper.lstate ≠ LState.l3 ∧ live.start.trayReq = false ∧ live.plumb.causes = []) ∧
    ((liveL LState.l3).calm = true ∧ (liveL LState.l3).start.pwrAon = true ∧ (liveL LState.l3).damper.lstate = LState.l3) ∧
    (live.calm = true ∧ live.start.pwrAon = true ∧ live.start.pwrCore = true ∧ live.plumb.causes = []) := by
  and_intros <;> decide +kernel

theorem witness_RungsRun :
    ((liveRung Rung.engine 514 false).calm = true ∧ (liveRung Rung.engine 514 false).up = true ∧
      (liveRung Rung.engine 514 false).rung? Rung.engine 514 false = some (aRung Rung.engine 514 false) ∧
      (liveRung Rung.engine 514 false).plumb.retired.contains 514 = false ∧ engineKind 514 ≠ 4 ∧ engineKind 514 ≠ 5 ∧
      (engineKind 514 = 1 → ∀ x ∈ (liveRung Rung.engine 514 false).gl.parcels, x.lane ≠ some (engineIdx 514)) ∧
      (engineKind 514 = 7 → ∀ n < 64, ((liveRung Rung.engine 514 false).link n).keyxCmd = none)) ∧
    ((liveRung Rung.engine 514 true).calm = true ∧ (liveRung Rung.engine 514 true).up = true ∧
      (liveRung Rung.engine 514 true).rung? Rung.engine 514 true = some (aRung Rung.engine 514 true) ∧
      checkReady (liveRung Rung.engine 514 true) 514 = true) ∧
    ((liveRung Rung.engine 514 true).calm = true ∧ (liveRung Rung.engine 514 true).up = true ∧
      (liveRung Rung.engine 514 true).rung? Rung.engine 514 true = some (aRung Rung.engine 514 true) ∧ engineKind 514 ≠ 5 ∧
      engineKind 514 ≠ 7) ∧
    ((liveRung Rung.partition 1 false).calm = true ∧ (liveRung Rung.partition 1 false).up = true ∧
      1 < (liveRung Rung.partition 1 false).parts.length ∧
      (liveRung Rung.partition 1 false).rung? Rung.partition 1 false = some (aRung Rung.partition 1 false) ∧
      ((liveRung Rung.partition 1 false).part 1).pstate ≠ PState.free ∧ ((liveRung Rung.partition 1 false).part 1).struck = false ∧
      (liveRung Rung.partition 1 false).slotsOf 1 = [1] ∧ (liveRung Rung.partition 1 false).ctxRests 1 = true ∧
      (∀ x ∈ (liveRung Rung.partition 1 false).pegs.slots, x.ownerPart ≠ 1) ∧
      (∀ x ∈ (liveRung Rung.partition 1 false).gl.parcels, x.drain = false)) ∧
    (liveRungActive.calm = true ∧ liveRungActive.up = true ∧ 1 < liveRungActive.parts.length ∧
      liveRungActive.rung? Rung.partition 1 true = some (aRung Rung.partition 1 true) ∧ liveRungActive.scribe.halted = false ∧
      rungOpen liveRungActive 1 = false) ∧
    ((liveRung Rung.chip 0 false).calm = true ∧ (liveRung Rung.chip 0 false).start.pwrAon = true ∧
      List.find? (fun x => decide (x.rung = Rung.chip) && !x.begun) (liveRung Rung.chip 0 false).plumb.rungs = some (aRung Rung.chip 0 false) ∧
      (aRung Rung.chip 0 false).src = 135 ∧ (liveRung Rung.chip 0 false).start.inReset = false) ∧
    (liveTrayAsked.calm = true ∧ liveTrayAsked.start.pwrAon = true ∧ liveTrayAsked.start.trayReq = false ∧
      liveTrayAsked.plumb.trayAsked = some 6) := by
  and_intros <;> decide +kernel

theorem witness_ResetsAreAskedForAndRungsTimeOut :
    (live.calm = true ∧ live.up = true ∧ (live.src 135).thresh = 0 ∧ live.start.trayReq = false ∧ live.plumb.causes = [] ∧
      engineExists 514 = true ∧ live.coveredBy Rung.engine 514 = none) ∧
    (live.calm = true ∧ live.up = true ∧ (live.src 135).thresh = 0 ∧ live.start.trayReq = false ∧ live.plumb.causes = [] ∧
      engineExists 608 = false) ∧
    (live.calm = true ∧ live.up = true ∧ (live.src 135).thresh = 0 ∧ live.start.trayReq = false ∧ live.plumb.causes = [] ∧
      rungPartition live 1 = true ∧ live.coveredBy Rung.partition 1 = none) ∧
    (live.calm = true ∧ live.up = true ∧ (live.src 135).thresh = 0 ∧ live.start.trayReq = false ∧ live.plumb.causes = [] ∧
      rungPartition live 16 = false) ∧
    (live.calm = true ∧ live.up = true ∧ (live.src 135).thresh = 0 ∧ live.start.trayReq = false ∧ live.plumb.causes = []) ∧
    ((liveRung Rung.chip 0 true).calm = true ∧ (liveRung Rung.chip 0 true).start.pwrAon = true ∧
      (liveRung Rung.chip 0 true).scribe.halted = false ∧ ((liveRung Rung.chip 0 true).src 12).thresh = 0 ∧
      (aRung Rung.chip 0 true).scope = 0 ∧ (aRung Rung.chip 0 true).rung = Rung.chip ∧
      (liveRung Rung.chip 0 true).rung? Rung.chip 0 true = some (aRung Rung.chip 0 true) ∧
      (aRung Rung.chip 0 true).timerFrom = some 4990000) ∧
    ((liveRung Rung.partition 1 true).calm = true ∧ (liveRung Rung.partition 1 true).start.pwrAon = true ∧
      (liveRung Rung.partition 1 true).scribe.halted = false ∧ ((liveRung Rung.partition 1 true).src 12).thresh = 0 ∧
      (aRung Rung.partition 1 true).scope = 1 ∧ (liveRung Rung.partition 1 true).start.trayReq = false ∧
      (liveRung Rung.partition 1 true).plumb.causes = [] ∧ (aRung Rung.partition 1 true).rung = Rung.partition ∧
      (liveRung Rung.partition 1 true).rung? Rung.partition 1 true = some (aRung Rung.partition 1 true) ∧
      (aRung Rung.partition 1 true).timerFrom = some 4990000) ∧
    ((liveRung Rung.engine 514 true).calm = true ∧ (liveRung Rung.engine 514 true).start.pwrAon = true ∧
      (liveRung Rung.engine 514 true).scribe.halted = false ∧ ((liveRung Rung.engine 514 true).src 12).thresh = 0 ∧
      (aRung Rung.engine 514 true).scope = 514 ∧ (liveRung Rung.engine 514 true).start.trayReq = false ∧
      (liveRung Rung.engine 514 true).plumb.causes = [] ∧ (aRung Rung.engine 514 true).rung = Rung.engine ∧
      (liveRung Rung.engine 514 true).rung? Rung.engine 514 true = some (aRung Rung.engine 514 true) ∧
      (aRung Rung.engine 514 true).timerFrom = some 4990000 ∧ (aRung Rung.engine 514 true).work = []) ∧
    (liveWatched.calm = true ∧ liveWatched.start.pwrAon = true ∧ liveWatched.scribe.halted = false ∧ (liveWatched.src 12).thresh = 0 ∧
      liveWatched.rung? Rung.context 1 true = none ∧
      List.find? (fun w => decide (w.1 = 1)) liveWatched.plumb.watched = some (1, 1, 4990000) ∧ engineExists 514 = true ∧
      liveWatched.coveredBy Rung.engine 514 = none) ∧
    (live.calm = true ∧ live.up = true) := by
  and_intros <;> decide +kernel

theorem witness_MailboxRegistersAct :
    (liveMail.calm = true ∧ liveMail.mail.chans.length = 8 ∧ liveMail.up = true ∧ chanAccess (Access.pf false) 4 liveMail = true) ∧
    (liveMail.calm = true ∧ liveMail.mail.chans.length = 8 ∧ liveMail.up = true ∧ chanAccess (Access.pf false) 4 liveMail = true) ∧
    (liveMail.calm = true ∧ liveMail.mail.chans.length = 8 ∧ liveMail.up = true ∧ chanAccess (Access.pf false) 4 liveMail = true ∧
      liveMail.mailServed = true) ∧
    (liveMail.calm = true ∧ liveMail.mail.chans.length = 8 ∧ liveMail.up = true ∧ chanAccess (Access.pf false) 4 liveMail = true ∧
      liveMail.mailServed = true) ∧
    (liveMail.calm = true ∧ liveMail.mail.chans.length = 8 ∧ liveMail.up = true ∧ chanAccess (Access.pf false) 4 liveMail = true ∧
      liveMail.mailServed = true) ∧
    (liveKpHalted.calm = true ∧ liveKpHalted.mail.chans.length = 8 ∧ liveKpHalted.up = true ∧
      chanAccess (Access.pf false) 4 liveKpHalted = true ∧ liveKpHalted.mailServed = false) ∧
    (liveKpHalted.calm = true ∧ liveKpHalted.mail.chans.length = 8 ∧ liveKpHalted.up = true ∧
      chanAccess (Access.pf false) 4 liveKpHalted = true ∧ liveKpHalted.mailServed = false) ∧
    (liveKpHalted.calm = true ∧ liveKpHalted.mail.chans.length = 8 ∧ liveKpHalted.up = true ∧
      chanAccess (Access.pf false) 4 liveKpHalted = true ∧ liveKpHalted.mailServed = false) ∧
    (live.calm = true ∧ live.up = true ∧ chanAccess (Access.pf false) 8 live = false) ∧
    ((liveCreated.calm = true ∧ liveCreated.up = true ∧
      (List.map (fun b => b.1) (List.filter (fun b => b.2) (List.map (assignByte assignWord) (List.range 4)))).Nodup) ∧
      (∀ c < 4, assignByte assignWord c ≠ liveCreated.mail.assign.getD c (0, false) → ((assignByte assignWord c).2 = true → (liveCreated.part (assignByte assignWord c).1).pstate = PState.created) ∧
      ∀ (p : ℕ), liveCreated.chanAssigned c = some p → (liveCreated.part p).pstate = PState.created ∨ (liveCreated.part p).pstate = PState.free)) ∧
    (liveCreated.calm = true ∧ liveCreated.up = true ∧
      ¬(List.map (fun b => b.1) (List.filter (fun b => b.2) (List.map (assignByte 33410) (List.range 4)))).Nodup) ∧
    (liveMail.calm = true ∧ liveMail.mail.chans.length = 8 ∧ liveMail.up = true) :=
  ⟨by decide +kernel, by decide +kernel, by decide +kernel, by decide +kernel, by decide +kernel, by decide +kernel, by decide +kernel,
      by decide +kernel, by decide +kernel, ⟨by decide +kernel,
      fun c hc _ => ⟨(by decide +kernel : ∀ c < 4, (assignByte assignWord c).2 = true → (liveCreated.part (assignByte assignWord c).1).pstate = PState.created) c hc,
      of_none ((by decide +kernel : ∀ c < 4, liveCreated.chanAssigned c = none) c hc)⟩⟩, by decide +kernel, by decide +kernel⟩

theorem witness_RequestsAndNoticesAreServed :
    (((liveMsg pingWords).calm = true ∧ (liveMsg pingWords).mail.chans.length = 8 ∧ (liveMsg pingWords).up = true ∧
      (liveMsg pingWords).kp.halted = false ∧ ((liveMsg pingWords).chan 4).inq = 131073 :: ([7, 8] ++ noWords) ∧
      [7, 8].length = bitsOf (BitVec.toNat (131073 : Word)) 16 4 ∧ badHeader 131073 = false ∧ 3 = 1 + [7, 8].length ∧
      bitsOf (BitVec.toNat (131073 : Word)) 0 8 = 1 ∧ ((liveMsg pingWords).chan 4).outq.length + 2 + [7, 8].length ≤ 16) ∧
      (∀ (p : ℕ), (liveMsg pingWords).chanAssigned 4 = some p → bitOf (BitVec.toNat (131073 : Word)) 12 = true → bitsOf (BitVec.toNat (131073 : Word)) 8 4 = p)) ∧
    (((liveMsg [2]).calm = true ∧ (liveMsg [2]).mail.chans.length = 8 ∧ (liveMsg [2]).up = true ∧ (liveMsg [2]).kp.halted = false ∧
      ((liveMsg [2]).chan 4).inq = 2 :: (noWords ++ noWords) ∧ noWords.length = bitsOf (BitVec.toNat (2 : Word)) 16 4 ∧
      badHeader 2 = false ∧ 1 = 1 + noWords.length ∧ bitsOf (BitVec.toNat (2 : Word)) 0 8 = 2 ∧
      ((liveMsg [2]).chan 4).outq.length + 4 ≤ 16) ∧
      (∀ (p : ℕ), (liveMsg [2]).chanAssigned 4 = some p → bitOf (BitVec.toNat (2 : Word)) 12 = true → bitsOf (BitVec.toNat (2 : Word)) 8 4 = p)) ∧
    (((liveMsg partWords).calm = true ∧ (liveMsg partWords).mail.chans.length = 8 ∧ (liveMsg partWords).up = true ∧
      (liveMsg partWords).kp.halted = false ∧ ((liveMsg partWords).chan 4).inq = 4355 :: (noWords ++ noWords) ∧
      noWords.length = bitsOf (BitVec.toNat (4355 : Word)) 16 4 ∧ badHeader 4355 = false ∧ 1 = 1 + noWords.length ∧
      (liveMsg partWords).scribe.halted = false ∧ mailRefusal (liveMsg partWords) = none ∧ bitsOf (BitVec.toNat (4355 : Word)) 0 8 = 3 ∧
      bitOf (BitVec.toNat (4355 : Word)) 12 = true ∧ 1 = bitsOf (BitVec.toNat (4355 : Word)) 8 4 ∧
      ((liveMsg partWords).chan 4).outq.length + 3 ≤ 16 ∧ ((liveMsg partWords).part 1).struck = false ∧
      ((liveMsg partWords).part 1).pstate ≠ PState.free) ∧
      (∀ (p : ℕ), (liveMsg partWords).chanAssigned 4 = some p → bitOf (BitVec.toNat (4355 : Word)) 12 = true → bitsOf (BitVec.toNat (4355 : Word)) 8 4 = p)) ∧
    (((liveMsg [65540, 5]).calm = true ∧ (liveMsg [65540, 5]).mail.chans.length = 8 ∧ (liveMsg [65540, 5]).up = true ∧
      (liveMsg [65540, 5]).kp.halted = false ∧ ((liveMsg [65540, 5]).chan 4).inq = 65540 :: ([5] ++ noWords) ∧
      [5].length = bitsOf (BitVec.toNat (65540 : Word)) 16 4 ∧ badHeader 65540 = false ∧ 2 = 1 + [5].length ∧
      (liveMsg [65540, 5]).scribe.halted = false ∧ mailRefusal (liveMsg [65540, 5]) = none ∧
      bitsOf (BitVec.toNat (65540 : Word)) 0 8 = 4 ∧ ((liveMsg [65540, 5]).chan 4).outq.length + 2 ≤ 16) ∧
      (∀ (p : ℕ), (liveMsg [65540, 5]).chanAssigned 4 = some p → bitOf (BitVec.toNat (65540 : Word)) 12 = true → bitsOf (BitVec.toNat (65540 : Word)) 8 4 = p)) ∧
    ((liveMsg [131073, 7]).calm = true ∧ (liveMsg [131073, 7]).mail.chans.length = 8 ∧ (liveMsg [131073, 7]).mailServed = true ∧
      ((liveMsg [131073, 7]).chan 4).inq = [131073, 7] ∧ ((liveMsg [131073, 7]).chan 4).inAt = [4990000, 4990000] ∧
      [7].length < bitsOf (BitVec.toNat (131073 : Word)) 16 4) ∧
    ((liveNotice 129).calm = true ∧ (liveNotice 129).mail.chans.length = 8 ∧ (liveNotice 129).noticesSent = true ∧
      replyDue 4 (liveNotice 129) = false ∧ ((liveNotice 129).chan 4).waiting = [aNotice 129] ∧
      ((liveNotice 129).chan 4).outq.length + 1 + (aNotice 129).payload.length ≤ 16 ∧ ((aNotice 129).service = 129 ∧
      Instr.noticeFault 4 = Instr.noticeFault 4 ∨ (aNotice 129).service = 130 ∧
      Instr.noticeFault 4 = Instr.noticePart 4 ∨ (aNotice 129).service = 131 ∧
      Instr.noticeFault 4 = Instr.noticeStart 4 ∨ (aNotice 129).service = 132 ∧ Instr.noticeFault 4 = Instr.noticeLost 4)) ∧
    ((liveNotice 130).calm = true ∧ (liveNotice 130).mail.chans.length = 8 ∧ (liveNotice 130).noticesSent = true ∧
      replyDue 4 (liveNotice 130) = false ∧ ((liveNotice 130).chan 4).waiting = [aNotice 130] ∧
      ((liveNotice 130).chan 4).outq.length + 1 + (aNotice 130).payload.length ≤ 16 ∧ ((aNotice 130).service = 129 ∧
      Instr.noticePart 4 = Instr.noticeFault 4 ∨ (aNotice 130).service = 130 ∧
      Instr.noticePart 4 = Instr.noticePart 4 ∨ (aNotice 130).service = 131 ∧
      Instr.noticePart 4 = Instr.noticeStart 4 ∨ (aNotice 130).service = 132 ∧ Instr.noticePart 4 = Instr.noticeLost 4)) ∧
    ((liveNotice 131).calm = true ∧ (liveNotice 131).mail.chans.length = 8 ∧ (liveNotice 131).noticesSent = true ∧
      replyDue 4 (liveNotice 131) = false ∧ ((liveNotice 131).chan 4).waiting = [aNotice 131] ∧
      ((liveNotice 131).chan 4).outq.length + 1 + (aNotice 131).payload.length ≤ 16 ∧ ((aNotice 131).service = 129 ∧
      Instr.noticeStart 4 = Instr.noticeFault 4 ∨ (aNotice 131).service = 130 ∧
      Instr.noticeStart 4 = Instr.noticePart 4 ∨ (aNotice 131).service = 131 ∧
      Instr.noticeStart 4 = Instr.noticeStart 4 ∨ (aNotice 131).service = 132 ∧ Instr.noticeStart 4 = Instr.noticeLost 4)) ∧
    ((liveNotice 132).calm = true ∧ (liveNotice 132).mail.chans.length = 8 ∧ (liveNotice 132).noticesSent = true ∧
      replyDue 4 (liveNotice 132) = false ∧ ((liveNotice 132).chan 4).waiting = [aNotice 132] ∧
      ((liveNotice 132).chan 4).outq.length + 1 + (aNotice 132).payload.length ≤ 16 ∧ ((aNotice 132).service = 129 ∧
      Instr.noticeLost 4 = Instr.noticeFault 4 ∨ (aNotice 132).service = 130 ∧
      Instr.noticeLost 4 = Instr.noticePart 4 ∨ (aNotice 132).service = 131 ∧
      Instr.noticeLost 4 = Instr.noticeStart 4 ∨ (aNotice 132).service = 132 ∧ Instr.noticeLost 4 = Instr.noticeLost 4)) :=
  ⟨⟨by decide +kernel, of_none (by decide +kernel)⟩, ⟨by decide +kernel, of_none (by decide +kernel)⟩, ⟨by decide +kernel,
      of_none (by decide +kernel)⟩, ⟨by decide +kernel, of_none (by decide +kernel)⟩, by decide +kernel, by decide +kernel,
      by decide +kernel, by decide +kernel, by decide +kernel⟩

theorem witness_TestCommandsComplete :
    (live.calm = true ∧ passes Op.loopback loopP live = true ∧ pf loopP 20 1 = 1 ∧
      loopRefusal live (pf loopP 21 1) (pf loopP 22 2) = none) ∧
    ((liveRunOf 0 33 3).calm = true ∧ passes Op.loopback loopStopP (liveRunOf 0 33 3) = true ∧ pf loopStopP 20 1 = 0) ∧
    (live.calm = true ∧ passes Op.katRun katP live = true ∧
      ([513] = if pf katP 22 2 ≠ 65535 then [katEngine (pf katP 20 1) (pf katP 22 2)] else List.filter (fun e => !live.plumb.retired.contains e) (katEngines (pf katP 20 1))) ∧
      [513].any (engineTested live) = false ∧ ([513].any fun e => live.plumb.retired.contains e) = false) ∧
    (live.calm = true ∧ passes Op.katRun katP live = true ∧
      ([513] = if pf katP 22 2 ≠ 65535 then [katEngine (pf katP 20 1) (pf katP 22 2)] else List.filter (fun e => !live.plumb.retired.contains e) (katEngines (pf katP 20 1))) ∧
      [513].any (engineTested live) = false ∧ ([513].any fun e => live.plumb.retired.contains e) = false ∧ katSkipped live 513 = false) ∧
    (liveTest.calm = true ∧ passes Op.faultInject injectP liveTest = true ∧ pf injectP 20 1 ≠ 8) ∧
    (liveTest.calm = true ∧ passes Op.memtest memtestP liveTest = true ∧ memtestRefusal memtestP liveTest = none) := by
  and_intros <;> decide +kernel

theorem witness_TestRunsEnd :
    ((liveRunOf 0 17 3).calm = true ∧ (liveRunOf 0 17 3).running = true ∧ (liveRunOf 0 17 3).tests.runs = [aRunOf 0 17 3] ∧
      (aRunOf 0 17 3).kind = 0 ∧ (aRunOf 0 17 3).point = 17 ∧ (aRunOf 0 17 3).target = 3 ∧ (aRunOf 0 17 3).ref = some testRef ∧
      testRef.src = Source.mgmt) ∧
    ((liveRunOf 0 36 3).calm = true ∧ (liveRunOf 0 36 3).running = true ∧ (liveRunOf 0 36 3).tests.runs = [aRunOf 0 36 3] ∧
      (aRunOf 0 36 3).kind = 0 ∧ (aRunOf 0 36 3).point = 36 ∧ (aRunOf 0 36 3).target = 3 ∧ (aRunOf 0 36 3).ref = some testRef ∧
      testRef.src = Source.mgmt) ∧
    ((liveRunOf 2 0 7).calm = true ∧ (liveRunOf 2 0 7).running = true ∧ (liveRunOf 2 0 7).tests.runs = [aRunOf 2 0 7] ∧
      (aRunOf 2 0 7).kind = 2 ∧ (aRunOf 2 0 7).point = 0 ∧ (aRunOf 2 0 7).target = 7 ∧ (aRunOf 2 0 7).ref = some testRef ∧
      testRef.src = Source.mgmt) ∧
    ((liveRunOf 0 3 0).calm = true ∧ (liveRunOf 0 3 0).running = true ∧ (liveRunOf 0 3 0).startRests = true ∧
      (liveRunOf 0 3 0).gl.links[0]? = some keyedLink ∧ keyedLink.state = LinkState.keyed ∧
      (liveRunOf 0 3 0).tests.runs = [aRunOf 0 3 0] ∧ (aRunOf 0 3 0).kind = 0 ∧ (aRunOf 0 3 0).point = 3 ∧ (aRunOf 0 3 0).target = 0 ∧
      echoAnswer.kind = 2 ∧ echoAnswer.seq < (aRunOf 0 3 0).sent) := by
  and_intros <;> decide +kernel

theorem witness_TheTapActs :
    (liveTest.calm = true ∧ liveTest.up = true ∧ liveTest.fuses.lc = LcState.test ∧
      (layoutMemtest memtestP liveTest).offence memtestP = none ∧ memtestRefusal memtestP liveTest = none) ∧
    (liveTest.calm = true ∧ liveTest.up = true ∧ liveTest.fuses.lc = LcState.test ∧
      (layoutFaultInject injectP liveTest).offence injectP = none ∧ pf injectP 20 1 ≠ 8) ∧
    (livePcie.calm = true ∧ livePcie.up = true ∧ (livePcie.stream 0).secure = false) ∧
    (live.calm = true ∧ live.start.pwrAon = true) ∧
    (live.calm = true ∧ live.start.pwrAon = true ∧ tapReach 48 live = false) ∧
    (liveTest.calm = true ∧ liveTest.start.pwrAon = true ∧ tapReach 0 liveTest = true ∧ liveTest.up = true ∧
      regAt liveTest 0 = some (false, 282099713) ∧ chanAt 0 liveTest = none) ∧
    (liveTest.calm = true ∧ liveTest.start.pwrAon = true ∧ tapReach 8388620 liveTest = true ∧ liveTest.up = true) ∧
    (live.calm = true ∧ live.start.pwrAon = true ∧ live.fuses.lc ≠ LcState.test) ∧
    (liveTest.calm = true ∧ liveTest.start.pwrAon = true ∧ liveTest.fuses.lc = LcState.test) := by
  and_intros <;> decide +kernel

theorem witness_DoeAndSpdmAreAnswered :
    (live.calm = true ∧ live.up = true) ∧
    ((livePhase 1).calm = true ∧ (livePhase 1).up = true) ∧
    ((livePhase 2).calm = true ∧ (livePhase 2).up = true ∧ (livePhase 2).kp.ready = true ∧ (livePhase 2).fuses.lc ≠ LcState.endOfLife) ∧
    ((livePhase 3).calm = true ∧ (livePhase 3).up = true ∧ (livePhase 3).kp.ready = true ∧ (livePhase 3).fuses.lc ≠ LcState.endOfLife ∧
      SpdmReq.challenge ∈ [SpdmReq.getDigests, SpdmReq.getCertificate 0, SpdmReq.challenge, SpdmReq.getMeasurements]) ∧
    ((livePhase 3).calm = true ∧ (livePhase 3).up = true ∧ (livePhase 3).kp.ready = true ∧ (livePhase 3).fuses.lc ≠ LcState.endOfLife ∧
      (livePhase 3).vs.spdmPhase = 3 ∧ (∀ x ∈ (livePhase 3).vs.sessions, x.id ≠ 9)) ∧
    (liveOperator.calm = true ∧ liveOperator.up = true ∧ liveOperator.kp.ready = true ∧ liveOperator.fuses.lc ≠ LcState.endOfLife ∧
      opSession ∈ liveOperator.vs.sessions ∧ opSession.id = 3) ∧
    (liveOperator.calm = true ∧ liveOperator.up = true) ∧
    (liveOperator.calm = true ∧ liveOperator.up = true ∧ (liveOperator.vs.sessions.any fun x => decide (x.id = 3)) = true ∧
      (∀ x ∈ liveOperator.vs.sessions, x.id = 3 → x.tsm = false) ∧ opOf lcRaw.cls lcRaw.opcode = some Op.lcQuery) ∧
    (liveOperator.calm = true ∧ liveOperator.up = true ∧ (liveOperator.vs.sessions.any fun x => decide (x.id = 3)) = true ∧
      (∀ x ∈ liveOperator.vs.sessions, x.id = 3 → x.tsm = false) ∧ badRaw.pkt.fmt ≠ 1) ∧
    (liveOperator.calm = true ∧ liveOperator.up = true ∧ (liveOperator.vs.sessions.any fun x => decide (x.id = 3)) = true ∧
      (∀ x ∈ liveOperator.vs.sessions, x.id = 3 → x.tsm = false) ∧ 60 ≠ vendorLen lcRaw) := by
  and_intros <;> decide +kernel

theorem witness_StreamsAndInterfacesAreManaged :
    ((liveTdi TdiState.run).calm = true ∧ (liveTdi TdiState.run).up = true ∧
      ((liveTdi TdiState.run).vs.sessions.any fun x => decide (x.id = 3)) = true ∧
      (∀ x ∈ (liveTdi TdiState.run).vs.sessions, x.tsm = true → x.id = 3) ∧
      Instr.ideKmKeyProg 3 9 1 0 5 true false ∈ [Instr.ideKmKeyProg 3 9 1 0 5 true false, Instr.ideKmKSetGo 3 9 1 0, Instr.ideKmKSetStop 3 9 1 0]) ∧
    ((liveTdi TdiState.run).calm = true ∧ (liveTdi TdiState.run).up = true ∧
      ((liveTdi TdiState.run).vs.sessions.any fun x => decide (x.id = 3)) = true ∧
      (∀ x ∈ (liveTdi TdiState.run).vs.sessions, x.tsm = true → x.id = 3) ∧ (liveTdi TdiState.run).vs.streams.length = 9) ∧
    ((liveTdi TdiState.run).calm = true ∧ (liveTdi TdiState.run).up = true ∧
      ((liveTdi TdiState.run).vs.sessions.any fun x => decide (x.id = 3)) = true ∧
      (∀ x ∈ (liveTdi TdiState.run).vs.sessions, x.tsm = true → x.id = 3) ∧ (liveTdi TdiState.run).vs.streams.length = 9 ∧
      (1, 0) ∈ ((liveTdi TdiState.run).stream 2).keys) ∧
    ((liveTdi TdiState.run).calm = true ∧ (liveTdi TdiState.run).up = true ∧
      ((liveTdi TdiState.run).vs.sessions.any fun x => decide (x.id = 3)) = true ∧
      (∀ x ∈ (liveTdi TdiState.run).vs.sessions, x.tsm = true → x.id = 3) ∧ (liveTdi TdiState.run).vs.streams.length = 9) ∧
    (liveTdiStruck.calm = true ∧ liveTdiStruck.up = true ∧ (liveTdiStruck.vs.sessions.any fun x => decide (x.id = 3)) = true ∧
      (∀ x ∈ liveTdiStruck.vs.sessions, x.tsm = true → x.id = 3)) ∧
    (liveTdiStruck.calm = true ∧ liveTdiStruck.up = true ∧ (liveTdiStruck.vs.sessions.any fun x => decide (x.id = 3)) = true ∧
      (∀ x ∈ liveTdiStruck.vs.sessions, x.tsm = true → x.id = 3) ∧ (liveTdiStruck.part 1).struck = true ∧
      Instr.startInterfaceRequest 3 1 ∈ [Instr.lockInterfaceRequest 3 1 true false false false, Instr.startInterfaceRequest 3 1, Instr.stopInterfaceRequest 3 1, Instr.getDeviceInterfaceReport 3 1]) ∧
    ((liveTdi TdiState.unlocked).calm = true ∧ (liveTdi TdiState.unlocked).up = true ∧
      ((liveTdi TdiState.unlocked).vs.sessions.any fun x => decide (x.id = 3)) = true ∧
      (∀ x ∈ (liveTdi TdiState.unlocked).vs.sessions, x.tsm = true → x.id = 3) ∧ (liveTdi TdiState.unlocked).parts.length = 16 ∧
      ((liveTdi TdiState.unlocked).part 1).struck = false ∧ ((liveTdi TdiState.unlocked).part 1).tdi = TdiState.unlocked ∧
      ((liveTdi TdiState.unlocked).part 1).tdiBound = true ∧
      (((liveTdi TdiState.unlocked).part 1).pstate = PState.sealed ∨ ((liveTdi TdiState.unlocked).part 1).pstate = PState.faulted)) ∧
    ((liveTdi TdiState.locked).calm = true ∧ (liveTdi TdiState.locked).up = true ∧
      ((liveTdi TdiState.locked).vs.sessions.any fun x => decide (x.id = 3)) = true ∧
      (∀ x ∈ (liveTdi TdiState.locked).vs.sessions, x.tsm = true → x.id = 3) ∧ (liveTdi TdiState.locked).parts.length = 16 ∧
      ((liveTdi TdiState.locked).part 1).struck = false ∧ ((liveTdi TdiState.locked).part 1).tdi = TdiState.locked) ∧
    ((liveTdi TdiState.run).calm = true ∧ (liveTdi TdiState.run).up = true ∧
      ((liveTdi TdiState.run).vs.sessions.any fun x => decide (x.id = 3)) = true ∧
      (∀ x ∈ (liveTdi TdiState.run).vs.sessions, x.tsm = true → x.id = 3) ∧ (liveTdi TdiState.run).parts.length = 16 ∧
      ((liveTdi TdiState.run).part 1).struck = false ∧ ((liveTdi TdiState.run).part 1).tdi ≠ TdiState.locked) ∧
    ((liveTdi TdiState.run).calm = true ∧ (liveTdi TdiState.run).up = true ∧
      ((liveTdi TdiState.run).vs.sessions.any fun x => decide (x.id = 3)) = true ∧
      (∀ x ∈ (liveTdi TdiState.run).vs.sessions, x.tsm = true → x.id = 3) ∧ (liveTdi TdiState.run).parts.length = 16 ∧
      ((liveTdi TdiState.run).part 1).struck = false ∧
      (((liveTdi TdiState.run).part 1).tdi = TdiState.locked ∨ ((liveTdi TdiState.run).part 1).tdi = TdiState.run)) ∧
    ((liveTdi TdiState.run).calm = true ∧ (liveTdi TdiState.run).up = true ∧
      ((liveTdi TdiState.run).vs.sessions.any fun x => decide (x.id = 3)) = true ∧
      (∀ x ∈ (liveTdi TdiState.run).vs.sessions, x.tsm = true → x.id = 3) ∧ (liveTdi TdiState.run).parts.length = 16 ∧
      ((liveTdi TdiState.run).part 1).struck = false ∧ (liveTdi TdiState.run).ringIdle 1 = true) ∧
    ((liveTdi TdiState.run).calm = true ∧ (liveTdi TdiState.run).up = true ∧ (liveTdi TdiState.run).vs.streams.length = 9) ∧
    ((liveTdi TdiState.run).calm = true ∧ (liveTdi TdiState.run).up = true ∧ 1 < (liveTdi TdiState.run).parts.length ∧
      ((liveTdi TdiState.run).part 1).tdi = TdiState.run) := by
  and_intros <;> decide +kernel

theorem witness_RegisterAccessesTakeEffect :
    (live.calm = true ∧ live.up = true) ∧
    (live.calm = true ∧ live.up = true ∧ bitsOf (BitVec.toNat (257 : Word)) 0 3 ≤ 5 ∧ bitsOf (BitVec.toNat (257 : Word)) 4 3 ≤ 5 ∧
      (bitsOf (BitVec.toNat (257 : Word)) 8 8 ≠ 0 ∨ bitsOf (BitVec.toNat (257 : Word)) 0 3 = 0) ∧
      actionNamed 135 (bitsOf (BitVec.toNat (257 : Word)) 0 3) = true) ∧
    (liveHalf.calm = true ∧ liveHalf.up = true ∧ liveHalf.half? (Access.pf false) 256 true = some 20480 ∧ liveHalf.start.bootState ≠ 1 ∧
      liveHalf.start.bootState ≠ 2) ∧
    ((liveTdi TdiState.run).calm = true ∧ (liveTdi TdiState.run).up = true ∧ 1 < (liveTdi TdiState.run).parts.length ∧
      ((liveTdi TdiState.run).part 1).struck = false ∧
      (((liveTdi TdiState.run).part 1).tdi = TdiState.locked ∨ ((liveTdi TdiState.run).part 1).tdi = TdiState.run)) ∧
    (liveTdiStruck.calm = true ∧ liveTdiStruck.up = true ∧ (liveTdiStruck.part 1).tdi = TdiState.error) ∧
    (live.calm = true ∧ live.up = true ∧ malformedAccess live 49 4 true = true) := by
  and_intros <;> decide +kernel
end Sys2Proof.Tests
end

section
/-! PROOFS. Register accesses (18 R529 to R533): how a write finds its register, and what the writes of single registers do. -/

namespace Sys2Proof.Machine

/-! ### Fields of the low word -/

/-- A field of the low bits of a value is that field of the value. -/
theorem bitsOf_low {n lo len : Nat} (v : Nat) (h : lo + len ≤ n) : bitsOf (bitsOf v 0 n) lo len = bitsOf v lo len := by
  apply Nat.eq_of_testBit_eq
  intro i
  simp only [bitsOf, pow_zero, Nat.div_one, Nat.testBit_mod_two_pow, Nat.testBit_div_two_pow]
  by_cases hi : i < len
  · have : lo + i < n := by omega
    simp [hi, this, Nat.add_comm]
  · simp [hi]

theorem bitOf_low {n i : Nat} (v : Nat) (h : i < n) : bitOf (bitsOf v 0 n) i = bitOf v i := by
  rw [bitOf, bitOf, bitsOf_low v h]

/-! ### Updates of one area -/

section updates
variable (s : State)

theorem quiet_withVs {x : Vestibule} (h : x.stopping = s.vs.stopping) : Quiet s { s with vs := x } :=
  ⟨rfl, rfl, rfl, rfl, h, rfl, rfl, rfl, rfl, fun _ hx => .inl hx, id, rfl⟩

theorem quiet_withDamper (x : Damper) : Quiet s { s with damper := x } :=
  ⟨rfl, rfl, rfl, rfl, rfl, rfl, rfl, rfl, rfl, fun _ hx => .inl hx, id, rfl⟩

theorem quiet_withBootAddr (a : Nat) : Quiet s { s with start := { s.start with bootAddr := a } } :=
  ⟨rfl, rfl, rfl, rfl, rfl, rfl, rfl, rfl, rfl, fun _ hx => .inl hx, id, rfl⟩

theorem quiet_setSrc (n : Nat) (c : SrcCfg) : Quiet s (s.setSrc n c) :=
  ⟨rfl, rfl, rfl, rfl, rfl, rfl, rfl, rfl, rfl, fun _ hx => .inl hx, id, rfl⟩

theorem quiet_countMalformed : Quiet s (countMalformed s) := quiet_withVs s rfl

theorem quiet_countPartMalformed (p : Nat) : Quiet s (countPartMalformed p s) := quiet_modView _ _ _

theorem quiet_dropHalf (via : Access) (w : Nat) (write : Bool) : Quiet s (dropHalf via w write s) := quiet_withVs s rfl

theorem quiet_putHalf (via : Access) (w : Nat) (write : Bool) (x : Word) : Quiet s (putHalf via w write x s) := quiet_withVs s rfl

theorem only_withVs (x : Vestibule) : OnlyIn [.vs] s { s with vs := x } := by
  intro g hg
  cases g with
  | vs => exact absurd (by simp) hg
  | _ => rfl

theorem only_withDamper (x : Damper) : OnlyIn [.damper] s { s with damper := x } := by
  intro g hg
  cases g with
  | damper => exact absurd (by simp) hg
  | _ => rfl

theorem only_withStart (x : Start) : OnlyIn [.start] s { s with start := x } := by
  intro g hg
  cases g with
  | start => exact absurd (by simp) hg
  | _ => rfl

theorem only_setSrc (n : Nat) (c : SrcCfg) : OnlyIn [.plumb] s (s.setSrc n c) := by
  intro g hg
  cases g with
  | plumb => exact absurd (by simp) hg
  | _ => rfl

theorem only_countMalformed : OnlyIn [.vs] s (countMalformed s) := only_withVs _ _

theorem only_countPartMalformed (p : Nat) : OnlyIn [.parts] s (countPartMalformed p s) := only_modView _ _ _

theorem only_dropHalf (via : Access) (w : Nat) (write : Bool) : OnlyIn [.vs] s (dropHalf via w write s) := only_withVs _ _

theorem only_putHalf (via : Access) (w : Nat) (write : Bool) (x : Word) : OnlyIn [.vs] s (putHalf via w write x s) :=
  only_withVs _ _

/-! ### Held halves (R530) -/

@[simp] theorem half?_putHalf (via : Access) (w : Nat) (write : Bool) (x : Word) :
    (putHalf via w write x s).half? via w write = some x := by
  simp [State.half?, putHalf]

@[simp] theorem half?_dropHalf (via : Access) (w : Nat) (write : Bool) : (dropHalf via w write s).half? via w write = none := by
  simp only [State.half?, dropHalf, Option.map_eq_none_iff, List.find?_eq_none, List.mem_filter]
  rintro x ⟨-, hx⟩
  simpa only [Bool.not_eq_true', Bool.not_eq_true] using hx

end updates

/-! ### Where an offset lies -/

theorem viewOf_eq_none {w : Nat} (h : w < 0xC00000) : viewOf w = none := by
  rw [viewOf, if_neg]
  simp only [Bool.and_eq_true, decide_eq_true_eq]
  omega

theorem viewOf_view {p k : Nat} (hp : p < 16) (hk : k < 0x40000) : viewOf (0xC00000 + 0x40000 * p + k) = some (p, k) := by
  rw [viewOf, if_pos (by simp only [Bool.and_eq_true, decide_eq_true_eq]; omega)]
  congr 2 <;> omega

theorem windowOf_vf {p k : Nat} (hk : k < 0x40000) : windowOf (.vf p) k = 0xC00000 + 0x40000 * p + k := if_pos hk

theorem regIdx_at {base step n i : Nat} (hi : i < n) (hs : 0 < step) : regIdx (base + step * i) base step n = some i := by
  have hlt : step * i < step * n := Nat.mul_lt_mul_of_pos_left hi hs
  rw [regIdx, if_pos]
  · rw [Nat.add_sub_cancel_left, Nat.mul_div_cancel_left i hs]
  · simp [hlt]

theorem regIdx_beyond {o base step n : Nat} (h : base + step * n ≤ o) : regIdx o base step n = none := by
  rw [regIdx, if_neg]
  simp only [Bool.and_eq_true, decide_eq_true_eq]
  omega

theorem malformedAccess_aligned {s : State} {w : Nat} (h4 : w % 4 = 0) (hw : w < 0x1000000) :
    malformedAccess s w 4 true = false := by
  simp [malformedAccess, h4, hw]

/-! ### Registers -/

theorem retReg_eq_none (s : State) (unit : Nat) {k : Nat} (h0 : k ≠ 0xFF00) (h4 : k ≠ 0xFF04) : retReg s unit k = none := by
  unfold retReg
  split
  · exact absurd rfl h0
  · exact absurd rfl h4
  · rfl

theorem regAt_gbMalformed (s : State) : regAt s 0x30 = some (false, s.vs.malformed) := rfl

theorem regAt_bootAddr (s : State) : regAt s 0x100 = some (true, s.start.bootAddr) := rfl

theorem regAt_bootAddrHigh (s : State) : regAt s 0x104 = none := retReg_eq_none s uGb (by decide) (by decide)

theorem regAt_therm (s : State) :
    regAt s 0x800004 = some (false, fld 0 8 s.damper.tHot + fld 8 8 s.damper.tCrit + fld 16 8 s.damper.tTrip) := rfl

theorem regAt_ramp (s : State) : regAt s 0x800008 = some (false, s.damper.slope) := rfl

theorem plReg_srcCfg (s : State) {n : Nat} (hn : n < 256) : plReg s (0x100 + 4 * n) = some (false, srcWord (s.src n)) := by
  unfold plReg
  split <;> try omega
  rw [regIdx_beyond (by omega), regIdx_at hn (by decide)]

theorem regAt_srcCfg (s : State) {n : Nat} (hn : n < 256) :
    regAt s (0x900100 + 4 * n) = some (false, srcWord (s.src n)) := by
  have hlow : ∀ b, b ≤ 0x900000 → ¬ 0x900100 + 4 * n < b := by omega
  have hrel : 0x900100 + 4 * n - 0x900000 = 0x100 + 4 * n := by omega
  have hsram : ¬ 0x980000 ≤ 0x900100 + 4 * n := by omega
  have hunit : 0x900100 + 4 * n < 0xA00000 := by omega
  simp [regAt, hlow, hrel, hsram, hunit, plReg_srcCfg s hn]

/-! ### Which write an access becomes -/

section writes
variable {s u : State} {via : Access} {ide : Bool}

/-- In a calm block a register write with a quiet effect answers just that effect. -/
theorem exec_registerWrite_quiet {o : Nat} {v : Quad} {wide : Bool} (hc : s.calm) (he : registerWrite via o v wide s = u)
    (hq : Quiet s u) (hp : u.pending = s.pending) : exec (.registerWrite via o v wide) s = .next u := by
  change settled s (registerWrite via o v wide s) = .next u
  rw [he, settled_calm (hq.calm hc), ← hp]

theorem exec_malformedRegisterAccess_quiet {o size : Nat} {write : Bool} (hc : s.calm)
    (he : malformedRegisterAccess via o size write s = u) (hq : Quiet s u) (hp : u.pending = s.pending) :
    exec (.malformedRegisterAccess via o size write) s = .next u := by
  change settled s (malformedRegisterAccess via o size write s) = .next u
  rw [he, settled_calm (hq.calm hc), ← hp]

/-- An access that the view's gate stops ends there (R371, R407, R533). -/
theorem registerWrite_gated {o p k : Nat} {v : Quad} {wide : Bool} (hu : s.up = true)
    (hv : viewOf (windowOf via o) = some (p, k)) (hg : viewGate via p s = some u) : registerWrite via o v wide s = u := by
  simp [registerWrite, hu, hv, hg]

/-- An aligned 32-bit write through function 0, below the views. -/
theorem registerWrite_block {w : Nat} (v : Quad) (hu : s.up = true) (hw : w < 0xC00000) (h4 : w % 4 = 0) :
    registerWrite (.pf ide) w v false s = writeSized (.pf ide) w v false s := by
  simp [registerWrite, windowOf, hu, viewOf_eq_none hw, malformedAccess_aligned h4 (Nat.lt_trans hw (by decide))]

theorem writeSized_narrow {w x : Nat} (v : Quad) (hr : regAt s w = some (false, x)) :
    writeSized via w v false s = writeWindow via w (bitsOf v.toNat 0 32) s := by
  simp [writeSized, hr]

theorem writeSized_lowHalf {w x : Nat} (v : Quad) (hr : regAt s w = some (true, x)) :
    writeSized via w v false s = putHalf via w true (v.setWidth 32) s := by
  simp [writeSized, hr]

theorem writeSized_highHalf {w x : Nat} {low : Word} (v : Quad) (h8 : w % 8 = 4) (hr : regAt s w = none)
    (hl : regAt s (w - 4) = some (true, x)) (hh : s.half? via (w - 4) true = some low) :
    writeSized via w v false s =
      writeWindow via (w - 4) (low.toNat + 2 ^ 32 * bitsOf v.toNat 0 32) (dropHalf via (w - 4) true s) := by
  simp [writeSized, h8, hr, hl, hh]

/-- A write through function 0 of a 32-bit register below the views, known by what it does in the window. -/
theorem exec_registerWrite_narrow {w x : Nat} (v : Quad) (hc : s.calm) (hu : s.up = true) (hw : w < 0xC00000) (h4 : w % 4 = 0)
    (hr : regAt s w = some (false, x)) (he : writeWindow (.pf ide) w (bitsOf v.toNat 0 32) s = u) (hq : Quiet s u)
    (hp : u.pending = s.pending) : exec (.registerWrite (.pf ide) w v false) s = .next u :=
  exec_registerWrite_quiet hc (((registerWrite_block v hu hw h4).trans (writeSized_narrow v hr)).trans he) hq hp

end writes

/-! ### What the writes of single registers do -/

section effects
variable (s : State) (v : Nat)

/-- DM_THERM's three temperatures rise and end at 125 or below (R316). -/
abbrev Rising (v : Nat) : Prop := bitsOf v 0 8 < bitsOf v 8 8 ∧ bitsOf v 8 8 < bitsOf v 16 8 ∧ bitsOf v 16 8 ≤ 125

theorem writeTherm_low : writeTherm (bitsOf v 0 32) s = writeTherm v s := by
  simp [writeTherm, bitsOf_low]

theorem writeTherm_of_rising (h : Rising v) :
    writeTherm v s = { s with damper := { s.damper with tHot := bitsOf v 0 8, tCrit := bitsOf v 8 8, tTrip := bitsOf v 16 8 } } := by
  obtain ⟨hh, hc, ht⟩ := h
  simp [writeTherm, hh, hc, ht]

theorem writeTherm_of_not_rising (h : ¬ Rising v) : writeTherm v s = countMalformed s := by
  rw [writeTherm, if_neg]
  simpa [Rising, and_assoc] using h

theorem quiet_writeTherm : Quiet s (writeTherm v s) := by
  by_cases h : Rising v
  · rw [writeTherm_of_rising s v h]
    exact quiet_withDamper _ _
  · rw [writeTherm_of_not_rising s v h]
    exact quiet_countMalformed s

theorem writeTherm_pending : (writeTherm v s).pending = s.pending := by
  by_cases h : Rising v
  · rw [writeTherm_of_rising s v h]
  · rw [writeTherm_of_not_rising s v h, countMalformed_pending]

/-- DM_RAMP takes 1 to 40 and else stays as it was (R317). -/
theorem writeWindow_ramp (via : Access) :
    writeWindow via 0x800008 v s = { s with damper := { s.damper with
      slope := if 1 ≤ bitsOf v 0 6 ∧ bitsOf v 0 6 ≤ 40 then bitsOf v 0 6 else s.damper.slope } } := by
  change (if (bitsOf v 0 6 = 0 || 40 < bitsOf v 0 6) = true then s else _) = _
  by_cases h : 1 ≤ bitsOf v 0 6 ∧ bitsOf v 0 6 ≤ 40
  · rw [if_neg (by simp; omega), if_pos h]
  · rw [if_pos (by simp; omega), if_neg h]

theorem writePl_srcCfg {n : Nat} (hn : n < 256) : writePl (0x100 + 4 * n) v s = writeSrc n v s := by
  unfold writePl
  split <;> try omega
  rw [regIdx_beyond (by omega), regIdx_at hn (by decide)]

theorem writeWindow_srcCfg (via : Access) {n : Nat} (hn : n < 256) :
    writeWindow via (0x900100 + 4 * n) v s = writeSrc n v s := by
  have hlow : ∀ b, b ≤ 0x900000 → ¬ 0x900100 + 4 * n < b := by omega
  have hrel : 0x900100 + 4 * n - 0x900000 = 0x100 + 4 * n := by omega
  have hunit : 0x900100 + 4 * n < 0xA00000 := by omega
  simp [writeWindow, hlow, hrel, hunit, writePl_srcCfg s v hn]

theorem writeSrc_low (n : Nat) : writeSrc n (bitsOf v 0 32) s = writeSrc n v s := by
  simp [writeSrc, bitsOf_low, bitOf_low]

/-- PL_SRC_CFG takes a legal action, window and threshold (R428, R451). -/
theorem writeSrc_of_legal {n : Nat} (ha : bitsOf v 0 3 ≤ 5) (hw : bitsOf v 4 3 ≤ 5) (ht : bitsOf v 8 8 ≠ 0 ∨ bitsOf v 0 3 = 0)
    (hn : actionNamed n (bitsOf v 0 3) = true) :
    writeSrc n v s = s.setSrc n { s.src n with
      action := bitsOf v 0 3, notify := bitOf v 3, notified := false, window := bitsOf v 4 3, thresh := bitsOf v 8 8 } := by
  rw [writeSrc, if_neg]
  simp only [hn, Bool.or_eq_true, Bool.and_eq_true, decide_eq_true_eq, Bool.not_true, Bool.false_eq_true, or_false]
  omega

/-- GB_BOOT_ADDR takes an address while no load of the image runs (R465). -/
theorem writeWindow_bootAddr (via : Access) (h1 : s.start.bootState ≠ 1) (h2 : s.start.bootState ≠ 2) :
    writeWindow via 0x100 v s = { s with start := { s.start with bootAddr := v / 4096 * 4096 } } := by
  change (if (s.start.bootState = 1 || s.start.bootState = 2) = true then s else _) = _
  rw [if_neg (by simp [h1, h2])]

/-- A malformed access below the views: its count, and a read returns zero (R530). -/
theorem malformedRegisterAccess_block {ide write : Bool} {o size : Nat} (hu : s.up = true) (ho : o < 0xC00000)
    (hm : malformedAccess s o size write = true) :
    malformedRegisterAccess (.pf ide) o size write s =
      if write then countMalformed s else (countMalformed s).emit (.readData 0) := by
  simp [malformedRegisterAccess, windowOf, hu, hm, viewOf_eq_none ho, countAt]

end effects

/-! ### The accesses of the statement -/

section clauses
variable {s : State} {ide : Bool}

theorem exec_write_gbMalformed (v : Quad) (hc : s.calm) (hu : s.up = true) :
    exec (.registerWrite (.pf ide) 0x30 v false) s =
      .next { s with vs := { s.vs with malformed := clearBits s.vs.malformed (bitsOf (bitsOf v.toNat 0 32) 0 16) } } :=
  exec_registerWrite_narrow v hc hu (by decide) rfl (regAt_gbMalformed s) rfl (quiet_withVs s rfl) rfl

theorem exec_write_therm (v : Quad) (hc : s.calm) (hu : s.up = true) :
    exec (.registerWrite (.pf ide) 0x800004 v false) s = .next (writeTherm v.toNat s) :=
  exec_registerWrite_narrow v hc hu (by decide) rfl (regAt_therm s) (writeTherm_low _ _) (quiet_writeTherm _ _) (writeTherm_pending _ _)

theorem exec_write_ramp (v : Quad) (hc : s.calm) (hu : s.up = true) :
    exec (.registerWrite (.pf ide) 0x800008 v false) s = .next { s with damper := { s.damper with
      slope := if 1 ≤ bitsOf v.toNat 0 6 ∧ bitsOf v.toNat 0 6 ≤ 40 then bitsOf v.toNat 0 6 else s.damper.slope } } := by
  rw [← bitsOf_low (n := 32) v.toNat (by decide : 0 + 6 ≤ 32)]
  exact exec_registerWrite_narrow v hc hu (by decide) rfl (regAt_ramp s) (writeWindow_ramp _ _ _) (quiet_withDamper _ _) rfl

theorem exec_write_srcCfg {n : Nat} (v : Quad) (hc : s.calm) (hu : s.up = true) (hn : n < 256) (ha : bitsOf v.toNat 0 3 ≤ 5)
    (hw : bitsOf v.toNat 4 3 ≤ 5) (ht : bitsOf v.toNat 8 8 ≠ 0 ∨ bitsOf v.toNat 0 3 = 0)
    (hk : actionNamed n (bitsOf v.toNat 0 3) = true) :
    exec (.registerWrite (.pf ide) (0x900100 + 4 * n) v false) s = .next (s.setSrc n { s.src n with
      action := bitsOf v.toNat 0 3, notify := bitOf v.toNat 3, notified := false, window := bitsOf v.toNat 4 3
      thresh := bitsOf v.toNat 8 8 }) :=
  exec_registerWrite_narrow v hc hu (by omega) (by omega) (regAt_srcCfg s hn)
    (((writeWindow_srcCfg _ _ _ hn).trans (writeSrc_low _ _ _)).trans (writeSrc_of_legal _ _ ha hw ht hk)) (quiet_setSrc _ _ _) rfl

theorem exec_write_bootAddr_low (v : Quad) (hc : s.calm) (hu : s.up = true) :
    exec (.registerWrite (.pf ide) 0x100 v false) s = .next (putHalf (.pf ide) 0x100 true (v.setWidth 32) s) :=
  exec_registerWrite_quiet hc ((registerWrite_block v hu (by decide) rfl).trans (writeSized_lowHalf v (regAt_bootAddr s)))
    (quiet_putHalf _ _ _ _ _) rfl

/-- The state after the high half of GB_BOOT_ADDR is written. -/
def withBoot (ide : Bool) (low : Word) (v : Quad) (s : State) : State :=
  let t := dropHalf (.pf ide) 0x100 true s
  { t with start := { t.start with bootAddr := (low.toNat + 2 ^ 32 * bitsOf v.toNat 0 32) / 4096 * 4096 } }

theorem exec_write_bootAddr_high {low : Word} (v : Quad) (hc : s.calm) (hu : s.up = true)
    (hh : s.half? (.pf ide) 0x100 true = some low) (h1 : s.start.bootState ≠ 1) (h2 : s.start.bootState ≠ 2) :
    exec (.registerWrite (.pf ide) 0x104 v false) s = .next (withBoot ide low v s) :=
  exec_registerWrite_quiet hc
    (((registerWrite_block v hu (by decide) rfl).trans (writeSized_highHalf v rfl (regAt_bootAddrHigh s) (regAt_bootAddr s) hh)).trans
      (writeWindow_bootAddr _ _ _ h1 h2))
    ((quiet_dropHalf _ _ _ _).trans (quiet_withBootAddr _ _)) rfl

theorem exec_write_lockedView {p k : Nat} (v : Quad) (hc : s.calm) (hu : s.up = true) (hp : p < 16) (hk : k < 0x40000)
    (hs : (s.part p).struck = false) (ht : (s.part p).tdi = .locked ∨ (s.part p).tdi = .run) :
    exec (.registerWrite (.pf ide) (0xC00000 + 0x40000 * p + k) v false) s = .next (countPartMalformed p s) :=
  exec_registerWrite_quiet hc (registerWrite_gated hu (viewOf_view hp hk) (by simp [viewGate, hs, ht]))
    (quiet_countPartMalformed _ _) rfl

theorem exec_write_errorVf {p k : Nat} (v : Quad) (wide : Bool) (hc : s.calm) (hu : s.up = true) (hp : p < 16) (hk : k < 0x40000)
    (he : (s.part p).tdi = .error) :
    exec (.registerWrite (.vf p) k v wide) s = .next (s.emit (.unsupportedRequest p)) :=
  exec_registerWrite_quiet hc (registerWrite_gated hu (by rw [windowOf_vf hk]; exact viewOf_view hp hk) (if_pos he))
    (quiet_emit _ _) rfl

theorem exec_malformedRead {o size : Nat} (hc : s.calm) (hu : s.up = true) (ho : o < 0xC00000)
    (hm : malformedAccess s o size false = true) :
    exec (.malformedRegisterAccess (.pf ide) o size false) s = .next ((countMalformed s).emit (.readData 0)) :=
  exec_malformedRegisterAccess_quiet hc (malformedRegisterAccess_block s hu ho hm)
    ((quiet_countMalformed s).trans (quiet_emit _ _)) rfl

theorem exec_malformedWrite {o size : Nat} (hc : s.calm) (hu : s.up = true) (ho : o < 0xC00000)
    (hm : malformedAccess s o size true = true) :
    exec (.malformedRegisterAccess (.pf ide) o size true) s = .next (countMalformed s) :=
  exec_malformedRegisterAccess_quiet hc (malformedRegisterAccess_block s hu ho hm) (quiet_countMalformed s) rfl

end clauses

/-- Settles O60: each access is led to its one effect, which leaves a calm block calm. -/
theorem registerAccessesTakeEffect : Obligations.RegisterAccessesTakeEffect := by
  intro s ide hc hu
  refine ⟨fun v => ⟨?malformed, ?therm, ?ramp, ?src, ?low, ?high, ?view, ?vf⟩, ?access⟩
  case malformed => exact ⟨_, exec_write_gbMalformed v hc hu, rfl, only_withVs _ _⟩
  case therm =>
    refine ⟨_, exec_write_therm v hc hu, fun h => ?_, fun h => ?_⟩
    · rw [writeTherm_of_rising s _ h]
      exact ⟨rfl, only_withDamper _ _⟩
    · rw [writeTherm_of_not_rising s _ h]
      exact ⟨rfl, only_countMalformed s⟩
  case ramp => exact ⟨_, exec_write_ramp v hc hu, rfl, rfl, only_withDamper _ _⟩
  case src =>
    intro n hn ha hw ht hk
    exact ⟨_, exec_write_srcCfg v hc hu hn ha hw ht hk, rfl, rfl, only_setSrc _ _ _⟩
  case low => exact ⟨_, exec_write_bootAddr_low v hc hu, half?_putHalf _ _ _ _ _, only_putHalf _ _ _ _ _⟩
  case high =>
    intro low hh h1 h2
    exact ⟨_, exec_write_bootAddr_high v hc hu hh h1 h2, half?_dropHalf s _ _ _, rfl,
      ((only_dropHalf s _ _ _).mono (by simp)).trans ((only_withStart _ _).mono (by simp))⟩
  case view =>
    intro p k hp _ hk hs ht
    exact ⟨_, exec_write_lockedView v hc hu hp hk hs ht, rfl, only_countPartMalformed _ _⟩
  case vf =>
    intro p k wide hp hk he
    exact ⟨_, exec_write_errorVf v wide hc hu hp hk he, rfl, only_emit _ _⟩
  case access =>
    intro o size write ho hm
    cases write with
    | true => exact ⟨_, exec_malformedWrite hc hu ho hm, rfl, rfl, (only_countMalformed s).mono (by simp)⟩
    | false =>
      exact ⟨_, exec_malformedRead hc hu ho hm, rfl, rfl,
        ((only_countMalformed s).mono (by simp)).trans ((only_emit _ _).mono (by simp))⟩

end Sys2Proof.Machine
end

section
/-! PROOFS. Starts (15 R459 to R465, R470): what a start's steps do, and that they leave the block nothing to do by itself. -/

namespace Sys2Proof.Machine

/-! ### Updates that open no work -/

/-- What `State.calm` looks at beside the doorbells gives no more to do. Unlike `Quiet`, links may change but for their states,
and rungs may end or, other than a context's, be asked for. -/
structure Still (s t : State) : Prop where
  staged : t.cmds.staged = s.cmds.staged
  firmware : t.cmds.firmware = s.cmds.firmware
  rungs : ∀ x ∈ t.plumb.rungs, x ∈ s.plumb.rungs ∨ (x.rung ≠ .context ∧ x.begun = false)
  opening : t.debugs.opening = s.debugs.opening
  stopping : t.vs.stopping = s.vs.stopping
  slots : t.kp.slots = s.kp.slots
  runs : t.tests.runs = s.tests.runs
  links : ∀ n, (t.link n).state = (s.link n).state
  coord : t.gl.coord = s.gl.coord
  parcels : t.gl.parcels = s.gl.parcels

theorem Still.refl (s : State) : Still s s :=
  ⟨rfl, rfl, fun _ h => .inl h, rfl, rfl, rfl, rfl, fun _ => rfl, rfl, rfl⟩

theorem Still.trans {s t u : State} (h : Still s t) (k : Still t u) : Still s u :=
  ⟨k.staged.trans h.staged, k.firmware.trans h.firmware, fun x hx => (k.rungs x hx).elim (h.rungs x) .inr,
    k.opening.trans h.opening, k.stopping.trans h.stopping, k.slots.trans h.slots, k.runs.trans h.runs,
    fun n => (k.links n).trans (h.links n), k.coord.trans h.coord, k.parcels.trans h.parcels⟩

theorem Still.foldl {α : Type} (f : State → α → State) (hf : ∀ u a, Still u (f u a)) (l : List α) (s : State) :
    Still s (l.foldl f s) :=
  List.foldlRecOn l f (Still.refl s) fun u hu a _ => hu.trans (hf u a)

/-- Routes see of the links only their states, and of GL_COORD everything (R117 to R119). -/
theorem stranded_of_states {s t : State} (hl : ∀ n, (t.link n).state = (s.link n).state) (hc : t.gl.coord = s.gl.coord)
    (x : TxParcel) : t.stranded x = s.stranded x := by
  have hk : ∀ b, t.keyed b = s.keyed b := fun b => by simp only [State.keyed, hl]
  have hd : ∀ d, t.dim d = s.dim d := fun d => by simp only [State.dim, State.dims, hc]
  have hch : t.chip = s.chip := by simp only [State.chip, hc]
  have hn : ∀ h d m, t.nextBundle h d m = s.nextBundle h d m := fun h d m => by simp only [State.nextBundle, hd]
  have hb : ∀ b u d g m, t.bundleLink b u d g m = s.bundleLink b u d g m := fun b u d g m => by simp only [State.bundleLink, hk]
  have hv : ∀ h b, t.neighbour h b = s.neighbour h b := fun h b => by simp only [State.neighbour, hd]
  have hw : ∀ b, t.detourBundle b = s.detourBundle b := fun b => by simp only [State.detourBundle, hk]
  have hway : ∀ src dst tag m, t.wayOut src dst tag m = s.wayOut src dst tag m := fun src dst tag m => by
    unfold State.wayOut
    rw [hch, hn]
    simp only [hb, hv, hw]
  simp only [State.stranded, hway, hch]

/-- A calm block in which no work arises stays calm, once the doorbells that are served have been looked at. -/
theorem Still.calm {s t : State} (h : Still s t) (hc : s.calm)
    (hl : t.mailServed = true → ∀ q ∈ t.mail.chans, q.looked = true) : t.calm := by
  simp only [State.calm, Bool.and_eq_true, List.all_eq_true, Bool.or_eq_true, Bool.not_eq_true'] at hc ⊢
  simp only [h.staged, h.firmware, h.opening, h.stopping, h.slots, h.runs, h.links, h.parcels, stranded_of_states h.links h.coord]
  obtain ⟨⟨⟨⟨⟨⟨⟨hq, hr⟩, ho⟩, hs⟩, hk⟩, ht⟩, hp⟩, -⟩ := hc
  refine ⟨⟨⟨⟨⟨⟨⟨hq, fun x hx => ?rungs⟩, ho⟩, hs⟩, hk⟩, ht⟩, hp⟩, ?doorbells⟩
  case rungs =>
    rcases h.rungs x hx with hx | ⟨hx, hb⟩
    · exact hr x hx
    · simp [hx, hb]
  case doorbells =>
    cases hm : t.mailServed with
    | false => exact .inl rfl
    | true => exact .inr (hl hm)

/-- Every channel's doorbells are clear. -/
abbrev State.noDoorbells (s : State) : Prop := ∀ q ∈ s.mail.chans, q.dbIn = 0

theorem State.noDoorbells.looked {s : State} (h : s.noDoorbells) : ∀ q ∈ s.mail.chans, q.looked = true :=
  fun q hq => by simp [Channel.looked, h q hq]

/-- Areas that `State.calm` does not look at but for the doorbells and whether they are served. -/
abbrev bystanders : List Area := [.parts, .sill, .damper, .start, .fuses, .mail, .out, .fresh]

theorem still_of_only {s t : State} (h : OnlyIn bystanders s t) : Still s t := by
  have hcmds : t.cmds = s.cmds := h .cmds (by decide)
  have hplumb : t.plumb = s.plumb := h .plumb (by decide)
  have hdebugs : t.debugs = s.debugs := h .debugs (by decide)
  have hvs : t.vs = s.vs := h .vs (by decide)
  have hkp : t.kp = s.kp := h .kp (by decide)
  have htests : t.tests = s.tests := h .tests (by decide)
  have hgl : t.gl = s.gl := h .gl (by decide)
  exact ⟨by rw [hcmds], by rw [hcmds], fun x hx => .inl (by rwa [← hplumb]), by rw [hdebugs], by rw [hvs], by rw [hkp],
    by rw [htests], fun n => by simp only [State.link, hgl], by rw [hgl], by rw [hgl]⟩

/-- Steps of a start that neither raise nor drop the core domains are quiet. -/
theorem quiet_of_only {s t : State} (h : OnlyIn [.fuses, .start, .sill] s t) (hu : t.up = s.up) : Quiet s t := by
  have hst := still_of_only (h.mono (by simp))
  have hplumb : t.plumb = s.plumb := h .plumb (by decide)
  have hgl : t.gl = s.gl := h .gl (by decide)
  have hmail : t.mail = s.mail := h .mail (by decide)
  have hkp : t.kp = s.kp := h .kp (by decide)
  have hscribe : t.scribe = s.scribe := h .scribe (by decide)
  refine ⟨hst.staged, hst.firmware, by rw [hplumb], hst.opening, hst.stopping, hst.slots, hst.runs, by rw [hgl], hst.coord,
    fun x hx => .inl (by rwa [← hgl]), ?_, by rw [hmail]⟩
  simp [State.mailServed, hu, hkp, hscribe]

theorem only_withFuses (s : State) (x : Fuses) : OnlyIn [.fuses] s { s with fuses := x } := by
  intro g hg
  cases g with
  | fuses => exact absurd (by simp) hg
  | _ => rfl

theorem only_withSill (s : State) (x : Sill) : OnlyIn [.sill] s { s with sill := x } := by
  intro g hg
  cases g with
  | sill => exact absurd (by simp) hg
  | _ => rfl

theorem only_withPlumb (s : State) (x : Plumb) : OnlyIn [.plumb] s { s with plumb := x } := by
  intro g hg
  cases g with
  | plumb => exact absurd (by simp) hg
  | _ => rfl

theorem only_withMail (s : State) (x : Mail) : OnlyIn [.mail] s { s with mail := x } := by
  intro g hg
  cases g with
  | mail => exact absurd (by simp) hg
  | _ => rfl

theorem only_withStartFuses (s : State) (x : Start) (y : Fuses) :
    OnlyIn [.start, .fuses] s { s with start := x, fuses := y } :=
  ((only_withStart s x).mono (by simp)).trans ((only_withFuses { s with start := x } y).mono (by simp))

theorem only_withStartSill (s : State) (x : Start) (y : Sill) : OnlyIn [.start, .sill] s { s with start := x, sill := y } :=
  ((only_withStart s x).mono (by simp)).trans ((only_withSill { s with start := x } y).mono (by simp))

theorem only_withStartDamper (s : State) (x : Start) (y : Damper) :
    OnlyIn [.start, .damper] s { s with start := x, damper := y } :=
  ((only_withStart s x).mono (by simp)).trans ((only_withDamper { s with start := x } y).mono (by simp))

/-! ### Notices (R550) -/

theorem modChan_mail (s : State) (c : Nat) (f : Channel → Channel) :
    (s.modChan c f).mail = { s.mail with chans := s.mail.chans.modify c f } := by
  unfold State.modChan
  dsimp only
  split
  · split
    · rfl
    · split <;> rfl
  · rfl

theorem only_modChan (s : State) (c : Nat) (f : Channel → Channel) : OnlyIn [.mail, .out] s (s.modChan c f) := by
  have hm := (only_withMail s { s.mail with chans := s.mail.chans.modify c f }).mono (hs := [.mail, .out]) (by simp)
  unfold State.modChan
  dsimp only
  split
  · split
    · exact hm.trans ((only_emit _ _).mono (by simp))
    · split
      · exact hm.trans ((only_emit _ _).mono (by simp))
      · exact hm
  · exact hm

theorem noDoorbells_modChan {s : State} {c : Nat} {f : Channel → Channel} (hf : ∀ q, (f q).dbIn = q.dbIn)
    (h : s.noDoorbells) : (s.modChan c f).noDoorbells := by
  intro q hq
  rw [modChan_mail] at hq
  obtain ⟨i, hi⟩ := List.mem_iff_getElem?.mp hq
  rw [List.getElem?_modify] at hi
  obtain ⟨r, hr, rfl⟩ := Option.map_eq_some_iff.mp hi
  have hz := h r (List.mem_of_getElem? hr)
  split
  · rw [hf, hz]
  · exact hz

theorem only_queueNotice (c : Nat) (n : Notice) (s : State) : OnlyIn [.mail, .out] s (queueNotice c n s) := by
  unfold queueNotice
  split
  · exact OnlyIn.refl _ _
  · split <;> exact only_modChan _ _ _

theorem noDoorbells_queueNotice {c : Nat} {n : Notice} {s : State} (h : s.noDoorbells) : (queueNotice c n s).noDoorbells := by
  unfold queueNotice
  split
  · exact h
  · split
    · exact noDoorbells_modChan (fun _ => rfl) h
    · exact noDoorbells_modChan (fun _ => rfl) h

/-! ### Events that name nothing (R428) -/

theorem still_withPlumb (s : State) (x : Plumb)
    (hx : ∀ r ∈ x.rungs, r ∈ s.plumb.rungs ∨ (r.rung ≠ .context ∧ r.begun = false)) : Still s { s with plumb := x } :=
  ⟨rfl, rfl, hx, rfl, rfl, rfl, rfl, fun _ => rfl, rfl, rfl⟩

/-- An event's traces: the error log, its notices and a chip rung asked for. -/
structure Logged (s t : State) : Prop where
  only : OnlyIn [.plumb, .mail, .out] s t
  still : Still s t

theorem Logged.refl (s : State) : Logged s s := ⟨OnlyIn.refl _ _, Still.refl _⟩

theorem Logged.trans {s t u : State} (h : Logged s t) (k : Logged t u) : Logged s u :=
  ⟨h.only.trans k.only, h.still.trans k.still⟩

theorem logged_withPlumb (s : State) (x : Plumb)
    (hx : ∀ r ∈ x.rungs, r ∈ s.plumb.rungs ∨ (r.rung ≠ .context ∧ r.begun = false)) : Logged s { s with plumb := x } :=
  ⟨(only_withPlumb s x).mono (by simp), still_withPlumb s x hx⟩

theorem logged_setSrc (s : State) (n : Nat) (c : SrcCfg) : Logged s (s.setSrc n c) := logged_withPlumb s _ fun _ h => .inl h

theorem logged_logEntry (src sub action : Nat) (part : Option Nat) (quant skipped : Bool) (detail : Nat) (s : State) :
    Logged s (logEntry src sub action part quant skipped detail s) := logged_withPlumb s _ fun _ h => .inl h

theorem logged_queueNotice (c : Nat) (n : Notice) (s : State) : Logged s (queueNotice c n s) :=
  ⟨(only_queueNotice c n s).mono (by simp), still_of_only ((only_queueNotice c n s).mono (by simp))⟩

theorem logged_noticeFault (src sub : Nat) (part : Option Nat) (time : Nat) (s : State) :
    Logged s (noticeFault src sub part time s) := by
  refine List.foldlRecOn _ _ (Logged.refl s) fun u hu c _ => hu.trans ?_
  split
  · split
    · exact logged_queueNotice _ _ _
    · exact Logged.refl _
  · split
    · exact logged_queueNotice _ _ _
    · exact Logged.refl _

theorem logged_plumbLog (src sub action : Nat) (part : Option Nat) (quant : Bool) (detail : Nat) (s : State) :
    Logged s (plumbLog src sub action part quant detail s) := by
  have hmark : Logged s (plumbMark src s) := (logged_setSrc s _ _).trans (logged_withPlumb _ _ fun _ h => .inl h)
  have hlog := hmark.trans (logged_logEntry src sub action part quant false detail _)
  unfold plumbLog
  dsimp only
  split
  · exact hlog
  · exact hlog.trans (logged_noticeFault _ _ _ _ _)

theorem logged_thresholdMet (n : Nat) (s : State) : Logged s (thresholdMet n s).2 := by
  unfold thresholdMet
  dsimp only
  split
  · exact logged_setSrc _ _ _
  · dsimp only
    split
    · exact Logged.refl _
    · exact logged_setSrc _ _ _

/-- A cause other than the root's loss leaves the start alone (R40, R443). -/
theorem logged_mergeCause {src : Nat} (h : src ≠ 1) (s : State) : Logged s (mergeCause src s) := by
  unfold mergeCause
  dsimp only
  rw [if_neg h]
  split <;> exact logged_withPlumb s _ fun _ h => .inl h

theorem logged_requestChip {src : Nat} (h : src ≠ 1) (tenant : Bool) (s : State) : Logged s (requestChip src tenant s) := by
  unfold requestChip
  split
  · exact logged_logEntry _ _ _ _ _ _ _ _
  · split
    · exact logged_mergeCause h s
    · refine logged_withPlumb s _ fun r hr => ?_
      rcases List.mem_append.mp hr with hr | hr
      · exact .inl hr
      · rw [List.mem_singleton.mp hr]
        exact .inr ⟨Rung.noConfusion, rfl⟩

/-- A threshold whose event names neither engine, partition nor context can ask for a chip reset only. -/
theorem logged_plumbThreshold {src : Nat} (h : src ≠ 1) (s : State) : Logged s (plumbThreshold src none s) := by
  have hm := logged_thresholdMet src s
  unfold plumbThreshold
  dsimp only
  split
  · exact hm
  · split
    case h_1 => contradiction
    case h_2 => contradiction
    case h_3 => contradiction
    case h_4 => exact hm.trans (logged_requestChip h _ _)
    case h_5 => exact hm

theorem logged_plumbEvent {src : Nat} (h : src ≠ 1) (sub action : Nat) (part : Option Nat) (quant : Bool) (detail : Nat)
    (s : State) : Logged s (plumbEvent src sub action part quant detail none s) :=
  (logged_plumbLog src sub action part quant detail s).trans (logged_plumbThreshold h _)

/-- The state of a start that has stopped at a step (R33, R330, R459). -/
def stoppedAt (step : Nat) (s : State) : State :=
  { s with start := { s.start with stopped := true, step := step, findings := none } }

theorem logged_stopStart {src : Nat} (h : src ≠ 1) (step sub detail : Nat) (s : State) :
    Logged (stoppedAt step s) (stopStart step src sub detail s) := logged_plumbEvent h _ _ _ _ _ _

/-! ### Step 6: the life-cycle state (R470) -/

theorem resolveLc_congr {s t : State} (hi : t.fuses.intent = s.fuses.intent) (hc : t.fuses.completion = s.fuses.completion) :
    resolveLc t = resolveLc s := by
  have hrow : t.intentRow = s.intentRow := funext fun k => by simp only [State.intentRow, hi]
  have hdone : t.completionRow = s.completionRow := funext fun k => by simp only [State.completionRow, hc]
  unfold resolveLc
  rw [hrow, hdone]

/-- A state short of End of Life is resolved only while the last transition's intent row is BLANK. -/
theorem intentRow_two_of_resolved {s : State} {lc : LcState} (h : resolveLc s = .state lc) (he : lc ≠ .endOfLife) :
    s.intentRow 2 = 0 := by
  by_contra hn
  simp only [resolveLc, List.find?_cons, hn, ne_eq, not_false_eq_true, decide_true] at h
  split at h
  · exact he (Resolved.state.inj h).symm
  · exact Resolved.noConfusion h

/-- Steps 5 and 6 of a start that finds a good RS and a resolved state. -/
theorem fuseStep_of_resolved {cold : Bool} {f : StartFindings} {s : State} {lc : LcState} {b : Fuses}
    (h : resolveLc s = .state lc) (he : lc ≠ .endOfLife)
    (hb : rsBanks { s.fuses with vpp := f.vppFuse } (decide (lc = .blank)) f.rsCheckAOk f.rsCheckBOk = some b) :
    fuseStep cold f s = testsStep cold f { s with fuses := { b with lc := lc } } := by
  have hres : resolveLc { s with fuses := { s.fuses with vpp := f.vppFuse } } = .state lc := h
  have hrow : State.intentRow { s with fuses := { s.fuses with vpp := f.vppFuse } } 2 = 0 := intentRow_two_of_resolved hres he
  simp [fuseStep, hres, hrow, hb, he]

/-- Step 6 of a roll forward short of End of Life with VPP_FUSE programs both rows (R470). -/
theorem rollForward_of_vpp {cold : Bool} {k : Nat} {f : StartFindings} {s : State} (hv : s.fuses.vpp = true) (hk : k < 2) :
    rollForward cold k f s = testsStep cold f { s with
      fuses := { s.fuses with intent := s.fuses.intent.set k 32, completion := s.fuses.completion.set k 32, lc := lcOf (k + 1)
                              rollWaiting := false }
      start := { s.start with waiting := false } } := by
  simp [rollForward, hv, Nat.ne_of_lt hk]

/-! ### Steps 7 to 10 -/

/-- The state in which every test of a start has passed: the counter region is zero and a warm start's phase moves (R186, R459). -/
def tested (cold : Bool) (s : State) : State :=
  { s with start := { s.start with warmPhase := if cold then s.start.warmPhase else (s.start.warmPhase + 1) % 8 }
           sill := { s.sill with records := [] } }

/-- The start waits for GO, unless GO is set (R465). -/
def awaitingGo (s : State) : State := { s with start := { s.start with step := 9, waiting := !s.start.go, bootState := 0 } }

theorem only_tested (cold : Bool) (s : State) : OnlyIn [.start, .sill] s (tested cold s) :=
  only_withStartSill s _ _

theorem only_awaitingGo (s : State) : OnlyIn [.start] s (awaitingGo s) := only_withStart s _

theorem testsStep_of_passed {cold : Bool} {f : StartFindings} {s : State} (hu : f.failedUnits = []) (he : f.failedEngines = []) :
    testsStep cold f s = imageStep (tested cold s) := by
  simp [testsStep, hu, he, retireFailed, tested]

theorem imageStep_of_none {s : State} (h : s.start.image = none) : imageStep s = awaitingGo s := by
  simp [imageStep, h, awaitingGo]

theorem imageStep_of_kept {s : State} {i : BootImage} (h : s.start.image = some i) (hr : s.start.reload = false) :
    imageStep s = setReady i s := by
  simp [imageStep, h, hr]

/-! ### Step 11: READY (R332, R358, R459) -/

/-- The ladder derived, READY set and the chip rung complete. -/
def readied (i : BootImage) (s : State) : State :=
  { s with
    kp := { s.kp with ready := true, svn := i.svn, endorsed := i.endorsed && s.fuses.lc = .production, dbgKeys := s.fullDebug }
    plumb := { s.plumb with rungs := s.plumb.rungs.filter (fun x => x.rung ≠ Rung.chip), causes := [] }
    start := { s.start with step := 11, waiting := false, bootState := 3, findings := none } }

/-- Trained links begin their exchanges. -/
def exchangesBegun (s : State) : State :=
  ((List.range 64).filter (fun n => (s.link n).state = .unkeyed)).foldl (fun t n => startExchange n t) s

/-- The notice of READY to every channel. -/
def readyAnnounced (words : List Word) (s : State) : State :=
  (List.range 8).foldl (fun t c => queueNotice c { service := 0x83, part := none, payload := words } t) s

theorem setReady_eq (i : BootImage) (s : State) :
    ∃ words, setReady i s = readyAnnounced words (advanceStart (exchangesBegun (readied i s))) := ⟨_, rfl⟩

theorem only_startExchange (n : Nat) (s : State) : OnlyIn [.gl, .out] s (startExchange n s) :=
  ((only_modLink s n _).mono (by simp)).trans ((only_emit _ _).mono (by simp))

theorem still_startExchange (n : Nat) (s : State) : Still s (startExchange n s) := by
  refine ⟨rfl, rfl, fun _ h => .inl h, rfl, rfl, rfl, rfl, fun m => ?_, rfl, rfl⟩
  simp only [startExchange, sendKeyx, State.link, State.emit_gl, State.modLink, List.getD_eq_getElem?_getD, List.getElem?_modify]
  cases s.gl.links[m]? <;> by_cases hm : n = m <;> simp [hm]

theorem only_exchangesBegun (s : State) : OnlyIn [.gl, .out] s (exchangesBegun s) :=
  OnlyIn.foldl _ (fun u n => only_startExchange n u) _ _

theorem only_readyAnnounced (words : List Word) (s : State) : OnlyIn [.mail, .out] s (readyAnnounced words s) :=
  OnlyIn.foldl _ (fun u c => only_queueNotice c _ u) _ _

theorem noDoorbells_readyAnnounced {words : List Word} {s : State} (h : s.noDoorbells) :
    (readyAnnounced words s).noDoorbells := by
  unfold readyAnnounced
  generalize List.range 8 = channels
  exact List.foldlRecOn channels _ h fun u hu c _ => noDoorbells_queueNotice (s := u) hu

/-- The parallel steps move only the step's number, upwards (R459, R537). -/
theorem advanceStart_step (s : State) :
    ∃ n, s.start.step ≤ n ∧ advanceStart s = { s with start := { s.start with step := n } } := by
  unfold advanceStart
  split
  · exact ⟨_, Nat.le_refl _, rfl⟩
  · exact ⟨_, Nat.le_max_left _ _, rfl⟩

theorem advanceStart_of_not_ready {s : State} (h : s.kp.ready = false) : advanceStart s = s := by
  simp [advanceStart, h]

/-- What follows READY: exchanges, parallel steps and notices. -/
structure Onward (s t : State) : Prop where
  only : OnlyIn [.gl, .start, .mail, .out] s t
  still : Still s t
  start : ∃ n, s.start.step ≤ n ∧ t.start = { s.start with step := n }
  doorbells : s.noDoorbells → t.noDoorbells

theorem Onward.trans {s t u : State} (h : Onward s t) (k : Onward t u) : Onward s u := by
  obtain ⟨m, hm, ht⟩ := h.start
  obtain ⟨n, hn, hu⟩ := k.start
  refine ⟨h.only.trans k.only, h.still.trans k.still, ⟨n, ?_, ?_⟩, fun d => k.doorbells (h.doorbells d)⟩
  · rw [ht] at hn
    exact hm.trans hn
  · rw [hu, ht]

theorem onward_advanceStart (s : State) : Onward s (advanceStart s) := by
  obtain ⟨n, hn, he⟩ := advanceStart_step s
  rw [he]
  have ho := only_withStart s { s.start with step := n }
  exact ⟨ho.mono (by simp), still_of_only (ho.mono (by simp)), ⟨n, hn, rfl⟩, id⟩

theorem onward_exchangesBegun (s : State) : Onward s (exchangesBegun s) := by
  have ho := only_exchangesBegun s
  have hstart : (exchangesBegun s).start = s.start := ho .start (by decide)
  have hmail : (exchangesBegun s).mail = s.mail := ho .mail (by decide)
  exact ⟨ho.mono (by simp), Still.foldl _ (fun u n => still_startExchange n u) _ _, ⟨_, Nat.le_refl _, hstart⟩,
    fun h => by rwa [State.noDoorbells, hmail]⟩

theorem onward_readyAnnounced (words : List Word) (s : State) : Onward s (readyAnnounced words s) := by
  have ho := only_readyAnnounced words s
  exact ⟨ho.mono (by simp), still_of_only (ho.mono (by simp)), ⟨_, Nat.le_refl _, ho .start (by decide)⟩,
    noDoorbells_readyAnnounced⟩

theorem onward_setReady (i : BootImage) (s : State) : Onward (readied i s) (setReady i s) := by
  obtain ⟨words, he⟩ := setReady_eq i s
  rw [he]
  exact (onward_exchangesBegun _).trans ((onward_advanceStart _).trans (onward_readyAnnounced _ _))

theorem still_readied (i : BootImage) (s : State) : Still s (readied i s) :=
  ⟨rfl, rfl, fun _ h => .inl (List.mem_of_mem_filter h), rfl, rfl, rfl, rfl, fun _ => rfl, rfl, rfl⟩

/-! ### Answers of a row in a calm block -/

/-- A row whose effect opens no work answers that effect. -/
theorem Still.answers {s t : State} (h : Still s t) (hc : s.calm) (hl : t.mailServed = true → t.noDoorbells) :
    settled s t = .next { t with pending := s.pending } :=
  settled_calm (h.calm hc fun hm => (hl hm).looked)

/-- What the block is once READY is set in u with image i and what follows it is done. -/
structure Ready (i : BootImage) (u t : State) : Prop where
  kp : t.kp = (readied i u).kp
  plumb : t.plumb = (readied i u).plumb
  fuses : t.fuses = u.fuses
  parts : t.parts = u.parts
  start : ∃ n, 11 ≤ n ∧ t.start = { (readied i u).start with step := n }

/-- READY and what follows it is the row's whole answer. -/
theorem ready_answers {s u t : State} {i : BootImage} (hc : s.calm) (hs : Still s u) (hd : u.noDoorbells)
    (h : Onward (readied i u) t) : ∃ v, settled s t = .next v ∧ Ready i u v := by
  refine ⟨_, (hs.trans ((still_readied i u).trans h.still)).answers hc fun _ => h.doorbells hd, ?_⟩
  exact ⟨h.only .kp (by decide), h.only .plumb (by decide), h.only .fuses (by decide), h.only .parts (by decide), h.start⟩

/-! ### COLD_START -/

/-- The core domains powered and the root found in range: steps 1 and 2 of a cold start (R459). -/
def rootFound (s : State) : State :=
  let t := (powerOn 1 s).draw
  { t.2 with start := { t.2.start with rootOk := true, rootCount := 31094 + t.1 % 313, rootGood := 3 } }

/-- Step 3 with the purlin's channels as the start found them. -/
def purlinMatched (f : StartFindings) (s : State) : State :=
  { rootFound s with start := { (rootFound s).start with purlin := f.purlinA } }

/-- Step 3 with a channel unmatched: the core domains stay in reset. -/
def purlinUnmatched (s : State) : State :=
  { rootFound s with start := { (rootFound s).start with inReset := true, purlin := [] } }

theorem coldStart_of_matched {f : StartFindings} {s : State} (ha : s.start.pwrAon = false)
    (hb : badChannel f.purlinA f.purlinB = none) : coldStart f s = fuseStep true f (purlinMatched f s) := by
  simp [coldStart, ha, hb, rootFound, purlinMatched]

theorem coldStart_of_unmatched {f : StartFindings} {s : State} {c : Nat} (ha : s.start.pwrAon = false)
    (hb : badChannel f.purlinA f.purlinB = some c) : coldStart f s = stopStart 3 0x00 0 c (purlinUnmatched s) := by
  simp [coldStart, ha, hb, rootFound, purlinUnmatched]

theorem only_rootFound_withStart (s : State) (x : Start) : OnlyIn [.start, .fresh] s { rootFound s with start := x } :=
  ((only_draw s).mono (by simp)).trans ((only_withStart s.draw.2 x).mono (by simp))

/-- The state in which a cold start waits for its image. -/
def coldStarted (f : StartFindings) (x : Fuses) (s : State) : State :=
  awaitingGo (tested true { purlinMatched f s with fuses := x })

theorem only_coldStarted (f : StartFindings) (x : Fuses) (s : State) :
    OnlyIn [.start, .fuses, .sill, .fresh] s (coldStarted f x s) := by
  have hmatched : OnlyIn [.start, .fresh] s (purlinMatched f s) := only_rootFound_withStart s _
  have hfuses := only_withFuses (purlinMatched f s) x
  have htested := only_tested true { purlinMatched f s with fuses := x }
  exact (hmatched.mono (by simp)).trans ((hfuses.mono (by simp)).trans
    ((htested.mono (by simp)).trans ((only_awaitingGo _).mono (by simp))))

theorem coldStart_eq {f : StartFindings} {s : State} {lc : LcState} {b : Fuses} (ha : s.start.pwrAon = false)
    (hb : badChannel f.purlinA f.purlinB = none) (hi : s.start.image = none) (hr : resolveLc s = .state lc) (he : lc ≠ .endOfLife)
    (hf : rsBanks { s.fuses with vpp := f.vppFuse } (decide (lc = .blank)) f.rsCheckAOk f.rsCheckBOk = some b)
    (hu : f.failedUnits = []) (hg : f.failedEngines = []) : coldStart f s = coldStarted f { b with lc := lc } s :=
  have hres : resolveLc (purlinMatched f s) = .state lc := (resolveLc_congr rfl rfl).trans hr
  calc coldStart f s
    _ = fuseStep true f (purlinMatched f s) := coldStart_of_matched ha hb
    _ = testsStep true f { purlinMatched f s with fuses := { b with lc := lc } } := fuseStep_of_resolved hres he hf
    _ = imageStep (tested true { purlinMatched f s with fuses := { b with lc := lc } }) := testsStep_of_passed hu hg
    _ = coldStarted f { b with lc := lc } s := imageStep_of_none hi

theorem exec_coldStart_of_matched {f : StartFindings} {s : State} {x : Fuses} (hc : s.calm) (hd : s.noDoorbells)
    (h : coldStart f s = coldStarted f x s) : exec (.coldStart f) s = .next { coldStarted f x s with pending := s.pending } := by
  change settled s (coldStart f s) = _
  rw [h]
  exact (still_of_only ((only_coldStarted f x s).mono (by simp))).answers hc fun _ => hd

theorem exec_coldStart_of_unmatched {f : StartFindings} {s : State} {c : Nat} (hc : s.calm) (ha : s.start.pwrAon = false)
    (hb : badChannel f.purlinA f.purlinB = some c) :
    ∃ t, exec (.coldStart f) s = .next t ∧ t.start = (stoppedAt 3 (purlinUnmatched s)).start ∧ t.fuses = s.fuses := by
  have hl := logged_stopStart (src := 0) (by decide) 3 0 c (purlinUnmatched s)
  have hu : OnlyIn [.start, .fresh] s (stoppedAt 3 (purlinUnmatched s)) := only_rootFound_withStart s _
  have hstart := hl.only .start (by decide)
  change ∃ t, settled s (coldStart f s) = .next t ∧ _
  rw [coldStart_of_unmatched ha hb]
  refine ⟨_, ((still_of_only (hu.mono (by simp))).trans hl.still).answers hc fun hm => ?_, hstart, hl.only .fuses (by decide)⟩
  have hup : (stopStart 3 0 0 c (purlinUnmatched s)).up = false := by
    rw [State.up, hstart]
    simp [stoppedAt, purlinUnmatched]
  simp [State.mailServed, hup] at hm

/-! ### WARM_START -/

/-- The core domains powered after a chip reset or out of L3, with the PCS coefficients kept (R461). -/
def warmPowered (s : State) : State :=
  powerOn 2 { s with damper := { s.damper with lstate := .l0, moving := none }, start := { s.start with pcsKept := true } }

theorem only_warmPowered (s : State) : OnlyIn [.start, .damper] s (warmPowered s) := only_withStartDamper s _ _

theorem warmStart_of_reset {f : StartFindings} {s : State} (ha : s.start.pwrAon = true) (hr : s.start.inReset = true)
    (ht : s.start.trayReq = false) (hw : s.start.rootWait = false)
    (hg : s.plumb.rungs.any (fun x => x.rung = .chip && x.begun) = true) (hp : f.pcsCoefficientsLost = false)
    (hn : s.start.purlin ≠ []) : warmStart f s = fuseStep false f (warmPowered s) := by
  have he : ¬(warmPowered s).start.purlin.isEmpty = true := by simpa [warmPowered, powerOn] using hn
  unfold warmStart
  dsimp only
  rw [if_neg (by simp [ha, hr, ht, hw, hg]), hp]
  exact if_neg he

/-- The state in which a warm start of a block with a kept image has passed its tests. -/
def warmPassed (x : Fuses) (s : State) : State := tested false { warmPowered s with fuses := x }

theorem only_warmPassed (x : Fuses) (s : State) : OnlyIn [.damper, .start, .fuses, .sill] s (warmPassed x s) :=
  ((only_warmPowered s).mono (by simp)).trans
    (((only_withFuses (warmPowered s) x).mono (by simp)).trans ((only_tested false _).mono (by simp)))

theorem warmStart_eq {f : StartFindings} {s : State} {lc : LcState} {b : Fuses} {i : BootImage}
    (hs : warmStart f s = fuseStep false f (warmPowered s)) (hi : s.start.image = some i) (hl : s.start.reload = false)
    (hr : resolveLc s = .state lc) (he : lc ≠ .endOfLife)
    (hf : rsBanks { s.fuses with vpp := f.vppFuse } (decide (lc = .blank)) f.rsCheckAOk f.rsCheckBOk = some b)
    (hu : f.failedUnits = []) (hg : f.failedEngines = []) : warmStart f s = setReady i (warmPassed { b with lc := lc } s) :=
  have hres : resolveLc (warmPowered s) = .state lc := (resolveLc_congr rfl rfl).trans hr
  calc warmStart f s
    _ = fuseStep false f (warmPowered s) := hs
    _ = testsStep false f { warmPowered s with fuses := { b with lc := lc } } := fuseStep_of_resolved hres he hf
    _ = imageStep (warmPassed { b with lc := lc } s) := testsStep_of_passed hu hg
    _ = setReady i (warmPassed { b with lc := lc } s) := imageStep_of_kept hi hl

theorem exec_warmStart {f : StartFindings} {s : State} {i : BootImage} {x : Fuses} (hc : s.calm) (hd : s.noDoorbells)
    (h : warmStart f s = setReady i (warmPassed x s)) :
    ∃ t, exec (.warmStart f) s = .next t ∧ Ready i (warmPassed x s) t := by
  have ho := only_warmPassed x s
  have hm : (warmPassed x s).mail = s.mail := ho .mail (by decide)
  change ∃ t, settled s (warmStart f s) = .next t ∧ _
  rw [h]
  exact ready_answers hc (still_of_only (ho.mono (by simp))) (by rwa [State.noDoorbells, hm]) (onward_setReady _ _)

/-! ### IMAGE_FETCH -/

/-- An image that the ROM does not take leaves its reason in BOOT_STATE (R463). -/
def imageRefused (reason : Nat) (s : State) : State :=
  { s with start := { s.start with reload := false, waiting := false, image := none, bootState := reason } }

/-- SVN_MIN as an image that is taken leaves it (R328). -/
def svnMinAfter (i : BootImage) (s : State) : Nat :=
  if i.commitSvn && s.fuses.vpp then max s.fuses.svnMin i.svn else s.fuses.svnMin

/-- An image that the ROM takes is in code memory, and SVN_MIN follows it (R328). -/
def imageTaken (i : BootImage) (s : State) : State :=
  { s with start := { s.start with reload := false, waiting := false, image := some i }
           fuses := { s.fuses with svnMin := svnMinAfter i s } }

theorem imageFetch_of_malformed {i : BootImage} {s : State} (ha : s.awaitsImage = true) (hg : s.start.go = true)
    (hb : (i.formatOk && i.sigsOk && decide (i.svn ≤ 64)) = false) : imageFetch i s = imageRefused 4 s := by
  have hbad : (!i.formatOk || !i.sigsOk || decide (64 < i.svn)) = true := by
    simpa only [Bool.or_eq_true, Bool.not_eq_true', decide_eq_true_eq, Bool.and_eq_false_iff, decide_eq_false_iff_not, Nat.not_le]
      using hb
  unfold imageFetch
  rw [if_neg (by simp [ha, hg])]
  exact if_pos hbad

theorem imageFetch_of_rolledBack {i : BootImage} {s : State} (ha : s.awaitsImage = true) (hg : s.start.go = true)
    (hf : i.formatOk = true) (hs : i.sigsOk = true) (hl : i.svn ≤ 64) (hv : i.svn < s.fuses.svnMin) :
    imageFetch i s = imageRefused 5 s := by
  simp [imageFetch, ha, hg, hf, hs, Nat.not_lt.mpr hl, hv, imageRefused]

theorem imageFetch_of_good {i : BootImage} {s : State} (ha : s.awaitsImage = true) (hg : s.start.go = true)
    (hf : i.formatOk = true) (hs : i.sigsOk = true) (hl : i.svn ≤ 64) (hv : s.fuses.svnMin ≤ i.svn) :
    imageFetch i s = setReady i (imageTaken i s) := by
  simp [imageFetch, ha, hg, hf, hs, Nat.not_lt.mpr hl, Nat.not_lt.mpr hv, imageTaken, svnMinAfter]

theorem not_ready_of_awaitsImage {s : State} (h : s.awaitsImage = true) : s.kp.ready = false := by
  simp only [State.awaitsImage, Bool.and_eq_true, Bool.not_eq_true'] at h
  tauto

theorem exec_imageFetch_refused {i : BootImage} {s : State} {reason : Nat} (hc : s.calm) (ha : s.awaitsImage = true)
    (h : imageFetch i s = imageRefused reason s) :
    exec (.imageFetch i) s = .next { imageRefused reason s with pending := s.pending } := by
  have ho : OnlyIn [.start] s (imageRefused reason s) := only_withStart s _
  have hr : (imageRefused reason s).kp.ready = false := not_ready_of_awaitsImage ha
  change settled s (advanceStart (imageFetch i s)) = _
  rw [h, advanceStart_of_not_ready hr]
  exact settled_calm ((quiet_of_only (ho.mono (by simp)) rfl).calm hc)

theorem exec_imageFetch_taken {i : BootImage} {s : State} (hc : s.calm) (hd : s.noDoorbells)
    (h : imageFetch i s = setReady i (imageTaken i s)) :
    ∃ t, exec (.imageFetch i) s = .next t ∧ Ready i (imageTaken i s) t := by
  have ho : OnlyIn [.start, .fuses] s (imageTaken i s) :=
    only_withStartFuses s _ _
  change ∃ t, settled s (advanceStart (imageFetch i s)) = .next t ∧ _
  rw [h]
  exact ready_answers hc (still_of_only (ho.mono (by simp))) hd ((onward_setReady _ _).trans (onward_advanceStart _))

/-! ### BOOT_GO_WRITE (R465) -/

/-- The boot register's fields as a write gives them; a start that awaits its image waits while GO is clear. -/
def bootSet (v : Nat) (waiting : Bool) (s : State) : State :=
  { s with start := { s.start with bootLen := bitsOf v 0 9, go := bitOf v 9, reload := bitOf v 10, waiting := waiting } }

theorem bootCtrlWrite_idle {s : State} (v : Nat) (h1 : s.start.bootState ≠ 1) (h2 : s.start.bootState ≠ 2) :
    ∃ waiting, bootCtrlWrite v s = bootSet v waiting s := by
  unfold bootCtrlWrite
  rw [if_neg (by simp [h1, h2])]
  dsimp only
  split
  · exact ⟨_, rfl⟩
  · exact ⟨_, rfl⟩

theorem exec_bootGoWrite {s : State} (v : Word) (hc : s.calm) (hu : s.up = true) (h1 : s.start.bootState ≠ 1)
    (h2 : s.start.bootState ≠ 2) :
    ∃ waiting, exec (.bootGoWrite v) s = .next { bootSet v.toNat waiting s with pending := s.pending } := by
  obtain ⟨waiting, h⟩ := bootCtrlWrite_idle v.toNat h1 h2
  have ho : OnlyIn [.start] s (bootSet v.toNat waiting s) := only_withStart s _
  refine ⟨waiting, ?_⟩
  change settled s (if s.up then bootCtrlWrite v.toNat s else s) = _
  rw [if_pos hu, h]
  exact settled_calm ((quiet_of_only (ho.mono (by simp)) rfl).calm hc)

/-! ### VPP_FUSE_RECHECK (R470) -/

/-- VPP_FUSE as the recheck finds it. -/
def vppSeen (present : Bool) (s : State) : State := { s with fuses := { s.fuses with vpp := present } }

theorem vppFuseRecheck_absent {s : State} (hu : s.up = true) (hw : s.fuses.rollWaiting = true) :
    vppFuseRecheck false s = vppSeen false s := by
  simp [vppFuseRecheck, hu, hw, vppSeen]

theorem vppFuseRecheck_present {s : State} {k : Nat} {f : StartFindings} (hu : s.up = true) (hw : s.fuses.rollWaiting = true)
    (hr : resolveLc s = .roll k) (hf : s.start.findings = some f) :
    vppFuseRecheck true s = rollForward (s.start.kind = 1) k f (vppSeen true s) := by
  have hres : resolveLc { s with fuses := { s.fuses with vpp := true } } = .roll k := (resolveLc_congr rfl rfl).trans hr
  unfold vppFuseRecheck
  rw [if_neg (by simp [hu, hw])]
  simp only [hres, hf, vppSeen]

/-- Both rows of transition k + 1 are programmed, and the block is in its target state (R470). -/
def rolled (k : Nat) (s : State) : State :=
  { s with
    fuses := { s.fuses with
      vpp := true, intent := s.fuses.intent.set k 32, completion := s.fuses.completion.set k 32, lc := lcOf (k + 1)
      rollWaiting := false }
    start := { s.start with waiting := false } }

/-- The state in which a start whose transition is complete waits for its image. -/
def rolledStarted (k : Nat) (s : State) : State := awaitingGo (tested (s.start.kind = 1) (rolled k s))

theorem only_rolledStarted (k : Nat) (s : State) : OnlyIn [.fuses, .start, .sill] s (rolledStarted k s) := by
  have hrolled : OnlyIn [.start, .fuses] s (rolled k s) := only_withStartFuses s _ _
  have htested := only_tested (s.start.kind = 1) (rolled k s)
  exact (hrolled.mono (by simp)).trans ((htested.mono (by simp)).trans ((only_awaitingGo _).mono (by simp)))

theorem vppFuseRecheck_rolls {s : State} {k : Nat} {f : StartFindings} (hu : s.up = true) (hw : s.fuses.rollWaiting = true)
    (hr : resolveLc s = .roll k) (hk : k < 2) (hf : s.start.findings = some f) (hfu : f.failedUnits = [])
    (hfe : f.failedEngines = []) (hi : s.start.image = none) : vppFuseRecheck true s = rolledStarted k s :=
  calc vppFuseRecheck true s
    _ = rollForward (s.start.kind = 1) k f (vppSeen true s) := vppFuseRecheck_present hu hw hr hf
    _ = testsStep (s.start.kind = 1) f (rolled k s) := rollForward_of_vpp rfl hk
    _ = imageStep (tested (s.start.kind = 1) (rolled k s)) := testsStep_of_passed hfu hfe
    _ = rolledStarted k s := imageStep_of_none hi

/-- A recheck that ends in the start or the fuses answers just that. -/
theorem exec_vppFuseRecheck {present : Bool} {s t : State} (hc : s.calm) (h : vppFuseRecheck present s = t)
    (ho : OnlyIn [.fuses, .start, .sill] s t) (hu : t.up = s.up) :
    exec (.vppFuseRecheck present) s = .next { t with pending := s.pending } := by
  change settled s (vppFuseRecheck present s) = _
  rw [h]
  exact settled_calm ((quiet_of_only ho hu).calm hc)

/-- Settles O49: each row is led to the state its steps reach, which has nothing of its own to do. -/
theorem startsRunTheirSteps : Obligations.StartsRunTheirSteps := by
  refine ⟨?cold, ?warm, ?image, ?boot, ?vpp⟩
  case cold =>
    intro f s lc b hc hd ha
    refine ⟨fun hb hi hr he hf hu hg => ?_, fun c hb => ?_⟩
    · exact ⟨_, exec_coldStart_of_matched hc hd (coldStart_eq ha hb hi hr he hf hu hg), rfl, rfl, rfl, rfl, rfl, rfl, rfl, rfl,
        (only_coldStarted f _ s).queue _⟩
    · obtain ⟨t, ht, hstart, hfuses⟩ := exec_coldStart_of_unmatched hc ha hb
      exact ⟨t, ht, by rw [hstart]; rfl, by rw [hstart]; rfl, by rw [hstart]; rfl, hfuses⟩
  case warm =>
    intro f s lc b i hc hd ha hir htr hrw hrung hp hpurlin hi hl hr he hf hu hg
    obtain ⟨t, ht, h⟩ := exec_warmStart hc hd
      (warmStart_eq (warmStart_of_reset ha hir htr hrw hrung hp hpurlin) hi hl hr he hf hu hg)
    obtain ⟨n, hn, hstart⟩ := h.start
    refine ⟨t, ht, ?up, by rw [h.kp]; rfl, by rw [h.kp]; rfl, h.fuses, by rw [hstart]; rfl, by rw [hstart]; rfl,
      by rw [hstart]; exact hn, by rw [h.plumb]; rfl, ?rungs, h.parts⟩
    case up => rw [State.up, hstart]; rfl
    case rungs =>
      rw [h.plumb]
      simp [readied]
  case image =>
    intro i s hc hd ha hg
    refine ⟨fun hb => ?_, fun hf hs hl => ⟨fun hv => ?_, fun hv => ?_⟩⟩
    · exact ⟨_, exec_imageFetch_refused hc ha (imageFetch_of_malformed ha hg hb), rfl, rfl, (only_withStart s _).queue _⟩
    · exact ⟨_, exec_imageFetch_refused hc ha (imageFetch_of_rolledBack ha hg hf hs hl hv), rfl, rfl,
        (only_withStart s _).queue _⟩
    · obtain ⟨t, ht, h⟩ := exec_imageFetch_taken hc hd (imageFetch_of_good ha hg hf hs hl hv)
      obtain ⟨n, hn, hstart⟩ := h.start
      exact ⟨t, ht, by rw [h.kp]; rfl, by rw [h.kp]; rfl, by rw [hstart]; rfl, by rw [hstart]; rfl, by rw [hstart]; exact hn,
        by rw [h.fuses]; rfl, by rw [h.kp]; rfl⟩
  case boot =>
    intro v s hc hu h1 h2
    obtain ⟨waiting, h⟩ := exec_bootGoWrite v hc hu h1 h2
    exact ⟨_, h, rfl, rfl, rfl, rfl, (only_withStart s _).queue _⟩
  case vpp =>
    intro s hc hu hw
    refine ⟨?absent, fun k f hr hk hf hfu hfe hi => ?present⟩
    case absent =>
      have ho : OnlyIn [.fuses] s (vppSeen false s) := only_withFuses s _
      exact ⟨_, exec_vppFuseRecheck hc (vppFuseRecheck_absent hu hw) (ho.mono (by simp)) rfl, rfl, ho.queue _⟩
    case present =>
      exact ⟨_, exec_vppFuseRecheck hc (vppFuseRecheck_rolls hu hw hr hk hf hfu hfe hi) (only_rolledStarted k s) rfl, rfl, rfl, rfl,
        rfl, rfl, (only_rolledStarted k s).queue _⟩

end Sys2Proof.Machine
end

section
/-! PROOFS. Rings (03 R61 to R69): what a ring's registers hold after each write, and what fetches and completions do. -/

namespace Sys2Proof.Machine

/-! ### Answers -/

/-- In a calm block a quiet effect is a row's whole answer. -/
theorem settled_quiet {s t : State} (hc : s.calm) (hq : Quiet s t) (hp : t.pending = s.pending) : settled s t = .next t := by
  rw [settled_calm (hq.calm hc), ← hp]

/-! ### A ring's registers -/

/-- The ring's partition has a record. -/
def State.hasRing (s : State) (ring : RingId) : Prop := ∀ p, ring = .part p → p < s.parts.length

theorem State.hasRing_of_exists {s : State} {ring : RingId} (h : ∀ p, ring = .part p → p < 16 ∧ p < s.parts.length) :
    s.hasRing ring := fun p hp => (h p hp).2

theorem ringExists_of_exists {s : State} {ring : RingId} (h : ∀ p, ring = .part p → p < 16 ∧ p < s.parts.length) :
    ringExists ring = true := by
  cases ring with
  | part p => simp [ringExists, (h p rfl).1]
  | mgmt => rfl

@[simp] theorem ringOf_modRing {s : State} {ring : RingId} (f : RingRegs → RingRegs) (h : s.hasRing ring) :
    (s.modRing ring f).ringOf ring = f (s.ringOf ring) := by
  cases ring with
  | part p => simp [State.modRing, State.modPart, State.ringOf, State.part, h p rfl]
  | mgmt => rfl

@[simp] theorem State.modRing_pending (s : State) (ring : RingId) (f : RingRegs → RingRegs) :
    (s.modRing ring f).pending = s.pending := by
  cases ring <;> rfl

@[simp] theorem hasRing_modRing {s : State} {ring : RingId} (f : RingRegs → RingRegs) :
    (s.modRing ring f).hasRing ring ↔ s.hasRing ring := by
  cases ring <;> simp [State.hasRing, State.modRing, State.modPart]

/-! ### Events that a ring's rules count (R68) -/

@[simp] theorem ringOf_countRing (s : State) (ring : RingId) : (countRing ring s).ringOf ring = s.ringOf ring := by
  cases ring with
  | part p =>
    simp only [countRing, countPartMalformed, State.modView, State.modPart, State.ringOf, State.part, List.getD_eq_getElem?_getD,
      List.getElem?_modify]
    cases s.parts[p]? <;> simp
  | mgmt => rfl

@[simp] theorem countRing_cmds (s : State) (ring : RingId) : (countRing ring s).cmds = s.cmds := by
  cases ring <;> rfl

@[simp] theorem countRing_pending (s : State) (ring : RingId) : (countRing ring s).pending = s.pending := by
  cases ring <;> rfl

theorem hasRing_countRing {s : State} {ring : RingId} (h : s.hasRing ring) : (countRing ring s).hasRing ring := by
  rintro p rfl
  simpa [countRing, countPartMalformed, State.modView] using h p rfl

theorem quiet_countRing (s : State) (ring : RingId) : Quiet s (countRing ring s) := by
  cases ring with
  | part p => exact quiet_countPartMalformed s p
  | mgmt => exact quiet_countMalformed s

theorem only_countRing (s : State) (ring : RingId) : OnlyIn [.parts, .vs] s (countRing ring s) := by
  cases ring with
  | part p => exact (only_countPartMalformed s p).mono (by simp)
  | mgmt => exact (only_countMalformed s).mono (by simp)

/-! ### Accesses that reach a ring (R371, R407, R533) -/

/-- A row that writes a ring through an access that reaches it, and whose effect is quiet, answers just that effect. -/
theorem settled_ringVia {s t : State} {via : Access} {ring : RingId} {f : State → State} (hc : s.calm) (hu : s.up = true)
    (he : ∀ p, ring = .part p → p < 16 ∧ p < s.parts.length)
    (hg : ∀ p, ring = .part p → viewGate via p s = none ∧ ∀ q, via = .vf q → q = p) (hm : ring = .mgmt → ∀ q, via ≠ .vf q)
    (hf : f s = t) (hq : Quiet s t) (hp : t.pending = s.pending) : settled s (ringVia via ring s f) = .next t := by
  have hr : ringVia via ring s f = f s := by
    cases ring with
    | mgmt =>
      cases via with
      | vf q => exact absurd rfl (hm rfl q)
      | pf | tap => simp [ringVia, hu]
    | part p =>
      obtain ⟨hgate, hown⟩ := hg p rfl
      have h16 : ¬ 16 ≤ p := by have := (he p rfl).1; omega
      cases via with
      | vf q =>
        obtain rfl := hown q rfl
        simp [ringVia, hu, hgate]
      | pf | tap => simp [ringVia, hu, hgate, h16]
  rw [hr, hf]
  exact settled_quiet hc hq hp

/-! ### TAIL and HEAD (R68, R69) -/

theorem writeTail_of_beyond {s : State} {ring : RingId} {v : Nat}
    (h : 2 ^ (s.ringOf ring).sqLog2 < (v % 65536 + 65536 - (s.ringOf ring).sqHead) % 65536) :
    writeTail ring v s = countRing ring (s.modRing ring (fun q => { q with badTail := true })) := if_pos h

theorem writeTail_of_within {s : State} {ring : RingId} {v : Nat}
    (h : (v % 65536 + 65536 - (s.ringOf ring).sqHead) % 65536 ≤ 2 ^ (s.ringOf ring).sqLog2) :
    writeTail ring v s = s.modRing ring (fun q => { q with sqTail := v % 65536 }) := if_neg (Nat.not_lt.mpr h)

/-- The state in which the completion HEAD has been taken. -/
def headTaken (ring : RingId) (v : Nat) (s : State) : State := s.modRing ring (fun q => { q with cqHead := v % 65536 })

/-- Fetching may resume (R69). -/
def fetchResumed (ring : RingId) (s : State) : State := s.modRing ring (fun q => { q with fetchStopped := false })

theorem writeHead_cases (ring : RingId) (v : Nat) (s : State) :
    (writeHead ring v s = fetchResumed ring (headTaken ring v s)) ∨
      ((headTaken ring v s).ringRoom ring = false ∧ writeHead ring v s = headTaken ring v s) := by
  cases h : (headTaken ring v s).ringRoom ring with
  | true => exact .inl (if_pos h)
  | false => exact .inr ⟨rfl, if_neg (by simpa [headTaken] using h)⟩

/-! ### Depths and ENABLE (R63, R73) -/

/-- An event counted where it has occurred. -/
def countRingIf (b : Bool) (ring : RingId) (s : State) : State := if b then countRing ring s else s

/-- The depth a write of the ring control leaves: RWL fields of a sealed partition keep theirs (R7). -/
def depthAfter (locked : Bool) (old new : Nat) : Nat := if locked then old else new

/-- ENABLE as a write of the ring control leaves it (R63). -/
def enableAfter (v sq cq : Nat) : Bool := bitOf v 8 && !(bitOf v 8 && (sq < 6 || cq < 6))

/-- The registers of the ring control as a write leaves them. -/
def controlAfter (locked : Bool) (v : Nat) (q : RingRegs) : RingRegs :=
  let sq := depthAfter locked q.sqLog2 (bitsOf v 0 4)
  let cq := depthAfter locked q.cqLog2 (bitsOf v 4 4)
  { q with sqLog2 := sq, cqLog2 := cq, enable := enableAfter v sq cq }

/-- A ring with the control register of another. -/
def withControl (c q : RingRegs) : RingRegs := { q with sqLog2 := c.sqLog2, cqLog2 := c.cqLog2, enable := c.enable }

/-- The management ring's sequence starts (R73). -/
def mgmtBegun (b : Bool) (s : State) : State := if b then { s with cmds := { s.cmds with mgmtExpected := 0 } } else s

theorem enableAfter_eq (v sq cq : Nat) : enableAfter v sq cq = (bitOf v 8 && 6 ≤ sq && 6 ≤ cq) := by
  cases h : bitOf v 8 with
  | false => simp [enableAfter, h]
  | true => simp [enableAfter, h, ← decide_not]

section control
variable {s : State} {ring : RingId}

theorem ringOf_countRingIf (b : Bool) : (countRingIf b ring s).ringOf ring = s.ringOf ring := by
  cases b with
  | false => rfl
  | true => exact ringOf_countRing s ring

theorem hasRing_countRingIf (b : Bool) (h : s.hasRing ring) : (countRingIf b ring s).hasRing ring := by
  cases b with
  | false => exact h
  | true => exact hasRing_countRing h

theorem countRingIf_cmds (b : Bool) : (countRingIf b ring s).cmds = s.cmds := by
  cases b with
  | false => rfl
  | true => exact countRing_cmds s ring

theorem countRingIf_pending (b : Bool) : (countRingIf b ring s).pending = s.pending := by
  cases b with
  | false => rfl
  | true => exact countRing_pending s ring

theorem quiet_countRingIf (b : Bool) : Quiet s (countRingIf b ring s) := by
  cases b with
  | false => exact Quiet.rfl
  | true => exact quiet_countRing s ring

theorem only_countRingIf (b : Bool) : OnlyIn [.parts, .vs] s (countRingIf b ring s) := by
  cases b with
  | false => exact OnlyIn.refl _ _
  | true => exact only_countRing s ring

theorem only_withCmds (s : State) (x : Cmds) : OnlyIn [.cmds] s { s with cmds := x } := by
  intro g hg
  cases g with
  | cmds => exact absurd (by simp) hg
  | _ => rfl

theorem ringOf_mgmtBegun (b : Bool) : (mgmtBegun b s).ringOf ring = s.ringOf ring := by
  cases b <;> cases ring <;> rfl

theorem mgmtBegun_pending (b : Bool) : (mgmtBegun b s).pending = s.pending := by
  cases b <;> rfl

theorem quiet_mgmtBegun (b : Bool) : Quiet s (mgmtBegun b s) := by
  cases b with
  | false => exact Quiet.rfl
  | true => exact ⟨rfl, rfl, rfl, rfl, rfl, rfl, rfl, rfl, rfl, fun _ hx => .inl hx, id, rfl⟩

theorem only_mgmtBegun (b : Bool) : OnlyIn [.cmds] s (mgmtBegun b s) := by
  cases b with
  | false => exact OnlyIn.refl _ _
  | true => exact only_withCmds s _

/-- A write of the ring control: its fields are taken, and what is ignored is counted. -/
structure Controlled (ring : RingId) (v : Nat) (s t : State) : Prop where
  regs : t.ringOf ring = controlAfter (s.ringLocked ring) v (s.ringOf ring)
  begun : ring = .mgmt → (s.ringOf ring).enable = false → (t.ringOf ring).enable = true → t.cmds.mgmtExpected = 0
  quiet : Quiet s t
  only : OnlyIn [.parts, .cmds, .vs] s t
  pending : t.pending = s.pending

/-- A write of the ring control, step by step: a change of RWL depths is counted, the fields are taken, the management ring's
sequence starts, and an ENABLE over depths below 6 is counted. -/
theorem writeRingCtrl_eq (ring : RingId) (v : Nat) (s : State) : ∃ ignored bad : Bool,
    (controlAfter (s.ringLocked ring) v (s.ringOf ring)).enable = (bitOf v 8 && !bad) ∧
      writeRingCtrl ring v s = countRingIf bad ring (mgmtBegun (ring = .mgmt && !(s.ringOf ring).enable && bitOf v 8 && !bad)
        ((countRingIf ignored ring s).modRing ring
          (withControl (controlAfter (s.ringLocked ring) v (s.ringOf ring))))) := ⟨_, _, rfl, rfl⟩

theorem controlled_writeRingCtrl (v : Nat) (h : s.hasRing ring) : Controlled ring v s (writeRingCtrl ring v s) := by
  obtain ⟨ignored, bad, henable, he⟩ := writeRingCtrl_eq ring v s
  have hregs : (writeRingCtrl ring v s).ringOf ring = controlAfter (s.ringLocked ring) v (s.ringOf ring) := by
    rw [he, ringOf_countRingIf, ringOf_mgmtBegun, ringOf_modRing _ (hasRing_countRingIf _ h), ringOf_countRingIf]
    rfl
  refine ⟨hregs, fun hm hd ht => ?begun, ?quiet, ?only, ?pending⟩
  case begun =>
    rw [hregs, henable, Bool.and_eq_true] at ht
    obtain ⟨hset, hgood⟩ := ht
    have hbegins : (decide (ring = .mgmt) && !(s.ringOf ring).enable && bitOf v 8 && !bad) = true := by
      rw [hd, hset, hgood]
      simp [hm]
    rw [he, countRingIf_cmds, hbegins]
    rfl
  case quiet =>
    rw [he]
    exact (quiet_countRingIf _).trans ((quiet_modRing _ _ _).trans ((quiet_mgmtBegun _).trans (quiet_countRingIf _)))
  case only =>
    rw [he]
    exact ((only_countRingIf _).mono (by simp)).trans (((only_modRing _ _ _).mono (by simp)).trans
      (((only_mgmtBegun _).mono (by simp)).trans ((only_countRingIf _).mono (by simp))))
  case pending => rw [he, countRingIf_pending, mgmtBegun_pending, State.modRing_pending, countRingIf_pending]

end control

/-- Settles O7: each write through an access that reaches its ring is quiet, and the ring holds what its rule gives it. -/
theorem ringPointersAndEnableAreWritten : Obligations.RingPointersAndEnableAreWritten := by
  refine ⟨fun via ring v s hc hu he hg hm => ⟨fun hbeyond => ?beyond, fun hwithin => ?within, ?head⟩,
    fun via ring v s hc hu he hg hm => ?control⟩
  case beyond =>
    have hring := State.hasRing_of_exists he
    refine ⟨_, settled_ringVia hc hu he hg hm (writeTail_of_beyond hbeyond) ((quiet_modRing _ _ _).trans (quiet_countRing _ _))
      (by simp), by simp [hring], by simp [hring], ?_⟩
    exact ((only_modRing _ _ _).mono (by simp)).trans ((only_countRing _ _).mono (by simp))
  case within =>
    exact ⟨_, settled_ringVia hc hu he hg hm (writeTail_of_within hwithin) (quiet_modRing _ _ _) (by simp),
      by simp [State.hasRing_of_exists he], only_modRing _ _ _⟩
  case head =>
    have hring := State.hasRing_of_exists he
    have htaken : (headTaken ring v s).hasRing ring := by simpa [headTaken] using hring
    rcases writeHead_cases ring v s with hw | ⟨hroom, hw⟩
    · refine ⟨_, settled_ringVia hc hu he hg hm hw ((quiet_modRing _ _ _).trans (quiet_modRing _ _ _))
        (by simp [fetchResumed, headTaken]), ?_⟩
      rw [fetchResumed, ringOf_modRing _ htaken, headTaken, ringOf_modRing _ hring]
      exact ⟨rfl, rfl, rfl, fun _ => rfl, (only_modRing _ _ _).trans (only_modRing _ _ _)⟩
    · refine ⟨_, settled_ringVia hc hu he hg hm hw (quiet_modRing _ _ _) (by simp [headTaken]), ?_⟩
      rw [hroom, headTaken, ringOf_modRing _ hring]
      exact ⟨rfl, rfl, rfl, fun h => absurd h (by simp), only_modRing _ _ _⟩
  case control =>
    have h := controlled_writeRingCtrl v.toNat (State.hasRing_of_exists he)
    refine ⟨_, settled_ringVia hc hu he hg hm rfl h.quiet h.pending, fun hl => ?_, fun hl => ?_, ?_, h.begun, h.only⟩
    · rw [h.regs, hl]
      exact ⟨rfl, rfl⟩
    · rw [h.regs, hl]
      exact ⟨rfl, rfl⟩
    · rw [h.regs]
      exact enableAfter_eq _ _ _

/-! ### RING_FETCH (R68, R69, R71) -/

/-- The state in which an entry has been fetched. -/
def headMoved (ring : RingId) (s : State) : State :=
  s.modRing ring (fun q => { q with sqHead := (q.sqHead + 1) % 65536, fetchStopped := false })

/-- A fetched entry as a packet of its ring. -/
def entryOf (ring : RingId) (w : RawPacket) : RawPacket := { w with pkt := { w.pkt with src := ringSource ring } }

section fetch
variable {s : State} {ring : RingId} {w : RawPacket}

theorem ringFetch_of_room (hf : ringFetches ring s = true) (hn : (s.ringOf ring).sqUsed ≠ 0) (hr : s.ringRoom ring = true) :
    ringFetch ring [w] s = submitRaw (entryOf ring w) (headMoved ring s) := by
  simp only [ringFetch, List.take_succ_cons, List.take_nil, fetchEntries, hf, hr, hn, Bool.not_true, Bool.false_or,
    decide_false, Bool.false_eq_true, if_false]
  cases ring <;> rfl

theorem ringFetch_of_noRoom (hf : ringFetches ring s = true) (hn : (s.ringOf ring).sqUsed ≠ 0) (hr : s.ringRoom ring = false) :
    ringFetch ring [w] s = s.modRing ring (fun q => { q with fetchStopped := true }) := by
  simp [ringFetch, fetchEntries, hf, hr, hn]

theorem up_of_ringFetches (h : ringFetches ring s = true) : s.up = true := by
  simp only [ringFetches, Bool.and_eq_true] at h
  exact h.1.1

@[simp] theorem State.modRing_up (f : RingRegs → RingRegs) : (s.modRing ring f).up = s.up := by
  cases ring <;> rfl

theorem heard_ringSource (h : s.hasRing ring) : heard (ringSource ring) s = true := by
  cases ring with
  | part p => simpa [heard] using h p rfl
  | mgmt => rfl

/-- A block that is up hears every packet of a ring that exists. -/
theorem submit_ringSource {op : Op} {p : Packet} {a : Aux} (hu : s.up = true) (hr : s.hasRing ring) (hs : p.src = ringSource ring) :
    submit op p a s = checkCmd op p a s := by
  have hh := heard_ringSource hr
  cases ring <;> simp_all [submit]

/-- An entry whose FMT is not 1 is refused as malformed, whatever it names (R71 step 1). -/
theorem submitRaw_of_wrongFmt (hu : s.up = true) (hr : s.hasRing ring) (hf : w.pkt.fmt ≠ 1) :
    ∃ r : CmdRef, r.src = ringSource ring ∧ r.seq = w.pkt.seq ∧
      submitRaw (entryOf ring w) s = refuseCmd r (stMalformed, 3) s := by
  unfold submitRaw
  cases hop : opOf (entryOf ring w).cls (entryOf ring w).opcode with
  | some op =>
    refine ⟨refOf op (entryOf ring w).pkt s, rfl, rfl, ?_⟩
    have he : earlyRefusal op (refOf op (entryOf ring w).pkt s) (entryOf ring w).pkt s = some (stMalformed, 3) := if_pos hf
    simp only [submit_ringSource hu hr (p := (entryOf ring w).pkt) rfl, checkCmd, he]
  | none =>
    have hh : heard (entryOf ring w).pkt.src s = true := heard_ringSource hr
    have hf' : (entryOf ring w).pkt.fmt ≠ 1 := hf
    exact ⟨{ refOf .send (entryOf ring w).pkt s with cls := (entryOf ring w).cls, op := (entryOf ring w).opcode }, rfl, rfl,
      by simp [hu, hh, hf']⟩

end fetch

/-! ### Replies in rings (R69) -/

section replies
variable {s : State} {ring : RingId}

@[simp] theorem State.emit_ringOf (o : Output) : (s.emit o).ringOf ring = s.ringOf ring := by
  cases ring <;> rfl

/-- A reply to a ring leaves the submission pointers alone. -/
theorem sqHead_ringReply (rep : Reply) (h : s.hasRing ring) : ((ringReply ring rep s).ringOf ring).sqHead = (s.ringOf ring).sqHead := by
  unfold ringReply writeCompletion
  dsimp only
  split <;> simp [ringOf_modRing _ h]

theorem ringReply_pending (rep : Reply) : (ringReply ring rep s).pending = s.pending := by
  unfold ringReply writeCompletion
  dsimp only
  split <;> simp

/-- A reply to a ring stands in it or has been written for the host. -/
theorem ringReply_given (rep : Reply) (h : s.hasRing ring) :
    (∃ i, .hostReply ring i rep ∈ (ringReply ring rep s).out) ∨ rep ∈ ((ringReply ring rep s).ringOf ring).held := by
  have hg : Given (ringSource ring) rep (deliver (ringSource ring) rep s) :=
    deliver_given (fun id hid => by cases ring <;> cases hid) (fun q hq => by cases ring <;> cases hq; exact h q rfl)
  cases ring <;> exact hg

theorem refuseCmd_ringSource {r : CmdRef} {e : Nat × Nat} (h : r.src = ringSource ring) :
    refuseCmd r e s = ringReply ring (replyOf r e.1 false (detailOf e.2) s) s := by
  unfold refuseCmd deliver
  rw [h]
  cases ring <;> rfl

end replies

theorem exec_ringFetch {s t : State} {ring : RingId} {w : RawPacket} (he : ringExists ring = true)
    (h : ringFetch ring [w] s = t) : exec (.ringFetch ring [w]) s = settled s t := by
  change settled s (if ringExists ring then ringFetch ring [w] s else s) = _
  rw [if_pos he, h]

/-! ### COMPLETION_WRITE (R69) -/

/-- The state in which the oldest held reply of a ring has been written. -/
def completionWritten (ring : RingId) (rep : Reply) (rest : List Reply) (s : State) : State :=
  writeCompletion ring rep (s.modRing ring (fun q => { q with held := rest }))

section completion
variable {s : State} {ring : RingId} {rep : Reply} {rest : List Reply}

theorem completionWrite_of_held (hu : s.up = true) (hh : (s.ringOf ring).held = rep :: rest) (hf : (s.ringOf ring).cqFull = false)
    (hs : s.ringHeld ring = false) : completionWrite ring s = completionWritten ring rep rest s := by
  simp [completionWrite, hu, hh, hf, hs, completionWritten]

theorem quiet_completionWritten : Quiet s (completionWritten ring rep rest s) :=
  (quiet_modRing _ _ _).trans ((quiet_modRing _ _ _).trans (quiet_emit _ _))

theorem only_completionWritten : OnlyIn [.parts, .cmds, .out] s (completionWritten ring rep rest s) :=
  ((only_modRing _ _ _).mono (by simp)).trans (((only_modRing _ _ _).mono (by simp)).trans ((only_emit _ _).mono (by simp)))

theorem ringOf_completionWritten (h : s.hasRing ring) : (completionWritten ring rep rest s).ringOf ring =
    { s.ringOf ring with held := rest, cqTail := ((s.ringOf ring).cqTail + 1) % 65536 } := by
  have hm : (s.modRing ring (fun q => { q with held := rest })).hasRing ring := (hasRing_modRing _).mpr h
  simp [completionWritten, writeCompletion, ringOf_modRing _ hm, ringOf_modRing _ h]

theorem out_completionWritten (h : s.hasRing ring) : .hostReply ring ((s.ringOf ring).cqTail % 2 ^ (s.ringOf ring).cqLog2) rep ∈
    (completionWritten ring rep rest s).out := by
  simp [completionWritten, writeCompletion, ringOf_modRing _ h]

end completion

/-! ### CMD_READY (R53) -/

theorem foldl_emit_eq {α : Type} (f : α → Output) (l : List α) (s : State) :
    l.foldl (fun t a => t.emit (f a)) s = { s with out := (l.map f).reverse ++ s.out } := by
  induction l generalizing s with
  | nil => rfl
  | cons a l ih =>
    rw [List.foldl_cons, ih]
    simp [State.emit]

/-- When ready rises every reply held at the CMD port leaves. -/
theorem setReadyLevel_true (s : State) : setReadyLevel true s = { s with
    cmds := { s.cmds with cmdReady := true, cmdHeld := [] }
    out := (s.cmds.cmdHeld.map (fun h => Output.reply h.1 h.2)).reverse ++ s.out } := by
  simp [setReadyLevel, drainHeld, foldl_emit_eq (fun h : Source × Reply => Output.reply h.1 h.2)]

theorem exec_cmdReady {s : State} (hc : s.calm) (hu : s.up = true) : exec .cmdReady s = .next (setReadyLevel true s) := by
  change settled s (if s.up then setReadyLevel true s else s) = _
  rw [if_pos hu]
  exact settled_quiet hc (quiet_setReadyLevel _ _) (by rw [setReadyLevel_true])

/-- Settles O8: a fetch moves HEAD and submits, refuses or stops, and replies leave in their order. -/
theorem ringsAreFetchedAndAnswered : Obligations.RingsAreFetchedAndAnswered := by
  refine ⟨fun ring w op s hc he hf hn => ⟨fun hr => ⟨fun hop => ?submits, fun hfmt => ?refuses⟩, fun hr => ?stops⟩, ?completes,
    fun s hc hu => ?ready⟩
  case submits =>
    have hsub : ringFetch ring [w] s = submit op (entryOf ring w).pkt w.aux (headMoved ring s) := by
      rw [ringFetch_of_room hf hn hr, submitRaw, show opOf (entryOf ring w).cls (entryOf ring w).opcode = some op from hop]
      rfl
    exact ⟨_, exec_ringFetch (ringExists_of_exists he) hsub, rfl⟩
  case refuses =>
    have hring : (headMoved ring s).hasRing ring := (hasRing_modRing _).mpr (State.hasRing_of_exists he)
    have hup : (headMoved ring s).up = true := (State.modRing_up _).trans (up_of_ringFetches hf)
    obtain ⟨r, hsrc, hseq, hrefused⟩ := submitRaw_of_wrongFmt hup hring hfmt
    have hfetch := (ringFetch_of_room hf hn hr).trans (hrefused.trans (refuseCmd_ringSource hsrc))
    refine ⟨_, replyOf r stMalformed false (detailOf 3) (headMoved ring s), (exec_ringFetch (ringExists_of_exists he) hfetch).trans
      (settled_quiet hc ((quiet_modRing _ _ _).trans (quiet_ringReply _ _ _)) ((ringReply_pending _).trans (State.modRing_pending _ _ _))),
      ?_, rfl, hseq, rfl, ringReply_given _ hring, ((only_modRing _ _ _).mono (by simp)).trans (only_ringReply _ _ _)⟩
    rw [sqHead_ringReply _ hring, headMoved, ringOf_modRing _ (State.hasRing_of_exists he)]
  case stops =>
    exact ⟨_, (exec_ringFetch (ringExists_of_exists he) (ringFetch_of_noRoom hf hn hr)).trans
      (settled_quiet hc (quiet_modRing _ _ _) (State.modRing_pending _ _ _)), ringOf_modRing _ (State.hasRing_of_exists he),
      only_modRing _ _ _⟩
  case completes =>
    intro ring s rep rest hc hu he hh hfull hheld
    have hring := State.hasRing_of_exists he
    refine ⟨completionWritten ring rep rest s, ?_, ?_, out_completionWritten hring, ?_, only_completionWritten⟩
    · change settled s (if ringExists ring then completionWrite ring s else s) = _
      rw [if_pos (ringExists_of_exists he), completionWrite_of_held hu hh hfull hheld]
      exact settled_quiet hc quiet_completionWritten (by simp [completionWritten, writeCompletion])
    · rw [ringOf_completionWritten hring]
    · rw [ringOf_completionWritten hring]
  case ready =>
    refine ⟨_, exec_cmdReady hc hu, ?_, ?_, fun e he => ?_, only_setReadyLevel _ _⟩ <;> rw [setReadyLevel_true]
    exact List.mem_append_left _ (List.mem_reverse.mpr (List.mem_map_of_mem he))

end Sys2Proof.Machine
end

section
/-! PROOFS. Reset (03 R61 to R66, 18 R540 to R546): its lists repeat their element's reset value. -/

namespace Sys2Proof.Machine

/-- An entry of a list that repeats the default is the default, in range or not. -/
theorem getD_replicate_default {α : Type} (n i : Nat) (a : α) : (List.replicate n a).getD i a = a := by
  rw [List.getD_eq_getElem?_getD, List.getElem?_getD_replicate_default_eq]

@[simp] theorem reset_part (p : Nat) : State.reset.part p = Part.reset := getD_replicate_default _ _ _

@[simp] theorem reset_chan (c : Nat) : State.reset.chan c = Channel.reset := getD_replicate_default _ _ _

@[simp] theorem reset_stream (n : Nat) : State.reset.stream n = IdeStream.reset := getD_replicate_default _ _ _

@[simp] theorem reset_chanAssigned (c : Nat) : State.reset.chanAssigned c = none := by
  have h : State.reset.mail.assign.getD c (0, false) = (0, false) := getD_replicate_default _ _ _
  rw [State.chanAssigned, h]
  rfl

@[simp] theorem reset_ringOf (ring : RingId) : State.reset.ringOf ring = RingRegs.reset := by
  cases ring with
  | part p => rw [State.ringOf, reset_part]; rfl
  | mgmt => rfl

theorem reset_doorbellsLooked : State.reset.doorbellsLooked := fun _ c _ => by
  rw [reset_chan]
  exact Channel.reset_looked

/-- Settles O3: each register has its reset value, the repeated ones in every place. -/
theorem resetLeavesTheSpecsValues : Obligations.ResetLeavesTheSpecsValues := by
  refine ⟨rfl, rfl, rfl, fun p _ => reset_ringOf _, reset_ringOf _, fun c _ => ?chan, rfl, rfl, rfl, rfl, rfl, rfl, fun n _ => ?stream,
    fun p _ => ?part, rfl, rfl, rfl, reset_doorbellsLooked⟩
  case chan =>
    rw [reset_chan]
    exact ⟨rfl, rfl, rfl, rfl, rfl, rfl, rfl, reset_chanAssigned c⟩
  case stream =>
    rw [reset_stream]
    rfl
  case part =>
    rw [reset_part]
    rfl

end Sys2Proof.Machine
end

section
/-! PROOFS. What replies, accounts and traces leave alone of the block's work (R53, R58, R69, R289, R489, R495). -/

namespace Sys2Proof.Machine

/-- A context without its accounts and windows (R489). -/
def Ctx.work (c : Ctx) : Ctx :=
  { c with accounting := Accounting.zero, cmdWindow := Accounting.zero, stepWindow := Accounting.zero, boundary := none }

/-- Replies, accounts and traces: contexts keep all but their accounts, partitions their state, commands only end, and a new parcel
belongs to no command. -/
structure Noted (s t : State) : Prop where
  gens : t.cmds.gens = s.cmds.gens
  ctxs : t.cmds.ctxs.map Ctx.work = s.cmds.ctxs.map Ctx.work
  pstates : t.parts.map Part.pstate = s.parts.map Part.pstate
  parcels : ∀ x ∈ t.gl.parcels, x ∈ s.gl.parcels ∨ x.ref = none
  inflight : ∀ x ∈ t.cmds.inflight, x ∈ s.cmds.inflight

theorem Noted.refl (s : State) : Noted s s := ⟨rfl, rfl, rfl, fun _ h => .inl h, fun _ h => h⟩

theorem Noted.trans {s t u : State} (h : Noted s t) (k : Noted t u) : Noted s u :=
  ⟨k.gens.trans h.gens, k.ctxs.trans h.ctxs, k.pstates.trans h.pstates,
    fun x hx => (k.parcels x hx).elim (h.parcels x) .inr, fun x hx => h.inflight x (k.inflight x hx)⟩

theorem Noted.foldl {α : Type} (f : State → α → State) (hf : ∀ u a, Noted u (f u a)) (l : List α) (s : State) :
    Noted s (l.foldl f s) :=
  List.foldlRecOn l f (Noted.refl s) fun u hu a _ => hu.trans (hf u a)

theorem Noted.ite {s t u : State} {c : Prop} [Decidable c] (ht : Noted s t) (hu : Noted s u) : Noted s (if c then t else u) := by
  split
  · exact ht
  · exact hu

/-- What lies outside the commands, partitions and parcels is of no account. -/
theorem Noted.of_eq {s t : State} (hc : t.cmds = s.cmds) (hp : t.parts = s.parts) (hg : t.gl = s.gl) : Noted s t :=
  ⟨by rw [hc], by rw [hc], by rw [hp], fun x hx => .inl (by rwa [← hg]), fun x hx => by rwa [← hc]⟩

/-! ### What a relation `Noted` gives -/

section given
variable {s t : State}

theorem ctx?_map_of_ctxs {f : Ctx → Ctx} (hf : ∀ c, (f c).slot = c.slot) (h : t.cmds.ctxs.map f = s.cmds.ctxs.map f) (n : Nat) :
    (t.ctx? n).map f = (s.ctx? n).map f := by
  have key : ∀ u : State, (u.ctx? n).map f = (u.cmds.ctxs.map f).find? (fun c => c.slot = n) := fun u => by
    simp only [State.ctx?, List.find?_map, Function.comp_def, hf]
  rw [key, key, h]

/-- A context stays, but for its accounts. -/
theorem Noted.ctx? (h : Noted s t) {n : Nat} {c : Ctx} (hc : s.ctx? n = some c) : ∃ d, t.ctx? n = some d ∧ d.work = c.work := by
  have hm := ctx?_map_of_ctxs (f := Ctx.work) (fun _ => rfl) h.ctxs n
  rwa [hc, Option.map_some, Option.map_eq_some_iff] at hm

theorem Noted.ctx?_eq_none (h : Noted s t) {n : Nat} (hc : s.ctx? n = none) : t.ctx? n = none := by
  have hm := ctx?_map_of_ctxs (f := Ctx.work) (fun _ => rfl) h.ctxs n
  rwa [hc, Option.map_none, Option.map_eq_none_iff] at hm

theorem Noted.genOf (h : Noted s t) (n : Nat) : t.genOf n = s.genOf n := by
  rw [State.genOf, h.gens, State.genOf]

theorem Noted.parts_length (h : Noted s t) : t.parts.length = s.parts.length := by
  simpa using congrArg List.length h.pstates

theorem Noted.struck (h : Noted s t) (p : Nat) : (t.part p).struck = (s.part p).struck := by
  have key : ∀ u : State, (u.part p).pstate = (u.parts.map Part.pstate).getD p Part.reset.pstate := fun u => by
    rw [State.part, List.getD_map]
  rw [Part.struck, Part.struck, key, key, h.pstates]

end given

/-! ### The operations -/

section operations
variable (s : State)

theorem noted_emit (o : Output) : Noted s (s.emit o) := Noted.of_eq rfl rfl rfl

theorem noted_modTrace (n : Nat) (f : TraceSlot → TraceSlot) : Noted s (s.modTrace n f) := Noted.of_eq rfl rfl rfl

theorem noted_addParcel {f : Nat → TxParcel} (hf : ∀ i, (f i).ref = none) : Noted s (s.addParcel f) := by
  refine ⟨rfl, rfl, rfl, fun x hx => ?_, fun _ h => h⟩
  rcases List.mem_append.mp hx with hx | hx
  · exact .inl hx
  · rw [List.mem_singleton.mp hx]
    exact .inr (hf _)

theorem noted_writeTrace (n : Nat) (recs : List TraceRec) : Noted s (writeTrace n recs s) := by
  unfold writeTrace
  split
  · exact Noted.refl s
  · split
    · exact (noted_addParcel s fun _ => rfl).trans (noted_modTrace _ _ _)
    · refine Noted.foldl _ (fun u r => ?_) _ _
      split
      · exact Noted.refl u
      · dsimp only
        split
        · exact noted_modTrace _ _ _
        · split
          · exact (noted_emit _ _).trans (noted_modTrace _ _ _)
          · exact (noted_emit _ _).trans (noted_modTrace _ _ _)

theorem noted_pushTrace (n : Nat) (r : TraceRec) : Noted s (pushTrace n r s) := by
  unfold pushTrace
  split
  · exact Noted.refl s
  · split
    · exact noted_modTrace _ _ _
    · exact Noted.ite ((noted_modTrace _ _ _).trans ((noted_modTrace _ _ _).trans (noted_writeTrace _ _ _)))
        (noted_modTrace _ _ _)

theorem noted_traceCtx (p c b : Nat) (r : TraceRec) : Noted s (traceCtx p c b r s) := by
  unfold traceCtx
  split
  · exact Noted.refl s
  · split
    · exact noted_pushTrace _ _ _
    · exact Noted.refl s

theorem noted_modCtx (n : Nat) {f : Ctx → Ctx} (hf : ∀ c, (f c).work = c.work) : Noted s (s.modCtx n f) := by
  refine ⟨rfl, ?_, rfl, fun _ h => .inl h, fun _ h => h⟩
  simp only [State.modCtx, List.map_map]
  refine List.map_congr_left fun c _ => ?_
  simp only [Function.comp_apply]
  split
  · exact hf c
  · rfl

theorem noted_account (n : Nat) (f : Accounting → Accounting) : Noted s (account n f s) := noted_modCtx s n fun _ => rfl

theorem noted_modPart (p : Nat) {f : Part → Part} (hf : ∀ q, (f q).pstate = q.pstate) : Noted s (s.modPart p f) := by
  refine ⟨rfl, rfl, ?_, fun _ h => .inl h, fun _ h => h⟩
  refine List.ext_getElem? fun i => ?_
  simp only [State.modPart, List.getElem?_map, List.getElem?_modify]
  cases s.parts[i]? with
  | none => rfl
  | some q => by_cases hi : p = i <;> simp [hi, hf]

theorem noted_modView (p : Nat) (f : View → View) : Noted s (s.modView p f) := noted_modPart s p fun _ => rfl

theorem noted_modRing (ring : RingId) (f : RingRegs → RingRegs) : Noted s (s.modRing ring f) := by
  cases ring with
  | part p => exact noted_modPart s p fun _ => rfl
  | mgmt => exact ⟨rfl, rfl, rfl, fun _ h => .inl h, fun _ h => h⟩

theorem noted_ringReply (ring : RingId) (rep : Reply) : Noted s (ringReply ring rep s) := by
  unfold ringReply writeCompletion
  dsimp only
  split
  · exact noted_modRing _ _ _
  · exact (noted_modRing _ _ _).trans (noted_emit _ _)

theorem noted_deliver (src : Source) (rep : Reply) : Noted s (deliver src rep s) := by
  unfold deliver
  split
  · split
    · exact noted_emit _ _
    · exact ⟨rfl, rfl, rfl, fun _ h => .inl h, fun _ h => h⟩
  · exact noted_ringReply _ _ _
  · exact noted_ringReply _ _ _
  · split
    · exact noted_emit _ _
    · exact Noted.refl s

theorem noted_land (r : CmdRef) : Noted s (s.land r) := ⟨rfl, rfl, rfl, fun _ h => .inl h, fun _ h => List.mem_of_mem_filter h⟩

theorem noted_noteDone (r : CmdRef) (st : Nat) : Noted s (noteDone r st s) := by
  unfold noteDone
  split
  · exact Noted.refl s
  · dsimp only
    split
    · exact (noted_account _ _ _).trans ((noted_modView _ _ _).trans (noted_traceCtx _ _ _ _ _))
    · exact (noted_account _ _ _).trans (noted_modView _ _ _)

/-- After its reply a command is in flight no more, and nothing else has started. -/
theorem noted_answer_of_land (r : CmdRef) (st : Nat) (v : BitVec 128) : Noted (s.land r) (answer r st v s) := by
  unfold answer answerWith
  dsimp only
  split
  · exact noted_noteDone _ _ _
  · exact (noted_noteDone _ _ _).trans (noted_deliver _ _ _)

theorem noted_answer (r : CmdRef) (st : Nat) (v : BitVec 128) : Noted s (answer r st v s) :=
  (noted_land s r).trans (noted_answer_of_land s r st v)

theorem noted_noteStart (r : CmdRef) : Noted s (noteStart r s) := by
  unfold noteStart
  dsimp only
  split
  · exact (noted_modCtx s _ fun _ => by rfl).trans (noted_traceCtx _ _ _ _ _)
  · exact noted_modCtx s _ fun _ => rfl

end operations

/-! ### The reply of a command that ends -/

theorem complete_of_fresh {r : CmdRef} {st : Nat} {v : BitVec 128} {s : State} (h : s.staleRef r = false) :
    complete r st v s = answer r st v s := by
  rw [complete, h]
  rfl

/-- A command whose source is heard has its reply when it is answered, whatever its context's generation (R58's exceptions). -/
theorem answer_replies {r : CmdRef} {s : State} {st : Nat} {v : BitVec 128}
    (hv : ∀ id, r.src = .session id → s.vs.sessions.any (fun x => x.id = id)) (hq : ∀ q, r.src = .ring q → q < s.parts.length) :
    Replied r st v s.now (answer r st v s) := by
  cases hs : decide (st = stOk) && bitOf r.flags.toNat 0 with
  | true =>
    rw [Bool.and_eq_true, decide_eq_true_eq] at hs
    exact .inl hs
  | false =>
    have hdone := (noted_land s r).trans (noted_noteDone (s.land r) r st)
    have honly := ((only_land s r).mono (hs := [.parts, .cmds, .gl, .scribe, .out]) (by simp)).trans (only_noteDone r st _)
    have he : answer r st v s = deliver r.src (replyOf r st false v s) (noteDone r st (s.land r)) :=
      if_neg (by rw [hs]; exact Bool.false_ne_true)
    refine .inr ⟨(replyOf r st false v s).rflags, ?_⟩
    rw [he]
    exact deliver_given (fun id hid => by rw [honly .vs (by decide)]; exact hv id hid)
      (fun q hr => by rw [hdone.parts_length]; exact hq q hr)

end Sys2Proof.Machine
end

section
/-! PROOFS. Contexts at rest (R398, R400): resetting or releasing one ends no command, and a new generation is all it leaves. -/

namespace Sys2Proof.Machine

/-! ### Generations and contexts -/

theorem assocGet_assocSet_self (l : List (Nat × Nat)) (k v d : Nat) : assocGet (assocSet l k v) k d = v := by
  induction l with
  | nil => simp [assocSet, assocGet]
  | cons e l ih =>
    obtain ⟨a, b⟩ := e
    unfold assocSet
    split
    · simp [assocGet]
    · rename_i ha
      split
      · simp [assocGet]
      · simpa [assocGet, ha] using ih

theorem assocGet_assocSet_of_ne {k n : Nat} (l : List (Nat × Nat)) (v d : Nat) (h : n ≠ k) :
    assocGet (assocSet l k v) n d = assocGet l n d := by
  induction l with
  | nil => simp [assocSet, assocGet, h.symm]
  | cons e l ih =>
    obtain ⟨a, b⟩ := e
    unfold assocSet
    split
    · rename_i ha
      simp [assocGet, ha, h.symm]
    · split
      · simp [assocGet, h.symm]
      · by_cases ha : a = n
        · simp [assocGet, ha]
        · simpa [assocGet, ha] using ih

theorem slot_of_ctx? {s : State} {n : Nat} {c : Ctx} (h : s.ctx? n = some c) : c.slot = n := by
  simpa using List.find?_some h

/-- A command of a context that is registered at the generation it started under is not stale. -/
theorem staleRef_congr {s t : State} {r : CmdRef} (hg : t.genOf r.slot = s.genOf r.slot)
    (hc : (t.ctx? r.slot).isNone = (s.ctx? r.slot).isNone) : t.staleRef r = s.staleRef r := by
  rw [State.staleRef, hg, hc, State.staleRef]

/-- Whether a context rung is covered follows from the rungs, the context's partition and the strikes (R436, R443). -/
theorem coveredBy_context_congr {s t : State} {slot : Nat} (hr : t.plumb.rungs = s.plumb.rungs)
    (hp : (t.ctx? slot).map Ctx.part = (s.ctx? slot).map Ctx.part) (hs : ∀ p, (t.part p).struck = (s.part p).struck) :
    t.coveredBy .context slot = s.coveredBy .context slot := by
  simp only [State.coveredBy, hr, hp, hs]

/-! ### A context at rest -/

/-- A registered context has no work: the clauses of `State.ctxRests`. -/
structure AtRest (s : State) (c : Ctx) : Prop where
  ctx : s.ctx? c.slot = some c
  fences : c.fences = []
  held : c.held = []
  inflight : ∀ x ∈ s.cmds.inflight, srcIsCtx x.ref.src = true → x.ref.slot ≠ c.slot
  groups : ∀ g ∈ s.inl.groups, ∀ k, g.running = some k → k.ref.slot ≠ c.slot
  parcels : ∀ x ∈ s.gl.parcels, ∀ r, x.ref = some r → r.slot ≠ c.slot
  waiters : ∀ w ∈ s.pegs.waiters, w.ref.slot ≠ c.slot
  owners : ∀ g ∈ s.pegs.slots, g.ownerCtx ≠ c.slot

theorem atRest_of_ctxRests {s : State} {c : Ctx} (hc : s.ctx? c.slot = some c) (h : s.ctxRests c.slot = true) : AtRest s c := by
  simp only [State.ctxRests, State.ctxInflight, Bool.and_eq_true, List.isEmpty_iff, List.map_eq_nil_iff, List.filter_eq_nil_iff, hc,
    Option.all_some, Option.all_eq_true, List.all_eq_true, decide_eq_true_eq] at h
  obtain ⟨⟨⟨⟨⟨hin, hfences, hheld⟩, hgroups⟩, hparcels⟩, hwaiters⟩, howners⟩ := h
  exact ⟨hc, hfences, hheld, fun x hx hs he => hin x hx ⟨hs, he⟩, hgroups, fun x hx => (hparcels x hx).2, hwaiters, howners⟩

/-- A context stays at rest while its commands only end, new parcels belong to no command and the units are as they were. -/
theorem AtRest.of {s t : State} {c d : Ctx} (h : AtRest s c) (hd : t.ctx? c.slot = some d) (hf : d.fences = c.fences)
    (hh : d.held = c.held) (hi : ∀ x ∈ t.cmds.inflight, x ∈ s.cmds.inflight)
    (hp : ∀ x ∈ t.gl.parcels, x ∈ s.gl.parcels ∨ x.ref = none) (hinl : t.inl = s.inl) (hpegs : t.pegs = s.pegs) : AtRest t d := by
  have hs : d.slot = c.slot := slot_of_ctx? hd
  refine ⟨hs ▸ hd, hf.trans h.fences, hh.trans h.held, ?_, ?_, ?_, ?_, ?_⟩ <;> rw [hs]
  · exact fun x hx => h.inflight x (hi x hx)
  · rw [hinl]
    exact h.groups
  · intro x hx r hr
    rcases hp x hx with hx | hx
    · exact h.parcels x hx r hr
    · rw [hx] at hr
      cases hr
  · rw [hpegs]
    exact h.waiters
  · rw [hpegs]
    exact h.owners

theorem AtRest.ctxInflight_eq_nil {s : State} {c : Ctx} (h : AtRest s c) : s.ctxInflight c.slot = [] := by
  simp only [State.ctxInflight, List.map_eq_nil_iff, List.filter_eq_nil_iff, Bool.and_eq_true, decide_eq_true_eq, not_and]
  exact h.inflight

theorem ctxStaged_eq_nil {s : State} (h1 : s.cmds.staged = []) (h2 : s.cmds.firmware = []) (slot : Nat) : s.ctxStaged slot = [] := by
  simp [State.ctxStaged, h1, h2]

/-- Where no parcel is a context's, none of it drains (R402). -/
theorem not_draining {s : State} {slot : Nat} (h : ∀ x ∈ s.gl.parcels, ∀ r, x.ref = some r → r.slot ≠ slot) :
    s.draining (some slot) = false := by
  simp only [State.draining, List.any_eq_false]
  intro x hx hd
  simp only [Bool.and_eq_true, Bool.or_eq_true, decide_eq_true_eq, Option.isNone_some, Bool.false_eq_true, false_or] at hd
  obtain ⟨r, hr, hslot⟩ := Option.map_eq_some_iff.mp hd.1.2
  exact h x hx r hr hslot

/-! ### Dropping the work of a context at rest -/

/-- The end of a context's work where it has none: the commands' records change, and the units forget posted buffers, unfolds,
requests and slices. -/
structure WorkForgotten (s t : State) : Prop where
  only : OnlyIn [.cmds, .gl, .inl, .sill, .pegs, .cal] s t
  links : t.gl.links = s.gl.links
  coord : t.gl.coord = s.gl.coord
  parcels : t.gl.parcels = s.gl.parcels
  slots : t.pegs.slots = s.pegs.slots
  now : t.now = s.now

theorem WorkForgotten.trans {s t u : State} (h : WorkForgotten s t) (k : WorkForgotten t u) : WorkForgotten s u :=
  ⟨h.only.trans k.only, k.links.trans h.links, k.coord.trans h.coord, k.parcels.trans h.parcels, k.slots.trans h.slots,
    k.now.trans h.now⟩

theorem workForgotten_withCmds (s : State) (x : Cmds) : WorkForgotten s { s with cmds := x } :=
  ⟨(only_withCmds s x).mono (by simp), rfl, rfl, rfl, rfl, rfl⟩

theorem dropObjects_atRest {s : State} {slot : Nat} (keep : CmdRef → Bool)
    (hp : ∀ x ∈ s.gl.parcels, ∀ r, x.ref = some r → r.slot ≠ slot) (hw : ∀ w ∈ s.pegs.waiters, w.ref.slot ≠ slot) :
    WorkForgotten s (dropObjects slot keep s) ∧ (dropObjects slot keep s).cmds = s.cmds := by
  have hwaits : s.pegs.waiters.filter (fun w => srcIsCtx w.ref.src && decide (w.ref.slot = slot) && !keep w.ref) = [] := by
    rw [List.filter_eq_nil_iff]
    intro w h
    simp [hw w h]
  unfold dropObjects
  dsimp only
  rw [hwaits, List.foldl_nil]
  refine ⟨⟨fun g hg => ?only, rfl, rfl,
    (List.map_congr_left fun x hx => ?keeps).trans ((List.map_id _).trans (List.filter_eq_self.mpr fun x hx => ?stays)), rfl, rfl⟩, rfl⟩
  case only =>
    cases g with
    | gl | inl | sill | pegs | cal => exact absurd (by simp) hg
    | _ => rfl
  case keeps =>
    cases hr : x.ref with
    | none => rfl
    | some r => simp [hp x (List.mem_of_mem_filter hx) r hr]
  case stays =>
    cases hr : x.ref with
    | none => rfl
    | some r => simp [hp x hx r hr]

/-- A state whose fences, held signals and fence set of a context have ended (R239). -/
def fencesCleared (slot : Nat) (s : State) : State := s.modCtx slot (fun q => { q with fences := [], held := [], openSet := [] })

theorem State.withQueues_self {s : State} (h1 : s.cmds.staged = []) (h2 : s.cmds.firmware = []) :
    { s with cmds := { s.cmds with staged := [], firmware := [] } } = s := by
  obtain ⟨parts, cmds⟩ := s
  obtain ⟨staged, firmware⟩ := cmds
  simp_all

theorem dropWork_atRest {s : State} {c : Ctx} (h : AtRest s c) (h1 : s.cmds.staged = []) (h2 : s.cmds.firmware = []) (cause : Nat)
    (keep : CmdRef → Bool) : dropWork c.slot cause keep s = (0, dropObjects c.slot keep (fencesCleared c.slot s)) := by
  have hstaged := ctxStaged_eq_nil h1 h2 c.slot
  have hrunning := h.ctxInflight_eq_nil
  have hfences : dropFences c.slot cause s = fencesCleared c.slot s := by
    simp [dropFences, h.ctx, h.fences, h.held, fencesCleared]
  unfold dropWork
  simp only [hstaged, hrunning, h1, h2, List.filter_nil, List.foldl_nil, State.withQueues_self h1 h2, List.length_nil, Nat.add_zero]
  rw [foldl_id (l := s.inl.groups) (b := s) (h := ?groups), hfences]
  intro g hg
  cases hk : g.running with
  | none => rfl
  | some k => exact if_neg (h.groups g hg k hk)

/-! ### The end of a context's work -/

/-- What ending the work of a context at rest leaves of the rest of the block (R398, R400). -/
structure CtxEnded (c : Ctx) (s t : State) : Prop where
  only : OnlyIn [.cmds, .gl, .inl, .sill, .pegs, .cal] s t
  quiet : Quiet s t
  parcels : t.gl.parcels = s.gl.parcels
  now : t.now = s.now
  gen : t.genOf c.slot = (s.genOf c.slot + 1) % 256
  gens : ∀ n, n ≠ c.slot → t.genOf n = s.genOf n
  others : ∀ n, n ≠ c.slot → t.ctx? n = s.ctx? n
  inflight : t.cmds.inflight = s.cmds.inflight
  cmdHeld : t.cmds.cmdHeld = s.cmds.cmdHeld

/-- The commands' records with contexts and with a raised generation (R58). -/
def ctxsRaised (slot : Nat) (ctxs : List Ctx) (s : State) : Cmds :=
  { s.cmds with ctxs := ctxs, gens := assocSet s.cmds.gens slot ((s.genOf slot + 1) % 256) }

theorem WorkForgotten.ended {s t : State} {c : Ctx} (h : WorkForgotten s t)
    (hc : ∃ ctxs, t.cmds = ctxsRaised c.slot ctxs s) (ho : ∀ n, n ≠ c.slot → t.ctx? n = s.ctx? n) : CtxEnded c s t := by
  obtain ⟨ctxs, hc⟩ := hc
  have hgen : ∀ n, t.genOf n = assocGet (assocSet s.cmds.gens c.slot ((s.genOf c.slot + 1) % 256)) n 0 := fun n => by
    rw [State.genOf, hc]
    rfl
  refine ⟨h.only, ?quiet, h.parcels, h.now, ?gen, fun n hn => ?gens, ho, by rw [hc]; rfl, by rw [hc]; rfl⟩
  case quiet =>
    have hplumb : t.plumb = s.plumb := h.only .plumb (by decide)
    have hdebugs : t.debugs = s.debugs := h.only .debugs (by decide)
    have hvs : t.vs = s.vs := h.only .vs (by decide)
    have hkp : t.kp = s.kp := h.only .kp (by decide)
    have htests : t.tests = s.tests := h.only .tests (by decide)
    have hmail : t.mail = s.mail := h.only .mail (by decide)
    have hstart : t.start = s.start := h.only .start (by decide)
    have hscribe : t.scribe = s.scribe := h.only .scribe (by decide)
    refine ⟨by rw [hc]; rfl, by rw [hc]; rfl, by rw [hplumb], by rw [hdebugs], by rw [hvs], by rw [hkp], by rw [htests],
      h.links, h.coord, fun x hx => .inl (by rwa [← h.parcels]), ?_, by rw [hmail]⟩
    rw [State.mailServed, State.up, hstart, hscribe, hkp]
    exact id
  case gen => rw [hgen, assocGet_assocSet_self]
  case gens =>
    rw [hgen, assocGet_assocSet_of_ne _ _ _ hn]
    rfl

theorem ctx?_modCtx_self {s : State} {n : Nat} {c : Ctx} {f : Ctx → Ctx} (hf : ∀ q, (f q).slot = q.slot) (h : s.ctx? n = some c) :
    (s.modCtx n f).ctx? n = some (f c) := by
  rw [ctx?_modCtx hf, h, Option.map_some, if_pos (slot_of_ctx? h)]

theorem ctx?_modCtx_of_ne {s : State} {m n : Nat} {f : Ctx → Ctx} (hf : ∀ q, (f q).slot = q.slot) (h : n ≠ m) :
    (s.modCtx m f).ctx? n = s.ctx? n := by
  rw [ctx?_modCtx hf]
  cases hc : s.ctx? n with
  | none => rfl
  | some c => rw [Option.map_some, if_neg (by rw [slot_of_ctx? hc]; exact h)]

/-- The contexts without one slot. -/
def withoutCtx (slot : Nat) (s : State) : State :=
  { s with cmds := { s.cmds with ctxs := s.cmds.ctxs.filter (fun c => c.slot ≠ slot) } }

theorem ctx?_withoutCtx_self (s : State) (n : Nat) : (withoutCtx n s).ctx? n = none := by
  simp [State.ctx?, withoutCtx]

theorem ctx?_withoutCtx_of_ne {s : State} {m n : Nat} (h : n ≠ m) : (withoutCtx m s).ctx? n = s.ctx? n := by
  rw [State.ctx?, withoutCtx, List.find?_filter, State.ctx?]
  congr 1
  funext c
  by_cases hc : c.slot = n <;> simp [hc, h]

theorem ctx?_congr {s t : State} (h : t.cmds = s.cmds) (n : Nat) : t.ctx? n = s.ctx? n := by
  rw [State.ctx?, h, State.ctx?]

/-! ### The context rung and CTX_RESET (R398, R430) -/

/-- A context as a reset leaves it: its handle table stays. -/
def Ctx.afterReset (c : Ctx) : Ctx :=
  { c with fences := [], held := [], openSet := [], expected := 0, preempted := [], overrunNs := 0, boundary := none }

section reset
variable {s : State} {c : Ctx}

/-- A reset of a context at rest raises its generation and begins its sequence anew (R398). -/
theorem resetCtx_atRest (h : AtRest s c) (h1 : s.cmds.staged = []) (h2 : s.cmds.firmware = []) (cause : Nat)
    (keep : CmdRef → Bool) :
    CtxEnded c s (resetCtx c.slot cause keep s) ∧ (resetCtx c.slot cause keep s).ctx? c.slot = some c.afterReset := by
  obtain ⟨hforgot, hcmds⟩ := dropObjects_atRest (s := fencesCleared c.slot s) keep h.parcels h.waiters
  have hslot : ∀ n, (dropObjects c.slot keep (fencesCleared c.slot s)).ctx? n = (fencesCleared c.slot s).ctx? n := ctx?_congr hcmds
  unfold resetCtx
  rw [dropWork_atRest h h1 h2]
  refine ⟨WorkForgotten.ended ?forgotten ?cmds fun n hn => ?others, ?self⟩
  case forgotten =>
    exact (workForgotten_withCmds s _).trans (hforgot.trans ((workForgotten_withCmds _ _).trans (workForgotten_withCmds _ _)))
  case cmds =>
    rw [State.modCtx, State.raiseGen, State.genOf, hcmds]
    exact ⟨_, rfl⟩
  case others =>
    exact (ctx?_modCtx_of_ne (fun _ => by rfl) hn).trans ((hslot n).trans (ctx?_modCtx_of_ne (fun _ => by rfl) hn))
  case self =>
    exact ctx?_modCtx_self (fun _ => by rfl) ((hslot _).trans (ctx?_modCtx_self (fun _ => by rfl) h.ctx))

/-- The state in which a context has been reset and its engines are watched (R431). -/
def ctxReset (c : Ctx) (cause : Nat) (s : State) : State := watchRung c.slot c.part (resetCtx c.slot cause s.drains s)

theorem quiet_watchRung (slot part : Nat) (s : State) : Quiet s (watchRung slot part s) :=
  ⟨rfl, rfl, rfl, rfl, rfl, rfl, rfl, rfl, rfl, fun _ hx => .inl hx, id, rfl⟩

/-- What a context at rest is reset to, and what stays as it was. -/
structure CtxBegunAnew (c : Ctx) (s t : State) : Prop where
  only : OnlyIn [.cmds, .gl, .inl, .sill, .pegs, .cal, .plumb] s t
  quiet : Quiet s t
  now : t.now = s.now
  gen : t.genOf c.slot = (s.genOf c.slot + 1) % 256
  ctx : t.ctx? c.slot = some c.afterReset
  inflight : t.cmds.inflight = s.cmds.inflight
  cmdHeld : t.cmds.cmdHeld = s.cmds.cmdHeld
  parcels : t.gl.parcels = s.gl.parcels
  sticky : t.plumb.sticky = s.plumb.sticky
  rests : t.draining (some c.slot) = false

theorem ctxReset_atRest (h : AtRest s c) (h1 : s.cmds.staged = []) (h2 : s.cmds.firmware = []) (cause : Nat) :
    CtxBegunAnew c s (ctxReset c cause s) := by
  obtain ⟨he, hctx⟩ := resetCtx_atRest h h1 h2 cause s.drains
  have hplumb : (resetCtx c.slot cause s.drains s).plumb = s.plumb := he.only .plumb (by decide)
  refine ⟨(he.only.mono (by simp)).trans ((only_withPlumb _ _).mono (by simp)), he.quiet.trans (quiet_watchRung _ _ _), he.now, he.gen,
    hctx, he.inflight, he.cmdHeld, he.parcels, by rw [ctxReset, watchRung, hplumb], not_draining ?_⟩
  change ∀ x ∈ (resetCtx c.slot cause s.drains s).gl.parcels, _
  rw [he.parcels]
  exact h.parcels

end reset

/-! ### CTX_RELEASE (R400) -/

/-- A context at rest owns no pegs and ends no command: its release raises its generation and takes it away. -/
theorem releaseCtx_atRest {s : State} {c : Ctx} (h : AtRest s c) (h1 : s.cmds.staged = []) (h2 : s.cmds.firmware = []) (cause : Nat)
    (keep : CmdRef → Bool) :
    ∃ t, releaseCtx c.slot cause keep s = (0, 0, t) ∧ CtxEnded c s t ∧ t.ctx? c.slot = none := by
  have hr : AtRest (s.raiseGen c.slot) c := h.of h.ctx rfl rfl (fun _ hx => hx) (fun _ hx => .inl hx) rfl rfl
  obtain ⟨hforgot, hcmds⟩ := dropObjects_atRest (s := fencesCleared c.slot (s.raiseGen c.slot)) keep h.parcels h.waiters
  have hown : ∀ f : Peg → Bool, (dropObjects c.slot keep (fencesCleared c.slot (s.raiseGen c.slot))).pegs.slots.filter
      (fun g => g.state = .live && decide (g.ownerCtx = c.slot) && f g) = [] := fun f => by
    rw [hforgot.slots, List.filter_eq_nil_iff]
    intro g hg
    simp [h.owners g hg]
  have hslot : ∀ n, n ≠ c.slot → (dropObjects c.slot keep (fencesCleared c.slot (s.raiseGen c.slot))).ctx? n = s.ctx? n := fun n hn =>
    (ctx?_congr hcmds n).trans (ctx?_modCtx_of_ne (fun _ => by rfl) hn)
  refine ⟨withoutCtx c.slot (dropObjects c.slot keep (fencesCleared c.slot (s.raiseGen c.slot))), ?released,
    WorkForgotten.ended ?forgotten ?cmds fun n hn => (ctx?_withoutCtx_of_ne hn).trans (hslot n hn), ctx?_withoutCtx_self _ _⟩
  case released =>
    unfold releaseCtx
    rw [dropWork_atRest hr h1 h2]
    dsimp only
    rw [hown]
    rfl
  case forgotten =>
    exact (workForgotten_withCmds s _).trans ((workForgotten_withCmds _ _).trans (hforgot.trans (workForgotten_withCmds _ _)))
  case cmds =>
    rw [withoutCtx, hcmds]
    exact ⟨_, rfl⟩

end Sys2Proof.Machine
end

section
/-! PROOFS. Commands that name a context at rest (12 R398, R400), and the end of P0's drain (R402). -/

namespace Sys2Proof.Machine

/-! ### The start of a packet's command -/

/-- The state in which a packet that passes its checks begins (R54, R71, R73). -/
def opened (op : Op) (p : Packet) (s : State) : State := noteServed (named op p s) (accepted op p s)

section start
variable {op : Op} {p : Packet} {s : State}

theorem started_opened : Started s (opened op p s) :=
  ((started_arrived p s).trans (started_advanceSeq _ _)).trans (started_noteServed _ _)

theorem only_opened : OnlyIn [.cmds, .vs, .out] s (opened op p s) :=
  ((only_arrived p s).mono (by simp)).trans (((only_advanceSeq _ _).mono (by simp)).trans ((only_noteServed _ _).mono (by simp)))

/-- Only a session's command moves the sessions (R73). -/
theorem opened_vs (h : ∀ id, p.src ≠ .session id) : (opened op p s).vs = s.vs := by
  have hadvance : (advanceSeq (named op p s) (arrived p s)).vs = (arrived p s).vs := by
    unfold advanceSeq
    split
    · rfl
    · rename_i id hid
      exact absurd hid (h id)
    · rfl
  exact Eq.trans ((only_noteServed _ _) .vs (by decide)) (hadvance.trans ((only_arrived p s) .vs (by decide)))

/-- A command begins at once, or with the windows of its context opened (R489). -/
theorem begin_cases (op : Op) (r : CmdRef) (p : Packet) (a : Aux) (s : State) :
    begin_ op r p a s = startOf op { r with start := s.now } p a s ∨
      begin_ op r p a s = startOf op { r with start := s.now } p a (noteStart { r with start := s.now } s) := by
  unfold begin_
  dsimp only
  split
  · exact .inr rfl
  · exact .inl rfl

/-- A command that begins: its start is a `Started` step that moves no session but its own and adds no command's parcel. -/
theorem submit_begins (a : Aux) (hc : s.calm) (hp : passes op p s) (hsrc : ∀ id, p.src ≠ .session id) :
    ∃ u, submit op p a s = startOf op (named op p s) p a u ∧ Started s u ∧ u.vs = s.vs ∧
      ∀ x ∈ u.gl.parcels, x ∈ s.gl.parcels ∨ x.ref = none := by
  have hnamed : { named op p s with start := (opened op p s).now } = named op p s := by
    have ho : (opened op p s).cal = s.cal := only_opened .cal (by decide)
    have ha : (arrived p s).cal = s.cal := only_arrived p s .cal (by decide)
    have hnow : (opened op p s).now = (named op p s).start := by
      change (opened op p s).cal.now = (arrived p s).cal.now
      rw [ho, ha]
    rw [hnow]
  have hgl : (opened op p s).gl = s.gl := only_opened .gl (by decide)
  rw [submit_passes a hc hp]
  rcases begin_cases op (named op p s) p a (opened op p s) with h | h
  · rw [hnamed] at h
    exact ⟨_, h, started_opened, opened_vs hsrc, fun x hx => .inl (by rwa [← hgl])⟩
  · rw [hnamed] at h
    refine ⟨_, h, started_opened.trans (started_noteStart _ _), Eq.trans ((only_noteStart _ _) .vs (by decide)) (opened_vs hsrc), ?_⟩
    rw [← hgl]
    exact (noted_noteStart _ _).parcels

/-- A command of contexts and the operator comes from no session (R77, R78). -/
theorem not_session_of_passes (hi : op.issuers = [.c, .m]) (hp : passes op p s) (id : Nat) : p.src ≠ .session id := by
  intro hid
  have h := passes_issuer hp
  rw [hi, hid] at h
  exact absurd h (by simp [issuerIs])

theorem ring_of_passes (hp : passes op p s) (q : Nat) (hq : p.src = .ring q) : q < s.parts.length := by
  obtain ⟨-, -, h⟩ := passes_ctx hp (by rw [hq]; rfl)
  simpa [Packet.part, srcPart, hq] using h

end start

/-! ### Contexts that a handle names -/

theorem namedCtx_eq_some {s : State} {src : Source} {h : Nat} {c : Ctx} :
    namedCtx s src h = some c ↔ s.ctx? (bitsOf h 0 12) = some c ∧ bitsOf h 12 12 = 0 ∧ bitsOf h 24 8 = s.genOf c.slot ∧
      (srcIsCtx src = true → c.part = srcPart src) := by
  simp only [namedCtx, Option.bind_eq_some_iff]
  constructor
  · rintro ⟨d, hd, hif⟩
    split at hif
    · rename_i hb
      cases hif
      simp only [Bool.and_eq_true, Bool.or_eq_true, Bool.not_eq_true', decide_eq_true_eq] at hb
      obtain ⟨⟨h12, h24⟩, hpart⟩ := hb
      exact ⟨hd, h12, h24, fun hs => hpart.resolve_left (by simp [hs])⟩
    · cases hif
  · rintro ⟨hd, h12, h24, hpart⟩
    refine ⟨c, hd, if_pos ?_⟩
    cases hs : srcIsCtx src <;> simp_all

/-- What a start on a context at rest meets. -/
structure StartsOn (op : Op) (p : Packet) (s : State) (c : Ctx) (u : State) (d : Ctx) : Prop where
  started : Started s u
  only : OnlyIn replyAreas s u
  kept : CtxKept c d
  names : namedCtx u p.src (pf p 20 4) = some d
  rests : AtRest u d
  staged : u.cmds.staged = []
  firmware : u.cmds.firmware = []
  refusal : mgmtRefusal (named op p s) d.part u = mgmtRefusal (named op p s) c.part s

theorem submit_startsOn {op : Op} {p : Packet} {s : State} {c : Ctx} (a : Aux) (hc : s.calm) (hp : passes op p s)
    (hi : op.issuers = [.c, .m]) (hn : namedCtx s p.src (pf p 20 4) = some c) (hr : s.ctxRests c.slot = true) :
    ∃ u d, submit op p a s = startOf op (named op p s) p a u ∧ StartsOn op p s c u d := by
  obtain ⟨u, hu, hs, hvs, hparcels⟩ := submit_begins a hc hp (not_session_of_passes hi hp)
  obtain ⟨hctx, h12, h24, hpart⟩ := namedCtx_eq_some.mp hn
  obtain ⟨d, hd, hk⟩ := hs.ctxs _ _ hctx
  obtain ⟨h1, h2, -⟩ := State.calm_cases hc
  have hslot := slot_of_ctx? hctx
  have hgen : u.genOf d.slot = s.genOf c.slot := by rw [State.genOf, hs.gens, hk.slot, State.genOf]
  have hparts : u.parts = s.parts := hs.only .parts (by decide)
  have hrests : AtRest s c := atRest_of_ctxRests (hslot ▸ hctx) hr
  refine ⟨u, d, hu, hs, hs.onlyNoVs hvs, hk, namedCtx_eq_some.mpr ⟨hd, h12, by rw [hgen, h24], fun h => by rw [hk.part, hpart h]⟩,
    hrests.of (hslot ▸ hd) hk.fences hk.held (fun x hx => by rwa [← hs.inflight]) hparcels (hs.only .inl (by decide))
      (hs.only .pegs (by decide)), by rw [hs.quiet.staged, h1], by rw [hs.quiet.firmware, h2], ?_⟩
  rw [mgmtRefusal, namedRefusal, hk.part, State.part, hparts]
  rfl

/-! ### CTX_RESET -/

theorem startCtxReset_atRest {r : CmdRef} {p : Packet} {s : State} {c : Ctx} (hn : namedCtx s r.src (pf p 20 4) = some c)
    (hm : mgmtRefusal r c.part s = none) (hcov : s.coveredBy .context c.slot = none) (hr : CtxBegunAnew c s (ctxReset c 1 s)) :
    startCtxReset r p s = answer r stOk (resultOf [(16, 4, (ctxReset c 1 s).handleOf c.slot)]) (ctxReset c 1 s) := by
  have hd : (watchRung c.slot c.part (resetCtx c.slot 1 s.drains s)).draining (some c.slot) = false := hr.rests
  unfold startCtxReset
  simp only [hn, hm, hcov, hd]
  rfl

/-- The areas in which the end of a context's work and its reply leave marks. -/
abbrev ctxAreas : List Area := [.parts, .cmds, .gl, .inl, .sill, .pegs, .cal, .plumb, .scribe, .out]

theorem only_answer (r : CmdRef) (st : Nat) (v : BitVec 128) (s : State) : OnlyIn ctxAreas s (answer r st v s) :=
  (only_answerWith _ _ _ _ _).mono (by simp)

/-- A command that a start on a context at rest answers. -/
theorem StartsOn.replies {op : Op} {p : Packet} {s u w : State} {c d : Ctx} {st : Nat} {v : BitVec 128} (h : StartsOn op p s c u d)
    (hp : passes op p s) (hi : op.issuers = [.c, .m]) (hn : w.now = u.now) (hl : w.parts.length = u.parts.length) :
    Answered op p st v s (answer (named op p s) st v w) := by
  have hcal : u.cal = s.cal := h.only .cal (by decide)
  have hparts : u.parts = s.parts := h.started.only .parts (by decide)
  have hr := answer_replies (r := named op p s) (s := w) (st := st) (v := v)
    (fun id hid => absurd hid (not_session_of_passes hi hp id)) (fun q hq => by rw [hl, hparts]; exact ring_of_passes hp q hq)
  rwa [hn, State.now, hcal] at hr

/-- A start on a context at rest whose effect ends in an answer. -/
theorem StartsOn.exec_of_effect {op : Op} {p : Packet} {a : Aux} {i : Instr} {s u w : State} {c d : Ctx} {st : Nat} {v : BitVec 128}
    (h : StartsOn op p s c u d) (hc : s.calm) (hi : exec i s = settled s (submit op p a s))
    (he : submit op p a s = answer (named op p s) st v w) (hw : Quiet u w) :
    exec i s = .next { answer (named op p s) st v w with pending := s.pending } := by
  rw [hi, he]
  exact settled_calm ((h.started.quiet.trans (hw.trans (quiet_answer _ _ _ _))).calm hc)

theorem exec_ctxReset {p : Packet} {s : State} {c : Ctx} (hc : s.calm) (hp : passes .ctxReset p s)
    (hn : namedCtx s p.src (pf p 20 4) = some c) (hm : mgmtRefusal (named .ctxReset p s) c.part s = none)
    (hcov : s.coveredBy .context c.slot = none) (hr : s.ctxRests c.slot = true) :
    ∃ t d, exec (.ctxReset p) s = .next t ∧ t.ctx? c.slot = some d ∧ d.expected = 0 ∧ d.handles = c.handles ∧ d.htLog2 = c.htLog2 ∧
      d.fences = [] ∧ t.genOf c.slot = (s.genOf c.slot + 1) % 256 ∧
      Answered .ctxReset p stOk (resultOf [(16, 4, mkHandle c.slot ((s.genOf c.slot + 1) % 256))]) s t ∧ OnlyIn ctxAreas s t := by
  obtain ⟨u, d, hu, hs⟩ := submit_startsOn .none hc hp rfl hn hr
  have hw := ctxReset_atRest hs.rests hs.staged hs.firmware 1
  have hparts : u.parts = s.parts := hs.started.only .parts (by decide)
  have hctx : ∀ n, n = c.slot → s.ctx? n = some c ∧ u.ctx? n = some d := by
    rintro n rfl
    obtain ⟨hctx, -⟩ := namedCtx_eq_some.mp hn
    exact ⟨slot_of_ctx? hctx ▸ hctx, hs.kept.slot ▸ hs.rests.ctx⟩
  have hcovered : u.coveredBy .context d.slot = none := by
    rw [hs.kept.slot, ← hcov]
    obtain ⟨hctxs, hctxu⟩ := hctx _ rfl
    exact coveredBy_context_congr hs.started.quiet.rungs (by rw [hctxs, hctxu, Option.map_some, Option.map_some, hs.kept.part])
      fun p => by rw [State.part, hparts, State.part]
  have hgen : (ctxReset d 1 u).genOf c.slot = (s.genOf c.slot + 1) % 256 := by
    rw [← hs.kept.slot, hw.gen, State.genOf, hs.started.gens, State.genOf]
  have heffect : submit .ctxReset p .none s = answer (named .ctxReset p s) stOk
      (resultOf [(16, 4, mkHandle c.slot ((s.genOf c.slot + 1) % 256))]) (ctxReset d 1 u) := by
    rw [hu, ← hgen, ← hs.kept.slot]
    exact startCtxReset_atRest hs.names (hs.refusal.trans hm) hcovered hw
  have hexec := hs.exec_of_effect hc (i := .ctxReset p) rfl heffect hw.quiet
  have hanswer := noted_answer (ctxReset d 1 u) (named .ctxReset p s) stOk
    (resultOf [(16, 4, mkHandle c.slot ((s.genOf c.slot + 1) % 256))])
  obtain ⟨e, he, hwork⟩ := hanswer.ctx? hw.ctx
  refine ⟨_, e, hexec, hs.kept.slot ▸ he, congrArg Ctx.expected hwork, (congrArg Ctx.handles hwork).trans hs.kept.handles,
    (congrArg Ctx.htLog2 hwork).trans hs.kept.htLog2, congrArg Ctx.fences hwork, (hanswer.genOf _).trans hgen, ?replied, ?only⟩
  case replied =>
    have hl : (ctxReset d 1 u).parts = u.parts := hw.only .parts (by decide)
    exact hs.replies hp rfl hw.now (by rw [hl])
  case only =>
    exact OnlyIn.queue ((hs.only.mono (by simp)).trans ((hw.only.mono (by simp)).trans (only_answer _ _ _ _))) _

/-! ### CTX_RELEASE -/

theorem resultOf_noWork : resultOf [(16, 4, 0), (20, 4, 0), (24, 4, 0)] = 0 := by decide

/-- A release of a context at rest with no scrub list squashes, orphans and scrubs nothing. -/
theorem startCtxRelease_atRest {r : CmdRef} {p : Packet} {s w : State} {c : Ctx} (hn : namedCtx s r.src (pf p 20 4) = some c)
    (hm : mgmtRefusal r c.part s = none) (ho : srcIsCtx r.src = true → c.slot ≠ r.slot) (hk : pf p 26 2 = 0) (hr : AtRest s c)
    (h1 : s.cmds.staged = []) (h2 : s.cmds.firmware = [])
    (hw : releaseCtx c.slot (if pbit p 24 0 then 5 else 1) (fun _ => false) s = (0, 0, w)) :
    startCtxRelease r p (.ok []) s = complete r stOk 0 w := by
  have hown : ¬(srcIsCtx r.src && decide (c.slot = r.slot)) = true := by
    rw [Bool.and_eq_true, decide_eq_true_eq]
    exact fun h => ho h.1 h.2
  have hstaged := ctxStaged_eq_nil h1 h2 c.slot
  have hrunning := hr.ctxInflight_eq_nil
  unfold startCtxRelease
  simp only [hn, hm]
  rw [if_neg hown, if_neg (by simp [hstaged, hrunning]), if_neg (by simp [hk]), if_neg (by simp [hk]), if_neg (by simp [hk]), hw, hk]
  exact congrArg (fun v => complete r stOk v w) resultOf_noWork

theorem exec_ctxRelease {p : Packet} {s : State} {c : Ctx} (hc : s.calm) (hp : passes .ctxRelease p s)
    (hn : namedCtx s p.src (pf p 20 4) = some c) (hm : mgmtRefusal (named .ctxRelease p s) c.part s = none)
    (ho : srcIsCtx p.src = true → c.slot ≠ p.slot) (hk : pf p 26 2 = 0) (hr : s.ctxRests c.slot = true) :
    ∃ t, exec (.ctxRelease p (.ok [])) s = .next t ∧ t.ctx? c.slot = none ∧ t.genOf c.slot = (s.genOf c.slot + 1) % 256 ∧
      (∀ n d, n ≠ c.slot → s.ctx? n = some d → (t.ctx? n).isSome = true) ∧ Answered .ctxRelease p stOk 0 s t ∧
      OnlyIn ctxAreas s t := by
  obtain ⟨u, d, hu, hs⟩ := submit_startsOn (.mem (.ok [])) hc hp rfl hn hr
  have hslot := hs.kept.slot
  obtain ⟨w, hrel, hw, hgone⟩ := releaseCtx_atRest hs.rests hs.staged hs.firmware (if pbit p 24 0 then 5 else 1) (fun _ => false)
  have hfresh : w.staleRef (named .ctxRelease p s) = false := by
    rw [← hs.started.fresh hp]
    cases hsrc : srcIsCtx p.src with
    | false => simp [State.staleRef, named, refOf, hsrc]
    | true =>
      have hne : (named .ctxRelease p s).slot ≠ d.slot := by rw [hslot]; exact (ho hsrc).symm
      exact staleRef_congr (hw.gens _ hne) (by rw [hw.others _ hne])
  have heffect : submit .ctxRelease p (.mem (.ok [])) s = answer (named .ctxRelease p s) stOk 0 w := by
    rw [hu, ← complete_of_fresh hfresh]
    exact startCtxRelease_atRest hs.names (hs.refusal.trans hm) (fun h => hslot ▸ ho h) hk hs.rests hs.staged hs.firmware hrel
  have hexec := hs.exec_of_effect hc (i := .ctxRelease p (.ok [])) rfl heffect hw.quiet
  have hanswer := noted_answer w (named .ctxRelease p s) stOk 0
  refine ⟨_, hexec, hslot ▸ hanswer.ctx?_eq_none hgone, (hanswer.genOf _).trans ?gen, fun n e hne he => ?others, ?replied, ?only⟩
  case gen => rw [← hslot, hw.gen, State.genOf, hs.started.gens, State.genOf]
  case others =>
    obtain ⟨e', he', -⟩ := hs.started.ctxs n e he
    obtain ⟨e'', he'', -⟩ := hanswer.ctx? ((hw.others n (by rwa [hslot])).trans he')
    exact Option.isSome_iff_exists.mpr ⟨e'', he''⟩
  case replied =>
    have hl : w.parts = u.parts := hw.only .parts (by decide)
    exact hs.replies hp rfl hw.now (by rw [hl])
  case only =>
    exact OnlyIn.queue ((hs.only.mono (by simp)).trans ((hw.only.mono (by simp)).trans (only_answer _ _ _ _))) _

/-! ### P0_DRAIN_DEADLINE (R402) -/

/-- What rungs and drains leave, once it is calm, is all that the block does by itself. -/
theorem pump_of_rungs {s t : State} (h : finishDrains (runContextRungs s) = t) (ht : t.calm) : pump s = t := by
  have hsettle : settleAll s = t := by
    simp only [settleAll, h, discardUnreachable_calm ht, finishEvictions_calm ht, finishStops_calm ht, finishDebugOpen_calm ht,
      finishEcho_calm ht]
  obtain ⟨h1, h2, -⟩ := State.calm_cases ht
  simp [pump, hsettle, h1, h2, startAll, lookAll_calm ht]

theorem now_atTime (s : State) (n : Nat) : (s.atTime n).now = max s.now n := by
  change s.cal.now + (n - s.cal.now) = max s.cal.now n
  omega

theorem quiet_atTime (s : State) (n : Nat) : Quiet s (s.atTime n) :=
  ⟨rfl, rfl, rfl, rfl, rfl, rfl, rfl, rfl, rfl, fun _ hx => .inl hx, id, rfl⟩

section drain
variable {s : State} {x : TxParcel} {g : RunningRung} {r : CmdRef}

theorem runContextRungs_of_begun (hg : s.plumb.rungs = [g]) (hb : g.begun = true) : runContextRungs s = s := by
  simp [runContextRungs, hg, hb]

/-- A context rung whose drain has ended leaves, and its CTX_RESET replies. -/
theorem finishDrains_of_passed (hp : s.gl.parcels = [x]) (hx : x.deadline ≠ 0) (hd : x.deadline ≤ s.now) (hg : s.plumb.rungs = [g])
    (hrung : g.rung = .context) (hb : g.begun = true) (ht : g.timerFrom = none) (hcmd : g.cmd = some r)
    (hin : (s.inflight? r).isSome = true) :
    finishDrains s = answer r stOk (resultOf [(16, 4, s.handleOf g.scope)]) (endRung g s) := by
  have hdrained : s.draining (some g.scope) = false := by
    simp [State.draining, hp, hx, Nat.not_lt.mpr hd]
  have hin' : ((endRung g s).inflight? r).isSome = true := hin
  unfold finishDrains
  simp only [hg, hb, ht, Option.isNone_none, Bool.and_self, List.filter_cons_of_pos, List.filter_nil, List.foldl_cons, List.foldl_nil,
    hrung, if_true, hdrained, hcmd, hin', Bool.false_eq_true, if_false]
  rfl

/-- The state in which a drain's deadline has come and no rung runs any more. -/
def drained (deadline : Nat) (s : State) : State := State.atTime { s with plumb := { s.plumb with rungs := [] } } deadline

theorem endRung_of_alone (hg : s.plumb.rungs = [g]) (deadline : Nat) : endRung g (s.atTime deadline) = drained deadline s := by
  simp [endRung, hg, drained, State.atTime]

theorem exec_p0DrainDeadline {id : Nat} (hc : State.calm { s with plumb := { s.plumb with rungs := [] } } = true)
    (hrun : s.running = true) (hp : s.gl.parcels = [x]) (hid : x.id = id) (hdrain : x.drain = true) (hx : x.deadline ≠ 0)
    (hg : s.plumb.rungs = [g]) (hrung : g.rung = .context) (hb : g.begun = true) (ht : g.timerFrom = none) (hcmd : g.cmd = some r)
    (hsrc : r.src = .mgmt) (hin : (s.inflight? r).isSome = true) :
    ∃ t, exec (.p0DrainDeadline id) s = .next t ∧ t.now = max s.now x.deadline ∧ t.plumb.rungs = [] ∧
      Replied r stOk (resultOf [(16, 4, s.handleOf g.scope)]) t.now t ∧ OnlyIn (.cal :: .start :: replyAreas) s t := by
  have hpassed : p0DrainDeadline id s = s.atTime x.deadline := by
    simp [p0DrainDeadline, State.parcel?, hp, hid, hrun, hdrain, hx]
  have hdrains : finishDrains (runContextRungs (s.atTime x.deadline)) =
      answer r stOk (resultOf [(16, 4, s.handleOf g.scope)]) (drained x.deadline s) := by
    rw [runContextRungs_of_begun (s := s.atTime x.deadline) hg hb, ← endRung_of_alone hg]
    exact finishDrains_of_passed (s := s.atTime x.deadline) hp hx (by rw [now_atTime]; exact Nat.le_max_right _ _) hg hrung hb ht hcmd hin
  have hcalm := ((quiet_atTime _ x.deadline).trans (quiet_answer r stOk (resultOf [(16, 4, s.handleOf g.scope)]) _)).calm hc
  have hexec : exec (.p0DrainDeadline id) s = .next
      { answer r stOk (resultOf [(16, 4, s.handleOf g.scope)]) (drained x.deadline s) with pending := s.pending } := by
    change settled s (p0DrainDeadline id s) = _
    rw [hpassed, settled, pump_of_rungs hdrains hcalm]
  have honly : OnlyIn [.parts, .cmds, .gl, .scribe, .out] (drained x.deadline s)
      (answer r stOk (resultOf [(16, 4, s.handleOf g.scope)]) (drained x.deadline s)) := only_answerWith _ _ _ _ _
  have hnow : (answer r stOk (resultOf [(16, 4, s.handleOf g.scope)]) (drained x.deadline s)).now = (drained x.deadline s).now :=
    congrArg Calendar.now (honly .cal (by decide))
  refine ⟨_, hexec, hnow.trans (now_atTime _ _), congrArg Plumb.rungs (honly .plumb (by decide)), ?replied, OnlyIn.queue ?only _⟩
  case replied =>
    have hr := answer_replies (r := r) (s := drained x.deadline s) (st := stOk) (v := resultOf [(16, 4, s.handleOf g.scope)])
      (fun id h => by rw [hsrc] at h; cases h) (fun q h => by rw [hsrc] at h; cases h)
    rwa [← hnow] at hr
  case only =>
    exact ((only_withPlumb s _).mono (by simp)).trans (((only_atTime _ _).mono (by simp)).trans (honly.mono (by simp)))

end drain

/-- Settles O34: the start, the end of the work and the reply of each command, one after the other, leave the block calm. -/
theorem contextsAreResetAndReleased : Obligations.ContextsAreResetAndReleased :=
  ⟨fun _ _ _ => exec_ctxReset, fun _ _ _ => exec_ctxRelease, fun _ _ _ _ _ => exec_p0DrainDeadline⟩

end Sys2Proof.Machine
end

section
/-! PROOFS. Slices (08 R279) and the run limit (03 R80). -/

namespace Sys2Proof.Machine

/-! ### Slices -/

section slices
variable {s : State} {part cls h n : Nat}

theorem sliceOf_setSlice_none (s : State) (part cls : Nat) : (s.setSlice part cls none).sliceOf part cls = none := by
  simp only [State.sliceOf, State.setSlice, Option.map_eq_none_iff, List.find?_eq_none, List.mem_filter]
  rintro x ⟨-, hx⟩ hc
  simp_all

theorem sliceOf_setSlice_some (s : State) (part cls n : Nat) : (s.setSlice part cls (some n)).sliceOf part cls = some n := by
  have hrest : (s.cal.slices.filter (fun x => !(x.1 = part && x.2.1 = cls))).find? (fun x => x.1 = part && x.2.1 = cls) = none := by
    rw [List.find?_eq_none]
    intro x hx hc
    have := (List.mem_filter.mp hx).2
    simp_all
  simp only [State.sliceOf, State.setSlice, List.find?_append, hrest, Option.none_or]
  simp

theorem only_setSlice (s : State) (part cls : Nat) (ctx : Option Nat) : OnlyIn [.cal] s (s.setSlice part cls ctx) := by
  intro g hg
  cases g with
  | cal => exact absurd (by simp) hg
  | _ => rfl

theorem quiet_setSlice (s : State) (part cls : Nat) (ctx : Option Nat) : Quiet s (s.setSlice part cls ctx) :=
  ⟨rfl, rfl, rfl, rfl, rfl, rfl, rfl, rfl, rfl, fun _ hx => .inl hx, id, rfl⟩

theorem sliceEnd_of_none (hr : s.running = true) (hs : s.sliceOf part cls = some h) (hn : nextReady s part cls h = none) :
    sliceEnd part cls 0 s = s.setSlice part cls none := by
  simp [sliceEnd, hs, hr, chargeOverrun, hn]

theorem sliceEnd_of_alone (hr : s.running = true) (hs : s.sliceOf part cls = some h) (hn : nextReady s part cls h = some h) :
    sliceEnd part cls 0 s = s := by
  simp [sliceEnd, hs, hr, chargeOverrun, hn]

/-- The state in which another context holds the slice, without charge (R79, R279). -/
def sliceGiven (part cls n : Nat) (s : State) : State :=
  (s.setSlice part cls (some n)).modCtx n (fun c => { c with overrunNs := 0 })

theorem resumeCtx_of_not_preempted {c : Ctx} (hc : s.ctx? n = some c) (hp : c.preempted.contains cls = false) :
    resumeCtx part cls n s = s := by
  simp only [resumeCtx, hc, hp, Bool.not_false, if_true]

theorem ctx?_sliceGiven {c : Ctx} (hc : s.ctx? n = some c) : (sliceGiven part cls n s).ctx? n = some { c with overrunNs := 0 } :=
  ctx?_modCtx_self (fun _ => by rfl) (s := s.setSlice part cls (some n)) hc

theorem sliceEnd_of_other {c : Ctx} (hr : s.running = true) (hs : s.sliceOf part cls = some h) (hn : nextReady s part cls h = some n)
    (hne : n ≠ h) (hready : s.readyIn part cls h = false) (hc : s.ctx? n = some c) (hp : c.preempted.contains cls = false) :
    sliceEnd part cls 0 s = sliceGiven part cls n s := by
  have hresume : resumeCtx part cls n (sliceGiven part cls n s) = sliceGiven part cls n s :=
    resumeCtx_of_not_preempted (ctx?_sliceGiven hc) hp
  rw [← hresume]
  simp [sliceEnd, hs, hr, chargeOverrun, hn, hne, hready, sliceGiven]

theorem exec_sliceEnd {t : State} (hc : s.calm) (he : sliceEnd part cls 0 s = t) (hq : Quiet s t) (hp : t.pending = s.pending) :
    exec (.sliceEnd part cls 0) s = .next t := by
  change settled s (sliceEnd part cls 0 s) = _
  rw [he]
  exact settled_quiet hc hq hp

end slices

/-! ### Notices (R550) -/

/-- Every channel's doorbells have been looked at. -/
def State.chansLooked (s : State) : Prop := ∀ q ∈ s.mail.chans, q.looked = true

/-- Notices go into the mailboxes alone, take back nothing that has left, and ring no doorbell towards the block. -/
structure Notified (s t : State) : Prop where
  only : OnlyIn [.mail, .out] s t
  out : ∀ o ∈ s.out, o ∈ t.out
  looked : s.chansLooked → t.chansLooked

theorem Notified.refl (s : State) : Notified s s := ⟨OnlyIn.refl _ _, fun _ h => h, id⟩

theorem Notified.trans {s t u : State} (h : Notified s t) (k : Notified t u) : Notified s u :=
  ⟨h.only.trans k.only, fun o ho => k.out o (h.out o ho), fun hl => k.looked (h.looked hl)⟩

theorem notified_modChan (s : State) (c : Nat) {f : Channel → Channel} (hf : ∀ q, (f q).looked = q.looked) :
    Notified s (s.modChan c f) := by
  refine ⟨only_modChan s c f, fun o ho => ?out, fun hl q hq => ?looked⟩
  case out =>
    unfold State.modChan
    dsimp only
    split
    · split
      · exact List.mem_cons_of_mem _ ho
      · split
        · exact List.mem_cons_of_mem _ ho
        · exact ho
    · exact ho
  case looked =>
    rw [modChan_mail] at hq
    obtain ⟨i, hi⟩ := List.mem_iff_getElem?.mp hq
    rw [List.getElem?_modify] at hi
    obtain ⟨r, hr, rfl⟩ := Option.map_eq_some_iff.mp hi
    have hz := hl r (List.mem_of_getElem? hr)
    split
    · rw [hf, hz]
    · exact hz

theorem notified_queueNotice (c : Nat) (n : Notice) (s : State) : Notified s (queueNotice c n s) := by
  unfold queueNotice
  split
  · exact Notified.refl s
  · split
    · exact notified_modChan s c fun _ => rfl
    · exact notified_modChan s c fun _ => rfl

theorem notified_noticeFault (src sub : Nat) (part : Option Nat) (time : Nat) (s : State) :
    Notified s (noticeFault src sub part time s) := by
  refine List.foldlRecOn _ _ (Notified.refl s) fun u hu c _ => hu.trans ?_
  split
  · split
    · exact notified_queueNotice _ _ _
    · exact Notified.refl _
  · split
    · exact notified_queueNotice _ _ _
    · exact Notified.refl _

/-! ### An event's entry (R428) -/

/-- The state in which an event is marked and has its entry in the error log. -/
def entryWritten (src sub action : Nat) (part : Option Nat) (detail : Nat) (s : State) : State :=
  logEntry src sub action part false false detail (plumbMark src s)

theorem notified_plumbLog (src sub action : Nat) (part : Option Nat) (detail : Nat) (s : State) :
    Notified (entryWritten src sub action part detail s) (plumbLog src sub action part false detail s) := by
  unfold plumbLog
  dsimp only
  split
  · exact Notified.refl _
  · exact notified_noticeFault _ _ _ _ _

theorem find?_srcInsert (l : List (Nat × SrcCfg)) (n : Nat) (c : SrcCfg) :
    (srcInsert l n c).find? (fun e => e.1 = n) = some (n, c) := by
  induction l with
  | nil => simp [srcInsert]
  | cons e l ih =>
    obtain ⟨a, b⟩ := e
    unfold srcInsert
    split
    · simp
    · rename_i ha
      split
      · simp
      · simp [ha, ih]

theorem src_setSrc (s : State) (n : Nat) (c : SrcCfg) : (s.setSrc n c).src n = c := by
  simp only [State.src, State.setSrc, find?_srcInsert]

theorem src_congr {s t : State} (h : t.plumb.srcs = s.plumb.srcs) (n : Nat) : t.src n = s.src n := by
  rw [State.src, h, State.src]

/-- An event's count leaves the kept times as they were. -/
theorem src_entryWritten (src sub action : Nat) (part : Option Nat) (detail : Nat) (s : State) :
    (entryWritten src sub action part detail s).src src = { s.src src with count := bump 65535 (s.src src).count } :=
  (src_congr (t := entryWritten src sub action part detail s) (s := s.setSrc src _) rfl src).trans (src_setSrc _ _ _)

theorem sticky_entryWritten {src : Nat} (h : src < 256) (sub action : Nat) (part : Option Nat) (detail : Nat) (s : State) :
    (entryWritten src sub action part detail s).plumb.sticky.getLsbD src = true := by
  have hbit : (1 <<< src : BitVec 256).getLsbD src = true := by
    rw [BitVec.natCast_eq_ofNat, BitVec.getLsbD_ofNat, Nat.one_shiftLeft, Nat.testBit_two_pow_self, decide_eq_true h, Bool.true_and]
  change (s.plumb.sticky ||| (1 <<< src : BitVec 256)).getLsbD src = true
  rw [BitVec.getLsbD_or, hbit, Bool.or_true]

/-- Fewer events than the threshold: the time is kept, and nothing follows (R428). -/
theorem plumbThreshold_of_few {src : Nat} {s : State} (named : Option Nat) (ctx : Option Nat)
    (h : (s.src src).times.length + 1 < (s.src src).thresh) :
    ∃ c, plumbThreshold src named s ctx = s.setSrc src c := by
  have hlen : (((s.src src).times ++ [s.now]).reverse.take (s.src src).thresh).reverse.length ≠ (s.src src).thresh := by
    simp only [List.length_reverse, List.length_take, List.length_append, List.length_singleton]
    omega
  have h0 : (s.src src).thresh ≠ 0 := by omega
  have hmet : thresholdMet src s = (false, s.setSrc src { s.src src with
      times := (((s.src src).times ++ [s.now]).reverse.take (s.src src).thresh).reverse }) := by
    unfold thresholdMet
    dsimp only
    rw [if_neg (by simp only [Bool.and_eq_true, decide_eq_true_eq]; exact fun hc => hlen hc.1.2), if_neg h0]
  unfold plumbThreshold
  rw [hmet]
  exact ⟨_, rfl⟩

/-! ### A context rung asked for (R430, R443) -/

/-- A context rung that an event asks for. -/
def askedRung (slot src now : Nat) (tenant : Bool) : RunningRung :=
  { rung := .context, scope := slot, src := src, begun := false, startedAt := now, timerFrom := some now, cmd := none, tenant := tenant
    work := [] }

theorem requestRung_of_uncovered {s : State} {slot : Nat} (src : Nat) (h : s.coveredBy .context slot = none) :
    ∃ tenant, requestRung .context slot src s =
      { s with plumb := { s.plumb with rungs := s.plumb.rungs ++ [askedRung slot src s.now tenant] } } := by
  unfold requestRung requestRungFor
  rw [if_neg Rung.noConfusion, h]
  simp only [rungCovers, Bool.false_and, Bool.not_false, List.filter_true]
  exact ⟨_, rfl⟩

/-! ### The context fault of a context at rest (R80, R430) -/

/-- What a context fault leaves: its event in the error log, its notice, and its rung at the end of those that run. -/
structure CtxFaulted (r : CmdRef) (s t : State) : Prop where
  only : OnlyIn [.plumb, .mail, .out] s t
  rungs : ∃ tenant, t.plumb.rungs = s.plumb.rungs ++ [askedRung r.slot (0xA0 + r.part) s.now tenant]
  sticky : t.plumb.sticky.getLsbD (0xA0 + r.part) = true
  out : ∀ o ∈ s.out, o ∈ t.out
  looked : s.chansLooked → t.chansLooked

theorem ctxFaulted_ctxFault {r : CmdRef} {s : State} (cause : Nat) (hpart : r.part < 16)
    (hcov : s.coveredBy .context r.slot = none)
    (hfew : (s.src (0xA0 + r.part)).times.length + 1 < (s.src (0xA0 + r.part)).thresh) :
    CtxFaulted r s (ctxFault r cause s) := by
  generalize hdetail : r.slot + 2 ^ 16 * ((r.gen + 1) % 256) + 2 ^ 24 * r.cls + 2 ^ 32 * r.op = detail
  have hlog := logged_plumbLog (0xA0 + r.part) cause 2 (some r.part) false detail s
  have hnote := notified_plumbLog (0xA0 + r.part) cause 2 (some r.part) detail s
  generalize hu : plumbLog (0xA0 + r.part) cause 2 (some r.part) false detail s = u at hlog hnote
  have hplumb : u.plumb = (entryWritten (0xA0 + r.part) cause 2 (some r.part) detail s).plumb := hnote.only .plumb (by decide)
  have hcmds : u.cmds = s.cmds := hlog.only .cmds (by decide)
  have hparts : u.parts = s.parts := hlog.only .parts (by decide)
  have hcal : u.cal = s.cal := hlog.only .cal (by decide)
  have hrungs : u.plumb.rungs = s.plumb.rungs := by rw [hplumb]; rfl
  have hcovu : u.coveredBy .context r.slot = none := by
    rw [← hcov]
    exact coveredBy_context_congr hrungs (by rw [ctx?_congr hcmds]) fun p => by rw [State.part, hparts, State.part]
  obtain ⟨tenant, hasked⟩ := requestRung_of_uncovered (0xA0 + r.part) hcovu
  have hsrc : (requestRung .context r.slot (0xA0 + r.part) u).src (0xA0 + r.part) =
      { s.src (0xA0 + r.part) with count := bump 65535 (s.src (0xA0 + r.part)).count } := by
    rw [hasked, ← src_entryWritten (0xA0 + r.part) cause 2 (some r.part) detail s]
    exact src_congr (by rw [← hplumb]) _
  obtain ⟨c, hthresh⟩ := plumbThreshold_of_few (some r.part) (some r.slot) (by rw [hsrc]; exact hfew)
  have hfault : ctxFault r cause s = (requestRung .context r.slot (0xA0 + r.part) u).setSrc (0xA0 + r.part) c := by
    rw [← hthresh, ← hu, ← hdetail, ctxFault]
  rw [hfault, hasked]
  refine ⟨hlog.only.trans ((only_withPlumb u _).mono (by simp)), ⟨tenant, ?rungs⟩, ?sticky, hnote.out, hnote.looked⟩
  case rungs =>
    change u.plumb.rungs ++ [askedRung r.slot (0xA0 + r.part) u.now tenant] = _
    rw [hrungs, State.now, hcal, State.now]
  case sticky =>
    change u.plumb.sticky.getLsbD (0xA0 + r.part) = true
    rw [hplumb]
    exact sticky_entryWritten (by omega) _ _ _ _ _

theorem contextRung_atRest {s : State} {c : Ctx} {g : RunningRung} (h : AtRest s c) (h1 : s.cmds.staged = [])
    (h2 : s.cmds.firmware = []) (hg : g.scope = c.slot) (cause : Nat) :
    contextRung g cause s = endRung g (ctxReset c cause s) := by
  have hd : (watchRung c.slot c.part (resetCtx c.slot cause s.drains s)).draining (some c.slot) = false :=
    (ctxReset_atRest h h1 h2 cause).rests
  unfold contextRung
  rw [hg, h.ctx]
  dsimp only
  rw [hd]
  rfl

/-- Of a calm block's rungs and one asked for, that one alone is to run. -/
theorem runContextRungs_of_asked {s t : State} {slot src now : Nat} {tenant : Bool} (hc : s.calm)
    (hr : t.plumb.rungs = s.plumb.rungs ++ [askedRung slot src now tenant]) :
    ∃ cause, runContextRungs t = contextRung (askedRung slot src now tenant) cause t := by
  obtain ⟨-, -, hrungs, -⟩ := State.calm_cases hc
  have hnone : s.plumb.rungs.filter (fun x => x.rung = Rung.context && !x.begun) = [] := by
    rw [List.filter_eq_nil_iff]
    intro x hx hp
    exact (hrungs x hx).1 (by simpa using hp)
  unfold runContextRungs
  rw [hr, List.filter_append, hnone]
  exact ⟨_, rfl⟩

/-- What the context rung of a context at rest leaves when nothing else is to be done. -/
structure CtxRestarted (c : Ctx) (s t : State) : Prop where
  out : t.out = s.out
  gen : t.genOf c.slot = (s.genOf c.slot + 1) % 256
  ctx : t.ctx? c.slot = some c.afterReset
  inflight : t.cmds.inflight = s.cmds.inflight
  cmdHeld : t.cmds.cmdHeld = s.cmds.cmdHeld
  sticky : t.plumb.sticky = s.plumb.sticky

/-- Once its rung has ended, a context fault leaves a calm block nothing to do. -/
theorem CtxFaulted.calm {r : CmdRef} {s t : State} {c : Ctx} {now cause : Nat} {tenant : Bool} (h : CtxFaulted r s t) (hc : s.calm)
    (hr : t.plumb.rungs = s.plumb.rungs ++ [askedRung r.slot (0xA0 + r.part) now tenant])
    (hw : CtxBegunAnew c t (ctxReset c cause t)) :
    (endRung (askedRung r.slot (0xA0 + r.part) now tenant) (ctxReset c cause t)).calm := by
  have hcmds : t.cmds = s.cmds := h.only .cmds (by decide)
  have hgl : t.gl = s.gl := h.only .gl (by decide)
  have hkp : t.kp = s.kp := h.only .kp (by decide)
  refine Still.calm (s := s) ⟨hw.quiet.staged.trans (by rw [hcmds]), hw.quiet.firmware.trans (by rw [hcmds]), fun x hx => .inl ?rungs,
    hw.quiet.opening.trans (by rw [h.only .debugs (by decide)]), hw.quiet.stopping.trans (by rw [h.only .vs (by decide)]),
    hw.quiet.slots.trans (by rw [hkp]), hw.quiet.runs.trans (by rw [h.only .tests (by decide)]), fun n => ?links,
    hw.quiet.coord.trans (by rw [hgl]), hw.parcels.trans (by rw [hgl])⟩ hc fun hm => ?looked
  case rungs =>
    obtain ⟨hx, hkept⟩ := List.mem_filter.mp hx
    rw [hw.quiet.rungs, hr] at hx
    rcases List.mem_append.mp hx with hx | hx
    · exact hx
    · rw [List.mem_singleton.mp hx] at hkept
      simp at hkept
  case links =>
    change ((ctxReset c cause t).link n).state = (s.link n).state
    rw [State.link, hw.quiet.links, hgl, State.link]
  case looked =>
    obtain ⟨-, -, -, -, -, -, -, -, hlooked⟩ := State.calm_cases hc
    have hstart : t.start = s.start := h.only .start (by decide)
    have hscribe : t.scribe = s.scribe := h.only .scribe (by decide)
    have hserved : t.mailServed = s.mailServed := by rw [State.mailServed, State.up, hstart, hscribe, hkp, State.mailServed, State.up]
    have hchans := h.looked (hlooked (hserved ▸ hw.quiet.served hm))
    rwa [State.chansLooked, ← hw.quiet.chans] at hchans

theorem pump_of_ctxFaulted {r : CmdRef} {s t : State} {c : Ctx} (hc : s.calm) (h : CtxFaulted r s t) (hr : AtRest s c)
    (hslot : c.slot = r.slot) : CtxRestarted c t (pump t) := by
  obtain ⟨h1, h2, -⟩ := State.calm_cases hc
  obtain ⟨tenant, hrungs⟩ := h.rungs
  have hcmds : t.cmds = s.cmds := h.only .cmds (by decide)
  have hgl : t.gl = s.gl := h.only .gl (by decide)
  have ht : AtRest t c := hr.of ((ctx?_congr hcmds _).trans hr.ctx) rfl rfl (fun x hx => by rwa [← hcmds])
    (fun x hx => .inl (by rwa [← hgl])) (h.only .inl (by decide)) (h.only .pegs (by decide))
  rw [← hcmds] at h1 h2
  obtain ⟨cause, hrun⟩ := runContextRungs_of_asked hc hrungs
  have hw := ctxReset_atRest ht h1 h2 cause
  have hcalm := h.calm hc hrungs hw
  have hreset := hrun.trans (contextRung_atRest ht h1 h2 hslot.symm cause)
  rw [pump_of_rungs ((congrArg finishDrains hreset).trans (finishDrains_calm hcalm)) hcalm]
  exact ⟨hw.only .out (by decide), hw.gen, hw.ctx, hw.inflight, hw.cmdHeld, hw.sticky⟩

/-! ### RUN_LIMIT_FAULT (R80) -/

theorem runLimitFault_of_alone {s : State} {x : Inflight} (hrun : s.running = true) (hin : s.cmds.inflight = [x])
    (hf : isFirmwareClass x.ref.cls = false) (hfresh : s.staleRef x.ref = false) :
    runLimitFault x.ref.part x.ref.slot x.ref.seq s = ctxFault x.ref 1 (answer x.ref stContextFaulted (detailOf 1) s) := by
  rw [← complete_of_fresh hfresh]
  simp [runLimitFault, hin, hf, hrun]

theorem ctx?_of_fresh {s : State} {r : CmdRef} (hs : srcIsCtx r.src = true) (h : s.staleRef r = false) : ∃ c, s.ctx? r.slot = some c := by
  simp only [State.staleRef, hs, Bool.true_and, Bool.or_eq_false_iff] at h
  exact Option.isSome_iff_exists.mp (by simpa using h.2)

/-- The state `u` in which the reply of a command, alone in flight, has left its context `c` at rest as `d`. -/
structure AnsweredToRest (r : CmdRef) (c d : Ctx) (s u : State) : Prop where
  calm : u.calm
  rests : AtRest u d
  slot : d.slot = r.slot
  part : d.part = c.part
  noted : Noted s u
  plumb : u.plumb = s.plumb
  inflight : u.cmds.inflight = []
  replied : Replied r stContextFaulted (detailOf 1) s.now u

theorem answeredToRest_answer {s : State} {x : Inflight} {c : Ctx} {p : Nat} (hc : s.calm) (hsrc : x.ref.src = .cmd p)
    (hin : s.cmds.inflight = [x]) (hctx : s.ctx? x.ref.slot = some c)
    (hrests : State.ctxRests { s with cmds := { s.cmds with inflight := [] } } x.ref.slot = true) :
    ∃ d, AnsweredToRest x.ref c d s (answer x.ref stContextFaulted (detailOf 1) s) := by
  have hn := noted_answer_of_land s x.ref stContextFaulted (detailOf 1)
  have honly : OnlyIn [.parts, .cmds, .gl, .scribe, .out] s (answer x.ref stContextFaulted (detailOf 1) s) :=
    only_answerWith _ _ _ _ _
  have hland : (s.land x.ref).cmds.inflight = [] := by simp [State.land, hin]
  have hslot := slot_of_ctx? hctx
  rw [← hslot] at hctx hrests
  obtain ⟨d, hd, hwork⟩ := hn.ctx? hctx
  have hr : AtRest { s with cmds := { s.cmds with inflight := [] } } c := atRest_of_ctxRests hctx hrests
  exact ⟨d, {
    calm := (quiet_answer _ _ _ s).calm hc
    rests := hr.of hd (congrArg Ctx.fences hwork :) (congrArg Ctx.held hwork :) (fun y hy => hland ▸ hn.inflight y hy) hn.parcels
      (honly .inl (by decide)) (honly .pegs (by decide))
    slot := (slot_of_ctx? hd).trans hslot
    part := (congrArg Ctx.part hwork :)
    noted := noted_answer s _ _ _
    plumb := honly .plumb (by decide)
    inflight := List.eq_nil_iff_forall_not_mem.mpr fun y hy => List.not_mem_nil (hland ▸ hn.inflight y hy)
    replied := answer_replies (fun id h => by rw [hsrc] at h; cases h) (fun q h => by rw [hsrc] at h; cases h) }⟩

/-- What a run-limit fault leaves: its command has its reply, and the command's context begins anew. -/
structure RunLimited (r : CmdRef) (s t : State) : Prop where
  inflight : t.inflight? r = none
  replied : Replied r stContextFaulted (detailOf 1) s.now t
  gen : t.genOf r.slot = (s.genOf r.slot + 1) % 256
  ctx : ∃ d, t.ctx? r.slot = some d ∧ d.expected = 0
  sticky : t.plumb.sticky.getLsbD (0xA0 + r.part) = true

/-- A reply to the CMD port stays while nothing that has left is taken back and the held replies stay (R53). -/
theorem Replied.of_cmd {r : CmdRef} {p st now : Nat} {v : BitVec 128} {s t : State} (h : Replied r st v now s) (hsrc : r.src = .cmd p)
    (hout : ∀ o ∈ s.out, o ∈ t.out) (hheld : t.cmds.cmdHeld = s.cmds.cmdHeld) : Replied r st v now t := by
  rcases h with h | ⟨f, h⟩
  · exact .inl h
  · refine .inr ⟨f, ?_⟩
    rw [hsrc] at h ⊢
    rcases h with h | h
    · exact .inl (hout _ h)
    · exact .inr (by rw [hheld]; exact h)

/-- The fault of a context that its command's reply has left at rest. -/
theorem AnsweredToRest.runLimited {s u : State} {r : CmdRef} {c d : Ctx} (h : AnsweredToRest r c d s u) (hctx : s.ctx? r.slot = some c)
    (hsrc : r.src = .cmd r.part) (hpart : r.part < 16) (hcov : s.coveredBy .context r.slot = none)
    (hfew : (s.src (0xA0 + r.part)).times.length + 1 < (s.src (0xA0 + r.part)).thresh) :
    RunLimited r s (pump (ctxFault r 1 u)) := by
  have hcovu : u.coveredBy .context r.slot = none := by
    rw [← hcov]
    refine coveredBy_context_congr (by rw [h.plumb]) ?_ h.noted.struck
    rw [← h.slot, h.rests.ctx, h.slot, hctx, Option.map_some, Option.map_some, h.part]
  have hsrcs : u.src (0xA0 + r.part) = s.src (0xA0 + r.part) := src_congr (by rw [h.plumb]) _
  have hfault := ctxFaulted_ctxFault 1 hpart hcovu (by rw [hsrcs]; exact hfew)
  have hend := pump_of_ctxFaulted h.calm hfault h.rests h.slot
  have hcmds : (ctxFault r 1 u).cmds = u.cmds := hfault.only .cmds (by decide)
  refine ⟨?inflight, ?replied, ?gen, ⟨d.afterReset, ?ctx, rfl⟩, ?sticky⟩
  case inflight =>
    rw [State.inflight?, hend.inflight, hcmds, h.inflight]
    rfl
  case replied => exact h.replied.of_cmd hsrc (fun o ho => by rw [hend.out]; exact hfault.out o ho) (by rw [hend.cmdHeld, hcmds])
  case gen => rw [← h.slot, hend.gen, State.genOf, hcmds, h.noted.gens, State.genOf]
  case ctx => rw [← h.slot, hend.ctx]
  case sticky =>
    rw [hend.sticky]
    exact hfault.sticky

theorem exec_runLimitFault {s : State} {x : Inflight} (hc : s.calm) (hrun : s.running = true) (hin : s.cmds.inflight = [x])
    (hsrc : x.ref.src = .cmd x.ref.part) (hf : isFirmwareClass x.ref.cls = false) (hfresh : s.staleRef x.ref = false)
    (hpart : x.ref.part < 16) (hcov : s.coveredBy .context x.ref.slot = none)
    (hrests : State.ctxRests { s with cmds := { s.cmds with inflight := [] } } x.ref.slot = true)
    (hfew : (s.src (0xA0 + x.ref.part)).times.length + 1 < (s.src (0xA0 + x.ref.part)).thresh) :
    ∃ t, exec (.runLimitFault x.ref.part x.ref.slot x.ref.seq) s = .next { t with pending := s.pending } ∧
      RunLimited x.ref s t := by
  obtain ⟨c, hctx⟩ := ctx?_of_fresh (by rw [hsrc]; rfl) hfresh
  obtain ⟨d, hd⟩ := answeredToRest_answer hc hsrc hin hctx hrests
  exact ⟨_, congrArg (settled s) (runLimitFault_of_alone hrun hin hf hfresh), hd.runLimited hctx hsrc hpart hcov hfew⟩

/-- Settles O38: a slice's end touches the slice alone; a run-limit fault answers its command, which leaves the context at rest, and
the rung it asks for begins that context anew. -/
theorem slicesAndRunLimits : Obligations.SlicesAndRunLimits := by
  refine ⟨fun part cls h s hc hr hs => ⟨fun hn => ?none, fun hn => ?alone, fun n c hn hne hready hctx hp => ?other⟩, ?limit⟩
  case none =>
    exact ⟨_, exec_sliceEnd hc (sliceEnd_of_none hr hs hn) (quiet_setSlice _ _ _ _) rfl, sliceOf_setSlice_none _ _ _,
      only_setSlice _ _ _ _⟩
  case alone => exact ⟨s, exec_sliceEnd hc (sliceEnd_of_alone hr hs hn) Quiet.rfl rfl, OnlyIn.refl _ _⟩
  case other =>
    exact ⟨_, _, exec_sliceEnd hc (sliceEnd_of_other hr hs hn hne hready hctx hp)
      ((quiet_setSlice _ _ _ _).trans (quiet_modCtx _ _ _)) rfl, sliceOf_setSlice_some _ _ _ _, ctx?_sliceGiven hctx, rfl,
      ((only_setSlice _ _ _ _).mono (by simp)).trans ((only_modCtx _ _ _).mono (by simp))⟩
  case limit =>
    rintro _ _ _ s x hc hrun hin rfl rfl rfl hsrc hf hfresh hpart hcov hrests hfew
    obtain ⟨t, ht, h⟩ := exec_runLimitFault hc hrun hin hsrc hf hfresh hpart hcov hrests hfew
    obtain ⟨d, hd, hexpected⟩ := h.ctx
    exact ⟨_, d, ht, h.inflight, h.replied, h.gen, hd, hexpected, h.sticky⟩

end Sys2Proof.Machine
end

section
/-! PROOFS. Rows of links (04 R88 to R119): what an update of a link leaves of the others, of the routes and of the block's own
work. -/

namespace Sys2Proof.Machine

/-! ### Links -/

section links
variable {s t : State} {n m : Nat} {l : Link}

theorem link_of_getElem? (h : s.gl.links[n]? = some l) : s.link n = l := by
  rw [State.link, List.getD_eq_getElem?_getD, h, Option.getD_some]

theorem link_congr (h : t.gl = s.gl) (n : Nat) : t.link n = s.link n := by
  rw [State.link, h, State.link]

/-- A link that is not as after reset has an engine. -/
theorem hasLink_of_ne_reset (h : s.link n ≠ Link.reset) : n < s.gl.links.length := by
  by_contra hn
  exact h (List.getD_eq_default _ _ (Nat.not_lt.mp hn))

theorem link_modLink_self (f : Link → Link) (h : n < s.gl.links.length) : (s.modLink n f).link n = f (s.link n) := by
  simp [State.link, State.modLink, h]

theorem link_modLink_of_ne (f : Link → Link) (h : m ≠ n) : (s.modLink n f).link m = s.link m := by
  simp [State.link, State.modLink, h.symm]

/-- What an update of links keeps, every link keeps. -/
theorem link_modLink_keeps {α : Type} {f : Link → Link} (g : Link → α) (hf : g (f (s.link n)) = g (s.link n)) (m : Nat) :
    g ((s.modLink n f).link m) = g (s.link m) := by
  by_cases hm : m = n
  · subst hm
    by_cases hl : m < s.gl.links.length
    · rw [link_modLink_self f hl, hf]
    · have hout : (s.modLink m f).link m = s.link m := by
        simp only [State.link, State.modLink, List.modify_eq_self (Nat.not_lt.mp hl)]
      rw [hout]
  · rw [link_modLink_of_ne f hm]

@[simp] theorem modLink_links_length (f : Link → Link) : (s.modLink n f).gl.links.length = s.gl.links.length := by
  simp [State.modLink]

theorem modLink_modLink (f g : Link → Link) : (s.modLink n f).modLink n g = s.modLink n (g ∘ f) := by
  simp [State.modLink, List.modify_modify_eq]

end links

/-! ### Routes (R117 to R119) -/

/-- The same links are KEYED. -/
def SameKeyed (s t : State) : Prop := ∀ n, (t.link n).state = .keyed ↔ (s.link n).state = .keyed

theorem SameKeyed.of_state {s t : State} (h : ∀ n, (t.link n).state = (s.link n).state) : SameKeyed s t := fun n => by rw [h]

theorem SameKeyed.of_gl {s t : State} (h : t.gl = s.gl) : SameKeyed s t := SameKeyed.of_state fun n => by rw [link_congr h]

theorem sameKeyed_modLink {s : State} {n : Nat} {f : Link → Link} (hf : (f (s.link n)).state = .keyed ↔ (s.link n).state = .keyed) :
    SameKeyed s (s.modLink n f) := fun m =>
  iff_of_eq (link_modLink_keeps (fun l => l.state = LinkState.keyed) (propext hf) m)

/-- Routes see of the links only which are KEYED, and of GL_COORD everything. -/
theorem wayOut_congr {s t : State} (hk : SameKeyed s t) (hc : t.gl.coord = s.gl.coord) (src dst tag : Nat) (m : Bool) :
    t.wayOut src dst tag m = s.wayOut src dst tag m := by
  have hkeyed : ∀ b, t.keyed b = s.keyed b := fun b => by simp only [State.keyed, hk _]
  have hdim : ∀ d, t.dim d = s.dim d := fun d => by simp only [State.dim, State.dims, hc]
  have hchip : t.chip = s.chip := by simp only [State.chip, hc]
  have hnext : ∀ h d m, t.nextBundle h d m = s.nextBundle h d m := fun h d m => by simp only [State.nextBundle, hdim]
  have hlink : ∀ b u d g m, t.bundleLink b u d g m = s.bundleLink b u d g m := fun b u d g m => by
    simp only [State.bundleLink, hkeyed]
  have hnear : ∀ h b, t.neighbour h b = s.neighbour h b := fun h b => by simp only [State.neighbour, hdim]
  have hdetour : ∀ b, t.detourBundle b = s.detourBundle b := fun b => by simp only [State.detourBundle, hkeyed]
  unfold State.wayOut
  rw [hchip, hnext]
  simp only [hlink, hnear, hdetour]

theorem keyed_of_bundleLink {s : State} {b src dst tag n : Nat} {m : Bool} (h : s.bundleLink b src dst tag m = some n) :
    (s.link n).state = .keyed := by
  unfold State.bundleLink at h
  dsimp only at h
  split at h
  · cases h
  · have hmem := List.mem_of_getElem? h
    simpa using (List.mem_filter.mp hmem).2

/-- A way out leads over a KEYED link. -/
theorem keyed_of_wayOut {s : State} {src dst tag n : Nat} {m d : Bool} (h : s.wayOut src dst tag m = .link n d) :
    (s.link n).state = .keyed := by
  unfold State.wayOut at h
  split at h
  · cases h
  · split at h
    · rename_i hb
      cases h
      exact keyed_of_bundleLink hb
    · split at h
      · cases h
      · split at h
        · cases h
        · split at h
          · rename_i hb
            cases h
            exact keyed_of_bundleLink hb
          · cases h

theorem hasLink_of_keyed {s : State} {n : Nat} (h : (s.link n).state = .keyed) : n < s.gl.links.length :=
  hasLink_of_ne_reset fun hr => by rw [hr] at h; cases h

/-! ### The block's own work -/

/-- A parcel waits for a link. -/
def TxParcel.waits (x : TxParcel) : Bool := x.eligibleAt.isSome && x.leftAt.isNone

/-- Two parcels of a chip go the same way. -/
def TxParcel.SameWay (x y : TxParcel) : Prop := x.dst = y.dst ∧ x.ptag = y.ptag ∧ x.mirror = y.mirror

/-- What `State.calm` looks at, links apart, gives no more to do: rungs other than a context's may be asked for, a parcel waits only
where one of the same way has waited, and doorbells that have been looked at stay so. -/
structure NoNewWork (s t : State) : Prop where
  staged : t.cmds.staged = s.cmds.staged
  firmware : t.cmds.firmware = s.cmds.firmware
  rungs : ∀ x ∈ t.plumb.rungs, x ∈ s.plumb.rungs ∨ (x.rung ≠ .context ∧ x.begun = false)
  opening : t.debugs.opening = s.debugs.opening
  stopping : t.vs.stopping = s.vs.stopping
  slots : t.kp.slots = s.kp.slots
  runs : t.tests.runs = s.tests.runs
  coord : t.gl.coord = s.gl.coord
  parcels : ∀ y ∈ t.gl.parcels, y.waits = true → ∃ x ∈ s.gl.parcels, x.waits = true ∧ x.SameWay y
  served : t.mailServed = true → s.mailServed = true
  looked : s.chansLooked → t.chansLooked

theorem NoNewWork.refl (s : State) : NoNewWork s s :=
  ⟨rfl, rfl, fun _ h => .inl h, rfl, rfl, rfl, rfl, rfl, fun y hy hw => ⟨y, hy, hw, rfl, rfl, rfl⟩, id, id⟩

theorem NoNewWork.trans {s t u : State} (h : NoNewWork s t) (k : NoNewWork t u) : NoNewWork s u := by
  refine ⟨k.staged.trans h.staged, k.firmware.trans h.firmware, fun x hx => (k.rungs x hx).elim (h.rungs x) .inr,
    k.opening.trans h.opening, k.stopping.trans h.stopping, k.slots.trans h.slots, k.runs.trans h.runs, k.coord.trans h.coord,
    fun z hz hw => ?parcels, fun m => h.served (k.served m), fun l => k.looked (h.looked l)⟩
  obtain ⟨y, hy, hyw, hd, hp, hm⟩ := k.parcels z hz hw
  obtain ⟨x, hx, hxw, hd', hp', hm'⟩ := h.parcels y hy hyw
  exact ⟨x, hx, hxw, hd'.trans hd, hp'.trans hp, hm'.trans hm⟩

/-- A change of Guyline alone, its parcels and coordinate kept. -/
theorem noNewWork_withGl {s : State} {g : Guyline} (hc : g.coord = s.gl.coord) (hp : g.parcels = s.gl.parcels) :
    NoNewWork s { s with gl := g } :=
  ⟨rfl, rfl, fun _ h => .inl h, rfl, rfl, rfl, rfl, hc, fun y hy hw => ⟨y, hp ▸ hy, hw, rfl, rfl, rfl⟩, id, id⟩

theorem only_withGl (s : State) (x : Guyline) : OnlyIn [.gl] s { s with gl := x } := by
  intro g hg
  cases g with
  | gl => exact absurd (by simp) hg
  | _ => rfl

theorem noNewWork_modLink (s : State) (n : Nat) (f : Link → Link) : NoNewWork s (s.modLink n f) := noNewWork_withGl rfl rfl

theorem noNewWork_atTime (s : State) (n : Nat) : NoNewWork s (s.atTime n) :=
  ⟨rfl, rfl, fun _ h => .inl h, rfl, rfl, rfl, rfl, rfl, fun y hy hw => ⟨y, hy, hw, rfl, rfl, rfl⟩, id, id⟩

theorem State.calm.chansLooked {s : State} (h : s.calm = true) (hm : s.mailServed = true) : s.chansLooked := by
  obtain ⟨-, -, -, -, -, -, -, -, hl⟩ := State.calm_cases h
  exact hl hm

theorem stranded_eq_false_of_not_waits {s : State} {x : TxParcel} (h : x.waits = false) : s.stranded x = false := by
  unfold TxParcel.waits at h
  rw [State.stranded, h, Bool.false_and, Bool.false_and]

/-- Whether a parcel that waits is stranded follows from its way. -/
theorem stranded_of_sameWay {s : State} {x y : TxParcel} (hw : y.SameWay x) (hx : x.waits = true) (hy : y.waits = true) :
    s.stranded x = s.stranded y := by
  obtain ⟨hd, hp, hm⟩ := hw
  unfold TxParcel.waits at hx hy
  rw [State.stranded, State.stranded, hx, hy, hd, hp, hm]

theorem stranded_congr_of_keyed {s t : State} (hk : SameKeyed s t) (hc : t.gl.coord = s.gl.coord) (x : TxParcel) :
    t.stranded x = s.stranded x := by
  have hchip : t.chip = s.chip := by simp only [State.chip, hc]
  simp only [State.stranded, wayOut_congr hk hc, hchip]

/-- No new work leaves the block calm where what hangs on the links finds nothing to do either. -/
theorem NoNewWork.calm_of {s t : State} (h : NoNewWork s t) (hc : s.calm)
    (hr : ∀ x ∈ t.tests.runs, ¬(x.kind = 0 ∧ x.point = 3 ∧ (t.link x.target).state ≠ .keyed))
    (hp : ∀ x ∈ t.gl.parcels, t.stranded x = false) : t.calm := by
  have hl : t.mailServed = true → t.chansLooked := fun hm => h.looked (State.calm.chansLooked hc (h.served hm))
  simp only [State.calm, Bool.and_eq_true, List.all_eq_true, Bool.or_eq_true, Bool.not_eq_true'] at hc ⊢
  simp only [h.staged, h.firmware, h.opening, h.stopping, h.slots]
  obtain ⟨⟨⟨⟨⟨⟨⟨hq, hrungs⟩, ho⟩, hs⟩, hk⟩, -⟩, -⟩, -⟩ := hc
  refine ⟨⟨⟨⟨⟨⟨⟨hq, fun x hx => ?rungs⟩, ho⟩, hs⟩, hk⟩, fun x hx => ?runs⟩, hp⟩, ?doorbells⟩
  case rungs =>
    rcases h.rungs x hx with hx | ⟨hx, hb⟩
    · exact hrungs x hx
    · simp [hx, hb]
  case runs =>
    have := hr x hx
    simp only [Bool.and_eq_false_iff, decide_eq_false_iff_not]
    tauto
  case doorbells =>
    cases hm : t.mailServed with
    | false => exact .inl rfl
    | true => exact .inr (hl hm)

/-- While the same links are KEYED, no new work leaves a calm block calm. -/
theorem NoNewWork.calm {s t : State} (h : NoNewWork s t) (hk : SameKeyed s t) (hc : s.calm) : t.calm := by
  obtain ⟨-, -, -, -, -, -, hruns, hparcels, -⟩ := State.calm_cases hc
  refine h.calm_of hc (fun x hx => ?runs) fun y hy => ?parcels
  case runs =>
    have hx := hruns x (h.runs ▸ hx)
    rwa [ne_eq, hk]
  case parcels =>
    cases hw : y.waits with
    | false => exact stranded_eq_false_of_not_waits hw
    | true =>
      obtain ⟨x, hx, hxw, hway⟩ := h.parcels y hy hw
      rw [stranded_congr_of_keyed hk h.coord, stranded_of_sameWay hway hw hxw]
      exact hparcels x hx

theorem calm_modLink {s : State} {n : Nat} {f : Link → Link} (hf : ∀ l, (f l).state = l.state) (hc : s.calm) :
    (s.modLink n f).calm :=
  (noNewWork_modLink s n f).calm (sameKeyed_modLink (by rw [hf])) hc

/-- Without parcels and tests, whatever links do leaves a calm block calm. -/
theorem NoNewWork.calm_of_none {s t : State} (h : NoNewWork s t) (hc : s.calm) (hp : s.gl.parcels = []) (hr : s.tests.runs = []) :
    t.calm := by
  refine h.calm_of hc (fun x hx => ?runs) fun y hy => stranded_eq_false_of_not_waits ?parcels
  case runs =>
    rw [h.runs, hr] at hx
    cases hx
  case parcels =>
    by_contra hw
    obtain ⟨x, hx, -⟩ := h.parcels y hy (by simpa using hw)
    rw [hp] at hx
    cases hx

/-! ### Rows of a link -/

/-- A state in which the start's parallel steps have come to step k, and the commands `q` wait. -/
def steppedTo (k : Nat) (q : List Instr) (s : State) : State := { s with start := { s.start with step := k }, pending := q }

theorem only_steppedTo (k : Nat) (q : List Instr) (s : State) : OnlyIn [.start] s (steppedTo k q s) :=
  (only_withStart s { s.start with step := k }).queue q

theorem quiet_advanceStart (s : State) : Quiet s (advanceStart s) := by
  obtain ⟨k, -, he⟩ := advanceStart_step s
  rw [he]
  exact quiet_of_only ((only_withStart s _).mono (by simp)) rfl

/-- A row of a link whose effect `u` is calm answers that effect, after which the start moves on (R459, log 33). -/
theorem settled_onLink {s u : State} {n : Nat} {f : State → State} (hn : n < 64) (hf : f s = u) (hu : u.calm) :
    ∃ k, settled s (onLink n f s) = .next (steppedTo k s.pending u) := by
  obtain ⟨k, -, he⟩ := advanceStart_step u
  have hcalm := (quiet_advanceStart u).calm hu
  refine ⟨k, ?_⟩
  rw [onLink, if_pos hn, hf, settled_calm hcalm, he]
  rfl

/-- What a row of a link leaves in areas, the start's step counted. -/
theorem OnlyIn.stepped {gs : List Area} {s u : State} (h : OnlyIn gs s u) (hs : Area.start ∈ gs) (k : Nat) (q : List Instr) :
    OnlyIn gs s (steppedTo k q u) :=
  h.trans ((only_steppedTo k q u).mono fun g hg => by rw [List.mem_singleton.mp hg]; exact hs)

end Sys2Proof.Machine
end

section
/-! PROOFS. Rotation of hop keys (04 R102, R103, 11 R380) and the acknowledgement timeout (04 R95). -/

namespace Sys2Proof.Machine

@[simp] theorem atTime_zero (s : State) : s.atTime 0 = s := by simp [State.atTime]

theorem running_of_not_halted {s : State} (hu : s.up = true) (hh : s.scribe.halted = false) : s.running = true := by
  simp [State.running, hu, hh]

/-! ### What a rotation and a timeout make of their link -/

/-- A link that has sent ROTATE. -/
def Link.rotateStarted (now : Nat) (l : Link) : Link := { l with rotating := true, rotateSent := some now }

/-- A link that has sent ROTATE again. -/
def Link.rotateRepeated (now : Nat) (l : Link) : Link := { l with rotateSent := some now }

/-- A link that sends under the next key. -/
def Link.phaseSwitched (now : Nat) (l : Link) : Link :=
  { l with rotations := l.rotations + 1, keyPhase := !l.keyPhase, txSeq := 0, keyAt := now, rotating := true, rotateSent := none }

/-- A link all of whose outstanding flits are to be sent again. -/
def Link.resending (now : Nat) (l : Link) : Link :=
  { l with resend := l.replay.map (fun e => e.1), replays := l.replays + 1, ackAt := now }

section rotation
variable {s : State} {n : Nat}

/-- The initiator's ROTATE, at once or when the key's minute has passed (R102). -/
theorem hopKeyRotation_of_initiator (hu : s.up = true) (hk : (s.link n).state = .keyed) (hi : (s.link n).initiator = true)
    (hr : (s.link n).rotateSent = none) (hlt : (s.link n).rotations < 65535) :
    ∃ due, hopKeyRotation n s =
      ((s.atTime due).modLink n (Link.rotateStarted (s.atTime due).now)).emit (.keyx n 0x10 ((s.link n).rotations + 1)) := by
  unfold hopKeyRotation
  dsimp only
  rw [if_neg (by simp [hu, hk, hi, hr]), if_neg (Nat.not_le.mpr hlt)]
  split
  · exact ⟨_, rfl⟩
  · exact ⟨0, by rw [atTime_zero]; rfl⟩

theorem keyxRotate_of_responder (hu : s.up = true) (hk : (s.link n).state = .keyed) (hi : (s.link n).initiator = false) :
    keyxRotate n ((s.link n).rotations + 1) s =
      (s.emit (.keyx n 0x11 ((s.link n).rotations + 1))).modLink n (Link.phaseSwitched s.now) := by
  simp [keyxRotate, hu, hk, hi]
  rfl

theorem keyxRotateAck_of_sent {sent : Nat} (hu : s.up = true) (hk : (s.link n).state = .keyed)
    (hr : (s.link n).rotateSent = some sent) :
    keyxRotateAck n ((s.link n).rotations + 1) s = s.modLink n (Link.phaseSwitched s.now) := by
  simp [keyxRotateAck, hu, hk, hr]
  rfl

theorem rotateResend_of_sent {sent : Nat} (hu : s.up = true) (hk : (s.link n).state = .keyed)
    (hr : (s.link n).rotateSent = some sent) :
    rotateResend n s =
      ((s.atTime (sent + 1000000)).modLink n (Link.rotateRepeated (s.atTime (sent + 1000000)).now)).emit
        (.keyx n 0x10 ((s.link n).rotations + 1)) := by
  simp [rotateResend, hu, hk, hr]
  rfl

theorem ackTimeout_of_outstanding (hr : s.running = true) (hk : (s.link n).state = .keyed) (hre : (s.link n).replay ≠ []) :
    ackTimeout n s = (s.atTime ((s.link n).ackAt + 2000)).modLink n (Link.resending (s.atTime ((s.link n).ackAt + 2000)).now) := by
  simp [ackTimeout, hr, hk, hre]
  rfl

/-- An update of a link that leaves its state, at a time that has come, brings no work. -/
theorem calm_atTime_modLink {f : Link → Link} (hf : ∀ l, (f l).state = l.state) (due : Nat) (hc : s.calm) :
    ((s.atTime due).modLink n f).calm :=
  calm_modLink hf ((noNewWork_atTime s due).calm (SameKeyed.of_gl rfl) hc)

theorem only_atTime_modLink (f : Link → Link) (due : Nat) : OnlyIn [.gl, .cal, .start] s ((s.atTime due).modLink n f) :=
  ((only_atTime s due).mono (by simp)).trans ((only_modLink _ _ _).mono (by simp))

/-! ### The rows -/

/-- A row of a link that updates it at a time that has come, and perhaps sends a message. -/
theorem settled_update {f : State → State} {g : Link → Link} {due : Nat} (hc : s.calm) (hn : n < 64) (hlen : n < s.gl.links.length)
    (hf : f s = (s.atTime due).modLink n g) (hg : ∀ l, (g l).state = l.state) :
    ∃ t, settled s (onLink n f s) = .next t ∧ t.link n = g (s.link n) ∧ t.now = max s.now due ∧
      OnlyIn [.gl, .cal, .start] s t := by
  obtain ⟨k, hk⟩ := settled_onLink hn hf (calm_atTime_modLink hg due hc)
  exact ⟨_, hk, link_modLink_self (s := s.atTime due) g hlen, now_atTime s due, (only_atTime_modLink g due).stepped (by simp) _ _⟩

theorem settled_updateNow {f : State → State} {g : Link → Link} (hc : s.calm) (hn : n < 64) (hlen : n < s.gl.links.length)
    (hf : f s = s.modLink n g) (hg : ∀ l, (g l).state = l.state) :
    ∃ t, settled s (onLink n f s) = .next t ∧ t.link n = g (s.link n) ∧ OnlyIn [.gl, .start] s t := by
  obtain ⟨k, hk⟩ := settled_onLink hn hf (calm_modLink hg hc)
  exact ⟨_, hk, link_modLink_self g hlen, ((only_modLink s n g).mono (by simp)).stepped (by simp) _ _⟩

theorem settled_updateSent {f : State → State} {g : Link → Link} {due : Nat} {o : Output} (hc : s.calm) (hn : n < 64)
    (hlen : n < s.gl.links.length) (hf : f s = ((s.atTime due).modLink n g).emit o) (hg : ∀ l, (g l).state = l.state) :
    ∃ t, settled s (onLink n f s) = .next t ∧ t.link n = g (s.link n) ∧ t.now = max s.now due ∧ o ∈ t.out ∧
      OnlyIn [.gl, .cal, .start, .out] s t := by
  obtain ⟨k, hk⟩ := settled_onLink hn hf ((quiet_emit _ o).calm (calm_atTime_modLink hg due hc))
  exact ⟨_, hk, link_modLink_self (s := s.atTime due) g hlen, now_atTime s due, List.mem_cons_self,
    (((only_atTime_modLink g due).mono (by simp)).trans ((only_emit _ o).mono (by simp))).stepped (by simp) _ _⟩

theorem settled_sentUpdate {f : State → State} {g : Link → Link} {o : Output} (hc : s.calm) (hn : n < 64)
    (hlen : n < s.gl.links.length) (hf : f s = (s.emit o).modLink n g) (hg : ∀ l, (g l).state = l.state) :
    ∃ t, settled s (onLink n f s) = .next t ∧ t.link n = g (s.link n) ∧ o ∈ t.out ∧ OnlyIn [.gl, .start, .out] s t := by
  obtain ⟨k, hk⟩ := settled_onLink hn hf (calm_modLink hg ((quiet_emit s o).calm hc))
  exact ⟨_, hk, link_modLink_self (s := s.emit o) g hlen, List.mem_cons_self,
    (((only_emit s o).mono (by simp)).trans ((only_modLink _ n g).mono (by simp))).stepped (by simp) _ _⟩

end rotation

/-- Settles O15: each row is one update of its link, some at a later time and some with a message, and no link's state changes. -/
theorem hopKeysRotateAndFlitsAreResent : Obligations.HopKeysRotateAndFlitsAreResent := by
  intro n s l hc hl hn hu hkeyed
  obtain ⟨hlen, -⟩ := List.getElem?_eq_some_iff.mp hl
  obtain rfl : s.link n = l := link_of_getElem? hl
  refine ⟨fun hi hr hlt => ?rotate, fun hi => ?respond, fun hr => ?answer, fun hh hre => ?timeout⟩
  case rotate =>
    obtain ⟨due, he⟩ := hopKeyRotation_of_initiator hu hkeyed hi hr hlt
    obtain ⟨t, ht, hlink, hnow, hout, honly⟩ := settled_updateSent hc hn hlen he fun _ => rfl
    exact ⟨t, ht, by rw [hlink]; rfl, by rw [hlink, hnow]; exact congrArg some (now_atTime s due), by rw [hlink]; rfl, hout, honly⟩
  case respond =>
    obtain ⟨t, ht, hlink, hout, honly⟩ := settled_sentUpdate hc hn hlen (keyxRotate_of_responder hu hkeyed hi) fun _ => rfl
    exact ⟨t, ht, by rw [hlink]; rfl, by rw [hlink]; rfl, by rw [hlink]; rfl, by rw [hlink]; rfl, hout, honly⟩
  case answer =>
    obtain ⟨sent, hsent⟩ := Option.isSome_iff_exists.mp hr
    refine ⟨?switch, ?resend⟩
    case switch =>
      obtain ⟨t, ht, hlink, honly⟩ := settled_updateNow hc hn hlen (keyxRotateAck_of_sent hu hkeyed hsent) fun _ => rfl
      exact ⟨t, ht, by rw [hlink]; rfl, by rw [hlink]; rfl, by rw [hlink]; rfl, by rw [hlink]; rfl, honly⟩
    case resend =>
      obtain ⟨t, ht, hlink, hnow, hout, honly⟩ := settled_updateSent hc hn hlen (rotateResend_of_sent hu hkeyed hsent) fun _ => rfl
      exact ⟨t, ht, by rw [hlink, hnow]; exact congrArg some (now_atTime s _), by rw [hsent]; exact hnow, hout, honly⟩
  case timeout =>
    have he := ackTimeout_of_outstanding (running_of_not_halted hu hh) hkeyed hre
    obtain ⟨t, ht, hlink, hnow, honly⟩ := settled_update hc hn hlen he fun _ => rfl
    exact ⟨t, ht, by rw [hlink]; rfl, by rw [hlink]; rfl, hnow, by rw [hlink]; rfl, honly⟩

end Sys2Proof.Machine
end

section
/-! PROOFS. FLIT_RECEIVE (04 R92 to R98, R111, R116): what an accepted and a refused flit make of their link. -/

namespace Sys2Proof.Machine

/-! ### What a flit makes of its link -/

/-- A link that an acknowledgement reaches. -/
def Link.acked (h : FlitHdr) (now : Nat) (l : Link) : Link :=
  match (if h.ackValid then ackReplay h.ackSeq l.replay else none) with
  | some left => { l with replay := left, resend := l.resend.filter (fun k => left.any (fun e => e.1 = k)), ackAt := now }
  | none => l

/-- A link that a NAK reaches. -/
def Link.nakSeen (l : Link) : Link := { l with resend := l.replay.map (fun e => e.1), replays := l.replays + 1 }

/-- A link to which its partner returns credits. -/
def Link.credited (h : FlitHdr) (l : Link) : Link :=
  { l with credits := l.credits.modify h.creditVc (fun c => c + h.creditCnt) }

/-- A link that destroys its previous key, if it may. -/
def Link.rotationEnded (l : Link) : Link :=
  if l.rotating && l.rotateSent.isNone && l.newPhaseSeen && l.replay.all (fun e => e.2.hdr.keyPhase = l.keyPhase) then
    { l with rotating := false, newPhaseSeen := false }
  else l

/-- A link after the control fields of an accepted flit. -/
def Link.controlled (h : FlitHdr) (now : Nat) (l : Link) : Link :=
  let l1 := l.acked h now
  let l2 := if h.nak then l1.nakSeen else l1
  (if h.creditVc ≤ 9 then l2.credited h else l2).rotationEnded

/-- A link whose expected flit of its partner's phase has come. -/
def Link.accepting (now : Nat) (l : Link) : Link :=
  { l with rxAt := now, rxSeq := (l.rxSeq + 1) % 2 ^ 32, rxRefusing := false, nakOwed := false }

/-- A link whose expected flit has been accepted. -/
def Link.accepted (h : FlitHdr) (now : Nat) (l : Link) : Link := (l.accepting now).controlled h now

/-- A link whose flit did not hold. -/
def Link.refusing (now : Nat) (malformed : Bool) (l : Link) : Link :=
  { l with checkFails := l.checkFails + 1, malformed := if malformed then l.malformed + 1 else l.malformed,
           failTimes := (now :: l.failTimes).take 33, rxRefusing := true, nakOwed := true }

/-- A link with one more flit on its queue. -/
def Link.queued (q : QFlit) (l : Link) : Link := { l with txq := l.txq ++ [q] }

/-- A link that owes its partner one more credit. -/
def Link.owing (vc : Nat) (l : Link) : Link := { l with owed := l.owed.modify vc (fun k => min 32 (k + 1)) }

/-- What the receiving side and the queue of a link hold, apart from what it keeps for its own sending. -/
def Link.sameReceived (l k : Link) : Prop :=
  k.state = l.state ∧ k.rxSeq = l.rxSeq ∧ k.rxAt = l.rxAt ∧ k.rxRefusing = l.rxRefusing ∧ k.nakOwed = l.nakOwed ∧ k.txq = l.txq

theorem Link.sameReceived_refl (l : Link) : l.sameReceived l := ⟨rfl, rfl, rfl, rfl, rfl, rfl⟩

theorem Link.sameReceived.trans {l k j : Link} (h : l.sameReceived k) (h' : k.sameReceived j) : l.sameReceived j := by
  obtain ⟨h1, h2, h3, h4, h5, h6⟩ := h
  obtain ⟨k1, k2, k3, k4, k5, k6⟩ := h'
  exact ⟨k1.trans h1, k2.trans h2, k3.trans h3, k4.trans h4, k5.trans h5, k6.trans h6⟩

theorem Link.sameReceived_acked (h : FlitHdr) (now : Nat) (l : Link) : l.sameReceived (l.acked h now) := by
  unfold Link.acked
  split
  · exact ⟨rfl, rfl, rfl, rfl, rfl, rfl⟩
  · exact Link.sameReceived_refl l

theorem Link.sameReceived_rotationEnded (l : Link) : l.sameReceived l.rotationEnded := by
  unfold Link.rotationEnded
  split
  · exact ⟨rfl, rfl, rfl, rfl, rfl, rfl⟩
  · exact Link.sameReceived_refl l

theorem Link.sameReceived_controlled (h : FlitHdr) (now : Nat) (l : Link) : l.sameReceived (l.controlled h now) := by
  refine (Link.sameReceived_acked h now l).trans (Link.sameReceived.trans ?_ (Link.sameReceived_rotationEnded _))
  split <;> split <;> exact ⟨rfl, rfl, rfl, rfl, rfl, rfl⟩

@[simp] theorem Link.rotationEnded_replay (l : Link) : l.rotationEnded.replay = l.replay := by
  unfold Link.rotationEnded
  split <;> rfl

/-- An acknowledgement without a NAK leaves of the replay buffer what it does not reach. -/
theorem Link.controlled_replay_of_acked {h : FlitHdr} {now : Nat} {l : Link} {left : List (Nat × QFlit)} (ha : h.ackValid = true)
    (hr : ackReplay h.ackSeq l.replay = some left) : (l.controlled h now).replay = left := by
  have hacked : (l.acked h now).replay = left := by simp [Link.acked, ha, hr]
  rw [Link.controlled, Link.rotationEnded_replay]
  split <;> split <;> exact hacked

/-! ### The row -/

section
variable {s : State} {n : Nat}

theorem modLink_congr {f g : Link → Link} (h : f (s.link n) = g (s.link n)) : s.modLink n f = s.modLink n g := by
  by_cases hn : n < s.gl.links.length
  · have hl : s.gl.links[n] = s.link n := by simp [State.link, hn]
    simp only [State.modLink, List.modify_eq_set_getElem?, List.getElem?_eq_getElem hn, hl, Option.map_eq_map, Option.map_some, h]
  · simp only [State.modLink, List.modify_eq_self (Nat.not_lt.mp hn)]

theorem modLink_eq_self {f : Link → Link} (h : f (s.link n) = s.link n) : s.modLink n f = s := by
  rw [modLink_congr (g := id) h, State.modLink]
  simp

theorem ite_modLink (c : Prop) [Decidable c] (f : Link → Link) :
    (if c then s.modLink n f else s) = s.modLink n (fun l => if c then f l else l) := by
  split
  · rfl
  · exact (modLink_eq_self rfl).symm

/-- The control fields of a flit are one update of its link, which reads its own conditions. -/
theorem flitControl_eq_modLink (n : Nat) (h : FlitHdr) (s : State) :
    flitControl n h s = s.modLink n (Link.controlled h s.now) := by
  unfold flitControl
  dsimp only
  cases ha : (if h.ackValid then ackReplay h.ackSeq (s.link n).replay else none) with
  | some left =>
    dsimp only
    rw [ite_modLink, ite_modLink, endRotation, modLink_modLink, modLink_modLink, modLink_modLink]
    exact modLink_congr (by simp only [Function.comp, Link.controlled, Link.acked, ha]; rfl)
  | none =>
    dsimp only
    rw [ite_modLink, ite_modLink, endRotation, modLink_modLink, modLink_modLink]
    exact modLink_congr (by simp only [Function.comp, Link.controlled, Link.acked, ha]; rfl)

theorem routeFlit_of_wayOut {q : QFlit} {dim m : Nat} {dl d : Bool}
    (h : s.wayOut q.hdr.src q.hdr.dst q.hdr.ptag q.hdr.mirror = .link m d) :
    routeFlit q dim dl s = s.modLink m (Link.queued
      { q with hdr := { q.hdr with dl := m / 16 = dim && dl }, detoured := d, queuedAt := s.now, noticed := false }) := by
  simp only [routeFlit, h]
  rfl

theorem Link.accepted_received (h : FlitHdr) (now : Nat) (l : Link) : (l.accepting now).sameReceived (l.accepted h now) :=
  Link.sameReceived_controlled h now _

theorem Link.accepted_state (h : FlitHdr) (now : Nat) (l : Link) : (l.accepted h now).state = l.state :=
  (Link.accepted_received h now l).1

theorem Link.accepted_txq (h : FlitHdr) (now : Nat) (l : Link) : (l.accepted h now).txq = l.txq :=
  (Link.accepted_received h now l).2.2.2.2.2

theorem flitMalformed_modLink {f : Link → Link} (hf : (f (s.link n)).credits = (s.link n).credits) (h : FlitHdr) :
    flitMalformed (s.modLink n f) n h = flitMalformed s n h := by
  have hcredits : ((s.modLink n f).link n).credits = (s.link n).credits := link_modLink_keeps Link.credits hf n
  unfold flitMalformed
  rw [hcredits]
  rfl

/-- A flit that holds, is well formed and in sequence updates its link; then it waits for the restart or is delivered. -/
theorem flitReceive_of_inSequence {f : RxFlit} (hu : s.up = true) (hk : (s.link n).state = .keyed)
    (hr : (s.link n).rxRefusing = false) (hok : f.checkOk = true) (hm : flitMalformed s n f.hdr = false)
    (hp : f.hdr.keyPhase = (s.link n).rxPhase) (hq : f.hdr.lseq = (s.link n).rxSeq % 4096) :
    flitReceive n f s = if s.scribe.halted then
        { s.modLink n (Link.accepted f.hdr s.now) with gl :=
          { (s.modLink n (Link.accepted f.hdr s.now)).gl with postCut := s.gl.postCut ++ [(n, f)] } }
      else deliverFlit n f (s.modLink n (Link.accepted f.hdr s.now)) := by
  have hseq : inSequence (s.link n) f.hdr = true := by simp [inSequence, hp, hq]
  have hwell : flitMalformed (s.modLink n (fun x => { x with rxAt := s.now })) n f.hdr = false :=
    (flitMalformed_modLink rfl _).trans hm
  have htake : ((s.modLink n (fun x => { x with rxAt := s.now })).modLink n (fun x =>
      if f.hdr.keyPhase = x.rxPhase then { x with rxSeq := (x.rxSeq + 1) % 2 ^ 32, rxRefusing := false, nakOwed := false }
      else { x with rxPhase := f.hdr.keyPhase, rxSeq := 1, newPhaseSeen := true, rxRefusing := false, nakOwed := false })) =
      s.modLink n (Link.accepting s.now) := by
    rw [modLink_modLink]
    exact modLink_congr (if_pos hp)
  unfold flitReceive
  simp only [hu, hk, hr, hok, hwell, hseq, Bool.not_true, Bool.false_eq_true, if_false, Bool.false_and]
  rw [htake, flitControl_eq_modLink, modLink_modLink]
  rfl

theorem flitReceive_of_checkFailed {f : RxFlit} (hu : s.up = true) (hk : (s.link n).state = .keyed)
    (hr : (s.link n).rxRefusing = false) (hok : f.checkOk = false) (hh : (f.nullOk && f.keyxHello) = false) :
    flitReceive n f s = refuseFlit n false (s.modLink n (fun x => { x with rxAt := s.now })) := by
  simp only [flitReceive, hu, hk, hr, hok, hh]
  rfl

/-- A check that fails does not quarantine its link while fewer than 33 times of failures stand (R95). -/
theorem refuseFlit_of_few {malformed : Bool} (hf : (s.link n).failTimes.length < 32) :
    refuseFlit n malformed s = s.modLink n (Link.refusing s.now malformed) := by
  have hfew : decide (((s.now :: (s.link n).failTimes).take 33).length = 33) = false := by
    simp only [List.length_take, List.length_cons, decide_eq_false_iff_not]
    omega
  unfold refuseFlit
  dsimp only
  rw [hfew, Bool.and_false, Bool.false_and, if_neg Bool.false_ne_true]
  exact modLink_congr rfl

/-! ### Gathering and forwarding -/

/-- A flit of a parcel is found in the gathering of its source, tag and path. -/
theorem exists_gather_gatherFlit (h : FlitHdr) (s : State) :
    ∃ g ∈ (gatherFlit h s).gl.gathers, g.src = h.src ∧ g.ptag = h.ptag ∧ g.mirror = h.mirror ∧ h.fidx ∈ g.have_ := by
  have hjoined : ∀ l : List Nat, h.fidx ∈ (if l.contains h.fidx then l else l ++ [h.fidx]) := fun l => by
    split
    case isTrue hin => exact List.contains_iff_mem.mp hin
    case isFalse => exact List.mem_append_right _ List.mem_cons_self
  unfold gatherFlit
  dsimp only
  split
  case isTrue hany =>
    obtain ⟨g, hg, hit⟩ := List.any_eq_true.mp hany
    refine ⟨_, List.mem_map_of_mem hg, ?_⟩
    rw [if_pos hit]
    simp only [Bool.and_eq_true, decide_eq_true_eq] at hit
    obtain ⟨⟨hsrc, htag⟩, hmirror⟩ := hit
    exact ⟨hsrc, htag, hmirror, hjoined _⟩
  case isFalse =>
    exact ⟨_, List.mem_append_right _ List.mem_cons_self, rfl, rfl, rfl, hjoined []⟩

theorem noNewWork_gatherFlit (h : FlitHdr) (s : State) : NoNewWork s (gatherFlit h s) := by
  unfold gatherFlit
  dsimp only
  split <;> exact noNewWork_withGl rfl rfl

theorem only_gatherFlit (h : FlitHdr) (s : State) : OnlyIn [.gl] s (gatherFlit h s) := by
  unfold gatherFlit
  dsimp only
  split <;> exact only_withGl _ _

theorem link_gatherFlit (h : FlitHdr) (s : State) (m : Nat) : (gatherFlit h s).link m = s.link m := by
  unfold gatherFlit
  dsimp only
  split <;> rfl

/-- The flit of link n that goes on over link m. -/
def forwardedFlit (n m : Nat) (detour : Bool) (f : RxFlit) (s : State) : QFlit :=
  { hdr := { f.hdr with hops := f.hdr.hops + 1, dl := m / 16 = n / 16 && (f.hdr.dl || crossedWrap s n) }, payload := f.payload,
    owner := none, resv := none, transit := true, queuedAt := s.now, noticed := false, detoured := detour,
    from_ := some (n, vcOf f.hdr) }

theorem deliverFlit_of_null {f : RxFlit} (h : f.hdr.ftype = 0) : deliverFlit n f s = s := by
  simp [deliverFlit, h]

theorem deliverFlit_of_here {f : RxFlit} (h : f.hdr.ftype = 1) (hd : f.hdr.dst = s.chip) :
    deliverFlit n f s = oweCredit n (vcOf f.hdr) (gatherFlit f.hdr s) := by
  simp [deliverFlit, h, hd]

theorem deliverFlit_of_away {f : RxFlit} {m : Nat} {d : Bool} (h : f.hdr.ftype = 1) (hd : f.hdr.dst ≠ s.chip) (hh : f.hdr.hops < 28)
    (hw : s.wayOut f.hdr.src f.hdr.dst f.hdr.ptag f.hdr.mirror = .link m d) :
    deliverFlit n f s = s.modLink m (Link.queued (forwardedFlit n m d f s)) := by
  unfold deliverFlit
  dsimp only
  rw [if_neg (by simp [h]), if_neg (by simp [h]), if_neg hd, if_neg (by simp [h]), if_neg (Nat.not_le.mpr hh)]
  exact routeFlit_of_wayOut hw

end

/-- Settles O17: an accepted flit updates its own link, and then is held, gathered or queued on the link that leads on; a refused
one updates its link only. No link's state changes, so the block stays calm. -/
theorem flitsArrive : Obligations.FlitsArrive := by
  refine ⟨fun n f s l hc hl hn hu hkeyed hrefusing hok hwell hphase hseq => ?accept,
    fun n f s l hc hl hn hu hkeyed hrefusing hok hhello hfew => ?refuse⟩
  case accept =>
    obtain ⟨hlen, -⟩ := List.getElem?_eq_some_iff.mp hl
    obtain rfl : s.link n = l := link_of_getElem? hl
    have hrow := flitReceive_of_inSequence hu hkeyed hrefusing hok hwell hphase hseq
    have hself := link_modLink_self (Link.accepted f.hdr s.now) hlen
    have hsame : SameKeyed s (s.modLink n (Link.accepted f.hdr s.now)) := sameKeyed_modLink (by rw [Link.accepted_state])
    have haccepted : (s.modLink n (Link.accepted f.hdr s.now)).calm := calm_modLink (Link.accepted_state _ _) hc
    obtain ⟨-, hrx, hat, href, hnak, -⟩ := Link.accepted_received f.hdr s.now (s.link n)
    refine ⟨fun hnull => ?null, fun hh htype hdst => ?here, fun m d hh htype hdst hhops hway => ?away⟩
    case null =>
      have hheld : ∃ x : Guyline, flitReceive n f s = { s with gl := x } ∧
          x.links = (s.modLink n (Link.accepted f.hdr s.now)).gl.links ∧ x.coord = s.gl.coord ∧ x.parcels = s.gl.parcels := by
        rw [hrow]
        split
        · exact ⟨_, rfl, rfl, rfl, rfl⟩
        · exact ⟨_, deliverFlit_of_null hnull, rfl, rfl, rfl⟩
      obtain ⟨x, hx, hlinks, hcoord, hparcels⟩ := hheld
      have hlink : ∀ m, ({ s with gl := x } : State).link m = (s.modLink n (Link.accepted f.hdr s.now)).link m := fun m => by
        simp only [State.link, hlinks]
      have hcalm := (noNewWork_withGl (s := s) hcoord hparcels).calm (fun m => by rw [hlink]; exact hsame m) hc
      obtain ⟨k, hk⟩ := settled_onLink hn hx hcalm
      have hn' := (hlink n).trans hself
      exact ⟨_, hk, (congrArg Link.rxSeq hn').trans hrx, (congrArg Link.rxAt hn').trans hat, (congrArg Link.rxRefusing hn').trans href,
        (congrArg Link.nakOwed hn').trans hnak,
        fun left ha hr => (congrArg Link.replay hn').trans (Link.controlled_replay_of_acked ha hr),
        fun m hm => (hlink m).trans (link_modLink_of_ne _ hm), (only_withGl s x).mono (by simp) |>.stepped (by simp) _ _⟩
    case here =>
      have hdeliver := hrow.trans ((if_neg (by simp [hh])).trans (deliverFlit_of_here htype hdst))
      have hgathered := (noNewWork_gatherFlit f.hdr _).calm (.of_state fun m => by rw [link_gatherFlit]) haccepted
      have hcalm := calm_modLink (n := n) (f := Link.owing (vcOf f.hdr)) (fun _ => rfl) hgathered
      obtain ⟨k, hk⟩ := settled_onLink hn hdeliver hcalm
      obtain ⟨g, hg, hsrc, htag, hmirror, hin⟩ := exists_gather_gatherFlit f.hdr (s.modLink n (Link.accepted f.hdr s.now))
      have hrxSeq := (link_modLink_keeps (s := gatherFlit f.hdr (s.modLink n (Link.accepted f.hdr s.now)))
        (n := n) (f := Link.owing (vcOf f.hdr)) Link.rxSeq rfl n).trans
        ((congrArg Link.rxSeq ((link_gatherFlit _ _ n).trans hself)).trans hrx)
      exact ⟨_, g, hk, hrxSeq, hg, hsrc, htag, hmirror, hin,
        ((only_modLink s n _).trans ((only_gatherFlit f.hdr _).trans (only_modLink _ n _))).mono (by simp) |>.stepped (by simp) _ _⟩
    case away =>
      have hway' := (wayOut_congr hsame rfl f.hdr.src f.hdr.dst f.hdr.ptag f.hdr.mirror).trans hway
      have hdeliver := hrow.trans ((if_neg (by simp [hh])).trans
        (deliverFlit_of_away (s := s.modLink n (Link.accepted f.hdr s.now)) htype hdst hhops hway'))
      obtain ⟨k, hk⟩ := settled_onLink hn hdeliver (calm_modLink (fun _ => rfl) haccepted)
      have hqueued := congrArg Link.txq (link_modLink_self (Link.queued (forwardedFlit n m d f (s.modLink n (Link.accepted f.hdr s.now))))
        (hasLink_of_keyed (keyed_of_wayOut hway')))
      have htxq : ((s.modLink n (Link.accepted f.hdr s.now)).link m).txq = (s.link m).txq :=
        link_modLink_keeps Link.txq (Link.accepted_txq _ _ _) m
      exact ⟨_, _, hk, hqueued.trans (congrArg (· ++ [forwardedFlit n m d f _]) htxq), rfl, rfl, rfl, rfl, rfl, rfl, rfl, rfl,
        ((only_modLink s n _).trans (only_modLink _ m _)).mono (by simp) |>.stepped (by simp) _ _⟩
  case refuse =>
    obtain ⟨hlen, -⟩ := List.getElem?_eq_some_iff.mp hl
    obtain rfl : s.link n = l := link_of_getElem? hl
    have hfew' : ((s.modLink n (fun x => { x with rxAt := s.now })).link n).failTimes.length < 32 :=
      lt_of_eq_of_lt (congrArg List.length (link_modLink_keeps Link.failTimes rfl n)) hfew
    have hrow := ((flitReceive_of_checkFailed hu hkeyed hrefusing hok hhello).trans (refuseFlit_of_few hfew')).trans (modLink_modLink _ _)
    obtain ⟨t, ht, hlink, honly⟩ := settled_updateNow hc hn hlen hrow fun _ => rfl
    exact ⟨t, ht, by rw [hlink]; exact hkeyed, by rw [hlink]; rfl, by rw [hlink]; rfl, by rw [hlink]; rfl, by rw [hlink]; rfl,
      honly.mono (by simp)⟩

end Sys2Proof.Machine
end

section
/-! PROOFS. What replies and records leave of Guyline (04 R107; 16 R494 to R498): parcels of trace records join its list, and nothing
else changes. -/

namespace Sys2Proof.Machine

/-- Guyline has gained parcels with fresh identifiers, and is otherwise as it was. -/
structure ParcelsAdded (s t : State) : Prop where
  rest : t.gl = { s.gl with parcels := t.gl.parcels, nextId := t.gl.nextId }
  next : s.gl.nextId ≤ t.gl.nextId
  added : ∃ xs, t.gl.parcels = s.gl.parcels ++ xs ∧ ∀ x ∈ xs, s.gl.nextId ≤ x.id

section
variable {s t u : State}

theorem ParcelsAdded.of_gl (h : t.gl = s.gl) : ParcelsAdded s t :=
  ⟨by rw [h], by rw [h], [], by rw [h, List.append_nil], fun _ hx => nomatch hx⟩

theorem ParcelsAdded.refl (s : State) : ParcelsAdded s s := .of_gl rfl

theorem ParcelsAdded.trans (h : ParcelsAdded s t) (k : ParcelsAdded t u) : ParcelsAdded s u := by
  obtain ⟨xs, hxs, hx⟩ := h.added
  obtain ⟨ys, hys, hy⟩ := k.added
  refine ⟨by rw [k.rest, h.rest], h.next.trans k.next, xs ++ ys, by rw [hys, hxs, List.append_assoc], fun x hm => ?_⟩
  rcases List.mem_append.mp hm with hm | hm
  · exact hx x hm
  · exact h.next.trans (hy x hm)

theorem ParcelsAdded.foldl {α : Type} (f : State → α → State) (hf : ∀ u a, ParcelsAdded u (f u a)) (l : List α) (s : State) :
    ParcelsAdded s (l.foldl f s) :=
  List.foldlRecOn l f (ParcelsAdded.refl s) fun u hu a _ => hu.trans (hf u a)

theorem ParcelsAdded.links (h : ParcelsAdded s t) : t.gl.links = s.gl.links := by rw [h.rest]

theorem ParcelsAdded.link (h : ParcelsAdded s t) (n : Nat) : t.link n = s.link n := by rw [State.link, h.links, State.link]

/-- A parcel that the list held first stays first. -/
theorem ParcelsAdded.parcel? (h : ParcelsAdded s t) {id : Nat} {x : TxParcel} (hx : s.parcel? id = some x) : t.parcel? id = some x := by
  obtain ⟨xs, hxs, -⟩ := h.added
  rw [State.parcel?] at hx ⊢
  rw [hxs, List.find?_append, hx, Option.some_or]

/-- No new parcel takes an identifier that was given before. -/
theorem ParcelsAdded.parcel?_eq_none (h : ParcelsAdded s t) {id : Nat} (hid : id < s.gl.nextId) (hx : s.parcel? id = none) :
    t.parcel? id = none := by
  obtain ⟨xs, hxs, hfresh⟩ := h.added
  rw [State.parcel?] at hx ⊢
  rw [hxs, List.find?_append, hx, Option.none_or]
  refine List.find?_eq_none.mpr fun x hm he => ?_
  have hge := hfresh x hm
  have heq : x.id = id := of_decide_eq_true he
  omega

theorem ParcelsAdded.ite {c : Prop} [Decidable c] (ht : ParcelsAdded s t) (hu : ParcelsAdded s u) :
    ParcelsAdded s (if c then t else u) := by
  split
  · exact ht
  · exact hu

theorem added_addParcel {f : Nat → TxParcel} (hf : ∀ i, (f i).id = i) : ParcelsAdded s (s.addParcel f) :=
  ⟨rfl, Nat.le_succ _, [f s.gl.nextId], rfl, fun x hx => by rw [List.mem_singleton.mp hx, hf]⟩

theorem added_modTrace (s : State) (n : Nat) (f : TraceSlot → TraceSlot) : ParcelsAdded s (s.modTrace n f) := .of_gl rfl

theorem added_account (n : Nat) (f : Accounting → Accounting) (s : State) : ParcelsAdded s (account n f s) := .of_gl rfl

theorem added_modView (s : State) (p : Nat) (f : View → View) : ParcelsAdded s (s.modView p f) := .of_gl rfl

theorem added_writeTrace (n : Nat) (recs : List TraceRec) (s : State) : ParcelsAdded s (writeTrace n recs s) := by
  unfold writeTrace
  split
  · exact .refl s
  · split
    · exact (added_addParcel fun _ => rfl).trans (added_modTrace _ _ _)
    · refine .foldl _ (fun u r => ?_) _ _
      split
      · exact .refl u
      · dsimp only
        split
        · exact .of_gl rfl
        · split <;> exact .of_gl rfl

theorem added_pushTrace (n : Nat) (r : TraceRec) (s : State) : ParcelsAdded s (pushTrace n r s) := by
  unfold pushTrace
  split
  · exact .refl s
  · split
    · exact added_modTrace _ _ _
    · exact .ite ((added_modTrace _ _ _).trans ((added_modTrace _ _ _).trans (added_writeTrace _ _ _))) (added_modTrace _ _ _)

theorem added_traceCtx (p c b : Nat) (r : TraceRec) (s : State) : ParcelsAdded s (traceCtx p c b r s) := by
  unfold traceCtx
  split
  · exact .refl s
  · split
    · exact added_pushTrace _ _ _
    · exact .refl s

theorem added_noteDone (r : CmdRef) (st : Nat) (s : State) : ParcelsAdded s (noteDone r st s) := by
  unfold noteDone
  split
  · exact .refl s
  · dsimp only
    split
    · exact (added_account _ _ _).trans ((added_modView _ _ _).trans (added_traceCtx _ _ _ _ _))
    · exact (added_account _ _ _).trans (added_modView _ _ _)

theorem added_answer (r : CmdRef) (st : Nat) (v : BitVec 128) (s : State) : ParcelsAdded s (answer r st v s) := by
  unfold answer answerWith
  dsimp only
  have hdone : ParcelsAdded s (noteDone r st (s.land r)) := .trans (t := s.land r) (.of_gl rfl) (added_noteDone r st _)
  split
  · exact hdone
  · exact hdone.trans (.of_gl (only_deliver _ _ _ .gl (by decide)))

theorem added_complete (r : CmdRef) (st : Nat) (v : BitVec 128) (s : State) : ParcelsAdded s (complete r st v s) := by
  unfold complete
  split
  · exact .of_gl rfl
  · exact added_answer r st v s

/-- A UNIT record, as a time drawn, a trace record and an account. -/
theorem traceUnit_eq (r : CmdRef) (e : Nat) (s : State) :
    traceUnit r e s = account r.slot (fun a => { a with unitNs := a.unitNs + s.draw.1 })
      (traceCtx r.part r.slot 5 (r.record s.draw.2.now 0x0A 0 e) s.draw.2) := rfl

theorem added_traceUnit (r : CmdRef) (e : Nat) (s : State) : ParcelsAdded s (traceUnit r e s) := by
  rw [traceUnit_eq]
  exact .trans (t := s.draw.2) (.of_gl rfl) ((added_traceCtx _ _ _ _ _).trans (added_account _ _ _))

theorem quiet_traceUnit (r : CmdRef) (e : Nat) (s : State) : Quiet s (traceUnit r e s) := by
  rw [traceUnit_eq]
  exact (quiet_draw s).trans ((quiet_traceCtx _ _ _ _ _).trans (quiet_account _ _ _))

end

end Sys2Proof.Machine
end

section
/-! PROOFS. FLIT_SEND, BOUND_NOTICE_SEND and ECHO_REQUEST_RECEIVE (04 R93 to R97, 08 R259, R276, 17 R500, 18 R518, R519): what a flit
that leaves makes of its link. -/

namespace Sys2Proof.Machine

section
variable {s u : State} {n slot lane : Nat} {tw : Bool} {m : MemRead} {c : Cat}

/-! ### A flit that leaves -/

/-- A link that has sent a flit under its next sequence number. -/
def Link.sending (q : QFlit) (credits : Bool) (now : Nat) (l : Link) : Link :=
  { l with txSeq := l.txSeq + 1, nakOwed := false
           replay := if l.state = .keyed then
             l.replay ++ [(l.txSeq + (if l.keyPhase then 2 ^ 32 else 0), { q with hdr := linkHdr l credits q.hdr })] else l.replay
           ackAt := if l.replay.isEmpty then now else l.ackAt
           owed := if (linkHdr l credits q.hdr).creditVc ≤ 9 then l.owed.set (linkHdr l credits q.hdr).creditVc 0 else l.owed
           credits := if (linkHdr l credits q.hdr).ftype = 0 then l.credits
             else l.credits.modify (vcOf (linkHdr l credits q.hdr)) (fun c => c - 1) }

/-- The flit that a link sends. -/
def Link.sentFlit (n : Nat) (q : QFlit) (credits : Bool) (l : Link) : Output :=
  .flit n (linkHdr l credits q.hdr) l.txSeq q.payload

theorem putFlit_eq (n : Nat) (q : QFlit) (credits : Bool) (s : State) :
    putFlit n q credits s = (s.modLink n (Link.sending q credits s.now)).emit (Link.sentFlit n q credits (s.link n)) := by
  unfold putFlit
  exact congrArg (State.emit · _) (modLink_congr rfl)

/-- The IDLE flit of a block. -/
def idleFlit (s : State) : QFlit :=
  { hdr := blankHdr s, payload := .zeros, owner := none, resv := none, transit := false, queuedAt := s.now, noticed := false,
    detoured := false, from_ := none }

theorem putIdle_eq (n : Nat) (credits : Bool) (s : State) :
    putIdle n credits s =
      (s.modLink n (Link.sending (idleFlit s) credits s.now)).emit (Link.sentFlit n (idleFlit s) credits (s.link n)) :=
  putFlit_eq n (idleFlit s) credits s

/-! ### FLIT_SEND without injections -/

theorem armed_eq_none (h : s.tests.injections = []) (k t : Nat) : s.armed k t = none := by
  rw [State.armed, h, List.find?_nil]

theorem spoilCheck_eq_self (h : s.tests.injections = []) (n : Nat) : spoilCheck n s = s := by
  rw [spoilCheck, armed_eq_none h]

theorem withTwins_of_none (h : s.tests.injections = []) (k t : Nat) (ok : Bool) (f : Bool → State → State) :
    withTwins k [t] ok f s = f ok s := by
  rw [withTwins, List.findSome?_singleton, armed_eq_none h]

/-- Without injections a link sends what its slot selects. -/
theorem flitSendTested_of_flitSend (hi : s.tests.injections = []) (hb : s.blocked (0x100 + lane % 96) = false)
    (hf : flitSend n slot tw lane m s = u) (hu : u.tests.injections = []) : flitSendTested n slot tw lane m s = u := by
  have hsilent : s.silenced n = false := by simp [State.silenced, hi]
  have hstalled : s.stalled (0x500 + n) = false := by simp [State.stalled, hi]
  unfold flitSendTested
  dsimp only
  rw [hsilent, hstalled, hb, if_neg (by decide), withTwins_of_none hi, hf, spoilCheck_eq_self hu]

theorem flitSend_of_halted (hu : s.up = true) (hk : (s.link n).state = .keyed) (hq : (s.link n).txSeq ≠ 2 ^ 32 - 1)
    (hh : s.scribe.halted = true) : flitSend n slot tw lane m s = putIdle n false s := by
  simp only [flitSend, hu, hk, hq, hh, Bool.not_true, Bool.false_eq_true, if_false, if_true]

/-- What the slot of a running link selects. -/
def slotPick (s : State) (n slot : Nat) : Pick :=
  pickFlit s n (((s.link n).replay.filter (fun e => e.2.hdr.ftype ≠ 0)).length < 256)
    (if isTorus n then catsOf s (s.slotUse n (slot % 781)) else [.mcInfra])

/-- What a link sends for its slot's choice. -/
def sendPick (n : Nat) (tw : Bool) (lane : Nat) (m : MemRead) (s : State) : Pick → State
  | .again k q => (s.modLink n (fun x => { x with resend := x.resend.drop 1 })).emit (.flit n q.hdr (k % 2 ^ 32) q.payload)
  | .queued q => sendQueued n q s
  | .parcel x c t => sendParcelFlit n x c t tw lane m s
  | .pack o => sendPackFlit n o s
  | .idle => putIdle n true s

theorem flitSend_of_running (hu : s.up = true) (hk : (s.link n).state = .keyed) (hq : (s.link n).txSeq ≠ 2 ^ 32 - 1)
    (hh : s.scribe.halted = false) : flitSend n slot tw lane m s = sendPick n tw lane m s (slotPick s n slot) := by
  simp only [flitSend, hu, hk, hq, hh, Bool.not_true, Bool.false_eq_true, if_false]
  cases hp : slotPick s n slot <;> rw [slotPick] at hp <;> rw [hp] <;> rfl

/-! ### Choices -/

theorem pickAgain_eq_none (h : (s.link n).resend = []) (c : Cat) : pickAgain s n c = none := by
  simp only [pickAgain, h]

theorem pickAgain_of_idle {k : Nat} {ks : List Nat} {q : QFlit} (hr : (s.link n).resend = k :: ks)
    (hf : (s.link n).replay.find? (fun e => e.1 = k) = some (k, q)) (hq : q.hdr.ftype = 0) (c : Cat) :
    pickAgain s n c = some (.again k q) := by
  simp [pickAgain, hr, hf, hq]

theorem catPack_eq_none (h : s.gl.packq = []) (c : Cat) : catPack s n c = none := by
  rw [catPack, h, List.find?_nil]

theorem catParcels_eq_nil (h : ∀ x ∈ s.gl.parcels, ∀ b, catParcel s n c x b = none) : catParcels s n c = [] := by
  refine List.flatMap_eq_nil_iff.mpr fun x hx => ?_
  rw [h x hx, h x hx]
  rfl

theorem pickBe_eq_none (hps : catParcels s n .be = []) (hpk : s.gl.packq = []) : pickBe s n = none := by
  simp [pickBe, hps, catPack_eq_none hpk]

/-- A category with no queued flit, no parcel and no PACK sends nothing new. -/
theorem pickNew_eq_none (hq : (s.link n).txq = []) (hps : catParcels s n c = []) (hpk : s.gl.packq = []) : pickNew s n c = none := by
  unfold pickNew
  dsimp only
  rw [hq, List.find?_nil]
  dsimp only
  refine ite_eq_left_iff.mpr fun _ => ?_
  split
  · exact pickBe_eq_none hps hpk
  · rw [hps, List.find?_nil]
    dsimp only
    rw [catPack_eq_none hpk]

theorem pickFlit_cons_of_none {room : Bool} {cs : List Cat} (ha : pickAgain s n c = none) (hn : pickNew s n c = none) :
    pickFlit s n room (c :: cs) = pickFlit s n room cs := by
  rw [pickFlit, ha]
  cases room <;> simp [hn]

/-- A link with nothing to send sends an IDLE flit. -/
theorem pickFlit_eq_idle {room : Bool} (hr : (s.link n).resend = []) (hn : ∀ c, pickNew s n c = none) (cats : List Cat) :
    pickFlit s n room cats = .idle := by
  induction cats with
  | nil => rfl
  | cons c cs ih => rw [pickFlit_cons_of_none (pickAgain_eq_none hr c) (hn c), ih]

theorem slotPick_of_nothing (hp : s.gl.parcels = []) (hpk : s.gl.packq = []) (hr : (s.link n).resend = [])
    (hq : (s.link n).txq = []) : slotPick s n slot = .idle :=
  pickFlit_eq_idle hr (fun c => pickNew_eq_none hq (catParcels_eq_nil (by simp [hp])) hpk) _

/-- The categories of an open slot, and of a slot of a sled link. -/
theorem slotPick_of_again {k : Nat} {ks : List Nat} {q : QFlit} (hr : (s.link n).resend = k :: ks)
    (hf : (s.link n).replay.find? (fun e => e.1 = k) = some (k, q)) (hq : q.hdr.ftype = 0)
    (hs : n < 48 → s.slotUse n (slot % 781) = .open_) : slotPick s n slot = .again k q := by
  have hagain := pickAgain_of_idle hr hf hq
  unfold slotPick
  cases ht : isTorus n with
  | true => rw [if_pos rfl, hs (of_decide_eq_true ht), catsOf, pickFlit, hagain]
  | false => rw [if_neg Bool.false_ne_true, pickFlit, hagain]

/-! ### A best-effort parcel -/

theorem parcel?_modParcel {id : Nat} {f : TxParcel → TxParcel} (hf : ∀ x, (f x).id = x.id) :
    (s.modParcel id f).parcel? id = (s.parcel? id).map f := by
  unfold State.parcel? State.modParcel
  dsimp only
  induction s.gl.parcels with
  | nil => rfl
  | cons x xs ih =>
    by_cases hx : x.id = id
    · simp [hx, hf]
    · simpa [hx] using ih

/-- An update of a parcel that brings nothing to wait. -/
theorem noNewWork_modParcel (id : Nat) {f : TxParcel → TxParcel} (hw : ∀ x, (f x).waits = true → x.waits = true)
    (hf : ∀ x, TxParcel.SameWay x (f x)) (s : State) : NoNewWork s (s.modParcel id f) := by
  refine ⟨rfl, rfl, fun _ h => .inl h, rfl, rfl, rfl, rfl, rfl, fun y hy hyw => ?_, fun h => h, fun h => h⟩
  obtain ⟨x, hx, rfl⟩ := List.mem_map.mp hy
  split at hyw
  · exact ⟨x, hx, hw x hyw, by rw [if_pos ‹_›]; exact hf x⟩
  · exact ⟨x, hx, hyw, by rw [if_neg ‹_›]; exact ⟨rfl, rfl, rfl⟩⟩

theorem calm_modParcel {id : Nat} {f : TxParcel → TxParcel} (hw : ∀ x, (f x).waits = true → x.waits = true)
    (hf : ∀ x, TxParcel.SameWay x (f x)) (hc : s.calm) : (s.modParcel id f).calm :=
  (noNewWork_modParcel id hw hf s).calm (.of_state fun _ => rfl) hc

/-- A parcel with one flit more sent. -/
def TxParcel.flitLeft (now : Nat) (x : TxParcel) : TxParcel :=
  let y := { x with sent := x.sent + 1 }
  if y.flits ≤ y.sent && (!y.mirror || y.flits ≤ y.sentMirror) then { y with leftAt := some now, lane := none } else y

theorem TxParcel.flitLeft_sent (now : Nat) (x : TxParcel) : (x.flitLeft now).sent = x.sent + 1 := by
  unfold TxParcel.flitLeft
  dsimp only
  split <;> rfl

theorem TxParcel.flitLeft_id (now : Nat) (x : TxParcel) : (x.flitLeft now).id = x.id := by
  unfold TxParcel.flitLeft
  dsimp only
  split <;> rfl

theorem TxParcel.flitLeft_sameWay (now : Nat) (x : TxParcel) : x.SameWay (x.flitLeft now) := by
  unfold TxParcel.flitLeft
  dsimp only
  split <;> exact ⟨rfl, rfl, rfl⟩

theorem TxParcel.waits_of_flitLeft (now : Nat) (x : TxParcel) (h : (x.flitLeft now).waits = true) : x.waits = true := by
  unfold TxParcel.flitLeft at h
  dsimp only at h
  split at h
  · exact absurd h (by simp [TxParcel.waits])
  · exact h

theorem noteFlit_eq (id : Nat) (s : State) : noteFlit id false s = reapResv (s.modParcel id (TxParcel.flitLeft s.now)) := rfl

theorem quiet_reapResv (s : State) : Quiet s (reapResv s) := by
  constructor <;> first | rfl | exact fun _ h => .inl h | exact id

/-- A best-effort parcel that is under way leaves in an open slot (R259, R260). -/
theorem slotPick_of_parcel {x : TxParcel} {d : Bool} (hr : (s.link n).resend = []) (hq : (s.link n).txq = [])
    (hre : (s.link n).replay = []) (hpk : s.gl.packq = []) (hps : s.gl.parcels = [x]) (hn : n < 48)
    (hs : s.slotUse n (slot % 781) = .open_) (hcls : x.cls = 4) (hpseq : x.pseq.isSome = true) (he : x.eligibleAt.isSome = true)
    (hm : x.mirror = false) (hsent : x.sent < x.flits) (hbe : s.beOpen x.part = true) (hcr : 0 < (s.link n).credits.getD 8 0)
    (hw : s.wayOut s.chip x.dst x.ptag false = .link n d) : slotPick s n slot = .parcel x false x.ptag := by
  obtain ⟨e, he⟩ := Option.isSome_iff_exists.mp he
  have hparcel : catParcel s n .be x false = some x.ptag := by
    simp [catParcel, State.mayOpen, copyPtag, State.leadsTo, hsent, he, hpseq, hcls, hbe, hw]
  have hmirror : ∀ c, catParcel s n c x true = none := fun c => by simp [catParcel, hm]
  have hothers : ∀ c, catParcel s n c x false = none → pickNew s n c = none := fun c hc =>
    pickNew_eq_none hq (catParcels_eq_nil fun y hy b => by
      obtain rfl : y = x := List.mem_singleton.mp (hps ▸ hy)
      cases b
      · exact hc
      · exact hmirror c) hpk
  have hbest : catParcels s n .be = [(x, false, x.ptag)] := by simp [catParcels, hps, hparcel, hmirror]
  have hpick : pickBe s n = some (.parcel x false x.ptag) := by
    by_cases ht : (s.link n).beLast < x.turn <;> simp [pickBe, hbest, catPack_eq_none hpk, ht]
  have hnew : pickNew s n .be = some (.parcel x false x.ptag) := by
    unfold pickNew
    dsimp only
    rw [hq, List.find?_nil]
    dsimp only
    have hcredit : ¬(!(s.link n).hasCredit (2 * 4)) = true := by
      simp only [Link.hasCredit, hcr, decide_true, Bool.not_true, Bool.false_eq_true, not_false_eq_true]
    exact (if_neg hcredit).trans hpick
  have hagain := pickAgain_eq_none (s := s) (n := n) hr
  unfold slotPick
  rw [if_pos (show isTorus n = true from decide_eq_true hn), hs, catsOf,
    pickFlit_cons_of_none (hagain _) (hothers _ (by simp [catParcel])), pickFlit_cons_of_none (hagain _) (hothers _ (by simp [catParcel])),
    pickFlit_cons_of_none (hagain _) (hothers _ (by simp [catParcel])),
    pickFlit_cons_of_none (hagain _) (hothers _ (by simp [catParcel, hcls])), pickFlit, hagain, hre]
  simp [hnew]

/-- A parcel whose unit is sealed on a lane. -/
def TxParcel.onLane (lane : Nat) (x : TxParcel) : TxParcel := { x with lane := some (lane % 96) }

/-- A link that has served a context's best-effort turn. -/
def Link.beServed (turn : Nat) (l : Link) : Link := { l with beLast := turn }

/-- What starts with a flit of a parcel: a 4 KiB unit is recorded, and its lane noted. -/
def unitStarted (x : TxParcel) (lane : Nat) (s : State) : State :=
  if startsUnit x.sent then
    (match x.ref with | some r => traceUnit r (0x100 + lane % 96) s | none => s).modParcel x.id
      (TxParcel.onLane lane)
  else s

/-- The flit of a parcel that leaves next. -/
def parcelFlit (x : TxParcel) (s : State) : QFlit :=
  { hdr := { blankHdr s with
      ftype := 1, cls := x.cls, last := x.sent + 1 = x.flits, mirror := false, dst := x.dst, domain := (s.part x.part).domain
      routeEpoch := x.epoch, fidx := x.sent, ptag := x.ptag }
    payload := .sealed x.id x.sent, owner := some x.part, resv := x.resv, transit := false, queuedAt := s.now, noticed := false,
    detoured := false, from_ := none }

/-- A best-effort parcel that is under way sends its next flit. -/
theorem sendParcelFlit_of_underWay {x : TxParcel} (hpseq : x.pseq.isSome = true) (hcls : x.cls = 4) :
    sendParcelFlit n x false x.ptag true lane m s = noteFlit x.id false
      ((putFlit n (parcelFlit x (unitStarted x lane s)) true
        ((unitStarted x lane s).modView x.part (fun v => { v with linkUsed := v.linkUsed + 1 }))).modLink n
          (Link.beServed x.turn)) := by
  have hfirst : x.pseq.isNone = false := by rw [← Option.not_isSome, hpseq, Bool.not_true]
  unfold sendParcelFlit unitStarted
  simp only [hfirst, Bool.false_eq_true, if_false, Bool.not_false, Bool.true_or, Bool.and_true, Bool.not_true, Bool.and_false,
    Bool.false_and]
  cases x.kind <;> (simp only [if_pos hcls]; cases startsUnit x.sent <;> cases x.ref <;> rfl)

/-! ### What a unit's start leaves -/

theorem only_traceUnit (r : CmdRef) (e : Nat) (s : State) : OnlyIn [.cmds, .gl, .scribe, .out, .fresh] s (traceUnit r e s) := by
  rw [traceUnit_eq]
  exact ((only_draw s).mono (by simp)).trans (((only_traceCtx _ _ _ _ _).mono (by simp)).trans ((only_account _ _ _).mono (by simp)))

/-- A unit's start is no start, or a record and its lane. -/
theorem unitStarted_cases (x : TxParcel) (lane : Nat) (s : State) : unitStarted x lane s = s ∨
    ∃ u, unitStarted x lane s = u.modParcel x.id (TxParcel.onLane lane) ∧ Quiet s u ∧ ParcelsAdded s u ∧
      OnlyIn [.cmds, .gl, .scribe, .out, .fresh] s u := by
  unfold unitStarted
  split
  · cases x.ref with
    | none => exact .inr ⟨s, rfl, .rfl, .refl s, .refl _ s⟩
    | some r => exact .inr ⟨_, rfl, quiet_traceUnit _ _ _, added_traceUnit _ _ _, only_traceUnit _ _ _⟩
  · exact .inl rfl

theorem calm_unitStarted {x : TxParcel} (hc : s.calm) : (unitStarted x lane s).calm := by
  rcases unitStarted_cases x lane s with he | ⟨u, he, hq, -, -⟩
  · rwa [he]
  · rw [he]
    exact calm_modParcel (fun _ h => h) (fun _ => ⟨rfl, rfl, rfl⟩) (hq.calm hc)

theorem unitStarted_links (x : TxParcel) (lane : Nat) (s : State) : (unitStarted x lane s).gl.links = s.gl.links := by
  rcases unitStarted_cases x lane s with he | ⟨u, he, -, ha, -⟩
  · rw [he]
  · rw [he]
    exact ha.links

theorem unitStarted_tests (x : TxParcel) (lane : Nat) (s : State) : (unitStarted x lane s).tests = s.tests := by
  rcases unitStarted_cases x lane s with he | ⟨u, he, -, -, ho⟩
  · rw [he]
  · rw [he]
    exact ho .tests (by decide)

theorem parcel?_unitStarted {x : TxParcel} (hx : s.parcel? x.id = some x) :
    ∃ y, (unitStarted x lane s).parcel? x.id = some y ∧ y.sent = x.sent := by
  rcases unitStarted_cases x lane s with he | ⟨u, he, -, ha, -⟩
  · exact ⟨x, by rw [he, hx], rfl⟩
  · exact ⟨x.onLane lane, by rw [he, parcel?_modParcel (f := TxParcel.onLane lane) (fun _ => rfl), ha.parcel? hx]; rfl, rfl⟩

/-! ### The rows -/

/-- A row that updates its link and sends. -/
theorem settled_updateNowSent {f : State → State} {g : Link → Link} {o : Output} (hc : s.calm) (hn : n < 64)
    (hlen : n < s.gl.links.length) (hf : f s = (s.modLink n g).emit o) (hg : ∀ l, (g l).state = l.state) :
    ∃ t, settled s (onLink n f s) = .next t ∧ t.link n = g (s.link n) ∧ o ∈ t.out ∧ OnlyIn [.gl, .out, .start] s t := by
  obtain ⟨k, hk⟩ := settled_onLink hn hf ((quiet_emit _ o).calm (calm_modLink hg hc))
  exact ⟨_, hk, link_modLink_self g hlen, List.mem_cons_self,
    (((only_modLink s n g).mono (by simp)).trans ((only_emit _ o).mono (by simp))).stepped (by simp) _ _⟩

/-- What a parcel's flit makes of a calm block: its link has sent it, and the parcel counts it. -/
theorem noteFlit_putFlit {q : QFlit} {turn id : Nat} {y : TxParcel} (hc : s.calm) (hlen : n < s.gl.links.length)
    (hy : s.parcel? id = some y) (hu : noteFlit id false ((putFlit n q true s).modLink n (Link.beServed turn)) = u) :
    u.calm ∧ u.link n = ((s.link n).sending q true s.now).beServed turn ∧ Link.sentFlit n q true (s.link n) ∈ u.out ∧
      u.tests = s.tests ∧ u.parcel? id = some (y.flitLeft s.now) := by
  rw [putFlit_eq, noteFlit_eq] at hu
  subst hu
  have hsent : ((s.modLink n (Link.sending q true s.now)).emit (Link.sentFlit n q true (s.link n))).calm :=
    (quiet_emit _ _).calm (calm_modLink (fun _ => rfl) hc)
  have hserved := calm_modLink (n := n) (f := Link.beServed turn) (fun _ => rfl) hsent
  refine ⟨(quiet_reapResv _).calm (calm_modParcel (TxParcel.waits_of_flitLeft _) (TxParcel.flitLeft_sameWay _) hserved), ?_,
    List.mem_cons_self, rfl, ?_⟩
  · calc ((s.modLink n (Link.sending q true s.now)).modLink n (Link.beServed turn)).link n
      _ = ((s.modLink n (Link.sending q true s.now)).link n).beServed turn :=
        link_modLink_self _ (by rwa [modLink_links_length])
      _ = ((s.link n).sending q true s.now).beServed turn := by rw [link_modLink_self _ hlen]
  · exact (parcel?_modParcel (s := s) (TxParcel.flitLeft_id s.now)).trans (by rw [hy, Option.map_some])

/-- A best-effort flit uses a credit of its virtual channel. -/
theorem Link.sending_credits_be {q : QFlit} {now : Nat} {l : Link} (ht : q.hdr.ftype = 1) (hcls : q.hdr.cls = 4) (hd : q.hdr.dl = false)
    (hcr : 0 < l.credits.getD 8 0) : (l.sending q true now).credits.getD 8 0 + 1 = l.credits.getD 8 0 := by
  have hcredits : (l.sending q true now).credits = l.credits.modify 8 (fun c => c - 1) := by
    simp [Link.sending, linkHdr, vcOf, ht, hcls, hd]
  rw [hcredits]
  simp only [List.getD_eq_getElem?_getD, List.getElem?_modify_eq] at hcr ⊢
  cases h : l.credits[8]? with
  | none => simp [h] at hcr
  | some c =>
    simp only [h, Option.getD_some] at hcr
    simp
    omega

/-- A best-effort parcel that is under way sends its next flit, which uses a credit of its virtual channel. -/
theorem sendParcelFlit_leaves {x : TxParcel} (hc : s.calm) (hlen : n < s.gl.links.length)
    (hx : s.parcel? x.id = some x) (hcls : x.cls = 4) (hpseq : x.pseq.isSome = true) (hcr : 0 < (s.link n).credits.getD 8 0)
    (hu : sendParcelFlit n x false x.ptag true lane m s = u) :
    u.calm ∧ u.tests = s.tests ∧ ∃ h y,
      .flit n h (s.link n).txSeq (.sealed x.id x.sent) ∈ u.out ∧ h.ftype = 1 ∧ h.cls = 4 ∧ h.fidx = x.sent ∧ h.ptag = x.ptag ∧
      h.dst = x.dst ∧ h.last = decide (x.sent + 1 = x.flits) ∧ u.parcel? x.id = some y ∧ y.sent = x.sent + 1 ∧
      (u.link n).txSeq = (s.link n).txSeq + 1 ∧ (u.link n).credits.getD 8 0 + 1 = (s.link n).credits.getD 8 0 := by
  obtain ⟨y, hy, hys⟩ := parcel?_unitStarted (lane := lane) hx
  have hlink : (unitStarted x lane s).link n = s.link n := by rw [State.link, unitStarted_links, State.link]
  rw [sendParcelFlit_of_underWay hpseq hcls] at hu
  obtain ⟨hcalm, hself, hout, htests, hparcel⟩ := noteFlit_putFlit ((quiet_modView _ _ _).calm (calm_unitStarted hc))
    (show n < (unitStarted x lane s).gl.links.length by rwa [unitStarted_links]) hy hu
  refine ⟨hcalm, htests.trans (unitStarted_tests _ _ _), linkHdr (s.link n) true (parcelFlit x (unitStarted x lane s)).hdr, _, ?_, rfl,
    hcls, rfl, rfl, rfl, rfl, hparcel, ?_, ?_, ?_⟩
  · rw [← hlink]
    exact hout
  · rw [TxParcel.flitLeft_sent, hys]
  · rw [hself, ← hlink]
    rfl
  · rw [hself, ← hlink]
    exact Link.sending_credits_be (q := parcelFlit x (unitStarted x lane s)) (now := (unitStarted x lane s).now)
      (l := (unitStarted x lane s).link n) rfl hcls rfl
      (by rwa [hlink])

/-! ### Bound notices -/

/-- A link whose queued flit has had its notice. -/
def Link.noticeGiven (q : QFlit) (l : Link) : Link :=
  { l with txq := l.txq.map (fun x => if x = q then { x with noticed := true } else x) }

/-- The reason that a notice gives. -/
def noticeReason (detour : Bool) : Nat := if detour then 2 else 1

/-- The notice about a flit, for its source; `away` says that it makes a detour itself. -/
def noticeFlit (detour away : Bool) (q : QFlit) (s : State) : QFlit :=
  { hdr := { blankHdr s with ftype := 4, dst := q.hdr.src, last := true }
    payload := .bytes (noticeBytes { ptag := q.hdr.ptag, dst := q.hdr.dst, reason := noticeReason detour }), owner := none,
    resv := none, transit := false, queuedAt := s.now, noticed := false, detoured := away, from_ := none }

/-- A state in which a notice about a flit of link n is noted. -/
def noticeNoted (n : Nat) (detour : Bool) (q : QFlit) (s : State) : State :=
  { s.modLink n (Link.noticeGiven q) with gl :=
    { (s.modLink n (Link.noticeGiven q)).gl with notices := s.gl.notices ++ [(q.hdr.src, q.hdr.ptag, noticeReason detour)] } }

theorem noNewWork_noticeNoted (n : Nat) (detour : Bool) (q : QFlit) (s : State) : NoNewWork s (noticeNoted n detour q s) :=
  noNewWork_withGl rfl rfl

theorem link_noticeNoted (n m : Nat) (detour : Bool) (q : QFlit) (s : State) :
    (noticeNoted n detour q s).link m = (s.modLink n (Link.noticeGiven q)).link m := rfl

theorem sameKeyed_noticeNoted (n : Nat) (detour : Bool) (q : QFlit) (s : State) : SameKeyed s (noticeNoted n detour q s) :=
  fun m => by
    rw [link_noticeNoted]
    exact sameKeyed_modLink (by exact Iff.rfl) m

theorem boundNoticeSend_of_due {detour d : Bool} {k : Nat} {q : QFlit} (hr : s.running = true) (hq : (s.link n).txq = [q])
    (ht : q.transit = true) (hf : q.hdr.ftype = 1) (hlo : 1 ≤ q.hdr.cls) (hhi : q.hdr.cls ≤ 3) (hn : q.noticed = false)
    (hd : detour = true → q.detoured = true) (hw : detour = false → q.queuedAt + 78 ≤ s.now)
    (hnew : s.gl.notices.contains (q.hdr.src, q.hdr.ptag, noticeReason detour) = false)
    (hway : s.wayOut s.chip q.hdr.src 0 false = .link k d) :
    boundNoticeSend n detour s = (noticeNoted n detour q s).modLink k (Link.queued (noticeFlit detour d q s)) := by
  have hreason : (if detour then q.detoured else decide (q.queuedAt + 78 ≤ s.now)) = true := by
    cases detour with
    | true => exact hd rfl
    | false => exact decide_eq_true (hw rfl)
  unfold noticeReason at hnew
  unfold boundNoticeSend
  simp only [hr, hq, List.find?_cons, ht, hf, hlo, hhi, hn, hreason, hnew, Bool.not_true, Bool.false_eq_true, if_false, decide_true,
    Bool.not_false, Bool.and_self]
  have hway' := (wayOut_congr (sameKeyed_noticeNoted n detour q s) rfl s.chip q.hdr.src 0 false).trans hway
  have hroute := routeFlit_of_wayOut (q := { noticeFlit detour d q s with detoured := false }) (dim := 0) (dl := false) hway'
  rw [Bool.and_false] at hroute
  exact hroute

/-- What a link's queue holds stays there when a flit joins a queue. -/
theorem mem_txq_queued {q x : QFlit} {k : Nat} (h : x ∈ (s.link n).txq) : x ∈ ((s.modLink k (Link.queued q)).link n).txq := by
  by_cases hk : n = k
  · subst hk
    by_cases hlen : n < s.gl.links.length
    · rw [link_modLink_self _ hlen]
      exact List.mem_append_left _ h
    · rwa [State.link, State.modLink, List.modify_eq_self (Nat.not_lt.mp hlen)]
  · rwa [link_modLink_of_ne _ hk]

/-! ### Echo answers -/

/-- A link that has answered an echo. -/
def Link.echoed (now : Nat) (l : Link) : Link := { l with echoAt := some now }

/-- The flit of an answer. -/
def echoFlit (p : Probe) (s : State) : QFlit :=
  { hdr := { blankHdr s with ftype := 6, last := true }, payload := .bytes (probeBytes { p with kind := 2, turn := s.draw.1 % 2 ^ 32 }),
    owner := none, resv := none, transit := false, queuedAt := s.now, noticed := false, detoured := false, from_ := none }

theorem echoRequestReceive_of_due {p : Probe} (hlen : n < s.gl.links.length) (hr : s.running = true) (hlc : s.fuses.lc = .production)
    (hk : (s.link n).state = .keyed) (hq : (s.link n).txSeq ≠ 2 ^ 32 - 1) (hp : p.kind = 1)
    (hdue : ∀ e, (s.link n).echoAt = some e → e + 1000 ≤ s.now) :
    echoRequestReceive n p s =
      (s.draw.2.modLink n (Link.sending (echoFlit p s) (!s.scribe.halted) s.now ∘ Link.echoed s.now)).emit
        (Link.sentFlit n (echoFlit p s) (!s.scribe.halted) ((s.link n).echoed s.now)) := by
  have hself : (s.draw.2.modLink n (Link.echoed s.now)).link n = (s.link n).echoed s.now := link_modLink_self (s := s.draw.2) _ hlen
  have hmc : sendMc n 6 (probeBytes { p with kind := 2, turn := s.draw.1 % 2 ^ 32 }) (s.draw.2.modLink n (Link.echoed s.now)) =
      putFlit n (echoFlit p s) (!s.scribe.halted) (s.draw.2.modLink n (Link.echoed s.now)) := by
    have hgo : ¬(decide (((s.link n).echoed s.now).state ≠ .keyed) || decide (((s.link n).echoed s.now).txSeq = 2 ^ 32 - 1)) = true := by
      rw [Bool.or_eq_true, decide_eq_true_eq, decide_eq_true_eq]
      exact fun h => h.elim (fun h' => h' hk) hq
    rw [sendMc, hself, if_neg hgo]
    rfl
  rw [putFlit_eq, modLink_modLink, hself] at hmc
  refine Eq.trans ?_ hmc
  cases he : (s.link n).echoAt with
  | none => simp [echoRequestReceive, hr, hlc, hk, hp, he]; rfl
  | some e => simp [echoRequestReceive, hr, hlc, hk, hp, he, hdue e he]; rfl

end

/-- Settles O16: what leaves updates its link and is emitted; a notice joins a queue. No link's state changes and no parcel starts to
wait, so the block stays calm. -/
theorem flitsNoticesAndEchoesLeave : Obligations.FlitsNoticesAndEchoesLeave := by
  refine ⟨⟨fun n slot lane tw m s l hc hl hn hu hi hb hk hq => ?keyed, fun n slot lane tw m s l hc hl hn hu hi hb hst => ?unkeyed⟩,
    fun n k detour d s q hc hn hr hq ht hf hlo hhi hnot hd hw hnew hway => ?notice,
    fun n p s l hc hl hn hr hlc hk hq hp hdue => ?echo⟩
  case keyed =>
    obtain ⟨hlen, -⟩ := List.getElem?_eq_some_iff.mp hl
    obtain rfl : s.link n = l := link_of_getElem? hl
    refine ⟨fun hidle => ?idle, fun k ks q hh hre hfind hz hopen => ?again,
      fun x i d hh hre htxq hrep hpk hps hn48 hopen hcls hpseq he hm hsent hbe htw hcr hw => ?parcel⟩
    case idle =>
      have hput : ∃ b, flitSend n slot tw lane m s = putIdle n b s := by
        cases hh : s.scribe.halted with
        | true => exact ⟨false, flitSend_of_halted hu hk hq hh⟩
        | false =>
          obtain hhalted | ⟨hps, hpk, hre, htxq⟩ := hidle
          · rw [hh] at hhalted
            cases hhalted
          · exact ⟨true, by rw [flitSend_of_running hu hk hq hh, slotPick_of_nothing hps hpk hre htxq, sendPick]⟩
      obtain ⟨b, hput⟩ := hput
      have hrow := flitSendTested_of_flitSend hi hb (hput.trans (putIdle_eq n b s)) hi
      obtain ⟨t, ht, hlink, hout, honly⟩ := settled_updateNowSent hc hn hlen hrow fun _ => rfl
      refine ⟨t, linkHdr (s.link n) b (blankHdr s), ht, hout, rfl, rfl, by rw [hlink]; rfl, ?_, by rw [hlink]; rfl, honly⟩
      rw [hlink]
      simp [Link.sending, hk, idleFlit]
    case again =>
      have hsend := flitSend_of_running (slot := slot) (tw := tw) (lane := lane) (m := m) hu hk hq hh
      rw [slotPick_of_again hre hfind hz hopen, sendPick] at hsend
      obtain ⟨t, ht, hlink, hout, honly⟩ := settled_updateNowSent hc hn hlen (flitSendTested_of_flitSend hi hb hsend hi) fun _ => rfl
      exact ⟨t, ht, hout, by rw [hlink, hre]; rfl, by rw [hlink], by rw [hlink], honly⟩
    case parcel =>
      subst htw
      have hx : s.parcel? x.id = some x := by simp [State.parcel?, hps]
      have hpseq : x.pseq.isSome = true := by rw [hpseq, Option.isSome_some]
      have hsend := flitSend_of_running (slot := slot) (tw := true) (lane := lane) (m := m) hu hk hq hh
      rw [slotPick_of_parcel hre htxq hrep hpk hps hn48 hopen hcls hpseq he hm hsent hbe hcr hw, sendPick] at hsend
      obtain ⟨hcalm, htests, h, y, hfacts⟩ := sendParcelFlit_leaves hc hlen hx hcls hpseq hcr rfl
      obtain ⟨k, hrow⟩ := settled_onLink hn (flitSendTested_of_flitSend hi hb hsend (by rw [htests, hi])) hcalm
      exact ⟨_, h, y, hrow, hfacts⟩
  case unkeyed =>
    obtain rfl : s.link n = l := link_of_getElem? hl
    have hsend : flitSend n slot tw lane m s = s.emit (.flit n (blankHdr s) 0 .zeros) := by
      rcases hst with hst | hst <;> simp [flitSend, hu, hst]
    obtain ⟨k, hk⟩ := settled_onLink hn (flitSendTested_of_flitSend hi hb hsend hi) ((quiet_emit _ _).calm hc)
    exact ⟨_, _, hk, List.mem_cons_self, rfl, ((only_emit _ _).mono (by simp)).stepped (by simp) _ _⟩
  case notice =>
    have hsame := sameKeyed_noticeNoted n detour q s
    have hrow := boundNoticeSend_of_due hr hq ht hf hlo hhi hnot hd hw hnew hway
    have hcalm := calm_modLink (n := k) (f := Link.queued (noticeFlit detour d q s)) (fun _ => rfl)
      ((noNewWork_noticeNoted n detour q s).calm hsame hc)
    obtain ⟨j, hj⟩ := settled_onLink hn hrow hcalm
    have hlen : n < s.gl.links.length := hasLink_of_ne_reset fun h => by
      rw [h] at hq
      cases hq
    have hnoted : { q with noticed := true } ∈ ((noticeNoted n detour q s).link n).txq := by
      rw [link_noticeNoted, link_modLink_self _ hlen]
      simp [Link.noticeGiven, hq]
    have hlenk : k < (noticeNoted n detour q s).gl.links.length :=
      hasLink_of_keyed (keyed_of_wayOut ((wayOut_congr hsame rfl _ _ _ _).trans hway))
    have hjoined : noticeFlit detour d q s ∈
        (((noticeNoted n detour q s).modLink k (Link.queued (noticeFlit detour d q s))).link k).txq := by
      rw [link_modLink_self _ hlenk]
      exact List.mem_append_right _ List.mem_cons_self
    exact ⟨_, noticeFlit detour d q s, hj, rfl, hjoined, rfl, rfl, rfl, rfl, mem_txq_queued hnoted,
      (((only_withGl s _).mono (by simp)).trans ((only_modLink _ k _).mono (by simp))).stepped (by simp) _ _⟩
  case echo =>
    obtain ⟨hlen, -⟩ := List.getElem?_eq_some_iff.mp hl
    obtain rfl : s.link n = l := link_of_getElem? hl
    have hrow := echoRequestReceive_of_due hlen hr hlc hk hq hp hdue
    obtain ⟨k, hk'⟩ := settled_onLink hn hrow ((quiet_emit _ _).calm (calm_modLink (fun _ => rfl) ((quiet_draw s).calm hc)))
    have hself := link_modLink_self (s := s.draw.2)
      (Link.sending (echoFlit p s) (!s.scribe.halted) s.now ∘ Link.echoed s.now) hlen
    exact ⟨_, _, s.draw.1 % 2 ^ 32, hk', congrArg Link.echoAt hself, congrArg Link.txSeq hself, rfl, List.mem_cons_self,
      (((only_draw s).mono (by simp)).trans (((only_modLink _ n _).mono (by simp)).trans ((only_emit _ _).mono (by simp)))).stepped
        (by simp) _ _⟩

end Sys2Proof.Machine
end

section
/-! PROOFS. SEND, SEND_MIRROR, RECV_POST and RECV_CANCEL (04 R107, R108, R126 to R129, 07 R235): what a start on the state that the
checks leave makes of Guyline and the context. -/

namespace Sys2Proof.Machine

/-! ### Commands of contexts -/

section start
variable {s u : State} {op : Op} {p : Packet}

/-- A command for contexts alone comes from one (R77, R78). -/
theorem srcIsCtx_of_passes (hi : op.issuers = [.c] ∨ op.issuers = [.p0]) (hp : passes op p s) : srcIsCtx p.src = true := by
  have h := passes_issuer hp
  cases hsrc : p.src with
  | cmd q => rfl
  | ring q => rfl
  | mgmt => rcases hi with hi | hi <;> simp [hi, hsrc, issuerIs] at h
  | session q => rcases hi with hi | hi <;> simp [hi, hsrc, issuerIs] at h

/-- A command of a context starts in a state that differs by what its arrival leaves. -/
theorem submit_of_ctx (a : Aux) (hc : s.calm) (hp : passes op p s) (hsrc : srcIsCtx p.src = true) :
    ∃ u, submit op p a s = startOf op (named op p s) p a u ∧ Started s u ∧ OnlyIn replyAreas s u := by
  obtain ⟨u, hu, hs, hvs⟩ := submit_starts a hc hp
  exact ⟨u, hu, hs, hs.onlyNoVs (hvs fun id hid => by rw [hid] at hsrc; cases hsrc)⟩

theorem inflight?_hold_isSome (r : CmdRef) (s : State) : ((hold r s).inflight? r).isSome = true := by
  simp [State.inflight?, hold]

end start

/-! ### What the checks of a SEND read -/

section checks
variable {s u : State}

/-- Where a buffer lies follows from the partitions, the aperture and the chip's coordinate. -/
theorem place_congr (hp : u.parts = s.parts) (hs : u.sill = s.sill) (hc : u.gl.coord = s.gl.coord) (p a n : Nat) :
    place u p a n = place s p a n := by
  have hpart : u.part p = s.part p := by rw [State.part, hp, State.part]
  have hchip : u.chip = s.chip := by rw [State.chip, hc, State.chip]
  simp only [place, State.poolHome, hpart, hchip, hs]

theorem inCarve_congr (hp : u.parts = s.parts) (hs : u.sill = s.sill) (hc : u.gl.coord = s.gl.coord) (p a n : Nat) :
    u.inCarve p a n = s.inCarve p a n := by
  simp only [State.inCarve, place_congr hp hs hc]

theorem sendResv_congr (h : u.cal = s.cal) (p c i : Nat) : u.sendResv p c i = s.sendResv p c i := by
  simp only [State.sendResv, State.resvFor, State.resv?, h]

theorem sendRefusal_congr (hp : u.parts = s.parts) (hk : u.kp = s.kp) (p : Nat) : sendRefusal u p = sendRefusal s p := by
  have hpart : u.part p = s.part p := by rw [State.part, hp, State.part]
  have hkey : u.key? p 0 = s.key? p 0 := by rw [State.key?, hk, State.key?]
  rw [sendRefusal, hpart, hkey, sendRefusal]

end checks

/-! ### SEND and SEND_MIRROR -/

section send
variable {s : State} {r : CmdRef} {p : Packet}

/-- The parcel of a SEND. -/
def sendParcel (mirror : Bool) (r : CmdRef) (p : Packet) (s : State) (id : Nat) : TxParcel :=
  mkParcel id r.part .data (some r) (pf p 20 2) (pf p 22 1) (pf p 24 6) (pf p 32 4) (pf p 36 4) 0 (.data [])
    ((if pf p 22 1 = 4 then none else s.sendResv r.part (pf p 22 1) (pf p 40 4)).map (fun x => x.entry)) mirror s.now

/-- A context with one more member in its open set. -/
def Ctx.withMember (id : Nat) (c : Ctx) : Ctx := { c with openSet := c.openSet ++ [newMember id] }

/-- FENCE_SET puts a parcel in its context's open set. -/
def fenceSet (b : Bool) (slot id : Nat) (s : State) : State := if b then s.modCtx slot (Ctx.withMember id) else s

theorem startSendKind_of_ready {mirror : Bool} (hresv : pf p 22 1 ≠ 4 → (s.sendResv r.part (pf p 22 1) (pf p 40 4)).isSome = true)
    (hcarve : s.inCarve r.part (pf p 24 6) (pf p 32 4) = true) (href : sendRefusal s r.part = none) :
    startSendKind mirror r p s =
      fenceSet (bitOf p.flags.toNat 4) r.slot s.gl.nextId ((hold r s).addParcel (sendParcel mirror r p s)) := by
  have hgo : ¬(decide (pf p 22 1 ≠ 4) && (if pf p 22 1 = 4 then none else s.sendResv r.part (pf p 22 1) (pf p 40 4)).isNone) = true := by
    by_cases h : pf p 22 1 = 4
    · simp [h]
    · simp [h, Option.isSome_iff_ne_none.mp (hresv h)]
  unfold startSendKind
  dsimp only
  rw [if_neg hgo, if_neg (by rw [hcarve]; decide), href]
  rfl

theorem quiet_fenceSet (b : Bool) (slot id : Nat) (s : State) : Quiet s (fenceSet b slot id s) := by
  unfold fenceSet
  split
  · exact quiet_modCtx _ _ _
  · exact .rfl

theorem only_fenceSet (b : Bool) (slot id : Nat) (s : State) : OnlyIn [.cmds] s (fenceSet b slot id s) := by
  unfold fenceSet
  split
  · exact only_modCtx _ _ _
  · exact .refl _ s

theorem fenceSet_keeps (b : Bool) (slot id : Nat) (s : State) :
    (fenceSet b slot id s).gl = s.gl ∧ (fenceSet b slot id s).cmds.inflight = s.cmds.inflight := by
  unfold fenceSet
  split <;> exact ⟨rfl, rfl⟩

theorem fenceSet_ctx? {b : Bool} {slot id : Nat} {c : Ctx} (h : s.ctx? slot = some c) :
    ∃ d, (fenceSet b slot id s).ctx? slot = some d ∧ d.openSet = if b then c.openSet ++ [newMember id] else c.openSet := by
  unfold fenceSet
  cases b with
  | true => exact ⟨_, ctx?_modCtx_self (fun _ => by rfl) h, rfl⟩
  | false => exact ⟨c, h, rfl⟩

end send

/-! ### RECV_POST and RECV_CANCEL -/

section recv
variable {s : State} {r : CmdRef} {p : Packet}

/-- The buffer that a RECV_POST posts. -/
def recvBuffer (r : CmdRef) (p : Packet) : Posted :=
  { ref := r, addr := pf p 20 6, len := pf p 28 4, tag := pf p 32 4, filter := pf p 36 2 }

/-- A state whose buffers are `bs`. -/
def withPosted (bs : List Posted) (s : State) : State := { s with gl := { s.gl with posted := bs } }

theorem startRecvPost_of_room (hcarve : s.inCarve r.part (pf p 20 6) (pf p 28 4) = true)
    (hroom : (s.gl.posted.filter (fun x => x.ref.part = r.part)).length < 1024) :
    startRecvPost r p s = withPosted (s.gl.posted ++ [recvBuffer r p]) (hold r s) := by
  unfold startRecvPost
  dsimp only
  rw [if_neg (by rw [hcarve]; decide), if_neg (Nat.not_le.mpr hroom)]
  rfl

theorem startRecvCancel_of_posted {b : Posted} (hb : s.gl.posted.find? (fun b =>
      b.ref.part = r.part && b.ref.slot = r.slot && b.tag = pf p 20 4 && b.filter = pf p 24 2) = some b) :
    startRecvCancel r p s = complete r stOk 0 (answer b.ref stSquashed (detailOf 7) (withPosted (s.gl.posted.erase b) s)) := by
  rw [startRecvCancel, hb]
  rfl

theorem quiet_withPosted (bs : List Posted) (s : State) : Quiet s (withPosted bs s) := by
  constructor <;> first | rfl | exact fun _ h => .inl h | exact id

theorem noted_withPosted (bs : List Posted) (s : State) : Noted s (withPosted bs s) :=
  ⟨rfl, rfl, rfl, fun _ h => .inl h, fun _ h => h⟩

/-- No command is in flight after its reply. -/
theorem inflight?_answer (r : CmdRef) (st : Nat) (v : BitVec 128) (s : State) : (answer r st v s).inflight? r = none :=
  List.find?_eq_none.mpr fun x hx he => by
    have hmem := (noted_answer_of_land s r st v).inflight x hx
    simp only [State.land, List.mem_filter, decide_eq_true_eq] at hmem he
    exact hmem.2 he

/-- A command that is not in flight stays so while others end. -/
theorem Noted.inflight?_eq_none {t : State} (h : Noted s t) (hr : s.inflight? r = none) : t.inflight? r = none :=
  List.find?_eq_none.mpr fun x hx => List.find?_eq_none.mp hr x (h.inflight x hx)

/-- Replies and records make no command stale. -/
theorem Noted.staleRef {t : State} (h : Noted s t) (hs : s.staleRef r = false) : t.staleRef r = false := by
  rw [staleRef_congr (h.genOf _), hs]
  cases hc : s.ctx? r.slot with
  | none => rw [h.ctx?_eq_none hc]
  | some c =>
    obtain ⟨d, hd, -⟩ := h.ctx? hc
    rw [hd]
    rfl

end recv

/-- A SEND with what it needs adds its parcel, and with FENCE_SET a member of its context's open set. -/
theorem startSendKind_completes {s u : State} {op : Op} {p : Packet} {mirror : Bool} {c : Ctx} (hc : s.calm)
    (hstart : Started s u) (honly : OnlyIn replyAreas s u) (hctx : s.ctx? p.slot = some c)
    (hresv : pf p 22 1 ≠ 4 → (s.sendResv p.part (pf p 22 1) (pf p 40 4)).isSome = true)
    (hcarve : s.inCarve p.part (pf p 24 6) (pf p 32 4) = true) (href : sendRefusal s p.part = none) :
    ∃ t x d, settled s (startSendKind mirror (named op p s) p u) = .next t ∧ x ∈ t.gl.parcels ∧ x.kind = .data ∧
      x.ref = some (named op p s) ∧ x.part = p.part ∧ x.dst = pf p 20 2 ∧ x.cls = pf p 22 1 ∧ x.srcAddr = pf p 24 6 ∧
      x.length = pf p 32 4 ∧ x.recvTag = pf p 36 4 ∧ x.mirror = mirror ∧ x.eligibleAt = none ∧ x.acceptedAt = s.now ∧
      (t.inflight? (named op p s)).isSome = true ∧ t.ctx? p.slot = some d ∧
      d.openSet = (if bitOf p.flags.toNat 4 then c.openSet ++ [newMember x.id] else c.openSet) ∧ OnlyIn replyAreas s t := by
  have hparts : u.parts = s.parts := hstart.only .parts (by decide)
  have hcal : u.cal = s.cal := hstart.only .cal (by decide)
  have hready := startSendKind_of_ready (s := u) (r := named op p s) (p := p) (mirror := mirror)
    (fun h => by rw [sendResv_congr hcal]; exact hresv h)
    ((inCarve_congr hparts (hstart.only .sill (by decide)) hstart.quiet.coord _ _ _).trans hcarve)
    ((sendRefusal_congr hparts (hstart.only .kp (by decide)) _).trans href)
  obtain ⟨e, he, hkept⟩ := hstart.ctxs _ _ hctx
  obtain ⟨hgl, hinflight⟩ := fenceSet_keeps (bitOf p.flags.toNat 4) p.slot u.gl.nextId
    ((hold (named op p s) u).addParcel (sendParcel mirror (named op p s) p u))
  obtain ⟨d, hd, hset⟩ := fenceSet_ctx? (b := bitOf p.flags.toNat 4) (id := u.gl.nextId)
    (s := (hold (named op p s) u).addParcel (sendParcel mirror (named op p s) p u)) he
  have hcalm : (startSendKind mirror (named op p s) p u).calm := by
    rw [hready]
    exact ((quiet_hold _ _).trans ((quiet_addParcel _ _ fun _ => rfl).trans (quiet_fenceSet _ _ _ _))).calm (hstart.quiet.calm hc)
  have hareas : OnlyIn replyAreas u (startSendKind mirror (named op p s) p u) := by
    rw [hready]
    exact ((only_hold _ _).mono (by simp)).trans (((only_addParcel _ _).mono (by simp)).trans ((only_fenceSet _ _ _ _).mono (by simp)))
  rw [hkept.openSet] at hset
  refine ⟨_, sendParcel mirror (named op p s) p u u.gl.nextId, d, settled_calm hcalm, ?_, rfl, rfl, rfl, rfl, rfl, rfl, rfl, rfl, rfl,
    rfl, ?_, ?_, ?_, hset, (honly.trans hareas).queue _⟩
  · change _ ∈ (startSendKind mirror (named op p s) p u).gl.parcels
    rw [hready, show (fenceSet _ (named op p s).slot _ _).gl = _ from hgl]
    exact List.mem_append_right _ List.mem_cons_self
  · exact congrArg Calendar.now hcal
  · change ((startSendKind mirror (named op p s) p u).inflight? (named op p s)).isSome = true
    rw [hready, State.inflight?, show (fenceSet _ (named op p s).slot _ _).cmds.inflight = _ from hinflight]
    exact inflight?_hold_isSome _ u
  · change (startSendKind mirror (named op p s) p u).ctx? p.slot = some d
    rw [hready]
    exact hd

/-- Settles O9: each command starts on a state that agrees with the given one on what its checks read; a SEND adds its parcel there, a
RECV_POST its buffer, and a RECV_CANCEL takes one away and ends two commands. -/
theorem sendAndReceiveCommandsComplete : Obligations.SendAndReceiveCommandsComplete := by
  refine ⟨fun op mirror i p s c hop hc hp hctx hresv hcarve href => ?send, fun p s hc hp hcarve hroom => ?post,
    fun p s b hc hp hb => ?cancel⟩
  case send =>
    simp only [List.mem_cons, List.not_mem_nil, or_false] at hop
    rcases hop with hop | hop <;> cases hop
    all_goals
      obtain ⟨u, hu, hstart, honly⟩ := submit_of_ctx .none hc hp (srcIsCtx_of_passes (by simp [Op.issuers]) hp)
      obtain ⟨t, x, d, ht, hfacts⟩ := startSendKind_completes hc hstart honly hctx hresv hcarve href
      exact ⟨t, x, d, (congrArg (settled s) hu).trans ht, hfacts⟩
  case post =>
    obtain ⟨u, hu, hstart, honly⟩ := submit_of_ctx .none hc hp (srcIsCtx_of_passes (by simp [Op.issuers]) hp)
    have hposted : u.gl.posted = s.gl.posted := by rw [hstart.glRest]
    have hcarve' := (inCarve_congr (hstart.only .parts (by decide)) (hstart.only .sill (by decide)) hstart.quiet.coord p.part
      (pf p 20 6) (pf p 28 4)).trans hcarve
    have hrow := hu.trans (startRecvPost_of_room (r := named .recvPost p s) hcarve' (by rw [hposted]; exact hroom))
    have hquiet := (quiet_hold (named .recvPost p s) u).trans (quiet_withPosted (u.gl.posted ++ [recvBuffer (named .recvPost p s) p]) _)
    have hcalm := hquiet.calm (hstart.quiet.calm hc)
    refine ⟨_, (congrArg (settled s) hrow).trans (settled_calm hcalm), ?_, inflight?_hold_isSome (named .recvPost p s) u,
      ((honly.trans ((only_hold (named .recvPost p s) u).mono (by simp))).trans ((only_withGl _ _).mono (by simp))).queue _⟩
    exact congrArg (· ++ [recvBuffer (named .recvPost p s) p]) hposted
  case cancel =>
    have hsrc := srcIsCtx_of_passes (by simp [Op.issuers]) hp
    obtain ⟨u, hu, hstart, honly⟩ := submit_of_ctx .none hc hp hsrc
    have hposted : u.gl.posted = s.gl.posted := by rw [hstart.glRest]
    have hrow := hu.trans (startRecvCancel_of_posted (r := named .recvCancel p s) (p := p) (b := b) (by rw [hposted]; exact hb))
    have hquiet := ((quiet_withPosted (u.gl.posted.erase b) u).trans (quiet_answer b.ref stSquashed (detailOf 7) _)).trans
      (quiet_complete (named .recvCancel p s) stOk 0 _)
    have hnoted : Noted u (answer b.ref stSquashed (detailOf 7) (withPosted (u.gl.posted.erase b) u)) :=
      (noted_withPosted _ u).trans (noted_answer _ b.ref stSquashed (detailOf 7))
    have hfresh := hnoted.staleRef (hstart.fresh hp)
    have hadded := (added_answer b.ref stSquashed (detailOf 7) (withPosted (u.gl.posted.erase b) u)).trans
      (added_complete (named .recvCancel p s) stOk 0 _)
    have hends : OnlyIn replyAreas u (complete (named .recvCancel p s) stOk 0
        (answer b.ref stSquashed (detailOf 7) (withPosted (u.gl.posted.erase b) u))) :=
      ((only_withGl u _).mono (by simp)).trans (((only_answerWith _ _ _ _ _).mono (by simp)).trans (only_complete _ _ _ _))
    have hcal : (answer b.ref stSquashed (detailOf 7) (withPosted (u.gl.posted.erase b) u)).cal = u.cal :=
      only_answerWith _ _ _ _ _ .cal (by decide)
    have hnow := congrArg Calendar.now (hcal.trans (hstart.only .cal (by decide)))
    refine ⟨_, (congrArg (settled s) hrow).trans (settled_calm (hquiet.calm (hstart.quiet.calm hc))), ?_, ?_, ?_,
      (honly.trans hends).queue _⟩
    · exact (congrArg Guyline.posted hadded.rest).trans (congrArg (fun l => List.erase l b) hposted)
    · rw [complete_of_fresh hfresh]
      exact (noted_answer _ (named .recvCancel p s) stOk 0).inflight?_eq_none (inflight?_answer b.ref stSquashed (detailOf 7) _)
    · exact complete_answers hfresh hnow (fun id hid => by rw [hid] at hsrc; cases hsrc)
        fun q hq => by rw [hnoted.parts_length, hstart.only .parts (by decide)]; exact ring_of_passes hp q hq

end Sys2Proof.Machine
end

section
/-! PROOFS. Events (14 R428, R443): what an entry of the error log, its notices and its threshold's rung leave. -/

namespace Sys2Proof.Machine

/-- An event's traces: nothing that has left is taken back, no sticky bit falls, doorbells that have been looked at stay so, and no
context rung is asked for. -/
structure Reported (s t : State) : Prop where
  only : OnlyIn [.plumb, .mail, .out] s t
  rungs : ∀ x ∈ t.plumb.rungs, x ∈ s.plumb.rungs ∨ (x.rung ≠ .context ∧ x.begun = false)
  sticky : ∀ i, s.plumb.sticky.getLsbD i = true → t.plumb.sticky.getLsbD i = true
  out : ∀ o ∈ s.out, o ∈ t.out
  looked : s.chansLooked → t.chansLooked

section
variable {s t u : State}

theorem Reported.refl (s : State) : Reported s s := ⟨.refl _ s, fun _ h => .inl h, fun _ h => h, fun _ h => h, fun h => h⟩

theorem Reported.trans (h : Reported s t) (k : Reported t u) : Reported s u :=
  ⟨h.only.trans k.only, fun x hx => (k.rungs x hx).elim (h.rungs x) .inr, fun i hi => k.sticky i (h.sticky i hi),
    fun o ho => k.out o (h.out o ho), fun hl => k.looked (h.looked hl)⟩

theorem Notified.reported (h : Notified s t) : Reported s t := by
  have hplumb : t.plumb = s.plumb := h.only .plumb (by decide)
  exact ⟨h.only.mono (by simp), fun x hx => .inl (hplumb ▸ hx), fun i hi => hplumb ▸ hi, h.out, h.looked⟩

theorem Reported.noNewWork (h : Reported s t) : NoNewWork s t := by
  have hgl : t.gl = s.gl := h.only .gl (by decide)
  have hcmds : t.cmds = s.cmds := h.only .cmds (by decide)
  have hserved : t.mailServed = s.mailServed := by
    rw [State.mailServed, State.up, h.only .start (by decide), h.only .scribe (by decide), h.only .kp (by decide), State.mailServed,
      State.up]
  exact ⟨by rw [hcmds], by rw [hcmds], h.rungs, by rw [h.only .debugs (by decide)],
    by rw [h.only .vs (by decide)],
    by rw [h.only .kp (by decide)], by rw [h.only .tests (by decide)], by rw [hgl],
    fun y hy hw => ⟨y, hgl ▸ hy, hw, rfl, rfl, rfl⟩, fun hm => hserved ▸ hm, h.looked⟩

theorem reported_withPlumb (s : State) (x : Plumb) (hr : ∀ r ∈ x.rungs, r ∈ s.plumb.rungs ∨ (r.rung ≠ .context ∧ r.begun = false))
    (hs : ∀ i, s.plumb.sticky.getLsbD i = true → x.sticky.getLsbD i = true) : Reported s { s with plumb := x } :=
  ⟨(only_withPlumb s x).mono (by simp), hr, hs, fun _ h => h, fun h => h⟩

theorem reported_setSrc (s : State) (n : Nat) (c : SrcCfg) : Reported s (s.setSrc n c) :=
  reported_withPlumb s _ (fun _ h => .inl h) fun _ h => h

theorem reported_logEntry (src sub action : Nat) (part : Option Nat) (quant skipped : Bool) (detail : Nat) (s : State) :
    Reported s (logEntry src sub action part quant skipped detail s) :=
  reported_withPlumb s _ (fun _ h => .inl h) fun _ h => h

theorem reported_plumbMark (src : Nat) (s : State) : Reported s (plumbMark src s) := by
  refine (reported_setSrc s src _).trans (reported_withPlumb _ _ (fun _ h => .inl h) fun i hi => ?_)
  rw [BitVec.getLsbD_or, hi, Bool.true_or]

theorem reported_plumbLog (src sub action : Nat) (part : Option Nat) (quant : Bool) (detail : Nat) (s : State) :
    Reported s (plumbLog src sub action part quant detail s) := by
  have hentry := (reported_plumbMark src s).trans (reported_logEntry src sub action part quant false detail _)
  unfold plumbLog
  dsimp only
  split
  · exact hentry
  · exact hentry.trans (notified_noticeFault _ _ _ _ _).reported

theorem reported_thresholdMet (n : Nat) (s : State) : Reported s (thresholdMet n s).2 := by
  unfold thresholdMet
  dsimp only
  split
  · exact reported_setSrc _ _ _
  · dsimp only
    split
    · exact .refl s
    · exact reported_setSrc _ _ _

/-- A cause other than the root's loss leaves the start alone (R40, R443). -/
theorem reported_mergeCause {src : Nat} (h : src ≠ 1) (s : State) : Reported s (mergeCause src s) := by
  unfold mergeCause
  dsimp only
  rw [if_neg h]
  split <;> exact reported_withPlumb s _ (fun _ h => .inl h) fun _ h => h

theorem reported_withRung {keep : RunningRung → Bool} {g : RunningRung} (hr : g.rung ≠ .context) (hb : g.begun = false) (s : State)
    (causes : List Nat) :
    Reported s { s with plumb := { s.plumb with causes := causes, rungs := s.plumb.rungs.filter keep ++ [g] } } := by
  refine reported_withPlumb s _ (fun x hx => ?_) fun _ h => h
  rcases List.mem_append.mp hx with hx | hx
  · exact .inl (List.mem_of_mem_filter hx)
  · rw [List.mem_singleton.mp hx]
    exact .inr ⟨hr, hb⟩

theorem reported_requestChip {src : Nat} (h : src ≠ 1) (tenant : Bool) (s : State) : Reported s (requestChip src tenant s) := by
  unfold requestChip
  split
  · exact reported_logEntry _ _ _ _ _ _ _ _
  · split
    · exact reported_mergeCause h s
    · refine reported_withPlumb s _ (fun x hx => ?_) fun _ h => h
      rcases List.mem_append.mp hx with hx | hx
      · exact .inl hx
      · rw [List.mem_singleton.mp hx]
        exact .inr ⟨Rung.noConfusion, rfl⟩

theorem reported_thresholdChip {src : Nat} (h : src ≠ 1) (s : State) : Reported s (thresholdChip src s) := by
  have hm := reported_thresholdMet src s
  unfold thresholdChip
  dsimp only
  split
  · exact hm.trans (reported_requestChip h _ _)
  · exact hm

/-- A rung other than a context's is asked for, or absorbed and logged (R430, R443). -/
theorem reported_requestRungFor {r : Rung} (hr : r ≠ .context) {src : Nat} (h : src ≠ 1) (scope : Nat) (tenant : Bool) (s : State) :
    Reported s (requestRungFor r scope src tenant s) := by
  unfold requestRungFor
  split
  · exact reported_requestChip h _ _
  · split
    · exact (reported_plumbLog _ _ _ _ _ _ _).trans (reported_thresholdChip (by decide) _)
    · exact reported_withRung hr rfl s s.plumb.causes

/-- A threshold whose event names no context asks for no context rung. -/
theorem reported_plumbThreshold {src : Nat} (h : src ≠ 1) (named : Option Nat) (s : State) :
    Reported s (plumbThreshold src named s) := by
  have hm := reported_thresholdMet src s
  unfold plumbThreshold
  dsimp only
  split
  · exact hm
  · split
    case h_1 => contradiction
    case h_2 => exact hm.trans (reported_requestRungFor Rung.noConfusion h _ _ _)
    case h_3 => exact hm.trans (reported_requestRungFor Rung.noConfusion h _ _ _)
    case h_4 => exact hm.trans (reported_requestChip h _ _)
    case h_5 => exact hm

theorem reported_plumbEvent {src : Nat} (h : src ≠ 1) (sub action : Nat) (part : Option Nat) (quant : Bool) (detail : Nat)
    (named : Option Nat) (s : State) : Reported s (plumbEvent src sub action part quant detail named s) :=
  (reported_plumbLog src sub action part quant detail s).trans (reported_plumbThreshold h named _)

/-- An event sets its sticky bit. -/
theorem sticky_plumbEvent {src : Nat} (h : src ≠ 1) (hlt : src < 256) (sub action : Nat) (part : Option Nat) (detail : Nat)
    (named : Option Nat) (s : State) : (plumbEvent src sub action part false detail named s).plumb.sticky.getLsbD src = true := by
  refine (reported_plumbThreshold h named _).sticky src ?_
  rw [(notified_plumbLog src sub action part detail s).only .plumb (by decide)]
  exact sticky_entryWritten hlt sub action part detail s

end

end Sys2Proof.Machine
end

section
/-! PROOFS. Links that come up and go down (04 R88, R98, R104, R133): moves that touch one link, and what leaving KEYED brings in a
block with no parcel, loop-back or fence. -/

namespace Sys2Proof.Machine

/-! ### Moves of one link -/

section moves
variable {s u : State} {n : Nat}

/-- A link in another state. -/
def Link.inState (st : LinkState) (l : Link) : Link := { l with state := st }

/-- A link whose training has ended. -/
def Link.trained (now : Nat) (l : Link) : Link := { l with state := .unkeyed, secret := false, rxAt := now }

/-- A link that has sent HELLO. -/
def Link.helloed (now : Nat) (l : Link) : Link := { l with keyx := .helloSent, keyxAt := now, helloReason := 0 }

/-- A move that neither enters nor leaves KEYED, nor leaves UNKEYED, touches its link alone. -/
theorem setLink_eq_modLink {st : LinkState} (hk : (s.link n).state ≠ .keyed) (hu : (s.link n).state ≠ .unkeyed) (hst : st ≠ .keyed) :
    setLink n st s = s.modLink n (Link.inState st) := by
  simp [setLink, hk, hu, hst]
  rfl

/-- A row that moves its link outside KEYED. -/
theorem settled_moved {f : State → State} {g : Link → Link} (hc : s.calm) (hn : n < 64) (hlen : n < s.gl.links.length)
    (hk : (s.link n).state ≠ .keyed) (hf : f s = s.modLink n g) (hg : (g (s.link n)).state ≠ .keyed) :
    ∃ t, settled s (onLink n f s) = .next t ∧ t.link n = g (s.link n) ∧ (∀ m, m ≠ n → t.link m = s.link m) ∧
      OnlyIn [.gl, .start] s t := by
  obtain ⟨k, hrow⟩ := settled_onLink hn hf ((noNewWork_modLink s n g).calm (sameKeyed_modLink (iff_of_false hg hk)) hc)
  exact ⟨_, hrow, link_modLink_self g hlen, fun m hm => link_modLink_of_ne g hm,
    ((only_modLink s n g).mono (by simp)).stepped (by simp) _ _⟩

/-- A row that moves its link outside KEYED and sends. -/
theorem settled_movedSent {f : State → State} {g : Link → Link} {o : Output} (hc : s.calm) (hn : n < 64) (hlen : n < s.gl.links.length)
    (hk : (s.link n).state ≠ .keyed) (hf : f s = (s.modLink n g).emit o) (hg : (g (s.link n)).state ≠ .keyed) :
    ∃ t, settled s (onLink n f s) = .next t ∧ t.link n = g (s.link n) ∧ o ∈ t.out ∧ (∀ m, m ≠ n → t.link m = s.link m) ∧
      OnlyIn [.gl, .start, .out] s t := by
  obtain ⟨k, hrow⟩ := settled_onLink hn hf ((quiet_emit _ o).calm
    ((noNewWork_modLink s n g).calm (sameKeyed_modLink (iff_of_false hg hk)) hc))
  exact ⟨_, hrow, link_modLink_self g hlen, List.mem_cons_self, fun m hm => link_modLink_of_ne g hm,
    (((only_modLink s n g).mono (by simp)).trans ((only_emit _ o).mono (by simp))).stepped (by simp) _ _⟩

/-- A rise of PCS link up on an enabled DOWN link. -/
theorem linkUp_of_down (ht : s.tileOn n = true) (he : (s.link n).enable = true) (hd : (s.link n).state = .down)
    (hr : (s.link n).retired = false) :
    linkUp n s = s.modLink n (Link.inState .training ∘ fun l => { l with pcsUp := true }) := by
  have hstate : ((s.modLink n (fun l => { l with pcsUp := true })).link n).state = .down :=
    (link_modLink_keeps Link.state rfl n).trans hd
  have hmove := setLink_eq_modLink (st := .training) (s := s.modLink n (fun l => { l with pcsUp := true })) (n := n)
    (by rw [hstate]; decide) (by rw [hstate]; decide) (by decide)
  simp only [linkUp, ht, he, hd, hr, hmove, modLink_modLink]
  rfl

/-- A write of ENABLE 1 on a DOWN link with PCS link up. -/
theorem linkEnableWrite_of_down (ht : s.tileOn n = true) (hp : (s.link n).pcsUp = true) (hd : (s.link n).state = .down)
    (hr : (s.link n).retired = false) :
    linkEnableWrite n true s = s.modLink n (Link.inState .training ∘ fun l => { l with enable := true }) := by
  have hstate : ((s.modLink n (fun l => { l with enable := true })).link n).state = .down :=
    (link_modLink_keeps Link.state rfl n).trans hd
  have hmove := setLink_eq_modLink (st := .training) (s := s.modLink n (fun l => { l with enable := true })) (n := n)
    (by rw [hstate]; decide) (by rw [hstate]; decide) (by decide)
  simp only [linkEnableWrite, ht, hp, hd, hr, hmove, modLink_modLink]
  rfl

theorem linkRearm_of_disabled (hu : s.up = true) (hd : (s.link n).state = .disabled) (he : (s.link n).enable = true) :
    linkRearm n s = s.modLink n (Link.inState .training) := by
  rw [linkRearm, if_pos (by simp [hu, hd, he])]
  exact setLink_eq_modLink (by rw [hd]; decide) (by rw [hd]; decide) (by decide)

theorem linkTrained_of_training (hu : s.up = true) (ht : (s.link n).state = .training) :
    linkTrained n s = if s.kp.ready then startExchange n (s.modLink n (Link.trained s.now)) else s.modLink n (Link.trained s.now) := by
  have hmove := setLink_eq_modLink (st := .unkeyed) (s := s) (n := n) (by rw [ht]; decide) (by rw [ht]; decide) (by decide)
  simp only [linkTrained, hu, ht, hmove, modLink_modLink]
  rfl

theorem startExchange_eq (n : Nat) (s : State) :
    startExchange n s = (s.modLink n (Link.helloed s.now)).emit (.keyx n 0x01 s.chip) := rfl

end moves

/-! ### What a change of the KEYED links brings where no fence is armed (R123, R239, R277) -/

section keyedChange
variable {s t u : State} {n : Nat}

/-- No context has an armed fence. -/
def NoFences (s : State) : Prop := ∀ c ∈ s.cmds.ctxs, c.fences = []

theorem advanceFences_of_noFences (h : NoFences s) (slot k : Nat) : advanceFences slot k s = s := by
  cases k with
  | zero => rfl
  | succ k =>
    rw [advanceFences]
    cases hc : s.ctx? slot with
    | none => rfl
    | some c => simp [h c (List.mem_of_find?_eq_some hc)]

theorem advanceAllFences_of_noFences (h : NoFences s) : advanceAllFences s = s :=
  List.foldlRecOn (motive := fun u => u = s) _ _ rfl fun u hu slot _ => by
    rw [hu]
    exact advanceFences_of_noFences h slot 3

/-- Reservations, epochs and LOCK may have changed, links, parcels and the time have not. -/
structure SameLinks (s t : State) : Prop where
  links : t.gl.links = s.gl.links
  coord : t.gl.coord = s.gl.coord
  parcels : t.gl.parcels = s.gl.parcels
  now : t.now = s.now
  only : OnlyIn [.gl, .cal] s t

theorem SameLinks.refl (s : State) : SameLinks s s := ⟨rfl, rfl, rfl, rfl, .refl _ s⟩

theorem SameLinks.trans (h : SameLinks s t) (k : SameLinks t u) : SameLinks s u :=
  ⟨k.links.trans h.links, k.coord.trans h.coord, k.parcels.trans h.parcels, k.now.trans h.now, h.only.trans k.only⟩

theorem SameLinks.foldl {α : Type} (f : State → α → State) (hf : ∀ u a, SameLinks u (f u a)) (l : List α) (s : State) :
    SameLinks s (l.foldl f s) :=
  List.foldlRecOn l f (SameLinks.refl s) fun u hu a _ => hu.trans (hf u a)

theorem SameLinks.link (h : SameLinks s t) (m : Nat) : t.link m = s.link m := by rw [State.link, h.links, State.link]

theorem SameLinks.noNewWork (h : SameLinks s t) : NoNewWork s t := by
  have hcmds : t.cmds = s.cmds := h.only .cmds (by decide)
  have hserved : t.mailServed = s.mailServed := by
    rw [State.mailServed, State.up, h.only .start (by decide), h.only .scribe (by decide), h.only .kp (by decide), State.mailServed,
      State.up]
  have hmail : t.mail = s.mail := h.only .mail (by decide)
  exact ⟨by rw [hcmds], by rw [hcmds], fun x hx => .inl (by rwa [h.only .plumb (by decide)] at hx), by rw [h.only .debugs (by decide)],
    by rw [h.only .vs (by decide)], by rw [h.only .kp (by decide)], by rw [h.only .tests (by decide)], h.coord,
    fun y hy hw => ⟨y, h.parcels ▸ hy, hw, rfl, rfl, rfl⟩, fun hm => hserved ▸ hm,
    fun hl => by rwa [State.chansLooked, hmail]⟩

theorem sameLinks_modResv (e : Nat) (f : Resv → Resv) (s : State) : SameLinks s (s.modResv e f) := by
  refine ⟨rfl, rfl, rfl, rfl, fun g hg => ?_⟩
  cases g with
  | cal => exact absurd (by simp) hg
  | _ => rfl

theorem sameLinks_replaceHome (e i : Nat) (s : State) : SameLinks s (replaceHome e i s) := by
  unfold replaceHome
  split
  · exact .refl s
  · dsimp only
    split
    · split
      · exact .refl s
      · split
        · exact (sameLinks_modResv _ _ s).trans (sameLinks_modResv _ _ _)
        · exact sameLinks_modResv _ _ s
    · split
      · exact .refl s
      · split
        · exact (sameLinks_modResv _ _ s).trans (sameLinks_modResv _ _ _)
        · exact sameLinks_modResv _ _ s

theorem sameLinks_rehome (s : State) : SameLinks s (rehome s) :=
  .foldl _ (fun _ (r : Resv) => (SameLinks.foldl _ (fun _ i => sameLinks_replaceHome r.entry i _) _ _).trans
    (sameLinks_modResv _ _ _)) _ _

theorem sameLinks_keyedChanged (h : NoFences s) (b : Nat) : SameLinks s (keyedChanged b s) := by
  unfold keyedChanged
  split
  · have hepochs : SameLinks s { s with gl := { s.gl with bundleEpochs := s.gl.bundleEpochs.modify b (fun e => (e + 1) % 256) } } :=
      ⟨rfl, rfl, rfl, rfl, (only_withGl s _).mono (by simp)⟩
    have hmoved := hepochs.trans (sameLinks_rehome _)
    rwa [advanceAllFences_of_noFences (by rw [NoFences, hmoved.only .cmds (by decide)]; exact h)]
  · exact .refl s

/-- A move of a link, whatever it brings, leaves the links as an update of its state does. -/
theorem sameLinks_setLink (h : NoFences s) (n : Nat) (st : LinkState) : SameLinks (s.modLink n (Link.inState st)) (setLink n st s) := by
  have hlock : ∀ b : Bool, SameLinks (s.modLink n (Link.inState st)) (if b then
      { s.modLink n (Link.inState st) with gl := { (s.modLink n (Link.inState st)).gl with lock := true } }
      else s.modLink n (Link.inState st)) := fun b => by
    cases b with
    | true => exact ⟨rfl, rfl, rfl, rfl, (only_withGl _ _).mono (by simp)⟩
    | false => exact .refl _
  have hlocked := hlock (isTorus n && (s.link n).state = .unkeyed && st ≠ .unkeyed)
  unfold setLink
  dsimp only
  split
  · exact hlocked.trans (sameLinks_keyedChanged (by rw [NoFences, hlocked.only .cmds (by decide)]; exact h) _)
  · exact hlocked

end keyedChange

end Sys2Proof.Machine
end

section
/-! PROOFS. A link goes DOWN (04 R88, R98, R105, R119, 14 R447): its flits move, its exchange ends, and its event is logged. -/

namespace Sys2Proof.Machine

section fall
variable {s t u : State} {n : Nat}

/-- A link whose keys and flits are gone. -/
def Link.keyless (l : Link) : Link :=
  { l with secret := false, rotating := false, rotateSent := none, newPhaseSeen := false, rotations := 0, keyPhase := false,
           rxPhase := false, txSeq := 0, rxSeq := 0, rxRefusing := false, nakOwed := false, replay := [], resend := [], txq := [],
           credits := List.replicate 10 0, owed := List.replicate 10 0 }

/-- A link that runs no exchange and holds no secret. -/
def Link.silent (l : Link) : Link := { l with keyx := .idle, secret := false }

/-- A link that no NEIGHBOUR_KEYX waits for. -/
def Link.unwaited (l : Link) : Link := { l with keyxCmd := none }

/-- The link k is DOWN after it was l: its port settings stand, and from KEYED nothing is left to send again. -/
def Link.FellTo (l k : Link) : Prop :=
  k.state = .down ∧ k.pcsUp = l.pcsUp ∧ k.enable = l.enable ∧ (l.state = .keyed → k.replay = [])

/-- Link n has gone DOWN, and nothing but Guyline, the reservations and the error log has changed. -/
structure LinkFell (n : Nat) (s t : State) : Prop where
  work : NoNewWork s t
  fell : (s.link n).FellTo (t.link n)
  length : t.gl.links.length = s.gl.links.length
  now : t.now = s.now
  only : OnlyIn [.gl, .cal, .plumb, .mail, .out] s t

/-- A step that keeps what `Link.FellTo` speaks of. -/
structure FlitsMoved (s t : State) : Prop where
  work : NoNewWork s t
  fell : ∀ l n, Link.FellTo l (s.link n) → l.FellTo (t.link n)
  length : t.gl.links.length = s.gl.links.length
  only : OnlyIn [.gl, .plumb, .mail, .out] s t

theorem FlitsMoved.refl (s : State) : FlitsMoved s s := ⟨.refl s, fun _ _ h => h, rfl, .refl _ s⟩

theorem FlitsMoved.trans (h : FlitsMoved s t) (k : FlitsMoved t u) : FlitsMoved s u :=
  ⟨h.work.trans k.work, fun l n hl => k.fell l n (h.fell l n hl), k.length.trans h.length, h.only.trans k.only⟩

theorem FlitsMoved.foldl {α : Type} (f : State → α → State) (hf : ∀ u a, FlitsMoved u (f u a)) (l : List α) (s : State) :
    FlitsMoved s (l.foldl f s) :=
  List.foldlRecOn l f (FlitsMoved.refl s) fun u hu a _ => hu.trans (hf u a)

theorem Reported.flitsMoved (h : Reported s t) : FlitsMoved s t :=
  have hgl : t.gl = s.gl := h.only .gl (by decide)
  ⟨h.noNewWork, fun l n hl => by rwa [link_congr hgl], by rw [hgl], h.only.mono (by simp)⟩

theorem LinkFell.moved (h : LinkFell n s t) (k : FlitsMoved t u) : LinkFell n s u :=
  ⟨h.work.trans k.work, k.fell _ _ h.fell, k.length.trans h.length, (congrArg Calendar.now (k.only .cal (by decide))).trans h.now,
    h.only.trans (k.only.mono (by simp))⟩

/-- An update of a link's queues, credits and exchange. -/
theorem flitsMoved_modLink {f : Link → Link} (hs : ∀ l, (f l).state = l.state) (hp : ∀ l, (f l).pcsUp = l.pcsUp)
    (he : ∀ l, (f l).enable = l.enable) (hr : ∀ l, l.replay = [] → (f l).replay = []) (m : Nat) (s : State) :
    FlitsMoved s (s.modLink m f) := by
  refine ⟨noNewWork_modLink s m f, fun l n ⟨h1, h2, h3, h4⟩ => ?_, modLink_links_length f, (only_modLink s m f).mono (by simp)⟩
  have hstate : ((s.modLink m f).link n).state = _ := link_modLink_keeps Link.state (hs _) n
  have hpcs : ((s.modLink m f).link n).pcsUp = _ := link_modLink_keeps Link.pcsUp (hp _) n
  have henable : ((s.modLink m f).link n).enable = _ := link_modLink_keeps Link.enable (he _) n
  refine ⟨hstate.trans h1, hpcs.trans h2, henable.trans h3, fun hk => ?_⟩
  by_cases hm : n = m
  · subst hm
    by_cases hlen : n < s.gl.links.length
    · rw [link_modLink_self f hlen]
      exact hr _ (h4 hk)
    · rw [State.link, State.modLink, List.modify_eq_self (Nat.not_lt.mp hlen)]
      exact h4 hk
  · rw [link_modLink_of_ne f hm]
    exact h4 hk

theorem flitsMoved_oweCredit (m vc : Nat) (s : State) : FlitsMoved s (oweCredit m vc s) :=
  flitsMoved_modLink (f := Link.owing vc) (fun _ => rfl) (fun _ => rfl) (fun _ => rfl) (fun _ h => h) m s

theorem flitsMoved_routeFlit (q : QFlit) (dim : Nat) (dl : Bool) (s : State) : FlitsMoved s (routeFlit q dim dl s) := by
  cases hw : s.wayOut q.hdr.src q.hdr.dst q.hdr.ptag q.hdr.mirror with
  | link m d =>
    rw [routeFlit_of_wayOut hw]
    exact flitsMoved_modLink (f := Link.queued _) (fun _ => rfl) (fun _ => rfl) (fun _ => rfl) (fun _ h => h) m s
  | unreachable =>
    have hlost : FlitsMoved s (unreachable s) := (reported_plumbEvent (by decide) _ _ _ _ _ _ s).flitsMoved
    simp only [routeFlit, hw]
    split
    · exact hlost.trans (flitsMoved_oweCredit _ _ _)
    · exact hlost

/-- A move to DOWN from a state other than KEYED. -/
theorem linkFell_setLink (h : NoFences s) (hlen : n < s.gl.links.length) (hk : (s.link n).state ≠ .keyed) :
    LinkFell n s (setLink n .down s) := by
  have hmoved := sameLinks_setLink h n .down
  have hlink : (setLink n .down s).link n = (s.link n).inState .down := by rw [hmoved.link, link_modLink_self _ hlen]
  exact ⟨(noNewWork_modLink s n _).trans hmoved.noNewWork, by rw [hlink]; exact ⟨rfl, rfl, rfl, fun h => absurd h hk⟩,
    by rw [hmoved.links, modLink_links_length], hmoved.now,
    ((only_modLink s n _).mono (by simp)).trans (hmoved.only.mono (by simp))⟩

/-- A move to DOWN from KEYED: the link's flits go to others. -/
theorem linkFell_leaveKeyed (h : NoFences s) (hlen : n < s.gl.links.length) : LinkFell n s (leaveKeyed n .down s) := by
  have hmoved := sameLinks_setLink h n .down
  have hlength : (setLink n .down s).gl.links.length = s.gl.links.length := by rw [hmoved.links, modLink_links_length]
  have hlink : ((setLink n .down s).modLink n Link.keyless).link n = ((s.link n).inState .down).keyless := by
    rw [link_modLink_self _ (by rwa [hlength]), hmoved.link, link_modLink_self _ hlen]
  have hcleared : LinkFell n s ((setLink n .down s).modLink n Link.keyless) :=
    ⟨((noNewWork_modLink s n _).trans hmoved.noNewWork).trans (noNewWork_modLink _ n _),
      by rw [hlink]; exact ⟨rfl, rfl, rfl, fun _ => rfl⟩, by rw [modLink_links_length, hlength], hmoved.now,
      (((only_modLink s n _).mono (by simp)).trans (hmoved.only.mono (by simp))).trans ((only_modLink _ n _).mono (by simp))⟩
  exact hcleared.moved (.foldl _ (fun _ q => flitsMoved_routeFlit q _ _ _) _ _)

/-- What DOWN leaves of a block that was calm: the link is down, its event logged, and nobody waits for its exchange. -/
structure WentDown (n : Nat) (s t : State) : Prop where
  calm : t.calm
  fell : (s.link n).FellTo (t.link n)
  secret : (t.link n).secret = false
  keyx : (t.link n).keyx = .idle
  unwaited : (t.link n).keyxCmd = none
  sticky : t.plumb.sticky.getLsbD (0x40 + n) = true
  now : t.now = s.now
  only : OnlyIn [.gl, .cal, .plumb, .mail, .out, .parts, .cmds, .scribe] s t

theorem complete_sticky (r : CmdRef) (st : Nat) (v : BitVec 128) (s : State) :
    (complete r st v s).plumb.sticky = s.plumb.sticky := by
  unfold complete
  split
  · rfl
  · exact congrArg Plumb.sticky (only_answerWith r st false v s .plumb (by decide))

/-- The end of a NEIGHBOUR_KEYX changes no link but for its wait. -/
theorem endKeyxCmd_cases (n st : Nat) (v : BitVec 128) (s : State) (hlen : n < s.gl.links.length) :
    Quiet (s.modLink n Link.unwaited) (endKeyxCmd n st v s) ∧ (endKeyxCmd n st v s).link n = (s.link n).unwaited ∧
      (endKeyxCmd n st v s).plumb.sticky = s.plumb.sticky ∧ OnlyIn replyAreas s (endKeyxCmd n st v s) := by
  unfold endKeyxCmd
  cases hr : (s.link n).keyxCmd with
  | none =>
    have hsame : (s.link n).unwaited = s.link n := by rw [Link.unwaited, ← hr]
    refine ⟨?_, hsame.symm, rfl, .refl _ s⟩
    rw [modLink_eq_self hsame]
    exact .rfl
  | some r =>
    have hlink := link_modLink_self Link.unwaited hlen
    exact ⟨quiet_complete r st v _, ((added_complete r st v _).link n).trans hlink, complete_sticky r st v _,
      ((only_modLink s n Link.unwaited).mono (by simp)).trans (only_complete r st v _)⟩

/-- A link that was not DOWN goes DOWN, in a calm block with no parcel, loop-back or fence. -/
theorem wentDown_linkToDown (hc : s.calm) (hp : s.gl.parcels = []) (hr : s.tests.runs = []) (hf : NoFences s) (hn : n < 64)
    (hlen : n < s.gl.links.length) (hst : (s.link n).state ≠ .down) (sub : Nat) : WentDown n s (linkToDown n sub s) := by
  have hleft : LinkFell n s (if (s.link n).state = .keyed then leaveKeyed n .down s else setLink n .down s) := by
    split
    case isTrue => exact linkFell_leaveKeyed hf hlen
    case isFalse hk => exact linkFell_setLink hf hlen hk
  unfold linkToDown
  dsimp only
  rw [if_neg hst]
  generalize (if (s.link n).state = .keyed then leaveKeyed n .down s else setLink n .down s) = w at hleft ⊢
  have hsilent : (w.modLink n Link.silent).link n = (w.link n).silent := link_modLink_self _ (by rwa [hleft.length])
  have hevent : Reported (w.modLink n Link.silent) (linkEvent n sub 0 (w.modLink n Link.silent)) :=
    reported_plumbEvent (by omega) _ _ _ _ _ _ _
  have hfell := (hleft.moved (flitsMoved_modLink (f := Link.silent) (fun _ => rfl) (fun _ => rfl) (fun _ => rfl) (fun _ h => h) n w)).moved
    hevent.flitsMoved
  have hlink : (linkEvent n sub 0 (w.modLink n Link.silent)).link n = (w.link n).silent :=
    (link_congr (hevent.only .gl (by decide)) n).trans hsilent
  have hsticky : (linkEvent n sub 0 (w.modLink n Link.silent)).plumb.sticky.getLsbD (0x40 + n) = true :=
    sticky_plumbEvent (by omega) (by omega) _ _ _ _ _ _
  change WentDown n s (endKeyxCmd n stWrongState (detailOf 0x020A) (linkEvent n sub 0 (w.modLink n Link.silent)))
  generalize linkEvent n sub 0 (w.modLink n Link.silent) = e at hfell hlink hsticky ⊢
  obtain ⟨hquiet, hend, hbits, hareas⟩ := endKeyxCmd_cases n stWrongState (detailOf 0x020A) e (by rwa [hfell.length])
  have hwork := hfell.work.trans (noNewWork_modLink e n Link.unwaited)
  refine ⟨hquiet.calm (hwork.calm_of_none hc hp hr), by rw [hend]; exact hfell.fell, by rw [hend, hlink]; rfl, by rw [hend, hlink]; rfl,
    by rw [hend]; rfl, by rw [hbits]; exact hsticky, (congrArg Calendar.now (hareas .cal (by decide))).trans hfell.now,
    (hfell.only.mono (by simp)).trans (hareas.mono (by simp))⟩

end fall

/-! ### The rows -/

section rows
variable {s u : State} {n : Nat}

theorem WentDown.row {f : State → State} (h : WentDown n s u) (hn : n < 64) {r : State} (hf : f r = u) :
    ∃ t, settled r (onLink n f r) = .next t ∧ (t.link n).state = .down ∧ (t.link n).secret = false ∧ (t.link n).keyx = .idle ∧
      (t.link n).keyxCmd = none ∧ (t.link n).pcsUp = (s.link n).pcsUp ∧ (t.link n).enable = (s.link n).enable ∧
      ((s.link n).state = .keyed → (t.link n).replay = []) ∧ t.plumb.sticky.getLsbD (0x40 + n) = true ∧ t.now = s.now ∧
      t.kp = s.kp ∧ t.fuses = s.fuses ∧ t.sill = s.sill := by
  obtain ⟨k, hk⟩ := settled_onLink hn hf h.calm
  obtain ⟨hstate, hpcs, henable, hreplay⟩ := h.fell
  exact ⟨_, hk, hstate, h.secret, h.keyx, h.unwaited, hpcs, henable, hreplay, h.sticky, h.now, h.only .kp (by decide),
    h.only .fuses (by decide), h.only .sill (by decide)⟩

end rows

/-- Settles O13: a way up is one update of its link; a way down lets the links' flits move, which changes no other part of a link that
the statement speaks of, and then logs its event and ends the command that waits. -/
theorem linksComeUpAndGoDown : Obligations.LinksComeUpAndGoDown := by
  refine ⟨⟨fun n s l hc hl hn ht he hd hr => ?up, fun n s l hc hl hn ht htest hd hp hr => ?enable, fun n s l hc hl hn hu ht => ?trained,
    fun n s l hc hl hn hu hd he => ?rearm⟩,
    fun n s l hc hps hruns hf hl hn hdis hdown => ?drop, fun n s l hc hps hruns hf hl hn hu hst => ?silence,
    fun n s l hc hps hruns hf hl hn hu hdown => ?disable⟩
  all_goals
    obtain ⟨hlen, -⟩ := List.getElem?_eq_some_iff.mp hl
    obtain rfl : s.link n = l := link_of_getElem? hl
  case up =>
    obtain ⟨t, hrow, hlink, hothers, honly⟩ := settled_moved hc hn hlen (by rw [hd]; decide) (linkUp_of_down ht he hd hr)
      (by simp [Link.inState])
    exact ⟨t, hrow, by rw [hlink]; rfl, by rw [hlink]; rfl, hothers, honly⟩
  case enable =>
    have hup : s.up = true := by simp only [State.tileOn, Bool.and_eq_true] at ht; exact ht.1.1.1
    have hf : (fun t => if t.up then linkEnableTested n true t else t) s =
        s.modLink n (Link.inState .training ∘ fun l => { l with enable := true }) := by
      dsimp only
      rw [if_pos hup, linkEnableTested, htest, if_neg Bool.false_ne_true, linkEnableWrite_of_down ht hp hd hr]
    obtain ⟨t, hrow, hlink, hothers, honly⟩ := settled_moved hc hn hlen (by rw [hd]; decide) hf (by simp [Link.inState])
    exact ⟨t, hrow, by rw [hlink]; rfl, by rw [hlink]; rfl, hothers, honly⟩
  case trained =>
    have hmoved := linkTrained_of_training hu ht
    cases hready : s.kp.ready with
    | false =>
      rw [hready, if_neg Bool.false_ne_true] at hmoved
      obtain ⟨t, hrow, hlink, hothers, honly⟩ := settled_moved hc hn hlen (by rw [ht]; decide) hmoved (by simp [Link.trained])
      exact ⟨t, hrow, by rw [hlink]; rfl, by rw [hlink]; rfl, by rw [hlink]; rfl, fun h => absurd h Bool.false_ne_true, hothers,
        honly.mono (by simp)⟩
    | true =>
      rw [hready, if_pos rfl, startExchange_eq, modLink_modLink] at hmoved
      obtain ⟨t, hrow, hlink, hout, hothers, honly⟩ := settled_movedSent hc hn hlen (by rw [ht]; decide) hmoved
        (by simp [Link.helloed, Link.trained])
      exact ⟨t, hrow, by rw [hlink]; rfl, by rw [hlink]; rfl, by rw [hlink]; rfl, fun _ => ⟨by rw [hlink]; rfl, hout⟩, hothers,
        honly⟩
  case rearm =>
    obtain ⟨t, hrow, hlink, hothers, honly⟩ := settled_moved hc hn hlen (by rw [hd]; decide) (linkRearm_of_disabled hu hd he)
      (by simp [Link.inState])
    exact ⟨t, hrow, by rw [hlink]; rfl, hothers, honly⟩
  case drop =>
    have hself := link_modLink_self (fun l => { l with pcsUp := false }) hlen
    have hwent := wentDown_linkToDown (s := s.modLink n (fun l => { l with pcsUp := false })) (calm_modLink (fun _ => rfl) hc) hps hruns
      hf hn (by rwa [modLink_links_length]) (by rw [hself]; exact hdown) 1
    obtain ⟨t, hrow, hstate, hsecret, hkeyx, hcmd, hpcs, -, hreplay, hsticky, -, hkp, hfuses, hsill⟩ :=
      hwent.row (r := s) (f := linkDown n) hn (if_neg hdis)
    rw [hself] at hpcs hreplay
    exact ⟨t, hrow, hstate, hsecret, hkeyx, hcmd, hpcs, hreplay, hsticky, hkp, hfuses, hsill⟩
  case silence =>
    have hsilence : linkSilence n s = linkToDown n 2 (s.atTime ((s.link n).rxAt + 1000)) :=
      if_pos (by rcases hst with h | h | h <;> simp [hu, h])
    have hwent := wentDown_linkToDown (s := s.atTime ((s.link n).rxAt + 1000)) ((quiet_atTime s _).calm hc) hps hruns hf hn hlen
      (by rcases hst with h | h | h <;> exact fun h' => absurd (h.symm.trans h') (by decide)) 2
    obtain ⟨t, hrow, hstate, hsecret, hkeyx, hcmd, -, -, hreplay, hsticky, hnow, hkp, hfuses, hsill⟩ := hwent.row hn hsilence
    exact ⟨t, hrow, hstate, hsecret, hkeyx, hcmd, hreplay, hnow.trans (now_atTime s _), hsticky, hkp, hfuses, hsill⟩
  case disable =>
    have hself := link_modLink_self (fun l => { l with enable := false }) hlen
    have htest : s.portTest n = false := by simp [State.portTest, State.loopRun?, hruns]
    have hwrite : (fun t => if t.up then linkEnableTested n false t else t) s =
        linkToDown n 7 (s.modLink n (fun l => { l with enable := false })) := by
      dsimp only
      rw [if_pos hu, linkEnableTested, htest, if_neg Bool.false_ne_true]
      rfl
    have hwent := wentDown_linkToDown (s := s.modLink n (fun l => { l with enable := false })) (calm_modLink (fun _ => rfl) hc) hps hruns
      hf hn (by rwa [modLink_links_length]) (by rw [hself]; exact hdown) 7
    obtain ⟨t, hrow, hstate, hsecret, hkeyx, hcmd, -, henable, hreplay, hsticky, -, hkp, hfuses, hsill⟩ := hwent.row hn hwrite
    rw [hself] at henable hreplay
    exact ⟨t, hrow, hstate, hsecret, hkeyx, hcmd, henable, hreplay, hsticky, hkp, hfuses, hsill⟩

end Sys2Proof.Machine
end

section
/-! PROOFS. Settlement and loss of parcels (04 R114, R115, R127, 14 R434): the reply, and what a block with no armed fence does beside
it. -/

namespace Sys2Proof.Machine

/-! ### Replies that stand -/

section
variable {s t u : State} {r : CmdRef}

/-- A reply that has been given stands while outputs and held replies do. -/
theorem Given.mono {src : Source} {rep : Reply} (h : Given src rep s) (hout : ∀ o ∈ s.out, o ∈ t.out)
    (hheld : t.cmds.cmdHeld = s.cmds.cmdHeld) (hrings : ∀ ring, (t.ringOf ring).held = (s.ringOf ring).held) : Given src rep t := by
  cases src with
  | cmd p =>
    rcases h with h | h
    · exact .inl (hout _ h)
    · exact .inr (hheld ▸ h)
  | ring q =>
    rcases h with ⟨i, h⟩ | h
    · exact .inl ⟨i, hout _ h⟩
    · exact .inr (hrings _ ▸ h)
  | mgmt =>
    rcases h with ⟨i, h⟩ | h
    · exact .inl ⟨i, hout _ h⟩
    · exact .inr (hrings _ ▸ h)
  | session id => exact hout _ h

theorem Replied.mono {st now : Nat} {v : BitVec 128} (h : Replied r st v now s) (hout : ∀ o ∈ s.out, o ∈ t.out)
    (hheld : t.cmds.cmdHeld = s.cmds.cmdHeld) (hrings : ∀ ring, (t.ringOf ring).held = (s.ringOf ring).held) :
    Replied r st v now t := by
  rcases h with h | ⟨f, h⟩
  · exact .inl h
  · exact .inr ⟨f, h.mono hout hheld hrings⟩

/-- A command whose source can be answered is not stale, and has its reply when it ends. -/
theorem complete_of_answersTo (h : s.answersTo r = true) (st : Nat) (v : BitVec 128) :
    complete r st v s = answer r st v s ∧ Replied r st v s.now (answer r st v s) := by
  simp only [State.answersTo, Bool.and_eq_true, Bool.not_eq_true'] at h
  obtain ⟨hfresh, hsrc⟩ := h
  refine ⟨complete_of_fresh hfresh, answer_replies (fun id hid => ?_) fun q hq => ?_⟩
  · rw [hid] at hsrc
    exact hsrc
  · rw [hq] at hsrc
    exact of_decide_eq_true hsrc

theorem answersTo_congr (hg : t.genOf r.slot = s.genOf r.slot) (hc : (t.ctx? r.slot).isNone = (s.ctx? r.slot).isNone)
    (hp : t.parts.length = s.parts.length) (hv : t.vs.sessions = s.vs.sessions) : t.answersTo r = s.answersTo r := by
  simp only [State.answersTo, staleRef_congr hg hc, hp, hv]

/-! ### Fences and rungs -/

/-- Replies and records leave the fences as they were. -/
theorem Noted.noFences (h : Noted s t) (hf : NoFences s) : NoFences t := by
  intro d hd
  have hmem : d.work ∈ s.cmds.ctxs.map Ctx.work := h.ctxs ▸ List.mem_map_of_mem hd
  obtain ⟨c, hc, he⟩ := List.mem_map.mp hmem
  exact (congrArg Ctx.fences he).symm.trans (hf c hc)

theorem modCtx_eq_self {n : Nat} {f : Ctx → Ctx} (h : ∀ c ∈ s.cmds.ctxs, f c = c) : s.modCtx n f = s := by
  have hmap : s.cmds.ctxs.map (fun c => if c.slot = n then f c else c) = s.cmds.ctxs :=
    (List.map_congr_left (g := id) fun c hc => by rw [h c hc, ite_self, id]).trans (List.map_id _)
  rw [State.modCtx, hmap]

/-- Where no fence is armed a lost member ends none. -/
theorem faultFences_of_noFences (h : NoFences s) (x : TxParcel) (cause : Nat) : faultFences x cause s = s := by
  refine List.foldlRecOn (motive := fun u => u = s) _ _ rfl fun u hu c hc => ?_
  subst hu
  simp only [h c hc, List.filter_nil, List.any_nil, List.filter_false, List.foldl_nil, List.contains_nil, Bool.not_false,
    List.filter_true]
  refine modCtx_eq_self fun q hq => ?_
  rw [h q hq, List.filter_nil, ← h q hq]

theorem Noted.pstate (h : Noted s t) (p : Nat) : (t.part p).pstate = (s.part p).pstate := by
  have key : ∀ u : State, (u.part p).pstate = (u.parts.map Part.pstate).getD p Part.reset.pstate := fun u => by
    rw [State.part, List.getD_map]
  rw [key, key, h.pstates]

/-- The same partitions run a rung. -/
def SameRungs (s t : State) : Prop := t.parts.map (fun q => q.view.rungActive) = s.parts.map (fun q => q.view.rungActive)

theorem SameRungs.of_parts (h : t.parts = s.parts) : SameRungs s t := by rw [SameRungs, h]

theorem SameRungs.trans (h : SameRungs s t) (k : SameRungs t u) : SameRungs s u := Eq.trans k h

theorem SameRungs.part (h : SameRungs s t) (p : Nat) : (t.part p).view.rungActive = (s.part p).view.rungActive := by
  have key : ∀ u : State, (u.part p).view.rungActive = (u.parts.map (fun q => q.view.rungActive)).getD p Part.reset.view.rungActive :=
    fun u => by rw [State.part, List.getD_map]
  rw [key, key, h]

theorem sameRungs_modPart (p : Nat) {f : Part → Part} (hf : ∀ q, (f q).view.rungActive = q.view.rungActive) (s : State) :
    SameRungs s (s.modPart p f) := by
  refine List.ext_getElem? fun i => ?_
  simp only [State.modPart, List.getElem?_map, List.getElem?_modify]
  cases s.parts[i]? with
  | none => rfl
  | some q => by_cases hi : p = i <;> simp [hi, hf]

theorem sameRungs_modView (p : Nat) {f : View → View} (hf : ∀ v, (f v).rungActive = v.rungActive) (s : State) :
    SameRungs s (s.modView p f) := sameRungs_modPart p (fun q => hf q.view) s

theorem sameRungs_noteDone (r : CmdRef) (st : Nat) (s : State) : SameRungs s (noteDone r st s) := by
  unfold noteDone
  split
  · exact .of_parts rfl
  · dsimp only
    split
    · exact SameRungs.trans (t := account _ _ s) (.of_parts rfl) ((sameRungs_modView _ (fun _ => by rfl) _).trans
        (.of_parts (only_traceCtx _ _ _ _ _ .parts (by decide))))
    · exact SameRungs.trans (t := account _ _ s) (.of_parts rfl) (sameRungs_modView _ (fun _ => by rfl) _)

theorem sameRungs_deliver (src : Source) (rep : Reply) (s : State) : SameRungs s (deliver src rep s) := by
  have hring : ∀ ring (f : RingRegs → RingRegs), SameRungs s (s.modRing ring f) := fun ring f => by
    cases ring with
    | part p => exact sameRungs_modPart p (fun _ => by rfl) s
    | mgmt => exact .of_parts rfl
  have hreply : ∀ ring, SameRungs s (ringReply ring rep s) := fun ring => by
    unfold ringReply writeCompletion
    dsimp only
    split
    · exact hring _ _
    · exact (hring _ _).trans (.of_parts rfl)
  cases src with
  | cmd p =>
    unfold deliver
    dsimp only
    split <;> exact .of_parts rfl
  | ring q => exact hreply _
  | mgmt => exact hreply _
  | session id =>
    unfold deliver
    dsimp only
    split <;> exact .of_parts rfl

theorem sameRungs_answer (r : CmdRef) (st : Nat) (v : BitVec 128) (s : State) : SameRungs s (answer r st v s) := by
  unfold answer answerWith
  dsimp only
  split
  · exact sameRungs_noteDone r st (s.land r)
  · exact (sameRungs_noteDone r st (s.land r)).trans (sameRungs_deliver _ _ _)

/-! ### A parcel leaves its source's list -/

theorem quiet_dropParcel (id : Nat) (s : State) : Quiet s (s.dropParcel id) := by
  constructor <;> first | rfl | exact fun _ h => .inl (List.mem_of_mem_filter h) | exact fun h => h

theorem only_dropParcel (id : Nat) (s : State) : OnlyIn [.gl] s (s.dropParcel id) := only_withGl s _

theorem parcel?_dropParcel (id : Nat) (s : State) : (s.dropParcel id).parcel? id = none :=
  List.find?_eq_none.mpr fun x hx he => by
    have hne := (List.mem_filter.mp hx).2
    rw [decide_eq_true_eq] at hne he
    exact hne he

theorem only_reapResv (s : State) : OnlyIn [.cal] s (reapResv s) := by
  intro g hg
  cases g with
  | cal => exact absurd (by simp) hg
  | _ => rfl

theorem quiet_settleMember (x : TxParcel) (placed : Bool) (s : State) : Quiet s (settleMember x placed s) := by
  constructor <;> first | rfl | exact fun _ h => .inl h | exact id

theorem only_settleMember (x : TxParcel) (placed : Bool) (s : State) : OnlyIn [.cmds] s (settleMember x placed s) := by
  intro g hg
  cases g with
  | cmds => exact absurd (by simp) hg
  | _ => rfl

theorem noFences_settleMember (h : NoFences s) (x : TxParcel) (placed : Bool) : NoFences (settleMember x placed s) := by
  intro d hd
  obtain ⟨c, hc, rfl⟩ := List.mem_map.mp hd
  split
  · exact h c hc
  · dsimp only
    rw [h c hc]
    rfl

/-- A settlement makes no command stale. -/
theorem ctx?_settleMember_isNone (x : TxParcel) (placed : Bool) (s : State) (n : Nat) :
    ((settleMember x placed s).ctx? n).isNone = (s.ctx? n).isNone := by
  unfold settleMember State.ctx?
  dsimp only
  rw [List.find?_map, Option.isNone_map]
  refine congrArg (fun p => (s.cmds.ctxs.find? p).isNone) (funext fun c => ?_)
  dsimp only [Function.comp]
  split <;> rfl

/-! ### PACK_RECEIVE -/

/-- A PACK of one record that says PLACED of an unsettled parcel settles it. -/
theorem packReceive_of_placed {k : Pack} {part : Nat} {c : PackRecord} {x : TxParcel} (hr : s.running = true)
    (hd : s.partOfDomain k.domain = some part) (hg : k.gmacOk = true) (hk : (s.key? part 0).isSome = true) (hrec : k.records = [c])
    (hc : c.result = 0)
    (hx : s.gl.parcels.find? (fun x => x.part = part && x.dst = k.src && x.cls = k.cls && x.pseq = some c.pseq) = some x) :
    packReceive k s = settleParcel x 0 c.copy c.staged s := by
  have hkey : (s.key? part 0).isNone = false := by rw [← Option.not_isSome, hk, Bool.not_true]
  simp only [packReceive, hr, hd, hg, hkey, hrec, List.foldl_cons, List.foldl_nil, packRecord, hc, hx]
  rfl

/-- The state in which a settled parcel has left its source and its fences know. -/
def settledAt (x : TxParcel) (r : CmdRef) (copy : Bool) (s : State) : State :=
  settleMember x true (reapResv
    ((traceParcel r 0x04 (x.pseq.getD 0) x.dst x.ptag (if copy then x.epochM else x.epoch) x.hops copy s).dropParcel x.id))

/-- A SEND's parcel that is placed ends its command with ST_OK (R127). -/
theorem settleParcel_of_placed {x : TxParcel} {r : CmdRef} {copy staged : Bool} (hk : x.kind = .data) (hr : x.ref = some r)
    (hb : x.broken = false) (hd : x.drain = false) (hc : x.cls ≠ 4) :
    settleParcel x 0 copy staged s = advanceAllFences (complete r stOk (sendResult x copy) (settledAt x r copy s)) := by
  simp [settleParcel, hk, hr, settleData, replyParcel, hb, hd, hc]
  rfl

theorem noted_traceParcel (r : CmdRef) (k pseq peer ptag epoch hops : Nat) (copy : Bool) (s : State) :
    Noted s (traceParcel r k pseq peer ptag epoch hops copy s) := noted_traceCtx s _ _ _ _

/-- What the settled state keeps of a block whose command can be answered. -/
theorem settledAt_keeps {x : TxParcel} (hc : s.calm) (hf : NoFences s) (hid : x.id < s.gl.nextId) (ha : s.answersTo r = true)
    (copy : Bool) (hu : settledAt x r copy s = u) :
    u.calm ∧ NoFences u ∧ u.answersTo r = true ∧ u.parcel? x.id = none ∧ x.id < u.gl.nextId ∧ u.now = s.now ∧
      OnlyIn (.cal :: replyAreas) s u := by
  subst hu
  have hnoted := noted_traceParcel r 0x04 (x.pseq.getD 0) x.dst x.ptag (if copy then x.epochM else x.epoch) x.hops copy s
  have hadded : ParcelsAdded s (traceParcel r 0x04 (x.pseq.getD 0) x.dst x.ptag (if copy then x.epochM else x.epoch) x.hops copy s) :=
    added_traceCtx _ _ _ _ _
  have honly : OnlyIn [.gl, .scribe, .out] s
      (traceParcel r 0x04 (x.pseq.getD 0) x.dst x.ptag (if copy then x.epochM else x.epoch) x.hops copy s) := only_traceCtx _ _ _ _ _
  have hquiet : Quiet s (traceParcel r 0x04 (x.pseq.getD 0) x.dst x.ptag (if copy then x.epochM else x.epoch) x.hops copy s) :=
    quiet_traceCtx _ _ _ _ _
  unfold settledAt
  generalize traceParcel r 0x04 (x.pseq.getD 0) x.dst x.ptag (if copy then x.epochM else x.epoch) x.hops copy s = w
    at hnoted hadded honly hquiet ⊢
  have hcmds : w.cmds = s.cmds := honly .cmds (by decide)
  have hcal : w.cal = s.cal := honly .cal (by decide)
  refine ⟨(((hquiet.trans (quiet_dropParcel x.id w)).trans (quiet_reapResv _)).trans (quiet_settleMember x true _)).calm hc,
    noFences_settleMember (s := reapResv (w.dropParcel x.id)) (hnoted.noFences hf) x true, ?_, parcel?_dropParcel x.id w,
    hid.trans_le hadded.next, (congrArg Calendar.now hcal :), ?_⟩
  · rw [← ha]
    refine answersTo_congr (hnoted.genOf r.slot) ?_ hnoted.parts_length (congrArg Vestibule.sessions (honly .vs (by decide)))
    rw [ctx?_settleMember_isNone]
    exact congrArg Option.isNone (ctx?_congr hcmds r.slot)
  · exact (((honly.mono (by simp)).trans ((only_dropParcel x.id w).mono (by simp))).trans ((only_reapResv _).mono (by simp))).trans
      ((only_settleMember x true _).mono (by simp))

/-! ### PARCEL_DECLARED_LOST -/

/-- Partition p, whose job goes on, ends it: the event is logged, its notices leave, and it is FAULTED (R389, R561). -/
theorem endJob_of_running {p : Nat} (hs : (s.part p).pstate = .sealed) (hr : (s.part p).view.rungActive = false) (cause ctx : Nat) :
    endJob p cause ctx s = plumbThreshold (0x90 + p) (some p) (setPState p .faulted
      (plumbLog (0x90 + p) cause 4 (some p) false (stJobFaulted + 2 ^ 16 * ctx + 2 ^ 32 * cause) s)) := by
  simp [endJob, Part.struck, hs, hr]

theorem notified_noticePart (p new old : Nat) (s : State) : Notified s (noticePart p new old s) :=
  List.foldlRecOn _ _ (Notified.refl s) fun u hu _ _ => hu.trans (notified_queueNotice _ _ u)

/-- Partition p has become FAULTED, and the rest is an event's traces. -/
structure JobEnded (p : Nat) (s t : State) : Prop where
  pstate : (t.part p).pstate = .faulted
  work : NoNewWork s t
  out : ∀ o ∈ s.out, o ∈ t.out
  rings : ∀ ring, (t.ringOf ring).held = (s.ringOf ring).held
  only : OnlyIn [.parts, .plumb, .mail, .out] s t

/-- What an update of a partition keeps, every partition keeps. -/
theorem part_modPart_keeps {α : Type} {f : Part → Part} (g : Part → α) (hf : ∀ q, g (f q) = g q) (p i : Nat) (s : State) :
    g ((s.modPart p f).part i) = g (s.part i) := by
  simp only [State.part, State.modPart, List.getD_eq_getElem?_getD, List.getElem?_modify]
  cases s.parts[i]? with
  | none => rfl
  | some q => by_cases hi : p = i <;> simp [hi, hf]

theorem noNewWork_modPart (p : Nat) (f : Part → Part) (s : State) : NoNewWork s (s.modPart p f) :=
  ⟨rfl, rfl, fun _ h => .inl h, rfl, rfl, rfl, rfl, rfl, fun y hy hw => ⟨y, hy, hw, rfl, rfl, rfl⟩, fun h => h, fun h => h⟩

/-- A partition made FAULTED. -/
def Part.faulted (q : Part) : Part := { q with pstate := .faulted }

/-- Between two events a partition becomes FAULTED. -/
theorem jobEnded_of_reported {p : Nat} (hlen : p < s.parts.length) (hs : Reported s u) (ht : Reported (u.modPart p Part.faulted) t) :
    JobEnded p s t := by
  have hparts : u.parts = s.parts := hs.only .parts (by decide)
  have hfaulted : t.parts = (u.modPart p Part.faulted).parts := ht.only .parts (by decide)
  refine ⟨?_, (hs.noNewWork.trans (noNewWork_modPart p _ u)).trans ht.noNewWork, fun o ho => ht.out o (hs.out o ho), fun ring => ?_,
    (hs.only.mono (by simp)).trans (((only_modPart u p _).mono (by simp)).trans (ht.only.mono (by simp)))⟩
  · rw [State.part, hfaulted, State.modPart, hparts]
    simp [hlen, Part.faulted]
  · cases ring with
    | part i =>
      have hring : ((u.modPart p Part.faulted).part i).ring = (u.part i).ring :=
        part_modPart_keeps (f := Part.faulted) Part.ring (fun _ => rfl) p i u
      have hkept : (u.part i).ring = (s.part i).ring := by rw [State.part, hparts, State.part]
      have hlast : (t.part i).ring = ((u.modPart p Part.faulted).part i).ring := by rw [State.part, hfaulted, State.part]
      exact congrArg RingRegs.held ((hlast.trans hring).trans hkept)
    | mgmt =>
      have hset : t.cmds = u.cmds := ht.only .cmds (by decide)
      have hlogged : u.cmds = s.cmds := hs.only .cmds (by decide)
      exact congrArg (fun c : Cmds => c.mgmtRing.held) (hset.trans hlogged)

theorem jobEnded_endJob {p : Nat} (hlen : p < s.parts.length) (hs : (s.part p).pstate = .sealed)
    (hr : (s.part p).view.rungActive = false) (cause ctx : Nat) : JobEnded p s (endJob p cause ctx s) := by
  have hlog := reported_plumbLog (0x90 + p) cause 4 (some p) false (stJobFaulted + 2 ^ 16 * ctx + 2 ^ 32 * cause) s
  have hparts := hlog.only .parts (by decide)
  rw [endJob_of_running hs hr]
  have hold : ((plumbLog (0x90 + p) cause 4 (some p) false (stJobFaulted + 2 ^ 16 * ctx + 2 ^ 32 * cause) s).part p).pstate = .sealed := by
    rw [State.part, show _ = s.parts from hparts]
    exact hs
  have hset : setPState p .faulted (plumbLog (0x90 + p) cause 4 (some p) false (stJobFaulted + 2 ^ 16 * ctx + 2 ^ 32 * cause) s) =
      noticePart p (PState.code .faulted) (PState.code .sealed)
        ((plumbLog (0x90 + p) cause 4 (some p) false (stJobFaulted + 2 ^ 16 * ctx + 2 ^ 32 * cause) s).modPart p Part.faulted) := by
    rw [setPState, hold]
    rfl
  have hsrc : 0x90 + p ≠ 1 := by omega
  rw [hset]
  exact jobEnded_of_reported hlen hlog ((notified_noticePart _ _ _ _).reported.trans (reported_plumbThreshold hsrc (some p) _))

theorem sendResult_of_pseq {x : TxParcel} {q : Nat} (h : x.pseq = some q) (copy : Bool) :
    sendResult x copy =
      resultOf [(16, 4, q), (20, 1, if copy then x.epochM else x.epoch), (21, 1, x.hops), (22, 1, if copy then 1 else 0)] := by
  rw [sendResult, h, Option.getD_some]

/-- A SEND's parcel that is declared lost ends its command and the job of its partition (R115, R434). -/
theorem declareLost_of_data {x : TxParcel} (hf : NoFences s) (hk : x.kind = .data) (hr : x.ref = some r) (hb : x.broken = false)
    (hd : x.drain = false) :
    declareLost x s = advanceAllFences (reapResv (endJob x.part 4 r.slot (complete r stJobFaulted (detailOf 4) (s.dropParcel x.id)))) := by
  have hfences : faultFences x 4 (s.dropParcel x.id) = s.dropParcel x.id :=
    faultFences_of_noFences (s := s.dropParcel x.id) hf x 4
  simp [declareLost, hfences, hk, hr, replyParcel, hb, hd, TxParcel.ctx]

theorem parcelDeclaredLost_of_left {id t0 : Nat} {x : TxParcel} (hr : s.running = true) (hx : s.parcel? id = some x)
    (hl : x.leftAt = some t0) : parcelDeclaredLost id s = declareLost x (s.atTime (t0 + 1000000)) := by
  simp only [parcelDeclaredLost, hx, hl, hr, if_true]

/-- What the loss of a SEND's parcel leaves of a calm block `s`: `u` is the state after it. -/
structure ParcelLost (x : TxParcel) (r : CmdRef) (s u : State) : Prop where
  calm : u.calm
  gone : u.parcel? x.id = none
  ended : u.inflight? r = none
  now : u.now = s.now
  replied : Replied r stJobFaulted (detailOf 4) u.now u
  pstate : (u.part x.part).pstate = .faulted

theorem parcelLost_declareLost {x : TxParcel} (hc : s.calm) (hf : NoFences s) (hk : x.kind = .data) (hr : x.ref = some r)
    (hb : x.broken = false) (hd : x.drain = false) (hid : x.id < s.gl.nextId) (ha : s.answersTo r = true)
    (hlen : x.part < s.parts.length) (hp : (s.part x.part).pstate = .sealed) (hrung : (s.part x.part).view.rungActive = false) :
    ParcelLost x r s (declareLost x s) := by
  obtain ⟨hanswer, hreplied⟩ := complete_of_answersTo (s := s.dropParcel x.id) ha stJobFaulted (detailOf 4)
  have hnoted := noted_answer (s.dropParcel x.id) r stJobFaulted (detailOf 4)
  have hadded := added_answer r stJobFaulted (detailOf 4) (s.dropParcel x.id)
  have hcalm := (quiet_answer r stJobFaulted (detailOf 4) (s.dropParcel x.id)).calm ((quiet_dropParcel x.id s).calm hc)
  have hended := inflight?_answer r stJobFaulted (detailOf 4) (s.dropParcel x.id)
  have hcal : (answer r stJobFaulted (detailOf 4) (s.dropParcel x.id)).cal = s.cal := only_answerWith _ _ _ _ _ .cal (by decide)
  have hrungs := (sameRungs_answer r stJobFaulted (detailOf 4) (s.dropParcel x.id)).part x.part
  rw [declareLost_of_data hf hk hr hb hd, hanswer]
  generalize answer r stJobFaulted (detailOf 4) (s.dropParcel x.id) = w at *
  have hjob : JobEnded x.part w (endJob x.part 4 r.slot w) :=
    jobEnded_endJob (by rw [hnoted.parts_length]; exact hlen) ((hnoted.pstate x.part).trans hp) (hrungs.trans hrung) 4 r.slot
  generalize endJob x.part 4 r.slot w = j at hjob ⊢
  have hcmds : j.cmds = w.cmds := hjob.only .cmds (by decide)
  have hgl : j.gl = w.gl := hjob.only .gl (by decide)
  have hjcal : j.cal = w.cal := hjob.only .cal (by decide)
  have hfences : NoFences (reapResv j) := by
    rw [NoFences, show (reapResv j).cmds = w.cmds from hcmds]
    exact hnoted.noFences hf
  have hnow : (reapResv j).now = s.now := (congrArg Calendar.now (hjcal.trans hcal) :)
  rw [advanceAllFences_of_noFences hfences]
  refine ⟨(quiet_reapResv j).calm (hjob.work.calm (.of_gl hgl) hcalm), ?_, ?_, hnow, ?_, hjob.pstate⟩
  · rw [State.parcel?, show (reapResv j).gl = w.gl from hgl]
    exact hadded.parcel?_eq_none hid (parcel?_dropParcel x.id s)
  · rw [State.inflight?, show (reapResv j).cmds = w.cmds from hcmds]
    exact hended
  · rw [hnow]
    exact hreplied.mono hjob.out (congrArg Cmds.cmdHeld hcmds) hjob.rings

end

/-- Settles O12: with no fence armed, a settled parcel leaves the list and its command ends, and nothing follows; a lost one also ends
its job, whose event takes no reply back. -/
theorem parcelsSettleOrAreLost : Obligations.ParcelsSettleOrAreLost := by
  refine ⟨fun k s part c x r hc hr hf hd hg hkey hrec hres hx hkind href hb hdr hcls hid ha => ?settled,
    fun id t0 s x r hc hr hf hx hl hkind href hb hdr hid ha hp hlen hps hrung => ?lost⟩
  case settled =>
    have hpred := List.find?_some hx
    simp only [Bool.and_eq_true, decide_eq_true_eq] at hpred
    obtain ⟨-, hpseq⟩ := hpred
    have hrow := (packReceive_of_placed hr hd hg hkey hrec hres hx).trans (settleParcel_of_placed hkind href hb hdr hcls)
    obtain ⟨hcalm, hfences, hans, hgone, hlt, hnow, honly⟩ := settledAt_keeps hc hf hid ha c.copy rfl
    obtain ⟨hanswer, hreplied⟩ := complete_of_answersTo hans stOk (sendResult x c.copy)
    rw [hanswer, advanceAllFences_of_noFences ((noted_answer _ r stOk _).noFences hfences)] at hrow
    have hresult := sendResult_of_pseq hpseq c.copy
    rw [hnow] at hreplied
    exact ⟨_, (congrArg (settled s) hrow).trans (settled_calm ((quiet_answer r stOk _ _).calm hcalm)),
      (added_answer r stOk _ _).parcel?_eq_none hlt hgone, inflight?_answer r stOk _ _, hresult ▸ hreplied,
      (honly.trans ((only_answerWith r stOk false _ _).mono (by simp))).queue _⟩
  case lost =>
    have hfound := List.find?_some (show s.gl.parcels.find? (fun y => y.id = id) = some x from hx)
    obtain rfl : x.id = id := of_decide_eq_true hfound
    have hlost := parcelLost_declareLost (s := s.atTime (t0 + 1000000)) ((quiet_atTime s _).calm hc) hf hkind href hb hdr hid ha hlen hps
      hrung
    have hrow := parcelDeclaredLost_of_left hr hx hl
    generalize declareLost x (s.atTime (t0 + 1000000)) = u at hlost hrow
    exact ⟨_, (congrArg (settled s) hrow).trans (settled_calm hlost.calm), hlost.gone, hlost.ended, hlost.now.trans (now_atTime s _),
      hlost.replied, hlost.pstate⟩

end Sys2Proof.Machine
end

section
/-! PROOFS. Inline units (05 R139 to R168): what a change of their groups and unfolds leaves of the rest of the block. -/

namespace Sys2Proof.Machine

section
variable {s t : State}

/-- A state whose inline units are `x`. -/
def withInl (x : Inline) (s : State) : State := { s with inl := x }

theorem only_withInl (x : Inline) (s : State) : OnlyIn [.inl] s (withInl x s) := by
  intro g hg
  cases g with
  | inl => exact absurd (by simp) hg
  | _ => rfl

theorem quiet_withInl (x : Inline) (s : State) : Quiet s (withInl x s) :=
  ⟨rfl, rfl, rfl, rfl, rfl, rfl, rfl, rfl, rfl, fun _ h => .inl h, id, rfl⟩

theorem withInl_self (s : State) : withInl s.inl s = s := rfl

/-! ### Groups (R139 to R142) -/

theorem group?_congr (h : t.inl = s.inl) (part num : Nat) : t.group? part num = s.group? part num := by
  rw [State.group?, h, State.group?]

theorem only_modGroup (part num : Nat) (f : Group → Group) (s : State) : OnlyIn [.inl] s (s.modGroup part num f) := only_withInl _ s

theorem quiet_modGroup (part num : Nat) (f : Group → Group) (s : State) : Quiet s (s.modGroup part num f) := quiet_withInl _ s

/-- A change of a group that keeps its names is found under them. -/
theorem group?_modGroup {part num : Nat} {f : Group → Group} (hf : ∀ g, (f g).part = g.part ∧ (f g).num = g.num) :
    (s.modGroup part num f).group? part num = (s.group? part num).map f := by
  have hpred : ∀ g : Group, (f g).part = part ∧ (f g).num = num ↔ g.part = part ∧ g.num = num := fun g => by
    rw [(hf g).1, (hf g).2]
  simp only [State.modGroup, State.group?]
  induction s.inl.groups with
  | nil => rfl
  | cons g l ih =>
    by_cases hg : g.part = part ∧ g.num = num
    · simp [hg, hpred]
    · simpa [List.find?_cons, hg, hpred] using ih

theorem group?_modCollective {part num : Nat} {g : Group} {c : Collective} (f : Collective → Collective)
    (hg : s.group? part num = some g) (hc : g.running = some c) :
    (s.modCollective part num f).group? part num = some { g with running := some (f c) } := by
  rw [State.modCollective, group?_modGroup (f := fun q => { q with running := q.running.map f }) fun _ => ⟨rfl, rfl⟩, hg,
    Option.map_some, hc, Option.map_some]

theorem group?_releaseGroup (part num : Nat) (s : State) : (releaseGroup part num s).group? part num = none :=
  List.find?_eq_none.mpr fun g hg he => by
    have hkept := (List.mem_filter.mp hg).2
    simp only [Bool.not_eq_true'] at hkept
    rw [hkept] at he
    cases he

/-- A group that joins the list under free names is found under them. -/
theorem group?_append {part num : Nat} {g : Group} (h : s.group? part num = none) (hp : g.part = part) (hn : g.num = num) :
    (withInl { s.inl with groups := s.inl.groups ++ [g] } s).group? part num = some g := by
  rw [State.group?] at h ⊢
  rw [withInl, List.find?_append, h, Option.none_or, List.find?_cons_of_pos (by simp [hp, hn])]

/-! ### Commands that end -/

section
variable {r : CmdRef}

theorem inflight?_land (r : CmdRef) (s : State) : (s.land r).inflight? r = none :=
  List.find?_eq_none.mpr fun _ hx he => of_decide_eq_true (List.mem_filter.mp hx).2 (of_decide_eq_true he)

theorem noted_complete_of_land (r : CmdRef) (st : Nat) (v : BitVec 128) (s : State) : Noted (s.land r) (complete r st v s) := by
  unfold complete
  split
  · exact .trans (t := { s.land r with plumb := { s.plumb with discards := s.plumb.discards + 1 } }) (.of_eq rfl rfl rfl)
      (noted_account _ _ _)
  · exact noted_answer_of_land s r st v

theorem noted_complete (r : CmdRef) (st : Nat) (v : BitVec 128) (s : State) : Noted s (complete r st v s) :=
  (noted_land s r).trans (noted_complete_of_land r st v s)

/-- No command is in flight after it has ended. -/
theorem inflight?_complete (r : CmdRef) (st : Nat) (v : BitVec 128) (s : State) : (complete r st v s).inflight? r = none :=
  (noted_complete_of_land r st v s).inflight?_eq_none (inflight?_land r s)

theorem sameRungs_complete (r : CmdRef) (st : Nat) (v : BitVec 128) (s : State) : SameRungs s (complete r st v s) := by
  unfold complete
  split
  · exact .of_parts rfl
  · exact sameRungs_answer r st v s

/-- What the end of a command that can be answered leaves of a calm block `s`. -/
structure Ended (r : CmdRef) (st : Nat) (v : BitVec 128) (s u : State) : Prop where
  calm : u.calm
  inl : u.inl = s.inl
  ended : u.inflight? r = none
  replied : Replied r st v s.now u

theorem ended_complete (hc : s.calm) (ha : s.answersTo r = true) (st : Nat) (v : BitVec 128) : Ended r st v s (complete r st v s) := by
  obtain ⟨hanswer, hreplied⟩ := complete_of_answersTo ha st v
  exact ⟨(quiet_complete r st v s).calm hc, only_complete r st v s .inl (by decide), inflight?_complete r st v s, hanswer ▸ hreplied⟩

/-- What the end of a command and then of its partition's job leaves of a calm block `s`, whose inline units have become `x`. -/
structure EndedWithJob (p : Nat) (r : CmdRef) (x : Inline) (s u : State) : Prop where
  calm : u.calm
  ended : u.inflight? r = none
  inl : u.inl = x
  now : u.now = s.now
  pstate : (u.part p).pstate = .faulted

theorem endedWithJob_of_complete {p : Nat} (hc : s.calm) (hlen : p < s.parts.length) (hp : (s.part p).pstate = .sealed)
    (hrung : (s.part p).view.rungActive = false) (st : Nat) (v : BitVec 128) (x : Inline) (cause ctx : Nat) :
    EndedWithJob p r x s (endJob p cause ctx (withInl x (complete r st v s))) := by
  have hnoted := noted_complete r st v s
  have hcalm := ((quiet_complete r st v s).trans (quiet_withInl x _)).calm hc
  have hjob : JobEnded p (withInl x (complete r st v s)) (endJob p cause ctx (withInl x (complete r st v s))) :=
    jobEnded_endJob (s := withInl x _) (hlen.trans_eq hnoted.parts_length.symm) ((hnoted.pstate p).trans hp)
      (((sameRungs_complete r st v s).part p).trans hrung) cause ctx
  have hcmds : (endJob p cause ctx (withInl x (complete r st v s))).cmds = (complete r st v s).cmds := hjob.only .cmds (by decide)
  have hcal : (endJob p cause ctx (withInl x (complete r st v s))).cal = (complete r st v s).cal := hjob.only .cal (by decide)
  have hkept : (complete r st v s).cal = s.cal := only_complete r st v s .cal (by decide)
  refine ⟨hjob.work.calm (.of_gl (hjob.only .gl (by decide))) hcalm, ?_, hjob.only .inl (by decide),
    (congrArg Calendar.now (hcal.trans hkept) :), hjob.pstate⟩
  rw [State.inflight?, hcmds]
  exact inflight?_complete r st v s

/-- The same where the inline units stay. -/
theorem endedWithJob_of_complete_self {p : Nat} (hc : s.calm) (hlen : p < s.parts.length) (hp : (s.part p).pstate = .sealed)
    (hrung : (s.part p).view.rungActive = false) (st : Nat) (v : BitVec 128) (cause ctx : Nat) :
    EndedWithJob p r s.inl s (endJob p cause ctx (complete r st v s)) := by
  have hinl : (complete r st v s).inl = s.inl := only_complete r st v s .inl (by decide)
  have hend := endedWithJob_of_complete (r := r) hc hlen hp hrung st v (complete r st v s).inl cause ctx
  rwa [withInl_self, hinl] at hend

end

end

end Sys2Proof.Machine
end

section
/-! PROOFS. RING_SETUP and the starts of the four collectives (05 R139 to R144, R156, R158). -/

namespace Sys2Proof.Machine

section
variable {s u : State} {r : CmdRef} {p : Packet}

/-! ### What the checks read -/

theorem chip_congr (h : u.gl.coord = s.gl.coord) : u.chip = s.chip := by rw [State.chip, h, State.chip]

theorem dims_congr (h : u.gl.coord = s.gl.coord) : u.dims = s.dims := by rw [State.dims, h, State.dims]

theorem hopsTo_congr (h : u.gl.coord = s.gl.coord) (a b : Nat) : u.hopsTo a b = s.hopsTo a b := by
  simp only [State.hopsTo, State.dim, dims_congr h]

theorem chipInside_congr (h : u.gl.coord = s.gl.coord) (c : Nat) : u.chipInside c = s.chipInside c := by
  rw [State.chipInside, dims_congr h, State.chipInside]

theorem badList_congr (h : u.gl.coord = s.gl.coord) (l : List Nat) : badList u l = badList s l := by
  simp only [badList, chipInside_congr h, chip_congr h]

/-! ### RING_SETUP (R139 to R141) -/

/-- The group that a RING_SETUP makes of the members `l`. -/
def newGroup (r : CmdRef) (p : Packet) (l : List Nat) (chip : Nat) : Group :=
  { part := r.part, num := pf p 20 1, members := l, pos := l.idxOf chip, stageAddr := pf p 32 6, inst := 0, running := none, staged := [],
    arrived := [], awaitConsumed := [], credits := 64 }

/-- The result of a RING_SETUP that makes a group: position, predecessor, successor and the hops to it. -/
def setupResult (g : Group) (s : State) : BitVec 128 :=
  resultOf [(16, 2, g.pos), (18, 2, g.pred), (20, 2, g.succ), (22, 1, s.hopsTo s.chip g.succ)]

/-- A state that holds one more group. -/
def withGroup (g : Group) (s : State) : State := withInl { s.inl with groups := s.inl.groups ++ [g] } s

theorem setupResult_congr (h : u.gl.coord = s.gl.coord) (g : Group) : setupResult g u = setupResult g s := by
  rw [setupResult, hopsTo_congr h, chip_congr h, setupResult]

theorem startRingSetup_of_new {bytes : List Byte} (hn : pf p 22 2 ≠ 0) (hlist : s.inCarve r.part (pf p 24 6) (2 * pf p 22 2) = true)
    (hstage : s.inCarve r.part (pf p 32 6) 0x40000 = true) (htier : pf p 32 6 + 0x40000 ≤ t0End)
    (hfree : s.group? r.part (pf p 20 1) = none) (hgood : badList s (memberList (pf p 22 2) bytes) = false)
    (hroom : (s.inl.groups.filter (fun g => g.part = r.part)).length < (s.part r.part).shares.groups) :
    startRingSetup r p (.ok bytes) s =
      complete r stOk (setupResult (newGroup r p (memberList (pf p 22 2) bytes) s.chip) s)
        (withGroup (newGroup r p (memberList (pf p 22 2) bytes) s.chip) s) := by
  unfold startRingSetup
  dsimp only
  rw [if_neg hn, if_neg (by simp [hlist, hstage, htier]), if_neg (by simp [hfree])]
  simp only [readCause, readBytes, hgood, Bool.false_eq_true, if_false, Nat.not_le.mpr hroom]
  rfl

theorem startRingSetup_of_idle {given : MemRead} {g : Group} (hn : pf p 22 2 = 0) (hg : s.group? r.part (pf p 20 1) = some g)
    (hrun : g.running = none) (hstaged : g.staged = []) (hwait : s.cmds.staged = []) :
    startRingSetup r p given s = complete r stOk 0 (releaseGroup r.part (pf p 20 1) s) := by
  unfold startRingSetup
  dsimp only
  rw [if_pos hn]
  simp [hg, hrun, hstaged, hwait]

/-- A RING_SETUP that has begun and ends at once with its inline units as `x`. -/
theorem exec_ringSetup_of_end {given : MemRead} {x : Inline} {v : BitVec 128} (hc : s.calm) (hp : passes .ringSetup p s)
    (hu : Started s u) (honly : OnlyIn replyAreas s u)
    (hrow : submit .ringSetup p (.mem given) s = complete (named .ringSetup p s) stOk v (withInl x u)) :
    ∃ t, exec (.ringSetup p given) s = .next t ∧ t.inl = x ∧ Answered .ringSetup p stOk v s t ∧ OnlyIn (.inl :: replyAreas) s t := by
  have hsrc := srcIsCtx_of_passes (by simp [Op.issuers]) hp
  have hcalm := ((quiet_withInl x u).trans (quiet_complete (named .ringSetup p s) stOk v _)).calm (hu.quiet.calm hc)
  have hareas : OnlyIn (.inl :: replyAreas) s (complete (named .ringSetup p s) stOk v (withInl x u)) :=
    (honly.mono (by simp)).trans (((only_withInl x u).mono (by simp)).trans ((only_complete _ _ _ _).mono (by simp)))
  exact ⟨_, (congrArg (settled s) hrow).trans (settled_calm hcalm), only_complete (named .ringSetup p s) stOk v (withInl x u) .inl (by decide),
    hu.answers (w := withInl x u) hp hsrc rfl (.of_eq rfl) rfl rfl, hareas.queue _⟩

theorem exec_ringSetup_of_new {bytes : List Byte} (hc : s.calm) (hp : passes .ringSetup p s) (hn : pf p 22 2 ≠ 0)
    (hlist : s.inCarve p.part (pf p 24 6) (2 * pf p 22 2) = true) (hstage : s.inCarve p.part (pf p 32 6) 0x40000 = true)
    (htier : pf p 32 6 + 0x40000 ≤ t0End) (hfree : s.group? p.part (pf p 20 1) = none)
    (hgood : badList s (memberList (pf p 22 2) bytes) = false)
    (hroom : (s.inl.groups.filter (fun g => g.part = p.part)).length < (s.part p.part).shares.groups) :
    ∃ t g, exec (.ringSetup p (.ok bytes)) s = .next t ∧ t.group? p.part (pf p 20 1) = some g ∧
      g = newGroup (named .ringSetup p s) p (memberList (pf p 22 2) bytes) s.chip ∧
      Answered .ringSetup p stOk (setupResult g s) s t ∧ OnlyIn (.inl :: replyAreas) s t := by
  obtain ⟨u, hu, hstart, honly⟩ := submit_of_ctx (.mem (.ok bytes)) hc hp (srcIsCtx_of_passes (by simp [Op.issuers]) hp)
  have hparts : u.parts = s.parts := hstart.only .parts (by decide)
  have hinl : u.inl = s.inl := hstart.only .inl (by decide)
  have hcoord := hstart.quiet.coord
  have hcarve := inCarve_congr hparts (hstart.only .sill (by decide)) hcoord
  have heffect := startRingSetup_of_new (s := u) (r := named .ringSetup p s) hn ((hcarve _ _ _).trans hlist) ((hcarve _ _ _).trans hstage)
    htier ((group?_congr hinl _ _).trans hfree) ((badList_congr hcoord _).trans hgood)
    (by rw [hinl, State.part, hparts]; exact hroom)
  rw [setupResult_congr hcoord, chip_congr hcoord, withGroup, hinl] at heffect
  obtain ⟨t, ht, hx, hanswer, hareas⟩ := exec_ringSetup_of_end hc hp hstart honly (hu.trans heffect)
  exact ⟨t, _, ht, (group?_congr hx _ _).trans (group?_append hfree rfl rfl), rfl, hanswer, hareas⟩

theorem exec_ringSetup_of_idle {m : MemRead} {g : Group} (hc : s.calm) (hp : passes .ringSetup p s) (hn : pf p 22 2 = 0)
    (hg : s.group? p.part (pf p 20 1) = some g) (hrun : g.running = none) (hstaged : g.staged = []) :
    ∃ t, exec (.ringSetup p m) s = .next t ∧ t.group? p.part (pf p 20 1) = none ∧ Answered .ringSetup p stOk 0 s t ∧
      OnlyIn (.inl :: replyAreas) s t := by
  obtain ⟨u, hu, hstart, honly⟩ := submit_of_ctx (.mem m) hc hp (srcIsCtx_of_passes (by simp [Op.issuers]) hp)
  obtain ⟨hqueue, -⟩ := State.calm_cases (hstart.quiet.calm hc)
  have heffect := startRingSetup_of_idle (r := named .ringSetup p s) (given := m) hn
    ((group?_congr (hstart.only .inl (by decide)) _ _).trans hg) hrun hstaged hqueue
  obtain ⟨t, ht, hx, hanswer, hareas⟩ := exec_ringSetup_of_end hc hp hstart honly (hu.trans heffect)
  exact ⟨t, ht, (group?_congr hx _ _).trans (group?_releaseGroup _ _ u), hanswer, hareas⟩

/-! ### Collectives (R144, R156, R158) -/

/-- A group that runs a collective. -/
def Group.runs (c : Collective) (g : Group) : Group := { g with running := some c }

/-- A collective has the parameters of its packet, and no chunk has come since `now`. -/
structure Collective.StartedBy (c : Collective) (r : CmdRef) (p : Packet) (now : Nat) : Prop where
  ref : c.ref = r
  op : c.op = pf p 21 1
  inFmt : c.inFmt = pf p 22 1
  outFmt : c.outFmt = pf p 23 1
  srcAddr : c.srcAddr = pf p 24 6
  dstAddr : c.dstAddr = pf p 32 6
  count : c.count = pf p 40 4
  cls : c.cls = pf p 44 1
  root : c.root = pf p 46 2
  timeoutUs : c.timeoutUs = pf p 52 2
  lastChunk : c.lastChunk = now

/-- The buffers of a collective of shape `sh` lie in its partition's carve-out. -/
def BuffersInCarve (s : State) (part opc : Nat) (p : Packet) (sh : Shape) (n : Nat) (root : Bool) : Prop :=
  (srcBytes opc sh n root ≠ 0 → s.inCarve part (pf p 24 6) (srcBytes opc sh n root) = true) ∧
    (dstBytes opc sh n root ≠ 0 → s.inCarve part (pf p 32 6) (dstBytes opc sh n root) = true)

theorem startCollective_of_ready {opc : Nat} {g : Group} (hg : s.group? r.part (pf p 20 1) = some g)
    (hbuf : BuffersInCarve s r.part opc p (shapeOf opc (pf p 21 1) (pf p 22 1) (pf p 23 1) (pf p 40 4) g.size) g.size (g.pos = pf p 46 2))
    (hresv : pf p 44 1 ≠ 4 → (s.sendResv r.part (pf p 44 1) (pf p 48 4)).isSome = true) (href : sendRefusal s r.part = none) :
    ∃ c, startCollective opc r p s = (hold r s).modGroup r.part (pf p 20 1) (Group.runs c) ∧ c.StartedBy r p s.now := by
  obtain ⟨hsrc, hdst⟩ := hbuf
  have hgo : ¬(decide (pf p 44 1 ≠ 4) && (if pf p 44 1 = 4 then none else s.sendResv r.part (pf p 44 1) (pf p 48 4)).isNone) = true := by
    by_cases h : pf p 44 1 = 4
    · simp [h]
    · simp [h, Option.isSome_iff_ne_none.mp (hresv h)]
  unfold startCollective
  simp only [hg]
  rw [if_neg ?carve, if_neg hgo, href]
  case carve =>
    simp only [Bool.or_eq_true, Bool.and_eq_true, decide_eq_true_eq, Bool.not_eq_true']
    rintro (⟨h, hn⟩ | ⟨h, hn⟩)
    · rw [hsrc h] at hn
      cases hn
    · rw [hdst h] at hn
      cases hn
  exact ⟨_, rfl, rfl, rfl, rfl, rfl, rfl, rfl, rfl, rfl, rfl, rfl, rfl⟩

/-- A collective with what it needs runs on its group. -/
theorem startCollective_runs {op : Op} {opc : Nat} {g : Group} (hc : s.calm) (hstart : Started s u) (honly : OnlyIn replyAreas s u)
    (hg : s.group? p.part (pf p 20 1) = some g)
    (hbuf : BuffersInCarve s p.part opc p (shapeOf opc (pf p 21 1) (pf p 22 1) (pf p 23 1) (pf p 40 4) g.size) g.size (g.pos = pf p 46 2))
    (hresv : pf p 44 1 ≠ 4 → (s.sendResv p.part (pf p 44 1) (pf p 48 4)).isSome = true) (href : sendRefusal s p.part = none) :
    ∃ t c, settled s (startCollective opc (named op p s) p u) = .next t ∧
      t.group? p.part (pf p 20 1) = some (g.runs c) ∧ c.StartedBy (named op p s) p s.now ∧
      (t.inflight? (named op p s)).isSome = true ∧ OnlyIn (.inl :: replyAreas) s t := by
  have hparts : u.parts = s.parts := hstart.only .parts (by decide)
  have hcal : u.cal = s.cal := hstart.only .cal (by decide)
  have hgroup := (group?_congr (hstart.only .inl (by decide)) p.part (pf p 20 1)).trans hg
  have hcarve := inCarve_congr hparts (hstart.only .sill (by decide)) hstart.quiet.coord
  obtain ⟨c, hrow, hby⟩ := startCollective_of_ready (s := u) (r := named op p s) (opc := opc) hgroup
    ⟨fun h => (hcarve _ _ _).trans (hbuf.1 h), fun h => (hcarve _ _ _).trans (hbuf.2 h)⟩
    (fun h => by rw [sendResv_congr hcal]; exact hresv h) ((sendRefusal_congr hparts (hstart.only .kp (by decide)) _).trans href)
  have hfound := group?_modGroup (s := hold (named op p s) u) (part := p.part) (num := pf p 20 1) (f := Group.runs c)
    fun _ => ⟨rfl, rfl⟩
  rw [show (hold (named op p s) u).group? p.part (pf p 20 1) = some g from hgroup] at hfound
  have hcalm := ((quiet_hold (named op p s) u).trans (quiet_modGroup p.part (pf p 20 1) (Group.runs c) _)).calm (hstart.quiet.calm hc)
  have hareas : OnlyIn (.inl :: replyAreas) u ((hold (named op p s) u).modGroup p.part (pf p 20 1) (Group.runs c)) :=
    ((only_hold _ _).mono (by simp)).trans ((only_modGroup _ _ _ _).mono (by simp))
  rw [show u.now = s.now from congrArg Calendar.now hcal] at hby
  exact ⟨_, c, (congrArg (settled s) hrow).trans (settled_calm hcalm), hfound, hby, inflight?_hold_isSome (named op p s) u,
    ((honly.mono (by simp)).trans hareas).queue _⟩

end

/-- Settles O18: each command starts on a state that agrees with the given one on what its checks read; a RING_SETUP adds or takes away
one group there, and a collective comes to run on its group. -/
theorem groupsAndCollectivesStart : Obligations.GroupsAndCollectivesStart := by
  refine ⟨fun p bytes s l hc hp hn hl hlist hstage htier hfree hgood hroom => ?new,
    fun p m s g hc hp => exec_ringSetup_of_idle hc hp,
    fun op opc i p s g sh hop hc hp hg hsh hsrc hdst hresv href => ?collective⟩
  case new =>
    subst hl
    obtain ⟨t, g, ht, hg, rfl, hanswer, hareas⟩ := exec_ringSetup_of_new hc hp hn hlist hstage htier hfree hgood hroom
    exact ⟨t, _, ht, hg, rfl, rfl, rfl, rfl, rfl, hanswer, hareas⟩
  case collective =>
    subst hsh
    simp only [List.mem_cons, List.not_mem_nil, or_false] at hop
    rcases hop with hop | hop | hop | hop <;> cases hop
    all_goals
      obtain ⟨u, hu, hstart, honly⟩ := submit_of_ctx .none hc hp (srcIsCtx_of_passes (by simp [Op.issuers]) hp)
      obtain ⟨t, c, ht, hgroup, hby, hflight, hareas⟩ := startCollective_runs hc hstart honly hg ⟨hsrc, hdst⟩ hresv href
      exact ⟨t, _, c, (congrArg (settled s) hu).trans ht, hgroup, rfl, rfl, rfl, hby.ref, hby.op, hby.inFmt, hby.outFmt, hby.srcAddr,
        hby.dstAddr, hby.count, hby.cls, hby.root, hby.timeoutUs, hby.lastChunk, hflight, hareas⟩

end Sys2Proof.Machine
end

section
/-! PROOFS. Units and the timeout of a running collective (05 R146, R150, R159, 14 R561). -/

namespace Sys2Proof.Machine

section
variable {s : State} {part num unit : Nat} {g : Group} {c : Collective} {sh : Shape} {data : UnitData}

/-! ### A unit sent on (R146, R151) -/

/-- The CHUNK parcel of a unit. -/
def chunkParcel (g : Group) (c : Collective) (unit : Nat) (gather : Bool) (bytes : List Byte) (s : State) (id : Nat) : TxParcel :=
  mkParcel id g.part (.chunk g.num unit gather) (some c.ref) g.succ c.cls 0 bytes.length 0 (chunkInfo g.num g.inst unit gather)
    (.chunk bytes) c.resv false s.now

/-- A collective that has sent one more chunk. -/
def Collective.withSent (c : Collective) : Collective :=
  { c with sent := c.sent + 1, toSend := c.toSend - 1, unsettled := c.unsettled + 1 }

/-- A collective that has handled one more unit. -/
def Collective.withHandled (unit : Nat) (gather wrote got : Bool) (sats : Nat) (c : Collective) : Collective :=
  { c with
    handled := c.handled ++ [(unit, gather)]
    toWrite := if wrote then c.toWrite - 1 else c.toWrite
    received := if got then c.received + 1 else c.received
    saturations := c.saturations + sats }

theorem sendChunk_eq (g : Group) (c : Collective) (unit : Nat) (gather : Bool) (bytes : List Byte) (s : State) :
    sendChunk g c unit gather bytes s =
      (fenceSet c.fenceSet c.ref.slot s.gl.nextId (s.addParcel (chunkParcel g c unit gather bytes s))).modCollective g.part g.num
        Collective.withSent := rfl

theorem noteUnit_eq (g : Group) (unit : Nat) (gather wrote got : Bool) (sats : Nat) (s : State) :
    noteUnit g unit gather wrote got sats s =
      s.modCollective g.part g.num (Collective.withHandled unit gather wrote got sats) := rfl

theorem quiet_modCollective (part num : Nat) (f : Collective → Collective) (s : State) : Quiet s (s.modCollective part num f) :=
  quiet_modGroup _ _ _ s

theorem only_modCollective (part num : Nat) (f : Collective → Collective) (s : State) : OnlyIn [.inl] s (s.modCollective part num f) :=
  only_modGroup _ _ _ s

theorem quiet_sendChunk (g : Group) (c : Collective) (unit : Nat) (gather : Bool) (bytes : List Byte) (s : State) :
    Quiet s (sendChunk g c unit gather bytes s) := by
  rw [sendChunk_eq]
  exact ((quiet_addParcel s _ fun _ => rfl).trans (quiet_fenceSet _ _ _ _)).trans (quiet_modCollective _ _ _ _)

theorem only_sendChunk (g : Group) (c : Collective) (unit : Nat) (gather : Bool) (bytes : List Byte) (s : State) :
    OnlyIn [.gl, .inl, .cmds] s (sendChunk g c unit gather bytes s) := by
  rw [sendChunk_eq]
  exact (((only_addParcel s _).mono (by simp)).trans ((only_fenceSet _ _ _ _).mono (by simp))).trans
    ((only_modCollective _ _ _ _).mono (by simp))

theorem parcels_sendChunk (g : Group) (c : Collective) (unit : Nat) (gather : Bool) (bytes : List Byte) (s : State) :
    (sendChunk g c unit gather bytes s).gl.parcels = s.gl.parcels ++ [chunkParcel g c unit gather bytes s s.gl.nextId] :=
  congrArg Guyline.parcels (fenceSet_keeps c.fenceSet c.ref.slot s.gl.nextId (s.addParcel (chunkParcel g c unit gather bytes s))).1

theorem group?_sendChunk (unit : Nat) (gather : Bool) (bytes : List Byte) (hg : s.group? g.part g.num = some g)
    (hc : g.running = some c) :
    (sendChunk g c unit gather bytes s).group? g.part g.num = some (g.runs c.withSent) := by
  have hinl : (fenceSet c.fenceSet c.ref.slot s.gl.nextId (s.addParcel (chunkParcel g c unit gather bytes s))).inl = s.inl :=
    only_fenceSet _ _ _ _ .inl (by decide)
  rw [sendChunk_eq]
  exact group?_modCollective _ ((group?_congr hinl _ _).trans hg) hc

/-! ### REDUCE_FORWARD_UNIT (R150) -/

/-- Without injections a unit is handled on its lane pair as it comes. -/
theorem reduceForwardTested_of_inService (hi : s.tests.injections = []) (hb : s.blocked (0x100 + data.lanePair % 96) = false)
    (gather : Bool) : reduceForwardTested part num unit gather data s = reduceForwardUnit part num unit gather data s := by
  unfold reduceForwardTested
  dsimp only
  rw [hb, if_neg (by decide), withTwins_of_none hi]

theorem finishCollective_of_unsettled (hg : s.group? part num = some g) (hc : g.running = some c) (hu : c.unsettled ≠ 0) :
    finishCollective part num s = s := by
  simp [finishCollective, hg, hc, hu]

/-- What the member that starts a chain contributes to a reduce unit, and its saturations. -/
def contribution (c : Collective) (sh : Shape) (unit : Nat) (bytes : List Byte) : List Byte × Nat :=
  combineBytes c.op c.inFmt none (bytes.take ((unitSpan sh.shard sh.wp (unit % sh.ur)).2 * sh.win))

theorem reduceUnit_of_start {bytes : List Byte} (hread : data.localRead = .ok bytes) (hstart : g.pos = (unit / sh.ur + 1) % g.size)
    (howner : g.pos ≠ unit / sh.ur) :
    reduceUnit g c sh unit data s =
      noteUnit g unit false false false (contribution c sh unit bytes).2 (sendChunk g c unit false (contribution c sh unit bytes).1 s) := by
  unfold reduceUnit
  dsimp only
  rw [if_pos hstart, if_neg howner, hread]
  rfl

theorem reduceForwardUnit_of_reads {bytes : List Byte} (hrun : s.running = true) (hg : s.group? part num = some g)
    (hc : g.running = some c) (hp : c.preempted = false) (hh : c.handled.contains (unit, false) = false)
    (hlt : unit < shardsOf c.opc g.size * (shapeOf c.opc c.op c.inFmt c.outFmt c.count g.size).ur) (htw : data.twinsOk = true)
    (hread : data.localRead = .ok bytes) :
    reduceForwardUnit part num unit false data s =
      finishCollective part num (reduceUnit g c (shapeOf c.opc c.op c.inFmt c.outFmt c.count g.size) unit data s) := by
  have hnew : (unit, false) ∉ c.handled := by simpa using hh
  simp [reduceForwardUnit, hg, hc, hrun, hp, hnew, Nat.not_le.mpr hlt, htw, hread, readsLocal, readCause]

/-- What a reduce unit at the start of its chain leaves of a calm block. -/
structure ChainStarted (g : Group) (c : Collective) (unit : Nat) (bytes : List Byte) (s t : State) : Prop where
  calm : t.calm
  parcels : t.gl.parcels = s.gl.parcels ++ [chunkParcel g c unit false bytes s s.gl.nextId]
  group : ∃ sats, t.group? g.part g.num = some (g.runs (c.withSent.withHandled unit false false false sats))
  only : OnlyIn [.gl, .inl, .cmds] s t

theorem chainStarted_noteUnit (hcalm : s.calm) (hg : s.group? g.part g.num = some g) (hc : g.running = some c) (bytes : List Byte)
    (sats : Nat) : ChainStarted g c unit bytes s (noteUnit g unit false false false sats (sendChunk g c unit false bytes s)) := by
  rw [noteUnit_eq]
  exact ⟨((quiet_sendChunk g c unit false bytes s).trans (quiet_modCollective _ _ _ _)).calm hcalm,
    parcels_sendChunk g c unit false bytes s,
    ⟨sats, group?_modCollective (g := g.runs c.withSent) _ (group?_sendChunk unit false bytes hg hc) rfl⟩,
    (only_sendChunk g c unit false bytes s).trans ((only_modCollective _ _ _ _).mono (by simp))⟩

theorem ChainStarted.finishes {t : State} {bytes : List Byte} (h : ChainStarted g c unit bytes s t) :
    finishCollective g.part g.num t = t := by
  obtain ⟨sats, hg⟩ := h.group
  exact finishCollective_of_unsettled hg rfl (Nat.succ_ne_zero c.unsettled)

/-! ### COLLECTIVE_TIMEOUT (R159) -/

/-- The parcel is of a command and has not left. -/
def TxParcel.unsentOf (r : CmdRef) (x : TxParcel) : Bool := x.ref = some r && x.pseq.isNone

/-- A group that no collective runs on any more: its next one has the next number. -/
def Group.collectiveEnded (g : Group) : Group := { g with running := none, arrived := [], inst := (g.inst + 1) % 128 }

/-- A state whose group's collective has ended, without the parcels of its command that had not left. -/
def collectiveDropped (part num : Nat) (r : CmdRef) (s : State) : State :=
  { s.modGroup part num Group.collectiveEnded with gl := { s.gl with parcels := s.gl.parcels.filter (fun x => !x.unsentOf r) } }

theorem quiet_collectiveDropped (part num : Nat) (r : CmdRef) (s : State) : Quiet s (collectiveDropped part num r s) :=
  ⟨rfl, rfl, rfl, rfl, rfl, rfl, rfl, rfl, rfl, fun _ h => .inl (List.mem_of_mem_filter h), id, rfl⟩

theorem endCollective_of_running (hg : s.group? part num = some g) (hc : g.running = some c) (st : Nat) (v : BitVec 128) :
    endCollective part num st v s = complete c.ref st v (collectiveDropped part num c.ref s) := by
  simp only [endCollective, hg, hc]
  rfl

/-- Inline units without a group. -/
def Inline.withoutGroup (part num : Nat) (x : Inline) : Inline :=
  { x with groups := x.groups.filter (fun g => !(g.part = part && g.num = num)) }

theorem releaseGroup_eq (part num : Nat) (s : State) : releaseGroup part num s = withInl (s.inl.withoutGroup part num) s := rfl

theorem collectiveTimeout_of_running (hrun : s.running = true) (hg : s.group? part num = some g) (hc : g.running = some c)
    (hp : c.preempted = false) :
    collectiveTimeout part num s = endJob part 5 c.ref.slot (releaseGroup part num (complete c.ref stJobFaulted (detailOf 5)
      (collectiveDropped part num c.ref (s.atTime (c.lastChunk + 1000 * c.timeoutUs))))) := by
  have hended := endCollective_of_running (s := s.atTime (c.lastChunk + 1000 * c.timeoutUs)) hg hc stJobFaulted (detailOf 5)
  simp only [collectiveTimeout, hg, Option.bind_some, hc, hrun, hp, Bool.not_true, Bool.or_self, Bool.false_eq_true, if_false,
    faultCollective, hended]

end

/-- Settles O19: the chunk that the chain's start sends keeps the collective from ending, and nothing follows; a timeout ends the
command, releases the group and ends the job. -/
theorem collectiveUnitsAndTimeout : Obligations.CollectiveUnitsAndTimeout := by
  refine ⟨fun part num unit data s g c sh bytes hcalm hrun hi hb hg hc hpart hnum hp hh hsh hlt htw hread hstart howner => ?unit,
    fun part num s g c hcalm hrun hg hc hp _ hlen hps hrung => ?timeout⟩
  case unit =>
    subst hpart hnum hsh
    have hchain := chainStarted_noteUnit (unit := unit) hcalm hg hc
      (contribution c (shapeOf c.opc c.op c.inFmt c.outFmt c.count g.size) unit bytes).1
      (contribution c (shapeOf c.opc c.op c.inFmt c.outFmt c.count g.size) unit bytes).2
    have hrow := (reduceForwardTested_of_inService hi hb false).trans (reduceForwardUnit_of_reads hrun hg hc hp hh hlt htw hread)
    rw [reduceUnit_of_start hread hstart howner, hchain.finishes] at hrow
    generalize noteUnit g unit false false false _ _ = t at hchain hrow
    obtain ⟨sats, hgroup⟩ := hchain.group
    exact ⟨_, _, _, _, (congrArg (settled s) hrow).trans (settled_calm hchain.calm), hchain.parcels, rfl, rfl, rfl, rfl, hgroup, rfl, rfl,
      rfl, hchain.only.queue _⟩
  case timeout =>
    have hquiet := (quiet_atTime s (c.lastChunk + 1000 * c.timeoutUs)).trans (quiet_collectiveDropped part num c.ref _)
    have hrow := collectiveTimeout_of_running hrun hg hc hp
    generalize hw : collectiveDropped part num c.ref (s.atTime (c.lastChunk + 1000 * c.timeoutUs)) = w at hquiet hrow
    have hparts : w.parts = s.parts := by rw [← hw]; rfl
    have hnow : w.now = max s.now (c.lastChunk + 1000 * c.timeoutUs) := by rw [← hw]; exact now_atTime s _
    have hended := endedWithJob_of_complete (p := part) (r := c.ref) (hquiet.calm hcalm) (by rwa [hparts])
      (by rwa [State.part, hparts]) (by rwa [State.part, hparts]) stJobFaulted (detailOf 5)
      ((complete c.ref stJobFaulted (detailOf 5) w).inl.withoutGroup part num) 5 c.ref.slot
    rw [← releaseGroup_eq] at hended
    have hgone := (group?_congr (s := releaseGroup part num (complete c.ref stJobFaulted (detailOf 5) w)) hended.inl part num).trans
      (group?_releaseGroup part num _)
    generalize endJob part 5 c.ref.slot _ = u at hended hrow hgone
    exact ⟨_, (congrArg (settled s) hrow).trans (settled_calm hended.calm), hgone, hended.ended, hended.now.trans hnow, hended.pstate⟩

end Sys2Proof.Machine
end

section
/-! PROOFS. What the block's own engines write into a partition without a sealed carve-out (06 R175, R176, 07 R195 to R197): it leaves as
a tier 0 write, or as WRITEs to the home of an aperture. -/

namespace Sys2Proof.Machine

/-- A write's traces: the commands, partitions and sessions are as they were. -/
structure Wrote (s t : State) : Prop where
  quiet : Quiet s t
  only : OnlyIn [.gl, .sill, .out] s t

section
variable {s t u : State}

theorem Wrote.refl (s : State) : Wrote s s := ⟨.rfl, .refl _ s⟩

theorem Wrote.trans (h : Wrote s t) (k : Wrote t u) : Wrote s u := ⟨h.quiet.trans k.quiet, h.only.trans k.only⟩

theorem wrote_emit (s : State) (o : Output) : Wrote s (s.emit o) := ⟨quiet_emit s o, (only_emit s o).mono (by simp)⟩

theorem wrote_withSill (s : State) (x : Sill) : Wrote s { s with sill := x } :=
  ⟨⟨rfl, rfl, rfl, rfl, rfl, rfl, rfl, rfl, rfl, fun _ h => .inl h, id, rfl⟩, (only_withSill s x).mono (by simp)⟩

theorem wrote_addParcel {f : Nat → TxParcel} (hf : ∀ i, (f i).eligibleAt = none) (s : State) : Wrote s (s.addParcel f) :=
  ⟨quiet_addParcel s f hf, (only_addParcel s f).mono (by simp)⟩

theorem wrote_withNextId (s : State) (n : Nat) (x : Sill) : Wrote s { s with gl := { s.gl with nextId := n }, sill := x } :=
  ⟨⟨rfl, rfl, rfl, rfl, rfl, rfl, rfl, rfl, rfl, fun _ h => .inl h, id, rfl⟩,
    ((only_withGl s { s.gl with nextId := n }).mono (by simp)).trans ((only_withSill _ x).mono (by simp))⟩

theorem wrote_sendPool (part home cls : Nat) (q : RemoteReq) (m : PoolMsg) (s : State) : Wrote s (sendPool part home cls q m s) := by
  unfold sendPool
  dsimp only
  split
  · exact wrote_withNextId s _ _
  · exact (wrote_withSill s _).trans (wrote_addParcel (fun _ => rfl) _)

theorem wrote_remoteWrite (part addr cls : Nat) (access : Option Nat) (data : List Byte) (s : State) :
    Wrote s (remoteWrite part addr cls access data s) := by
  refine List.foldlRecOn _ _ (Wrote.refl s) fun u hu i _ => hu.trans ?_
  dsimp only
  split
  · exact (wrote_withSill u _).trans (wrote_sendPool _ _ _ _ _ _)
  · exact wrote_withSill u _

/-- No range covers a byte where there is none. -/
theorem rangesCover_nil {n : Nat} (h : n ≠ 0) (gran off : Nat) : rangesCover [] gran off n = false := by
  have hfirst : ∃ i, i ≤ (off + n - 1) / gran - off / gran := ⟨0, Nat.zero_le _⟩
  simpa [rangesCover, h, inRanges] using hfirst

/-- Without sealed carve-outs no bytes of a partition lie in one. -/
theorem place_ne_sealed {part n : Nat} (h1 : (s.part part).t1 = []) (h2 : (s.part part).t2 = []) (hn : n ≠ 0) (addr a : Nat) :
    place s part addr n ≠ .sealed a := by
  intro h
  simp only [place, h1, h2, rangesCover_nil hn, Bool.and_false, Bool.false_eq_true, if_false] at h
  repeat' split at h
  all_goals cases h

theorem wrote_writeMem {part : Nat} (h1 : (s.part part).t1 = []) (h2 : (s.part part).t2 = []) (addr : Nat) (data : List Byte) :
    Wrote s (writeMem part addr data s) := by
  unfold writeMem
  split
  case isTrue => exact .refl s
  case isFalse hdata =>
    have hlen : data.length ≠ 0 := fun h => hdata (by rw [List.length_eq_zero_iff.mp h]; rfl)
    split
    case h_1 => exact .refl s
    case h_2 => exact wrote_emit s _
    case h_3 => exact wrote_remoteWrite _ _ _ _ _ s
    case h_4 a ha => exact absurd ha (place_ne_sealed h1 h2 hlen addr a)

end

end Sys2Proof.Machine
end

section
/-! PROOFS. UNFOLD (05 R162 to R168, 07 R206, R207): its start, and the unit that ends it. -/

namespace Sys2Proof.Machine

section
variable {s u : State} {r : CmdRef} {p : Packet}

/-! ### The start (R164, R168, R206) -/

theorem lacksSillResv_congr (h : u.cal = s.cal) (part cls : Nat) : lacksSillResv u part cls = lacksSillResv s part cls := by
  rw [lacksSillResv, State.resvOf, h, lacksSillResv, State.resvOf]

theorem keyFor_congr (h : u.kp = s.kp) (r : CmdRef) (slot : Nat) : u.keyFor r slot = s.keyFor r slot := by
  rw [State.keyFor, h, State.keyFor]

/-- The image, tags, output and scales of an UNFOLD that reads `n` units from `u0` lie in its partition's carve-out. -/
structure UnfoldInCarve (s : State) (part : Nat) (p : Packet) (u0 n : Nat) : Prop where
  image : s.inCarve part (pf p 24 6 + 4096 * u0) (4096 * n) = true
  tags : s.inCarve part (pf p 30 6 + 16 * u0) (16 * n) = true
  output : s.inCarve part (pf p 36 6) (32 * pf p 60 2 * unfoldWidth (pf p 21 1)) = true
  scales : pbit p 22 0 = true → s.inCarve part (pf p 42 6) (pf p 60 2) = true

theorem UnfoldInCarve.congr {part u0 n : Nat} (h : UnfoldInCarve s part p u0 n) (hc : ∀ part a n, u.inCarve part a n = s.inCarve part a n) :
    UnfoldInCarve u part p u0 n :=
  ⟨(hc _ _ _).trans h.image, (hc _ _ _).trans h.tags, (hc _ _ _).trans h.output, fun hs => (hc _ _ _).trans (h.scales hs)⟩

/-- An UNFOLD has the parameters of its packet, and the units from `u0` on are pending. -/
structure Unfolding.StartedBy (x : Unfolding) (r : CmdRef) (p : Packet) (u0 n : Nat) : Prop where
  ref : x.ref = r
  imageAddr : x.imageAddr = pf p 24 6
  tagAddr : x.tagAddr = pf p 30 6
  outAddr : x.outAddr = pf p 36 6
  first : x.first = pf p 56 4
  blocks : x.blocks = pf p 60 2
  keySlot : x.keySlot = pbits p 62 0 10
  cls : x.cls = flagClass p
  pendingUnits : x.pendingUnits = (List.range n).map (fun k => u0 + k)

/-- Inline units with one more UNFOLD in progress. -/
def Inline.withUnfold (u : Unfolding) (x : Inline) : Inline := { x with unfolds := x.unfolds ++ [u] }

theorem startUnfold_of_ready {k : KeySlot} {u0 n : Nat} (hr : unitRange (pf p 20 1) (pf p 56 4) (pf p 60 2) = (u0, n))
    (hcarve : UnfoldInCarve s r.part p u0 n) (himage : pf p 24 6 + 4096 * u0 < apBase) (htags : pf p 30 6 + 16 * u0 < apBase)
    (hresv : lacksSillResv s r.part (flagClass p) = false) (hkey : s.keyFor r (pbits p 62 0 10) = some k)
    (hattr : bitOf k.attr.toNat 3 = true) :
    ∃ x, startUnfold r p s = withInl (s.inl.withUnfold x) (hold r s) ∧ x.StartedBy r p u0 n := by
  have hscales : (pbit p 22 0 && !s.inCarve r.part (pf p 42 6) (pf p 60 2)) = false := by
    cases hsep : pbit p 22 0 with
    | false => rfl
    | true => rw [hcarve.scales hsep]; rfl
  unfold startUnfold
  simp only [hr]
  rw [if_neg (by simp [hcarve.image, hcarve.tags, hcarve.output, hscales]),
    if_neg (by simp [Nat.not_le.mpr himage, Nat.not_le.mpr htags]), if_neg (by simp [hresv]), hkey]
  simp only [hattr, Bool.not_true, Bool.false_eq_true, if_false]
  exact ⟨_, rfl, rfl, rfl, rfl, rfl, rfl, rfl, rfl, rfl, rfl⟩

theorem exec_unfold {k : KeySlot} {u0 n : Nat} (hc : s.calm) (hp : passes .unfold p s)
    (hr : unitRange (pf p 20 1) (pf p 56 4) (pf p 60 2) = (u0, n)) (hcarve : UnfoldInCarve s p.part p u0 n)
    (himage : pf p 24 6 + 4096 * u0 < apBase) (htags : pf p 30 6 + 16 * u0 < apBase)
    (hresv : lacksSillResv s p.part (flagClass p) = false) (hkey : s.keyFor (named .unfold p s) (pbits p 62 0 10) = some k)
    (hattr : bitOf k.attr.toNat 3 = true) :
    ∃ t x, exec (.unfold p) s = .next t ∧ t.inl.unfolds = s.inl.unfolds ++ [x] ∧ x.StartedBy (named .unfold p s) p u0 n ∧
      (t.inflight? (named .unfold p s)).isSome = true ∧ OnlyIn (.inl :: replyAreas) s t := by
  obtain ⟨u, hu, hstart, honly⟩ := submit_of_ctx .none hc hp (srcIsCtx_of_passes (by simp [Op.issuers]) hp)
  have hinl : u.inl = s.inl := hstart.only .inl (by decide)
  obtain ⟨x, hrow, hby⟩ := startUnfold_of_ready (s := u) (r := named .unfold p s) hr
    (hcarve.congr (inCarve_congr (hstart.only .parts (by decide)) (hstart.only .sill (by decide)) hstart.quiet.coord)) himage htags
    ((lacksSillResv_congr (hstart.only .cal (by decide)) _ _).trans hresv) ((keyFor_congr (hstart.only .kp (by decide)) _ _).trans hkey)
    hattr
  rw [hinl] at hrow
  have hcalm := ((quiet_hold (named .unfold p s) u).trans (quiet_withInl (s.inl.withUnfold x) _)).calm (hstart.quiet.calm hc)
  have hareas : OnlyIn (.inl :: replyAreas) u
      (withInl (s.inl.withUnfold x) (hold (named .unfold p s) u)) :=
    ((only_hold _ _).mono (by simp)).trans ((only_withInl _ _).mono (by simp))
  exact ⟨_, x, (congrArg (settled s) (hu.trans hrow)).trans (settled_calm hcalm), rfl, hby, inflight?_hold_isSome (named .unfold p s) u,
    ((honly.mono (by simp)).trans hareas).queue _⟩

end

/-! ### UNFOLD_UNIT (R165, R207) -/

section
variable {s : State} {u : Unfolding} {part slot seq unit : Nat} {data : WeightUnit}

/-- Without injections a unit is unfolded on its lane pair as it comes. -/
theorem unfoldTested_of_inService (hi : s.tests.injections = []) (hb : s.blocked (0x300 + data.lanePair % 72) = false) :
    unfoldTested part slot seq unit data s = unfoldUnit part slot seq unit data s := by
  unfold unfoldTested
  dsimp only
  rw [hb, if_neg (by decide), withTwins_of_none hi]

/-- Inline units without the UNFOLD of a command. -/
def Inline.withoutUnfold (r : CmdRef) (x : Inline) : Inline := { x with unfolds := x.unfolds.filter (fun u => u.ref ≠ r) }

theorem dropUnfold_eq (r : CmdRef) (s : State) : s.dropUnfold r = withInl (s.inl.withoutUnfold r) s := rfl

/-- The only UNFOLD leaves none. -/
theorem unfolds_withoutUnfold {x : Inline} (h : x.unfolds = [u]) : (x.withoutUnfold u.ref).unfolds = [] := by
  simp [Inline.withoutUnfold, h]

/-- A pending unit whose read and twins are good is judged by its tag. -/
theorem unfoldUnit_of_read (hrun : s.running = true) (hu : s.inl.unfolds = [u]) (hpart : u.ref.part = part) (hslot : u.ref.slot = slot)
    (hseq : u.ref.seq = seq) (hpend : u.pendingUnits = [unit]) (hread : data.uncorrectable = none) (htw : data.twinsOk = true) :
    unfoldUnit part slot seq unit data s =
      if data.tagOk then writeUnit u unit data.plain s
      else endJob part 2 slot (complete u.ref stJobFaulted (detailOf 2) (s.dropUnfold u.ref)) := by
  cases htag : data.tagOk <;> simp [unfoldUnit, hu, hpart, hslot, hseq, hrun, hpend, hread, htw, htag]

/-- The first block of a unit that an UNFOLD reads. -/
def Unfolding.unitLo (u : Unfolding) (unit : Nat) : Nat := max u.first (unit * mxBlocks (bitsOf u.desc.toNat 0 8))

/-- The end of the blocks of a unit that an UNFOLD reads. -/
def Unfolding.unitHi (u : Unfolding) (unit : Nat) : Nat := min (u.first + u.blocks) ((unit + 1) * mxBlocks (bitsOf u.desc.toNat 0 8))

/-- An UNFOLD whose unit has been verified and written. -/
def Unfolding.withVerified (unit : Nat) (plain : List Byte) (u : Unfolding) : Unfolding :=
  { u with
    pendingUnits := u.pendingUnits.filter (fun x => x ≠ unit)
    verified := u.verified + 1
    written := u.written + (u.unitHi unit - u.unitLo unit)
    saturations := u.saturations + (unfoldBytes u unit plain).2 }

/-- The elements of a unit written, and its scales where they are separate (R165, R167). -/
def unitWritten (u : Unfolding) (unit : Nat) (plain : List Byte) (s : State) : State :=
  let t := writeMem u.ref.part (u.outAddr + 32 * (u.unitLo unit - u.first) * unfoldWidth (bitsOf u.desc.toNat 8 8))
    (unfoldBytes u unit plain).1 s
  if bitOf u.desc.toNat 16 then
    writeMem u.ref.part (u.scaleAddr + (u.unitLo unit - u.first))
      ((plain.drop (3840 + u.unitLo unit - unit * mxBlocks (bitsOf u.desc.toNat 0 8))).take (u.unitHi unit - u.unitLo unit)) t
  else t

theorem wrote_unitWritten (h1 : (s.part u.ref.part).t1 = []) (h2 : (s.part u.ref.part).t2 = []) (unit : Nat) (plain : List Byte) :
    Wrote s (unitWritten u unit plain s) := by
  have hout := wrote_writeMem h1 h2 (u.outAddr + 32 * (u.unitLo unit - u.first) * unfoldWidth (bitsOf u.desc.toNat 8 8))
    (unfoldBytes u unit plain).1
  unfold unitWritten
  dsimp only
  split
  · have hpart := congrArg (fun l => List.getD l u.ref.part Part.reset) (hout.only .parts (by decide))
    exact hout.trans (wrote_writeMem ((congrArg Part.t1 hpart).trans h1) ((congrArg Part.t2 hpart).trans h2) _ _)
  · exact hout

/-- Inline units whose UNFOLD of a command has become `u`. -/
def Inline.setUnfold (r : CmdRef) (u : Unfolding) (x : Inline) : Inline :=
  { x with unfolds := x.unfolds.map (fun y => if y.ref = r then u else y) }

/-- A unit written and counted. -/
def unitDone (u : Unfolding) (unit : Nat) (plain : List Byte) (s : State) : State :=
  withInl ((unitWritten u unit plain s).inl.setUnfold u.ref (u.withVerified unit plain)) (unitWritten u unit plain s)

theorem writeUnit_eq (u : Unfolding) (unit : Nat) (plain : List Byte) (s : State) :
    writeUnit u unit plain s =
      if (u.withVerified unit plain).pendingUnits.isEmpty && (unitDone u unit plain s).inl.unfolds.any (fun x => x.ref = u.ref) then
        finishUnfold (u.withVerified unit plain) (unitDone u unit plain s)
      else unitDone u unit plain s := rfl

/-- The result of an UNFOLD: units verified, blocks written and saturations. -/
def Unfolding.result (u : Unfolding) : BitVec 128 := resultOf [(16, 4, u.verified), (20, 4, u.written), (24, 4, u.saturations)]

theorem finishUnfold_of_class (h : u.cls ≠ 4) (s : State) :
    finishUnfold u s = complete u.ref stOk u.result (withInl (s.inl.withoutUnfold u.ref) s) := by
  simp only [finishUnfold, if_neg h, Nat.not_lt_zero, if_false]
  rfl

/-- A write leaves the source of a command as it was. -/
theorem Wrote.answersTo {t : State} {r : CmdRef} (h : Wrote s t) : t.answersTo r = s.answersTo r := by
  have hcmds : t.cmds = s.cmds := h.only .cmds (by decide)
  exact answersTo_congr (by rw [State.genOf, hcmds, State.genOf]) (by rw [ctx?_congr hcmds])
    (congrArg List.length (h.only .parts (by decide))) (congrArg Vestibule.sessions (h.only .vs (by decide)))

/-- A unit written and counted, and its UNFOLD no longer in progress. -/
def unfoldEnded (u : Unfolding) (unit : Nat) (plain : List Byte) (s : State) : State :=
  withInl ((unitDone u unit plain s).inl.withoutUnfold u.ref) (unitDone u unit plain s)

/-- Written, the only UNFOLD is the only one still. -/
theorem unfolds_unitDone (hu : s.inl.unfolds = [u]) {plain : List Byte} (hw : Wrote s (unitWritten u unit plain s)) :
    (unitDone u unit plain s).inl.unfolds = [u.withVerified unit plain] := by
  have hinl : (unitWritten u unit plain s).inl = s.inl := hw.only .inl (by decide)
  simp [unitDone, withInl, Inline.setUnfold, hinl, hu]

/-- The last unit of the only UNFOLD, of class 1 to 3, ends it. -/
theorem writeUnit_of_last {plain : List Byte} (hdone : (unitDone u unit plain s).inl.unfolds = [u.withVerified unit plain])
    (hpend : u.pendingUnits = [unit]) (hcls : u.cls ≠ 4) :
    writeUnit u unit plain s = complete u.ref stOk (u.withVerified unit plain).result (unfoldEnded u unit plain s) := by
  have hlast : (u.withVerified unit plain).pendingUnits = [] := by simp [Unfolding.withVerified, hpend]
  rw [writeUnit_eq, hdone, hlast, if_pos (by simp [Unfolding.withVerified]),
    finishUnfold_of_class (u := u.withVerified unit plain) hcls]
  rfl

end

/-- Settles O20: the unit's writes leave the command's source as it was, so the last unit's end replies; a failed tag ends the command
and then the job. -/
theorem unfoldStartsAndItsUnitsEndIt : Obligations.UnfoldStartsAndItsUnitsEndIt := by
  refine ⟨fun p s k u0 n hc hp hr himage htags hout hscales hia hta hresv hkey hattr => ?start,
    fun part slot seq unit data s u hc hrun hi hb hu hpart hslot hseq hpend hcls hread htw ha => ⟨fun htag h1 h2 => ?ends,
      fun htag _ hlen hps hrung => ?fails⟩⟩
  case start =>
    obtain ⟨t, x, ht, hx, hby, hflight, hareas⟩ := exec_unfold hc hp hr.symm ⟨himage, htags, hout, hscales⟩ hia hta hresv hkey hattr
    exact ⟨t, x, ht, hx, hby.ref, hby.imageAddr, hby.tagAddr, hby.outAddr, hby.first, hby.blocks, hby.keySlot, hby.cls, hby.pendingUnits,
      hflight, hareas⟩
  all_goals
    have hrow := (unfoldTested_of_inService hi hb).trans (unfoldUnit_of_read hrun hu hpart hslot hseq hpend hread htw)
    subst hpart
  case ends =>
    have hwrote := wrote_unitWritten h1 h2 unit data.plain
    have hdone := unfolds_unitDone hu hwrote
    have hcalm : (unfoldEnded u unit data.plain s).calm := (hwrote.quiet.trans ((quiet_withInl _ _).trans (quiet_withInl _ _))).calm hc
    have hnow : (unfoldEnded u unit data.plain s).now = s.now := congrArg Calendar.now (hwrote.only .cal (by decide))
    have hgone : (unfoldEnded u unit data.plain s).inl.unfolds = [] := unfolds_withoutUnfold (u := u.withVerified unit data.plain) hdone
    have hend := ended_complete hcalm (hwrote.answersTo.trans ha) stOk (u.withVerified unit data.plain).result
    rw [if_pos htag, writeUnit_of_last hdone hpend hcls] at hrow
    have hreplied := hend.replied
    rw [hnow] at hreplied
    exact ⟨_, (congrArg (settled s) hrow).trans (settled_calm hend.calm), (congrArg Inline.unfolds hend.inl).trans hgone, hend.ended,
      hreplied⟩
  case fails =>
    rw [if_neg (by simp [htag]), dropUnfold_eq] at hrow
    have hgone := unfolds_withoutUnfold hu
    have hend := endedWithJob_of_complete_self (p := u.ref.part) (r := u.ref) (s := withInl (s.inl.withoutUnfold u.ref) s)
      ((quiet_withInl _ s).calm hc) hlen hps hrung stJobFaulted (detailOf 2) 2 slot
    generalize endJob u.ref.part 2 slot _ = t at hend hrow
    exact ⟨_, (congrArg (settled s) hrow).trans (settled_calm hend.calm), (congrArg Inline.unfolds hend.inl).trans hgone, hend.ended,
      hend.pstate⟩

end Sys2Proof.Machine
end

section
/-! PROOFS. Accesses of Sill (06 R173 to R176, 08 R191): how one is accepted and answered while no other is outstanding. -/

namespace Sys2Proof.Machine

/-! ### Traces in Sill -/

/-- Only Sill has changed, and what has left the block: the block's own work is as it was. -/
structure SillServed (s t : State) : Prop where
  quiet : Quiet s t
  only : OnlyIn [.sill, .out] s t

section
variable {s t u : State}

theorem SillServed.refl (s : State) : SillServed s s := ⟨.rfl, .refl _ s⟩

theorem SillServed.trans (h : SillServed s t) (k : SillServed t u) : SillServed s u := ⟨h.quiet.trans k.quiet, h.only.trans k.only⟩

theorem served_withSill (s : State) (x : Sill) : SillServed s { s with sill := x } :=
  ⟨(wrote_withSill s x).quiet, (only_withSill s x).mono (by simp)⟩

theorem served_emit (s : State) (o : Output) : SillServed s (s.emit o) := ⟨quiet_emit s o, (only_emit s o).mono (by simp)⟩

theorem SillServed.part (h : SillServed s t) (p : Nat) : t.part p = s.part p := by
  rw [State.part, h.only .parts (by decide), State.part]

/-! ### One access outstanding (R174) -/

/-- The access in Sill is answered, and none is outstanding. -/
def accessAnswered (a : MemAccess) (port kind : Nat) (data : List Byte) (s : State) : State :=
  ({ s with sill := { s.sill with accesses := [] } }).emit
    (.memResponse port (64 * a.group + kind) (if kind = kData then data else List.replicate a.size 0))

theorem served_accessAnswered (a : MemAccess) (port kind : Nat) (data : List Byte) (s : State) :
    SillServed s (accessAnswered a port kind data s) := (served_withSill s _).trans (served_emit _ _)

theorem access?_of_alone {a : MemAccess} (h : s.sill.accesses = [a]) : s.access? a.id = some a := by
  simp [State.access?, h]

theorem modAccess_of_alone {a : MemAccess} (h : s.sill.accesses = [a]) (f : MemAccess → MemAccess) :
    s.modAccess a.id f = { s with sill := { s.sill with accesses := [f a] } } := by
  simp [State.modAccess, h]

/-- The only access outstanding is answered at once: no earlier one of its port and group holds its response. -/
theorem answerAccess_of_alone {a : MemAccess} {port : Nat} (h : s.sill.accesses = [a]) (hp : a.port = some port) (kind : Nat)
    (data : List Byte) : answerAccess a.id kind data s = accessAnswered a port kind data s := by
  simp only [answerAccess, access?_of_alone h, hp, modAccess_of_alone h]
  simp [flushPort, State.dropAccess, accessAnswered]

end

/-! ### Acceptance (R173, R174) -/

section
variable {s : State} {port group part addr op size cls : Nat} {write : Bool} {data : List Byte} {a : MemAccess}

/-- An access as it is accepted at a port. -/
def newAccess (port group part addr size : Nat) (write : Bool) (data : List Byte) (cls : Nat) (s : State) : MemAccess :=
  { id := s.sill.nextAccess, port := some port, group := group, part := part, addr := addr, size := size, write := write, data := data
    cls := cls, issuedAt := s.now, begun := false, recordWait := false, reseal := false, need := [], got := [], retried := false
    answer := none }

/-- Sill with one more access. -/
def withAccess (a : MemAccess) (s : State) : State :=
  { s with sill := { s.sill with accesses := s.sill.accesses ++ [a], nextAccess := s.sill.nextAccess + 1 } }

theorem addAccess_eq (port group part addr size : Nat) (write : Bool) (data : List Byte) (cls : Nat) (s : State) :
    addAccess (some port) group part addr size write data cls s =
      ((newAccess port group part addr size write data cls s).id, withAccess (newAccess port group part addr size write data cls s) s) :=
  rfl

theorem accesses_withAccess (h : s.sill.accesses = []) (a : MemAccess) : (withAccess a s).sill.accesses = [a] := by
  simp [withAccess, h]

theorem memOp_size (h : memOp op = some (write, size)) : 64 ≤ size := by
  have hpow : ∀ k, 1 ≤ k → 64 ≤ 32 * 2 ^ k := fun k hk => by
    have : 2 ^ 1 ≤ 2 ^ k := Nat.pow_le_pow_right (by decide) hk
    omega
  unfold memOp at h
  split at h
  case isTrue hr =>
    simp only [Bool.and_eq_true, decide_eq_true_eq] at hr
    obtain ⟨-, rfl⟩ := Prod.mk.inj (Option.some.inj h)
    exact hpow _ hr.1
  case isFalse =>
    split at h
    case isTrue hw =>
      simp only [Bool.and_eq_true, decide_eq_true_eq] at hw
      obtain ⟨-, rfl⟩ := Prod.mk.inj (Option.some.inj h)
      exact hpow _ (by omega)
    case isFalse => cases h

/-- A tier 0 place ends below the tier's end (R171). -/
theorem end_of_place_tier0 {n b : Nat} (h : place s part addr n = .tier0 b) : addr + n ≤ t0End := by
  by_contra hlt
  simp only [place, if_neg hlt] at h
  repeat' split at h
  all_goals cases h

theorem groupOf_lt (addr d : Nat) : groupOf addr d < 3 := by
  unfold groupOf
  repeat' split
  all_goals omega

theorem groupOf_tier0 (h : addr < t0End) (d : Nat) : groupOf addr d = 0 := if_pos h

/-- The group of an access's response: the draw decides where no range does (R174, log 7). -/
abbrev drawnGroup (addr : Nat) (s : State) : Nat := groupOf addr s.draw.1

/-- An aligned access in the tier 0 carve-out goes to its guard lane (R173, R176). -/
theorem dieAccess_of_tier0 (hr : s.running = true) (hk : s.kp.ready = true) (hop : memOp op = some (write, size))
    (ha : addr % size = 0) (hf : (s.part part).pstate ≠ .faulted) (hs : (s.part part).struck = false)
    (hplace : place s part addr size = .tier0 addr) :
    dieAccess port part addr op data s =
      tier0Access s.sill.nextAccess (withAccess (newAccess port (drawnGroup addr s) part addr size write data (s.accessClass part)
        (countSill part size s.draw.2)) (countSill part size s.draw.2)) := by
  simp [dieAccess, hr, hk, hop, ha, hf, hs, hplace, drawnGroup]
  rfl

/-- An aligned access outside every carve-out is refused and logged (R176). -/
theorem dieAccess_of_refused (hr : s.running = true) (hk : s.kp.ready = true) (hop : memOp op = some (write, size))
    (ha : addr % size = 0) (hf : (s.part part).pstate ≠ .faulted) (hs : (s.part part).struck = false)
    (hplace : place s part addr size = .refused) :
    dieAccess port part addr op data s = refuseAccess port (drawnGroup addr s) part addr size kRefused true s.draw.2 := by
  simp [dieAccess, hr, hk, hop, ha, hf, hs, hplace, drawnGroup]

/-! ### The guard lane (R175, R191) -/

/-- The plaintext of a write held until its acknowledgement, and its sectors sent to the stack. -/
def stackWritten (a : MemAccess) (s : State) : State :=
  ({ s with sill := { s.sill with heldLines := { access := a.id, part := a.part, addr := a.addr, data := a.data } :: s.sill.heldLines } }).emit
    (.stackWrite a.addr (encodeSectors (a.size / 64) a.data))

/-- An access whose reads have been issued with no line at hand. -/
def MemAccess.issued (a : MemAccess) : MemAccess := { a with begun := true, got := [] }

theorem tier0Access_of_write (h : s.sill.accesses = [a]) (hp : a.port = some port) (hw : a.write = true) :
    tier0Access a.id s = accessAnswered a port kWack [] (stackWritten a s) := by
  simp only [tier0Access, access?_of_alone h, hw, if_true]
  exact answerAccess_of_alone (s := stackWritten a s) h hp kWack []

theorem tier0Access_of_read (h : s.sill.accesses = [a]) (hw : a.write = false) (hheld : s.sill.heldLines = []) (hsize : 64 ≤ a.size) :
    tier0Access a.id s = ({ s with sill := { s.sill with accesses := [a.issued] } }).emit (.stackRead a.addr a.id) := by
  have hfirst : ∃ i, i < a.size / 64 := ⟨0, by omega⟩
  simp [tier0Access, access?_of_alone h, hw, hheld, hfirst, modAccess_of_alone h, MemAccess.issued]

/-! ### The answers of the rows -/

theorem quiet_countSill (part size : Nat) (s : State) : Quiet s (countSill part size s) := quiet_modView _ _ _

/-- What an accepted access finds: its partition's account and a draw. -/
theorem only_counted (part size : Nat) (s : State) : OnlyIn [.parts, .fresh] s (countSill part size s.draw.2) :=
  ((only_draw s).mono (by simp)).trans ((only_modView _ _ _).mono (by simp))

theorem quiet_counted (part size : Nat) (s : State) : Quiet s (countSill part size s.draw.2) :=
  (quiet_draw s).trans (quiet_countSill part size _)

/-- A row whose effect, on the state that counts an access, is Sill's alone answers that effect. -/
theorem settled_counted {w : State} (hc : s.calm) (hw : SillServed (countSill part size s.draw.2) w) :
    settled s w = .next { w with pending := s.pending } ∧ OnlyIn [.sill, .parts, .fresh, .out] s { w with pending := s.pending } :=
  ⟨settled_calm (((quiet_counted part size s).trans hw.quiet).calm hc),
    (((only_counted part size s).mono (by simp)).trans (hw.only.mono (by simp))).queue _⟩

/-- A refused access is logged and answered (R14, R174, R176). -/
theorem refuseAccess_of_none (h : s.sill.accesses = []) (port group part addr size : Nat) :
    ∃ u a, refuseAccess port group part addr size kRefused true s = accessAnswered a port kRefused [] (withAccess a u) ∧
      u = plumbEvent (0xB0 + part) 0 0 (some part) false 0 (some part) s ∧ a.group = group ∧ a.size = size := by
  have hlog := reported_plumbEvent (show 0xB0 + part ≠ 1 by omega) 0 0 (some part) false 0 (some part) s
  have hnone : (plumbEvent (0xB0 + part) 0 0 (some part) false 0 (some part) s).sill.accesses = [] := by
    rw [hlog.only .sill (by decide)]
    exact h
  refine ⟨_, newAccess port group part addr size false [] 0 (plumbEvent (0xB0 + part) 0 0 (some part) false 0 (some part) s), ?_, rfl,
    rfl, rfl⟩
  simp only [refuseAccess, if_true, addAccess_eq]
  exact answerAccess_of_alone (accesses_withAccess hnone _) rfl kRefused []

end

/-- Settles O21: with no access outstanding the new one is the only one, so its guard lane's answer leaves at once, and a read is all
that stays; a refused access is logged first. -/
theorem memoryAccessesOfTheDieAreServed : Obligations.MemoryAccessesOfTheDieAreServed := by
  refine ⟨fun port part addr op size data s hc hr hk hn hop ha hf hs hplace => ?write,
    fun port part addr op size s hc hr hk hn hheld hop ha hf hs hplace => ?read,
    fun port part addr op size write data s hc hr hk hn hop ha hf hs hplace hp => ?refused⟩
  case write =>
    have hsize := memOp_size hop
    have hend := end_of_place_tier0 hplace
    have hgroup : drawnGroup addr s = 0 := groupOf_tier0 (by omega) _
    have hrow := (dieAccess_of_tier0 (port := port) (data := data) hr hk hop ha hf hs hplace).trans
      (tier0Access_of_write (port := port) (accesses_withAccess (s := countSill part size s.draw.2) hn _) rfl rfl)
    obtain ⟨ht, honly⟩ := settled_counted (part := part) (size := size) hc (((served_withSill _ _).trans
      ((served_withSill _ _).trans (served_emit _ _))).trans (served_accessAnswered _ _ _ _ _))
    refine ⟨_, (congrArg (settled s) hrow).trans ht, ?_, ?_, rfl, honly⟩
    · simp [accessAnswered, newAccess, hgroup]
    · simp [accessAnswered, newAccess]
  case read =>
    have hrow := (dieAccess_of_tier0 (port := port) (data := []) hr hk hop ha hf hs hplace).trans
      (tier0Access_of_read (accesses_withAccess (s := countSill part size s.draw.2) hn _) rfl hheld (memOp_size hop))
    obtain ⟨ht, honly⟩ := settled_counted (part := part) (size := size) hc ((served_withSill _ _).trans
      ((served_withSill _ _).trans (served_emit _ _)))
    exact ⟨_, _, (congrArg (settled s) hrow).trans ht, rfl, rfl, rfl, rfl, rfl, rfl, rfl, rfl, rfl, List.mem_cons_self, honly⟩
  case refused =>
    have hsrc : 0xB0 + part ≠ 1 := by omega
    obtain ⟨u, a, hrefused, hu, hgroup, hsize⟩ := refuseAccess_of_none (s := s.draw.2) hn port (drawnGroup addr s) part addr size
    have hrow := (dieAccess_of_refused (port := port) (data := data) hr hk hop ha hf hs hplace).trans hrefused
    have hlog := reported_plumbEvent hsrc 0 0 (some part) false 0 (some part) s.draw.2
    have hsticky := sticky_plumbEvent hsrc (by omega) 0 0 (some part) 0 (some part) s.draw.2
    rw [← hu] at hlog hsticky
    have hcalm : u.calm := hlog.noNewWork.calm (.of_gl (hlog.only .gl (by decide))) ((quiet_draw s).calm hc)
    have hserved := (served_withSill u _).trans (served_accessAnswered a port kRefused [] (withAccess a u))
    refine ⟨_, drawnGroup addr s, groupOf_lt _ _, (congrArg (settled s) hrow).trans (settled_calm (hserved.quiet.calm hcalm)), ?_, rfl,
      hsticky⟩
    simp [accessAnswered, hgroup, hsize]

end Sys2Proof.Machine
end

section
/-! PROOFS. Failures of a partition's memory (06 R207, 14 R561): whatever state its job is in, what they leave of the block. -/

namespace Sys2Proof.Machine

/-- What a failure of memory leaves alone: of Sill all but the requests that wait for an answer, time, and GL_COORD. -/
structure MemFailed (s t : State) : Prop where
  calm : s.calm → t.calm
  sill : t.sill = { s.sill with remote := t.sill.remote }
  cal : t.cal = s.cal
  coord : t.gl.coord = s.gl.coord

section
variable {s t u : State}

theorem MemFailed.refl (s : State) : MemFailed s s := ⟨fun h => h, rfl, rfl, rfl⟩

theorem MemFailed.trans (h : MemFailed s t) (k : MemFailed t u) : MemFailed s u :=
  ⟨fun hc => k.calm (h.calm hc), by rw [k.sill, h.sill], k.cal.trans h.cal, k.coord.trans h.coord⟩

theorem MemFailed.of_quiet (h : Quiet s t) (hs : t.sill = s.sill) (hc : t.cal = s.cal) : MemFailed s t :=
  ⟨h.calm, by rw [hs], hc, h.coord⟩

/-- An event's traces and a partition's new state: nothing that has left is taken back. -/
structure Marked (s t : State) : Prop where
  work : NoNewWork s t
  only : OnlyIn [.parts, .plumb, .mail, .out] s t
  out : ∀ o ∈ s.out, o ∈ t.out

theorem Marked.refl (s : State) : Marked s s := ⟨.refl s, .refl _ s, fun _ h => h⟩

theorem Marked.trans (h : Marked s t) (k : Marked t u) : Marked s u :=
  ⟨h.work.trans k.work, h.only.trans k.only, fun o ho => k.out o (h.out o ho)⟩

theorem Reported.marked (h : Reported s t) : Marked s t := ⟨h.noNewWork, h.only.mono (by simp), h.out⟩

theorem Marked.calm (h : Marked s t) (hc : s.calm) : t.calm := h.work.calm (.of_gl (h.only .gl (by decide))) hc

theorem Marked.memFailed (h : Marked s t) : MemFailed s t :=
  ⟨h.calm, by rw [h.only .sill (by decide)], h.only .cal (by decide), h.work.coord⟩

theorem marked_modPart (p : Nat) (f : Part → Part) (s : State) : Marked s (s.modPart p f) :=
  ⟨noNewWork_modPart p f s, (only_modPart s p f).mono (by simp), fun _ h => h⟩

theorem marked_setPState (p : Nat) (new : PState) (s : State) : Marked s (setPState p new s) := by
  unfold setPState
  dsimp only
  split
  · exact .refl s
  · exact (marked_modPart p _ s).trans (notified_noticePart _ _ _ _).reported.marked

/-- The end of a job, absorbed or not (R561). -/
theorem marked_endJob (p cause ctx : Nat) (s : State) : Marked s (endJob p cause ctx s) := by
  have hsrc : 0x90 + p ≠ 1 := by omega
  unfold endJob
  dsimp only
  split
  · exact ((reported_plumbLog _ _ _ _ _ _ s).trans (reported_plumbThreshold hsrc _ _)).marked
  · exact ((reported_plumbLog _ _ _ _ _ _ s).marked.trans (marked_setPState _ _ _)).trans (reported_plumbThreshold hsrc _ _).marked

theorem memFailed_complete (r : CmdRef) (st : Nat) (v : BitVec 128) (s : State) : MemFailed s (complete r st v s) :=
  have h := only_complete r st v s
  .of_quiet (quiet_complete r st v s) (h .sill (by decide)) (h .cal (by decide))

/-- What the end of a partition's class 0x6 commands leaves (R207). -/
structure Class6Ended (s t : State) : Prop where
  failed : MemFailed s t
  pstates : ∀ p, (t.part p).pstate = (s.part p).pstate

theorem Class6Ended.trans (h : Class6Ended s t) (k : Class6Ended t u) : Class6Ended s u :=
  ⟨h.failed.trans k.failed, fun p => (k.pstates p).trans (h.pstates p)⟩

theorem class6Ended_foldl {α : Type} (f : State → α → State) (hf : ∀ u a, Class6Ended u (f u a)) (l : List α) (s : State) :
    Class6Ended s (l.foldl f s) :=
  List.foldlRecOn l f ⟨.refl s, fun _ => rfl⟩ fun u hu a _ => hu.trans (hf u a)

theorem class6Ended_complete (r : CmdRef) (st : Nat) (v : BitVec 128) (s : State) : Class6Ended s (complete r st v s) :=
  ⟨memFailed_complete r st v s, (noted_complete r st v s).pstate⟩

/-- The state in which the class 0x6 commands of a partition are no longer in progress. -/
def class6Dropped (p : Nat) (s : State) : State :=
  { s with
    inl := { s.inl with unfolds := s.inl.unfolds.filter (fun u => u.ref.part ≠ p) }
    sill := { s.sill with remote := s.sill.remote.filter (fun q => !(q.part = p && q.ref.isSome)) } }

theorem class6Ended_dropped (p : Nat) (s : State) : Class6Ended s (class6Dropped p s) :=
  ⟨⟨((quiet_withInl (class6Dropped p s).inl s).trans (wrote_withSill _ (class6Dropped p s).sill).quiet).calm, rfl, rfl, rfl⟩,
    fun _ => rfl⟩

theorem class6Ended_endClass6 (p cause : Nat) (s : State) : Class6Ended s (endClass6 p cause s) := by
  refine ((class6Ended_dropped p s).trans (class6Ended_foldl _ (fun u x => class6Ended_complete _ _ _ u) _ _)).trans
    (class6Ended_foldl _ (fun u q => ?_) _ _)
  split
  · exact class6Ended_complete _ _ _ u
  · exact ⟨.refl u, fun _ => rfl⟩

theorem memFailed_memFail {src : Nat} (h : src ≠ 1) (p cause : Nat) (s : State) : MemFailed s (memFail p src cause s) :=
  ((reported_plumbEvent h _ _ _ _ _ _ s).marked.trans (marked_endJob p cause 0 _)).memFailed.trans (class6Ended_endClass6 p cause _).failed

/-- A failure of the memory of a partition whose job goes on ends that job (R207, R561). -/
theorem pstate_memFail {src p : Nat} (h : src ≠ 1) (hlen : p < s.parts.length) (hp : (s.part p).pstate = .sealed)
    (hrung : (s.part p).view.rungActive = false) (cause : Nat) : ((memFail p src cause s).part p).pstate = .faulted := by
  have hparts := (reported_plumbEvent h 0 4 (some p) true cause (some p) s).only .parts (by decide)
  have hpart : (plumbEvent src 0 4 (some p) true cause (some p) s).part p = s.part p :=
    congrArg (fun l => List.getD l p Part.reset) hparts
  have hjob := jobEnded_endJob (p := p) (s := plumbEvent src 0 4 (some p) true cause (some p) s)
    (hlen.trans_eq (congrArg List.length hparts).symm) (by rw [hpart, hp]) (by rw [hpart, hrung]) cause 0
  exact ((class6Ended_endClass6 p cause _).pstates p).trans hjob.pstate

end

end Sys2Proof.Machine
end

section
/-! PROOFS. Answers of the stacks, controllers and sleds (06 R174, R179, R187, R191 to R194): what one makes of the only access
outstanding. -/

namespace Sys2Proof.Machine

section
variable {s : State} {a : MemAccess} {port : Nat} {d : List Byte} {c : Bool}

/-! ### The tier 0 code (R179) -/

/-- A sector that decodes counts where it was corrected. -/
def correctionCounted (c : Bool) (s : State) : State :=
  { s with sill := { s.sill with corrected := if c then bump 65535 s.sill.corrected else s.sill.corrected } }

theorem decodeSector_of_good {g : Nat} {first : Sector} (h : rsDecode (s.lane g).retired first = some (d, c)) (second : Sector) :
    decodeSector g first second s = (some d, correctionCounted c s) := by
  cases c <;> simp [decodeSector, h, correctionCounted]

theorem decodeSectors_one {addr : Nat} {sec : Sector} (h : rsDecode (s.lane (laneOf addr)).retired sec = some (d, c))
    (second : List Sector) : decodeSectors addr 1 [sec] second s = (some d, correctionCounted c s) := by
  simp [decodeSectors, decodeSector_of_good h]

/-- Bytes put over a whole access are its data. -/
theorem assemble_whole {n : Nat} (hd : d.length = n) (addr : Nat) : assemble addr n [(addr, d)] = d := by
  refine List.ext_getElem (by simp [assemble, splice, hd]) fun i hi hi' => ?_
  simp [assemble, splice, hi']

/-! ### Rows without injections (R523) -/

theorem stackAnswerTested_of_none (hi : s.tests.injections = []) (id : Nat) (first second : List Sector) (late : Bool) :
    stackAnswerTested id first second late s = stackAnswer id first second late s := by
  unfold stackAnswerTested
  split
  next h => rw [stackAnswer, h]
  · simp [State.stalled, hi, armed_eq_none hi]

theorem withSealed_of_none (hi : s.tests.injections = []) (tile : Nat) (checkOk twinsOk : Bool) (f : Bool → Bool → State → State) :
    withSealed tile checkOk twinsOk f s = f checkOk twinsOk s := by
  have hnone : ∀ k, (tilePairs tile).findSome? (s.armed k) = none := fun k =>
    List.findSome?_eq_none_iff.mpr fun t _ => armed_eq_none hi k t
  have htwins : ∀ g : Bool → State → State,
      withTwins 1 ((tilePairs tile).map (fun i => 0x300 + i)) twinsOk g s = g twinsOk s := fun g => by
    have hpairs : ((tilePairs tile).map (fun i => 0x300 + i)).findSome? (s.armed 1) = none :=
      List.findSome?_eq_none_iff.mpr fun t _ => armed_eq_none hi 1 t
    rw [withTwins, hpairs]
  simp only [withSealed, hnone, htwins]

theorem tier1AnswerTested_of_none (hi : s.tests.injections = []) (id : Nat) (line : List Byte) (checkOk twinsOk late : Bool) :
    tier1AnswerTested id line checkOk twinsOk late s = tier1Answer id line checkOk twinsOk late s := by
  unfold tier1AnswerTested
  split
  next h => rw [tier1Answer, h]
  · exact withSealed_of_none hi _ _ _ _

theorem sledAnswerTested_of_none (hi : s.tests.injections = []) (link tag status : Nat) (line : List Byte)
    (checkOk twinsOk late : Bool) :
    sledAnswerTested link tag status line checkOk twinsOk late s = sledAnswer link tag status line checkOk twinsOk late s := by
  unfold sledAnswerTested
  split
  next h => rw [sledAnswer, h]
  · exact withSealed_of_none hi _ _ _ _

/-! ### The stack's answer (R174, R179) -/

/-- The sector of a 64 B read that decodes answers it. -/
theorem stackAnswer_of_good {sec : Sector} (h : s.sill.accesses = [a]) (hp : a.port = some port) (hans : a.answer = none)
    (hrec : a.recordWait = false) (haddr : a.addr < t0End) (hw : a.write = false) (hb : a.begun = true) (hsize : a.size = 64)
    (hgot : a.got = []) (hd : d.length = 64) (hdec : rsDecode (s.lane (laneOf a.addr)).retired sec = some (d, c))
    (second : List Sector) :
    stackAnswer a.id [sec] second false s = accessAnswered a port kData d (correctionCounted c s) := by
  have hanswer := answerAccess_of_alone (s := correctionCounted c s) h hp kData d
  simp only [stackAnswer, access?_of_alone h, hans, hrec, hw, hb, hsize, hgot]
  simp [Nat.not_le.mpr haddr, decodeSectors_one hdec, assemble_whole hd, hanswer]

/-! ### Lines of a sealed read (R174, R187) -/

/-- An access whose needed lines have come, the last one now. -/
def MemAccess.withLine (line : Nat) (data : List Byte) (a : MemAccess) : MemAccess :=
  { a with need := [], got := a.got ++ [(256 * line, data)], retried := false }

/-- Nothing outstanding goes on. -/
theorem pumpSill_of_none (h : s.sill.accesses = []) : pumpSill s = s := by
  simp [pumpSill, h]

/-- A begun sealed read without a line to come is answered. -/
theorem pumpSill_of_came (h : s.sill.accesses = [a]) (hp : a.port = some port) (hans : a.answer = none) (haddr : t0End ≤ a.addr)
    (hw : a.write = false) (hb : a.begun = true) (hneed : a.need = []) :
    pumpSill s = accessAnswered a port kData (assemble a.addr a.size a.got) s := by
  have hbegin : beginAccess a.id s = s := by simp [beginAccess, access?_of_alone h, hb]
  have hfinish : finishAccess a.id s = answerAccess a.id kData (assemble a.addr a.size a.got) s := by
    simp [finishAccess, access?_of_alone h, hb, hneed, hans, hw, Nat.not_lt.mpr haddr]
  rw [← answerAccess_of_alone h hp, ← hfinish]
  simp [pumpSill, h, hbegin]

/-- The last line that a sealed read needs, its check and twins good, answers it. -/
theorem lineCame_of_last {line : Nat} (h : s.sill.accesses = [a]) (hp : a.port = some port) (hans : a.answer = none)
    (haddr : t0End ≤ a.addr) (hw : a.write = false) (hb : a.begun = true) (hneed : a.need = [line]) (data : List Byte) :
    lineCame a line data true true s =
      accessAnswered (a.withLine line data) port kData (assemble a.addr a.size (a.got ++ [(256 * line, data)]))
        { s with sill := { s.sill with accesses := [a.withLine line data] } } := by
  have hmod : s.modAccess a.id (fun x => { x with need := x.need.filter (fun l => l ≠ line), got := x.got ++ [(256 * line, data)], retried := false }) =
      { s with sill := { s.sill with accesses := [a.withLine line data] } } := by
    simp [modAccess_of_alone h, MemAccess.withLine, hneed]
  simp only [lineCame, Bool.not_true, Bool.false_eq_true, if_false, hmod]
  exact pumpSill_of_came (a := a.withLine line data) rfl hp hans haddr hw hb rfl

theorem served_withLine (line : Nat) (data bytes : List Byte) (s : State) :
    SillServed s (accessAnswered (a.withLine line data) port kData bytes
      { s with sill := { s.sill with accesses := [a.withLine line data] } }) :=
  (served_withSill s _).trans (served_accessAnswered _ _ _ _ _)

theorem tier1Answer_of_last {line : Nat} (h : s.sill.accesses = [a]) (hans : a.answer = none) (haddr : a.addr < ownBase)
    (hneed : a.need = [line]) (data : List Byte) : tier1Answer a.id data true true false s = lineCame a line data true true s := by
  simp [tier1Answer, access?_of_alone h, hneed, hans, Nat.not_le.mpr haddr]

/-! ### Sleds (R193, R194) -/

section
variable {q : SledReq}

theorem sled_of_alone (h : s.sill.sleds = [q]) :
    s.sill.sleds.find? (fun x => x.link = q.link && x.tag = q.tag) = some q := by
  simp [h]

/-- Sill with every TAG free. -/
def sledsFreed (s : State) : State := { s with sill := { s.sill with sleds := [] } }

theorem dropSled_of_alone (h : s.sill.sleds = [q]) : s.dropSled q = sledsFreed s := by
  simp [State.dropSled, sledsFreed, h]

/-- The only sled read's line, its access waiting, comes to that access, and its TAG is free. -/
theorem sledAnswer_of_read (h : s.sill.sleds = [q]) (hw : q.write = false) (ha : s.sill.accesses = [a]) (hq : q.access = a.id)
    (hans : a.answer = none) (data : List Byte) :
    sledAnswer q.link q.tag 0 data true true false s =
      lineCame a q.line data true true (sledsFreed s) := by
  simp [sledAnswer, sled_of_alone h, hw, hq, access?_of_alone ha, hans, dropSled_of_alone h]

/-- Sill after the end of its only sled request, a write, whose plaintext it no longer holds. -/
def sledWritten (q : SledReq) (s : State) : State :=
  { s with sill := { s.sill with
      sleds := []
      heldLines := s.sill.heldLines.filter (fun h => !(h.access = q.access && h.addr = 256 * q.line)) } }

theorem releaseHeld_dropSled (h : s.sill.sleds = [q]) : releaseHeld q.access (256 * q.line) (s.dropSled q) = sledWritten q s := by
  rw [dropSled_of_alone h]
  rfl

theorem sledAnswer_of_write (h : s.sill.sleds = [q]) (hw : q.write = true) (ha : s.sill.accesses = []) (data : List Byte) :
    sledAnswer q.link q.tag 0 data true true false s = sledWritten q s := by
  simp only [sledAnswer, sled_of_alone h, hw, if_true, ne_eq, not_true, if_false, Bool.false_eq_true, releaseHeld_dropSled h]
  exact pumpSill_of_none (s := sledWritten q s) ha

/-- A sled write that is not answered in time fails the memory of its owner (R194). -/
theorem sledTimeout_of_write {part : Nat} (h : s.sill.sleds = [q]) (hw : q.write = true) (ha : s.sill.accesses = [])
    (hr : s.running = true) (ho : sledOwner q s = some part) :
    sledTimeout q.link q.tag s =
      memFail part (0x34 + (q.link - 48) / 2) 3 (sledWritten q (s.atTime (q.sentAt + 20000))) := by
  have hfail := memFailed_memFail (show 0x34 + (q.link - 48) / 2 ≠ 1 by omega) part 3 (sledWritten q (s.atTime (q.sentAt + 20000)))
  have howner : sledOwner q (s.atTime (q.sentAt + 20000)) = some part := ho
  simp only [sledTimeout, sled_of_alone h, hr, if_true, sledFailed, hw, howner,
    releaseHeld_dropSled (s := s.atTime (q.sentAt + 20000)) h]
  refine pumpSill_of_none ?_
  rw [hfail.sill]
  exact ha

end

/-! ### Controllers (R191) -/

theorem controllerWriteAck_of_alone {h : HeldLine} (hh : s.sill.heldLines = [h]) (haddr : h.addr < ownBase) :
    controllerWriteAck h.access false s = { s with sill := { s.sill with heldLines := [] } } := by
  simp [controllerWriteAck, hh, haddr]

end

/-- Settles O22: each answer finds the only access, sled request or held line, and what it makes of it opens no work; a sled's silence
ends a job, which leaves the TAG free. -/
theorem answersOfControllersAndSledsTakeEffect : Obligations.AnswersOfControllersAndSledsTakeEffect := by
  refine ⟨fun id port sec second s a d c hc hi h hid hp hans hrec haddr hw hb hsize hgot hd hdec => ?stack,
    fun id port line data s a hc hi h hid hp hans hrec hlo haddr hw hb hneed => ?tier1,
    fun link tag port data s a q hc hi h hq hl ht hqw hqa hp hans hrec haddr hw hb hneed => ?sledRead,
    fun link tag data s q h hc hi hn hq hl ht hqw hh hacc haddr => ?sledWrite,
    fun link tag part s q hc hr hn hq hl ht hqw ho hp hlen hps hrung => ?timeout, fun id s h hc hh hacc haddr => ?ack⟩
  case stack =>
    subst hid
    have hrow := (stackAnswerTested_of_none hi a.id [sec] second false).trans
      (stackAnswer_of_good h hp hans hrec haddr hw hb hsize hgot hd hdec second)
    have hserved := (served_withSill s _).trans (served_accessAnswered a port kData d (correctionCounted c s))
    exact ⟨_, (congrArg (settled s) hrow).trans (settled_calm (hserved.quiet.calm hc)), List.mem_cons_self, rfl, rfl,
      hserved.only.queue _⟩
  case tier1 =>
    subst hid
    have hrow := ((tier1AnswerTested_of_none hi a.id data true true false).trans (tier1Answer_of_last h hans haddr hneed data)).trans
      (lineCame_of_last h hp hans hlo hw hb hneed data)
    have hserved := served_withLine (a := a) (port := port) line data (assemble a.addr a.size (a.got ++ [(256 * line, data)])) s
    exact ⟨_, (congrArg (settled s) hrow).trans (settled_calm (hserved.quiet.calm hc)), List.mem_cons_self, rfl,
      hserved.only.queue _⟩
  case sledRead =>
    subst hl ht
    have hlo : t0End ≤ a.addr := Nat.le_trans (by decide) haddr
    have hrow := ((sledAnswerTested_of_none hi q.link q.tag 0 data true true false).trans (sledAnswer_of_read hq hqw h hqa hans data)).trans
      (lineCame_of_last (s := sledsFreed s) h hp hans hlo hw hb hneed data)
    have hserved := (served_withSill s (sledsFreed s).sill).trans
      (served_withLine (a := a) (port := port) q.line data (assemble a.addr a.size (a.got ++ [(256 * q.line, data)])) _)
    exact ⟨_, (congrArg (settled s) hrow).trans (settled_calm (hserved.quiet.calm hc)), List.mem_cons_self, rfl, rfl,
      hserved.only.queue _⟩
  case sledWrite =>
    subst hl ht
    have hrow := (sledAnswerTested_of_none hi q.link q.tag 0 data true true false).trans (sledAnswer_of_write hq hqw hn data)
    have hreleased : (sledWritten q s).sill.heldLines = [] := by simp [sledWritten, hh, hacc, haddr]
    exact ⟨_, (congrArg (settled s) hrow).trans (settled_calm ((served_withSill s _).quiet.calm hc)), rfl, hreleased,
      (only_withSill s _).queue _⟩
  case timeout =>
    subst hl ht
    have hsrc : 0x34 + (q.link - 48) / 2 ≠ 1 := by omega
    have hrow := sledTimeout_of_write hq hqw hn hr ho
    generalize q.sentAt + 20000 = due at hrow ⊢
    have hfail := memFailed_memFail hsrc part 3 (sledWritten q (s.atTime due))
    have hpstate := pstate_memFail (s := sledWritten q (s.atTime due)) hsrc hlen hps hrung 3
    have hwritten : (sledWritten q (s.atTime due)).calm := (served_withSill (s.atTime due) _).quiet.calm ((quiet_atTime s _).calm hc)
    generalize memFail part (0x34 + (q.link - 48) / 2) 3 (sledWritten q (s.atTime due)) = u at hrow hfail hpstate
    exact ⟨_, (congrArg (settled s) hrow).trans (settled_calm (hfail.calm hwritten)), (congrArg Sill.sleds hfail.sill :),
      (congrArg Calendar.now hfail.cal).trans (now_atTime s _), hpstate⟩
  case ack =>
    subst hacc
    exact ⟨_, (congrArg (settled s) (controllerWriteAck_of_alone hh haddr)).trans
      (settled_calm ((served_withSill s _).quiet.calm hc)), rfl, (only_withSill s _).queue _⟩

end Sys2Proof.Machine
end

section
/-! PROOFS. The home of a pool region (06 R195 to R204) and the answer that does not come (14 R440). -/

namespace Sys2Proof.Machine

section
variable {s t u : State}

/-! ### What a sealed write leaves to the home (R187, R188, R191) -/

/-- The home's queue and ledger are as they were, GL_COORD too, and the block finds nothing more to do. -/
structure PoolKept (s t : State) : Prop where
  calm : s.calm → t.calm
  inbox : t.sill.inbox = s.sill.inbox
  ledger : t.sill.ledger = s.sill.ledger
  coord : t.gl.coord = s.gl.coord

theorem PoolKept.refl (s : State) : PoolKept s s := ⟨fun h => h, rfl, rfl, rfl⟩

theorem PoolKept.trans (h : PoolKept s t) (k : PoolKept t u) : PoolKept s u :=
  ⟨fun hc => k.calm (h.calm hc), k.inbox.trans h.inbox, k.ledger.trans h.ledger, k.coord.trans h.coord⟩

theorem PoolKept.foldl {α : Type} (f : State → α → State) (hf : ∀ u a, PoolKept u (f u a)) (l : List α) (s : State) :
    PoolKept s (l.foldl f s) :=
  List.foldlRecOn l f (.refl s) fun u hu a _ => hu.trans (hf u a)

theorem poolKept_withSill {x : Sill} (hi : x.inbox = s.sill.inbox) (hl : x.ledger = s.sill.ledger) :
    PoolKept s { s with sill := x } := ⟨(served_withSill s x).quiet.calm, hi, hl, rfl⟩

theorem poolKept_emit (s : State) (o : Output) : PoolKept s (s.emit o) := ⟨(quiet_emit s o).calm, rfl, rfl, rfl⟩

theorem poolKept_sent {x : Sill} (hi : x.inbox = s.sill.inbox) (hl : x.ledger = s.sill.ledger) (o : Output) :
    PoolKept s (State.emit { s with sill := x } o) := (poolKept_withSill hi hl).trans (poolKept_emit _ _)

theorem MemFailed.poolKept (h : MemFailed s t) : PoolKept s t :=
  ⟨h.calm, by rw [h.sill], by rw [h.sill], h.coord⟩

theorem poolKept_modAccess (id : Nat) (f : MemAccess → MemAccess) (s : State) : PoolKept s (s.modAccess id f) :=
  poolKept_withSill rfl rfl

theorem poolKept_dropAccess (id : Nat) (s : State) : PoolKept s (s.dropAccess id) := poolKept_withSill rfl rfl

theorem poolKept_flushPort (port group : Nat) (s : State) : PoolKept s (flushPort port group s) := by
  refine PoolKept.foldl _ (fun u a => ?_) _ s
  split
  · exact (poolKept_dropAccess a.id u).trans (poolKept_emit _ _)
  · exact .refl u

theorem poolKept_answerAccess (id kind : Nat) (data : List Byte) (s : State) : PoolKept s (answerAccess id kind data s) := by
  unfold answerAccess
  split
  · exact .refl s
  · split
    · exact poolKept_dropAccess id s
    · exact (poolKept_modAccess id _ s).trans (poolKept_flushPort _ _ _)

theorem poolKept_issueRead (access line cls : Nat) (s : State) : PoolKept s (issueRead access line cls s) := by
  unfold issueRead
  dsimp only
  split
  · exact poolKept_emit s _
  · split
    · exact .refl s
    · exact poolKept_sent (by rfl) (by rfl) _

theorem poolKept_issueWrite (access part line cls major minor : Nat) (data : List Byte) (s : State) :
    PoolKept s (issueWrite access part line cls major minor data s) := by
  unfold issueWrite
  dsimp only
  split
  · exact poolKept_sent (by rfl) (by rfl) _
  · split
    · exact poolKept_withSill rfl rfl
    · exact poolKept_sent (by rfl) (by rfl) _

theorem poolKept_setRecord (r : CtrRecord) (s : State) : PoolKept s (s.setRecord r) := poolKept_withSill rfl rfl

theorem poolKept_sealLine (access part line cls : Nat) (data : List Byte) (old : List (Nat × List Byte)) (s : State) :
    PoolKept s (sealLine access part line cls data old s) := by
  unfold sealLine
  dsimp only
  split
  · exact (poolKept_issueWrite _ _ _ _ _ _ _ s).trans (poolKept_setRecord _ _)
  · exact ((PoolKept.foldl _ (fun u j => poolKept_issueWrite _ _ _ _ _ _ _ u) _ s).trans (poolKept_issueWrite _ _ _ _ _ _ _ _)).trans
      (poolKept_setRecord _ _)

theorem poolKept_finishAccess (id : Nat) (s : State) : PoolKept s (finishAccess id s) := by
  unfold finishAccess
  split
  · exact .refl s
  · split
    · exact .refl s
    · split
      · exact poolKept_answerAccess _ _ _ s
      · split
        · exact .refl s
        · exact (PoolKept.foldl _ (fun u l => poolKept_sealLine _ _ _ _ _ _ u) _ s).trans (poolKept_answerAccess _ _ _ _)

theorem poolKept_beginAccess (id : Nat) (s : State) : PoolKept s (beginAccess id s) := by
  unfold beginAccess
  split
  case h_1 => exact .refl s
  case h_2 a _ =>
    have hsrc : 0x30 + tileOf a.addr ≠ 1 := by omega
    dsimp only
    split
    · exact .refl s
    · split
      · exact (poolKept_answerAccess _ _ _ s).trans (memFailed_memFail hsrc _ _ _).poolKept
      · split
        · exact .refl s
        · exact ((poolKept_modAccess _ _ s).trans (PoolKept.foldl _ (fun u l => poolKept_issueRead _ _ _ u) _ _)).trans
            (poolKept_finishAccess _ _)

theorem poolKept_pumpSill (s : State) : PoolKept s (pumpSill s) :=
  PoolKept.foldl _ (fun u id => (poolKept_beginAccess id u).trans (poolKept_finishAccess id _)) _ s

theorem poolKept_homeWrite (part addr cls : Nat) (data : List Byte) (s : State) : PoolKept s (homeWrite part addr cls data s) :=
  .trans (t := (addAccess none 1 part addr 256 true data cls s).2) (poolKept_withSill rfl rfl) (poolKept_pumpSill _)

end

/-! ### Requests at the home (R195, R196, R201 to R203) -/

section
variable {s : State} {i : PoolIn} {part : Nat} {bytes : List Byte}

/-- The parcel in which the home answers a request of another chip. -/
def answerParcel (i : PoolIn) (part result aflags : Nat) (old : Quad) (line : List Byte) (now id : Nat) : TxParcel :=
  mkParcel id part .atomicResp none i.src i.cls 0 (if i.req.rop = 1 && result = rApplied then 288 else 32) 0 (BitVec.ofNat 32 i.pseq)
    (.atomicResp { i.req with result := result, aflags := aflags, old := old, compare := 0, line := line }) none false now

theorem answerPool_of_away (h : i.src ≠ s.chip) (result aflags : Nat) (old : Quad) (line : List Byte) :
    answerPool i part result aflags old line s = s.addParcel (answerParcel i part result aflags old line s.now) := by
  simp only [answerPool, if_neg h]
  rfl

/-- The home's queue is empty. -/
def inboxEmptied (s : State) : State := { s with sill := { s.sill with inbox := [] } }

/-- The plaintext of a request's line at the home. -/
abbrev homeLine (s : State) (part : Nat) (m : PoolMsg) (bytes : List Byte) : List Byte :=
  lineNow s part ((ownBase + m.offset / 256 * 256) / 256) bytes

/-- A request is the only one in the queue of an open home, and lies in its partition's region (R195, R204). -/
structure Reaches (s : State) (i : PoolIn) (part : Nat) : Prop where
  inbox : s.sill.inbox = [i]
  owner : s.partOfDomain i.domain = some part
  accesses : s.sill.accesses = []
  enabled : s.sill.poolEn = true
  covered : rangesCover (s.part part).t2 gran12 (i.req.offset / 256 * 256) 256 = true

theorem poolRequestHome_of_read (h : Reaches s i part) (hop : i.req.rop = 1) :
    poolRequestHome i.src i.domain i.pseq i.cls i.req (.ok bytes) s =
      answerPool i part rApplied 0 0 (homeLine s part i.req bytes) (inboxEmptied s) := by
  simp [poolRequestHome, h.inbox, h.owner, h.accesses, h.enabled, h.covered, hop, inboxEmptied]

/-- An atomic that the ledger does not know is applied. -/
theorem poolRequestHome_of_atomic (h : Reaches s i part) (hop : 0x11 ≤ i.req.rop) (hretry : i.req.retry = false)
    (hnew : s.ledgerEntry part i.src i.req.aseq = none) :
    poolRequestHome i.src i.domain i.pseq i.cls i.req (.ok bytes) s =
      applyAtomic i part (homeLine s part i.req bytes) (inboxEmptied s) := by
  have h1 : i.req.rop ≠ 1 := by omega
  have h2 : i.req.rop ≠ 2 := by omega
  simp [poolRequestHome, h.inbox, h.owner, h.accesses, h.enabled, h.covered, h1, h2, hretry, hnew, inboxEmptied]

/-- The value that an atomic finds in a line. -/
abbrev oldValue (m : PoolMsg) (line : List Byte) : Nat := ofLeBytes ((line.drop (m.offset % 256)).take (atypeBytes m.atype))

/-- What the operation of an atomic makes of its value, and whether it exchanged it (R201). -/
abbrev atomicResult (m : PoolMsg) (line : List Byte) : Nat × Bool :=
  atomicNew (m.rop - 0x10) m.atype (oldValue m line) m.operand.toNat m.compare.toNat

/-- The ledger's entry for an atomic (R203). -/
def atomicEntry (i : PoolIn) (part : Nat) (line : List Byte) (now : Nat) : LedgerEntry :=
  { part := part, src := i.src, aseq := i.req.aseq, context := i.req.context, aflags := if (atomicResult i.req line).2 then 1 else 0
    time := now, old := BitVec.ofNat 64 (oldValue i.req line) }

/-- The line of an atomic written at the home. -/
def atomicWritten (i : PoolIn) (part : Nat) (line : List Byte) (s : State) : State :=
  homeWrite part (ownBase + i.req.offset / 256 * 256) i.cls
    (splice 0 line (i.req.offset % 256) (leBytes (atypeBytes i.req.atype) (atomicResult i.req line).1)) s

theorem applyAtomic_eq (i : PoolIn) (part : Nat) (line : List Byte) (s : State) :
    applyAtomic i part line s =
      answerPool i part rApplied (if (atomicResult i.req line).2 then 1 else 0) (BitVec.ofNat 64 (oldValue i.req line)) []
        (setLedger (atomicEntry i part line s.now) (atomicWritten i part line s)) := by
  simp only [applyAtomic, atomicEntry, atomicWritten]

/-- An entry written is the one of its place (R203). -/
theorem ledgerEntry_setLedger (e : LedgerEntry) (s : State) : (setLedger e s).ledgerEntry e.part e.src e.aseq = some e := by
  have hothers : (s.sill.ledger.filter (fun x => !(x.part = e.part && x.src = e.src && x.aseq % 512 = e.aseq % 512))).find?
      (fun x => x.part = e.part && x.src = e.src && x.aseq % 512 = e.aseq % 512) = none :=
    List.find?_eq_none.mpr fun x hx => by
      have hx := (List.mem_filter.mp hx).2
      rw [Bool.not_eq_true'] at hx
      rw [hx]
      exact Bool.false_ne_true
  rw [State.ledgerEntry, setLedger, List.find?_append, hothers]
  simp

end

/-! ### The answer that does not come (R440) -/

section
variable {s : State} {q : RemoteReq} {r : CmdRef} {t0 : Nat}

/-- No request waits for an answer. -/
def remoteEnded (s : State) : State := { s with sill := { s.sill with remote := [] } }

theorem answerTimeout_of_settled (hr : s.running = true) (h : s.sill.remote = [q]) (ht : q.settledAt = some t0) (href : q.ref = some r) :
    answerTimeout q.id s =
      endJob q.part 5 r.slot (complete r stJobFaulted (detailOf 5) (remoteEnded (s.atTime (t0 + 1000000)))) := by
  have hfound : s.sill.remote.find? (fun x => x.id = q.id) = some q := by simp [h]
  have hgone : s.sill.remote.filter (fun x => x.id ≠ q.id) = [] := by simp [h]
  have hsill := State.atTime_sill s (t0 + 1000000)
  have hlater : (s.atTime (t0 + 1000000)).sill.remote.find? (fun x => x.id = q.id) = some q := by rw [hsill, hfound]
  have hnone : (s.atTime (t0 + 1000000)).sill.remote.filter (fun x => x.id ≠ q.id) = [] := by rw [hsill, hgone]
  simp only [answerTimeout, hfound, hr, ht, Option.isSome_some, Bool.and_self, if_true, Option.getD_some, hlater, Bool.not_true,
    Bool.false_eq_true, if_false, hnone, href, Option.map_some]
  rfl

/-- The command of the only request ends, and then its partition's job, at the time `due` of its timeout. -/
theorem exec_answerTimeout {due : Nat} (hc : s.calm) (hlen : q.part < s.parts.length) (hps : (s.part q.part).pstate = .sealed)
    (hrung : (s.part q.part).view.rungActive = false)
    (hrow : answerTimeout q.id s = endJob q.part 5 r.slot (complete r stJobFaulted (detailOf 5) (remoteEnded (s.atTime due)))) :
    ∃ t, exec (.answerTimeout q.id) s = .next t ∧ t.sill.remote = [] ∧ t.inflight? r = none ∧ t.now = max s.now due ∧
      (t.part q.part).pstate = .faulted := by
  have hcalm : (remoteEnded (s.atTime due)).calm := (served_withSill (s.atTime due) _).quiet.calm ((quiet_atTime s _).calm hc)
  have hend := endedWithJob_of_complete_self (p := q.part) (r := r) hcalm hlen hps hrung stJobFaulted (detailOf 5) 5 r.slot
  have hsill := (only_complete r stJobFaulted (detailOf 5) (remoteEnded (s.atTime due)) .sill (by decide)).trans
    ((marked_endJob q.part 5 r.slot _).only .sill (by decide))
  generalize endJob q.part 5 r.slot (complete r stJobFaulted (detailOf 5) (remoteEnded (s.atTime due))) = u at hrow hend hsill
  exact ⟨_, (congrArg (settled s) hrow).trans (settled_calm hend.calm), congrArg Sill.remote (show u.sill = _ from hsill), hend.ended,
    hend.now.trans (now_atTime s _), hend.pstate⟩

end

/-- Settles O23: a READ's answer reads the line as it stands, an atomic's entry outlives the write of its line, whatever that write
meets; the timeout ends the command and then its job. -/
theorem poolHomeAnswersAndTimesOut : Obligations.PoolHomeAnswersAndTimesOut := by
  refine ⟨fun src domain pseq cls part m bytes s i hc hin hsrc hdom hpseq hcls hreq hpart hacc hen hcov => ?home,
    fun id t0 s q r hc hr hq hid ht href _ hlen hps hrung => ?timeout⟩
  case home =>
    subst hsrc hdom hpseq hcls hreq
    have hreach : Reaches s i part := ⟨hin, hpart, hacc, hen, hcov⟩
    have hemptied : (inboxEmptied s).calm := (served_withSill s _).quiet.calm hc
    refine ⟨fun hop haway => ?read, fun hop hretry hnew haway => ?atomic⟩
    case read =>
      have hrow := (poolRequestHome_of_read (bytes := bytes) hreach hop).trans (answerPool_of_away (s := inboxEmptied s) haway _ _ _ _)
      exact ⟨_, _, (congrArg (settled s) hrow).trans (settled_calm ((quiet_addParcel _ _ fun _ => rfl).calm hemptied)), rfl, rfl, rfl, rfl,
        rfl, rfl, (((only_withSill s _).mono (by simp)).trans ((only_addParcel (inboxEmptied s) _).mono (by simp))).queue _⟩
    case atomic =>
      have hwritten : PoolKept (inboxEmptied s) (atomicWritten i part (homeLine s part i.req bytes) (inboxEmptied s)) :=
        poolKept_homeWrite _ _ _ _ _
      have hrow := (poolRequestHome_of_atomic (bytes := bytes) hreach hop hretry hnew).trans
        (applyAtomic_eq i part (homeLine s part i.req bytes) (inboxEmptied s))
      generalize atomicWritten i part (homeLine s part i.req bytes) (inboxEmptied s) = w at hrow hwritten
      have hentry := ledgerEntry_setLedger (atomicEntry i part (homeLine s part i.req bytes) s.now) w
      have hset : (setLedger (atomicEntry i part (homeLine s part i.req bytes) s.now) w).calm :=
        (served_withSill w _).quiet.calm (hwritten.calm hemptied)
      have hinbox : (setLedger (atomicEntry i part (homeLine s part i.req bytes) s.now) w).sill.inbox = [] := hwritten.inbox
      have hchip : (setLedger (atomicEntry i part (homeLine s part i.req bytes) s.now) w).chip = s.chip := chip_congr hwritten.coord
      change _ = answerPool _ _ _ _ _ _ (setLedger (atomicEntry i part (homeLine s part i.req bytes) s.now) w) at hrow
      generalize setLedger (atomicEntry i part (homeLine s part i.req bytes) s.now) w = v at hrow hentry hset hinbox hchip
      rw [answerPool_of_away (by rw [hchip]; exact haway)] at hrow
      exact ⟨_, _, (congrArg (settled s) hrow).trans (settled_calm ((quiet_addParcel v _ fun _ => rfl).calm hset)), hinbox, hentry, rfl,
        rfl, rfl, rfl⟩
  case timeout =>
    subst hid
    exact exec_answerTimeout hc hlen hps hrung (answerTimeout_of_settled hr hq ht href)

end Sys2Proof.Machine
end

section
/-! PROOFS. Patrol and sweep (06 R181, R190), and the pool commands INVALIDATE and ATOMIC (06 R197, R199, R200, R202). -/

namespace Sys2Proof.Machine

/-! ### PATROL_READ and COUNTER_SWEEP -/

section
variable {s : State}

theorem patrolRead_of_good {addr : Nat} {first : Sector} {d : List Byte} {c : Bool}
    (h : rsDecode (s.lane (laneOf addr)).retired first = some (d, c)) (second : Sector) :
    patrolRead addr first second s = correctionCounted c s := by
  rw [patrolRead, decodeSector_of_good h]
  exact if_pos rfl

/-- A range without a number holds its other numbers. -/
theorem inRanges_rangesWithout (rs : List Range) (n m : Nat) : inRanges (rangesWithout rs n) m = (inRanges rs m && decide (m ≠ n)) := by
  have hnonempty : ∀ l : List Range, inRanges (l.filter (fun r => r.count ≠ 0)) m = inRanges l m := fun l => by
    rw [Bool.eq_iff_iff]
    simp only [inRanges, List.any_eq_true, List.mem_filter, Bool.and_eq_true, decide_eq_true_eq]
    exact ⟨fun ⟨r, ⟨hr, _⟩, h⟩ => ⟨r, hr, h⟩, fun ⟨r, hr, h⟩ => ⟨r, ⟨hr, by omega⟩, h⟩⟩
  unfold rangesWithout
  rw [hnonempty]
  induction rs with
  | nil => rfl
  | cons r rs ih =>
    have hcons : ∀ l k : List Range, inRanges (l ++ k) m = (inRanges l m || inRanges k m) := fun l k => List.any_append
    have hhead : inRanges (r :: rs) m = (inRanges [r] m || inRanges rs m) := hcons [r] rs
    rw [List.map_cons, List.flatten_cons, hcons, ih, hhead, Bool.and_or_distrib_right]
    congr 1
    rw [Bool.eq_iff_iff]
    split
    case isTrue h =>
      simp only [Bool.and_eq_true, decide_eq_true_eq] at h
      simp only [inRanges, List.any_cons, List.any_nil, Bool.or_false, Bool.or_eq_true, Bool.and_eq_true, decide_eq_true_eq]
      omega
    case isFalse h =>
      simp only [Bool.and_eq_true, decide_eq_true_eq] at h
      simp only [inRanges, List.any_cons, List.any_nil, Bool.or_false, Bool.and_eq_true, decide_eq_true_eq]
      omega

/-- Sill after the sweep of a page whose record is stale. -/
def pageSwept (page : Nat) (s : State) : State :=
  { s with sill := { s.sill with sweep := rangesWithout s.sill.sweep page, records := s.sill.records.filter (fun x => x.page ≠ page) } }

theorem counterSweep_of_stale {page : Nat} (h : inRanges s.sill.sweep page = true)
    (hk : ∀ q, q < 16 → (s.part q).tierKey ≠ some (s.record page).keyEpoch) : counterSweep page s = pageSwept page s := by
  have hnone : (List.range 16).any (fun p => (s.part p).tierKey = some (s.record page).keyEpoch) = false := by
    rw [List.any_eq_false]
    exact fun p hp he => hk p (List.mem_range.mp hp) (of_decide_eq_true he)
  simp only [counterSweep, h, hnone, Bool.not_true, Bool.false_eq_true, if_false]
  rfl

end

/-! ### INVALIDATE -/

section
variable {s u : State} {r : CmdRef} {p : Packet} {lo hi : Nat}

/-- A line of a partition's pool buffer lies in a range. -/
def PoolLine.within (part lo hi : Nat) (l : PoolLine) : Bool := l.part = part && lo ≤ l.addr && l.addr < hi

/-- A READ of a partition whose line lies in a range is not kept when it fills. -/
def RemoteReq.unkept (part lo hi : Nat) (q : RemoteReq) : RemoteReq :=
  if q.part = part && q.rop = 1 && lo ≤ q.addr && q.addr < hi then { q with dropFill := true } else q

/-- The partition's lines of a range are no longer buffered, and none that is being filled will be. -/
def invalidated (part lo hi : Nat) (s : State) : State :=
  { s with sill := { s.sill with
      pool := s.sill.pool.filter (fun l => !l.within part lo hi)
      remote := s.sill.remote.map (RemoteReq.unkept part lo hi) } }

/-- The result of an INVALIDATE: how many lines it drops. -/
def invalidateResult (part lo hi : Nat) (x : Sill) : BitVec 128 := resultOf [(16, 4, (x.pool.filter (PoolLine.within part lo hi)).length)]

theorem startInvalidate_of_pool (hlo : lo = pf p 24 6) (hhi : hi = lo + 4096 * pf p 32 4) (h0 : t0End ≤ lo) (h1 : hi ≤ t1Base ∨ t1End ≤ lo)
    (hcarve : s.inCarve r.part lo (hi - lo) = true) (hresv : lacksSillResv s r.part (flagClass p) = false) :
    startInvalidate r p s = complete r stOk (invalidateResult r.part lo hi s.sill) (invalidated r.part lo hi s) := by
  subst hhi hlo
  have htouch : ¬(pf p 24 6 < t0End ∧ 0 < pf p 24 6 + 4096 * pf p 32 4 ∨
      pf p 24 6 < t1End ∧ t1Base < pf p 24 6 + 4096 * pf p 32 4) := by omega
  unfold startInvalidate
  dsimp only
  rw [if_neg (by simpa using htouch), hcarve, if_neg (by decide), hresv, if_neg (by decide)]
  rfl

theorem dropFill_of_mem_map_unkept {part : Nat} {l : List RemoteReq} {q : RemoteReq} (h : q ∈ l.map (RemoteReq.unkept part lo hi))
    (hpart : q.part = part) (hop : q.rop = 1) (hlo : lo ≤ q.addr) (hhi : q.addr < hi) : q.dropFill = true := by
  obtain ⟨x, -, rfl⟩ := List.mem_map.mp h
  unfold RemoteReq.unkept at *
  split
  · rfl
  · next hx =>
    rw [if_neg hx] at hpart hop hlo hhi
    simp [hpart, hop, hlo, hhi] at hx

theorem exec_invalidate (hc : s.calm) (hp : passes .invalidate p s) (hlo : lo = pf p 24 6) (hhi : hi = lo + 4096 * pf p 32 4)
    (h0 : t0End ≤ lo) (h1 : hi ≤ t1Base ∨ t1End ≤ lo) (hcarve : s.inCarve p.part lo (hi - lo) = true)
    (hresv : lacksSillResv s p.part (flagClass p) = false) :
    ∃ t, exec (.invalidate p) s = .next t ∧ t.sill = (invalidated p.part lo hi s).sill ∧
      Answered .invalidate p stOk (invalidateResult p.part lo hi s.sill) s t ∧ OnlyIn (.sill :: replyAreas) s t := by
  have hsrc := srcIsCtx_of_passes (by simp [Op.issuers]) hp
  obtain ⟨u, hu, hstart, honly⟩ := submit_of_ctx .none hc hp hsrc
  have hsill : u.sill = s.sill := hstart.only .sill (by decide)
  have hrow := hu.trans (startInvalidate_of_pool (s := u) (r := named .invalidate p s) hlo hhi h0 h1
    ((inCarve_congr (hstart.only .parts (by decide)) hsill hstart.quiet.coord _ _ _).trans hcarve)
    ((lacksSillResv_congr (hstart.only .cal (by decide)) _ _).trans hresv))
  have hdropped := served_withSill u (invalidated p.part lo hi u).sill
  have hends := only_complete (named .invalidate p s) stOk (invalidateResult p.part lo hi u.sill) (invalidated p.part lo hi u)
  have hanswered : Answered .invalidate p stOk (invalidateResult p.part lo hi u.sill) s
      (complete (named .invalidate p s) stOk (invalidateResult p.part lo hi u.sill) (invalidated p.part lo hi u)) :=
    hstart.answers hp hsrc rfl (.of_eq rfl) rfl rfl
  have hcalm := (quiet_complete (named .invalidate p s) stOk (invalidateResult p.part lo hi u.sill) _).calm
    (hdropped.quiet.calm (hstart.quiet.calm hc))
  refine ⟨_, (congrArg (settled s) hrow).trans (settled_calm hcalm), ?_, ?_,
    (((honly.mono (by simp)).trans ((only_withSill u _).mono (by simp))).trans (hends.mono (by simp))).queue _⟩
  · refine Eq.trans (hends .sill (by decide)) ?_
    rw [invalidated, hsill]
    rfl
  · rw [hsill] at hanswered ⊢
    exact hanswered.queue _

end

/-! ### ATOMIC -/

section
variable {s u : State} {r : CmdRef} {p : Packet} {home off : Nat}

/-- The request message of an ATOMIC. -/
def atomicMsg (p : Packet) (off slot : Nat) : PoolMsg :=
  poolReq (0x10 + pf p 20 1) (pf p 21 1) 0 (bitOf p.flags.toNat 7) (pf p 32 4) off slot
    (BitVec.ofNat 64 (pf p 36 (atypeBytes (pf p 21 1)))) (BitVec.ofNat 64 (pf p 44 8)) []

/-- The request of an ATOMIC as it waits for its answer. -/
def atomicReq (r : CmdRef) (p : Packet) (home id : Nat) : RemoteReq :=
  { remoteReq r.part home (some r) none (pf p 24 6) (0x10 + pf p 20 1) r.slot (pf p 32 4) with id := id }

/-- The parcel of a pool request to another chip (R196). -/
def requestParcel (part home cls : Nat) (m : PoolMsg) (now id : Nat) : TxParcel :=
  mkParcel id part (.atomicReq id) none home cls 0 (if m.rop = 2 then 288 else 32) 0 0 (.atomicReq m) none false now

/-- The parcel of an ATOMIC. -/
abbrev atomicParcel (r : CmdRef) (p : Packet) (home off : Nat) : Nat → Nat → TxParcel :=
  requestParcel r.part home (flagClass p) (atomicMsg p off r.slot)

theorem sendPool_of_away {part cls : Nat} (h : home ≠ s.chip) (q : RemoteReq) (m : PoolMsg) :
    sendPool part home cls q m s =
      State.addParcel { s with sill := { s.sill with remote := s.sill.remote ++ [{ q with id := s.gl.nextId }] } }
        (requestParcel part home cls m s.now) := by
  rw [sendPool, if_neg h]
  rfl

/-- Sill with an ATOMIC's request, and its partition's copy of the line dropped. -/
def atomicAsked (r : CmdRef) (p : Packet) (home : Nat) (s : State) : State :=
  { s with sill := { s.sill with
      pool := s.sill.pool.filter (fun l => !(l.part = r.part && l.addr = 256 * (pf p 24 6 / 256)))
      remote := s.sill.remote ++ [atomicReq r p home s.gl.nextId] } }

theorem startAtomic_of_remote (hlow : inLowTiers (pf p 24 6) = false)
    (hplace : place s r.part (pf p 24 6) (atypeBytes (pf p 21 1)) = .remote home off)
    (hresv : lacksSillResv s r.part (flagClass p) = false) (haway : home ≠ s.chip) :
    startAtomic r p s = (atomicAsked r p home (hold r s)).addParcel (atomicParcel r p home off s.now) := by
  have hchip : home ≠ (dropPool r.part (pf p 24 6 / 256) (hold r s)).chip := haway
  unfold startAtomic
  dsimp only
  rw [hlow, hplace, if_neg (by decide)]
  simp only [hresv, Bool.false_eq_true, if_false, sendPool_of_away hchip]
  rfl

theorem exec_atomic (hc : s.calm) (hp : passes .atomic p s) (hlow : inLowTiers (pf p 24 6) = false)
    (hplace : place s p.part (pf p 24 6) (atypeBytes (pf p 21 1)) = .remote home off)
    (hresv : lacksSillResv s p.part (flagClass p) = false) (haway : home ≠ s.chip) :
    ∃ t q x, exec (.atomic p) s = .next t ∧ q ∈ t.sill.remote ∧ x ∈ t.gl.parcels ∧ q = atomicReq (named .atomic p s) p home q.id ∧
      x = atomicParcel (named .atomic p s) p home off x.acceptedAt x.id ∧ t.poolLine p.part (pf p 24 6 / 256) = none ∧
      (t.inflight? (named .atomic p s)).isSome = true ∧ OnlyIn (.sill :: replyAreas) s t := by
  obtain ⟨u, hu, hstart, honly⟩ := submit_of_ctx .none hc hp (srcIsCtx_of_passes (by simp [Op.issuers]) hp)
  have hplace' := (place_congr (hstart.only .parts (by decide)) (hstart.only .sill (by decide)) hstart.quiet.coord p.part (pf p 24 6)
    (atypeBytes (pf p 21 1))).trans hplace
  have hrow := hu.trans (startAtomic_of_remote (s := u) (r := named .atomic p s) hlow hplace'
    ((lacksSillResv_congr (hstart.only .cal (by decide)) _ _).trans hresv) (by rw [chip_congr hstart.quiet.coord]; exact haway))
  have hasked := (quiet_hold (named .atomic p s) u).trans
    (served_withSill _ (atomicAsked (named .atomic p s) p home (hold (named .atomic p s) u)).sill).quiet
  have hcalm := (hasked.trans (quiet_addParcel (atomicAsked (named .atomic p s) p home (hold (named .atomic p s) u))
    (atomicParcel (named .atomic p s) p home off u.now) fun _ => rfl)).calm (hstart.quiet.calm hc)
  have hareas : OnlyIn (.sill :: replyAreas) u ((atomicAsked (named .atomic p s) p home (hold (named .atomic p s) u)).addParcel
      (atomicParcel (named .atomic p s) p home off u.now)) :=
    (((only_hold _ u).mono (by simp)).trans ((only_withSill _ _).mono (by simp))).trans ((only_addParcel _ _).mono (by simp))
  refine ⟨_, atomicReq (named .atomic p s) p home u.gl.nextId, atomicParcel (named .atomic p s) p home off u.now u.gl.nextId,
    (congrArg (settled s) hrow).trans (settled_calm hcalm), List.mem_append_right _ List.mem_cons_self,
    List.mem_append_right _ List.mem_cons_self, rfl, rfl, ?_, inflight?_hold_isSome (named .atomic p s) u,
    ((honly.mono (by simp)).trans hareas).queue _⟩
  simp only [State.poolLine, Option.map_eq_none_iff, List.find?_eq_none]
  intro l hl
  have hkept := (List.mem_filter.mp hl).2
  rw [Bool.not_eq_true'] at hkept
  exact fun he => absurd (hkept.symm.trans he) Bool.false_ne_true

end

/-- Settles O24: the patrol and the sweep touch their counter and page alone; the commands start on a state that agrees with the given
one on what they check, and change Sill there. -/
theorem patrolSweepAndPoolCommandsComplete : Obligations.PatrolSweepAndPoolCommandsComplete := by
  refine ⟨fun addr first second s d c hc hdec => ?patrol, fun page s hc hin hk => ?sweep,
    fun p s lo hi hc hp hlo hhi h0 h1 hcarve hresv => ?invalidate, fun p s home off hc hp hlow hplace hresv haway => ?atomic⟩
  case patrol =>
    exact ⟨_, (congrArg (settled s) (patrolRead_of_good hdec second)).trans (settled_calm ((served_withSill s _).quiet.calm hc)), rfl,
      (only_withSill s _).queue _⟩
  case sweep =>
    refine ⟨_, (congrArg (settled s) (counterSweep_of_stale hin hk)).trans (settled_calm ((served_withSill s _).quiet.calm hc)),
      fun r hr => of_decide_eq_true (List.mem_filter.mp hr).2, ?_, fun n hn => ?_, (only_withSill s _).queue _⟩
    · exact (inRanges_rangesWithout _ page page).trans (by simp)
    · exact (inRanges_rangesWithout _ page n).trans (by simp [hn])
  case invalidate =>
    obtain ⟨t, ht, hsill, hanswered, honly⟩ := exec_invalidate hc hp hlo hhi h0 h1 hcarve hresv
    refine ⟨t, ht, ?_, fun q hq => ?_, hanswered, honly⟩
    · rw [hsill]
      rfl
    · rw [hsill] at hq
      exact dropFill_of_mem_map_unkept hq
  case atomic =>
    obtain ⟨t, q, x, ht, hq, hx, heq, hex, hline, hflight, honly⟩ := exec_atomic hc hp hlow hplace hresv haway
    rw [heq] at hq
    rw [hex] at hx
    exact ⟨t, _, _, ht, hq, rfl, rfl, rfl, rfl, hline, hx, rfl, rfl, rfl, hflight, honly⟩

end Sys2Proof.Machine
end

section
/-! PROOFS. Strike (12 R404 to R409): what the parts of its phases leave of the rest of the block. -/

namespace Sys2Proof.Machine

section
variable {s t u : State}

/-! ### One partition -/

theorem part_modPart_self {p : Nat} (h : p < s.parts.length) (f : Part → Part) : (s.modPart p f).part p = f (s.part p) := by
  simp [State.part, State.modPart, h]

theorem part_modPart_of_ne {p k : Nat} (h : k ≠ p) (f : Part → Part) : (s.modPart p f).part k = s.part k := by
  simp [State.part, State.modPart, Ne.symm h]

theorem part_congr (h : t.parts = s.parts) (k : Nat) : t.part k = s.part k := by rw [State.part, h, State.part]

/-- A new state of a partition and its notices leave the other partitions, and of this one all but the state. -/
theorem parts_setPState (p : Nat) (new : PState) (s : State) :
    (setPState p new s).parts = (s.modPart p fun q => { q with pstate := new }).parts ∨
      ((s.part p).pstate = new ∧ setPState p new s = s) := by
  unfold setPState
  dsimp only
  split
  case isTrue h => exact .inr ⟨h, rfl⟩
  case isFalse => exact .inl ((notified_noticePart _ _ _ _).only .parts (by decide))

theorem pstate_setPState {p : Nat} (h : p < s.parts.length) (new : PState) : ((setPState p new s).part p).pstate = new := by
  rcases parts_setPState p new s with hp | ⟨hold, hp⟩
  · rw [part_congr hp, part_modPart_self h]
  · rw [hp, hold]

theorem part_setPState_of_ne {p k : Nat} (h : k ≠ p) (new : PState) : (setPState p new s).part k = s.part k := by
  rcases parts_setPState p new s with hp | ⟨-, hp⟩
  · rw [part_congr hp, part_modPart_of_ne h]
  · rw [hp]

theorem parts_length_setPState (p : Nat) (new : PState) (s : State) : (setPState p new s).parts.length = s.parts.length := by
  rcases parts_setPState p new s with hp | ⟨-, hp⟩
  · rw [hp]
    exact List.length_modify _ _ _
  · rw [hp]

/-! ### Traces -/

/-- Records of a trace take back nothing that has left. -/
theorem out_writeTrace (n : Nat) (recs : List TraceRec) {o : Output} (h : o ∈ s.out) : o ∈ (writeTrace n recs s).out := by
  unfold writeTrace
  split
  · exact h
  · split
    · exact h
    · refine List.foldlRecOn (motive := fun u : State => o ∈ u.out) _ _ h fun u hu r _ => ?_
      dsimp only
      split
      · exact hu
      · split
        · exact hu
        · split <;> exact List.mem_cons_of_mem _ hu

theorem out_pushTrace (n : Nat) (r : TraceRec) {o : Output} (h : o ∈ s.out) : o ∈ (pushTrace n r s).out := by
  unfold pushTrace
  split
  · exact h
  · split
    · exact h
    · dsimp only
      have key : ∀ (b : Bool) (m k : Nat) (f g : TraceSlot → TraceSlot) (l : List TraceRec),
          o ∈ (if b then writeTrace m l ((s.modTrace m f).modTrace k g) else s.modTrace m f).out := fun b m k f g l => by
        cases b with
        | false => exact h
        | true => exact out_writeTrace (s := (s.modTrace m f).modTrace k g) m l h
      exact key _ _ _ _ _ _

/-! ### The parts of a strike -/

/-- The areas that the crypto-erase reaches (R406). -/
abbrev strikeAreas : List Area := [.parts, .gl, .inl, .sill, .pegs, .damper, .kp, .vs, .plumb, .ret, .scribe, .mail, .out]

/-- A part of the crypto-erase: it opens no work and takes back nothing that has left. -/
structure StrikeStep (s t : State) : Prop where
  calm : s.calm → t.calm
  out : ∀ o ∈ s.out, o ∈ t.out
  only : OnlyIn strikeAreas s t

theorem StrikeStep.refl (s : State) : StrikeStep s s := ⟨fun h => h, fun _ h => h, .refl _ s⟩

theorem StrikeStep.trans (h : StrikeStep s t) (k : StrikeStep t u) : StrikeStep s u :=
  ⟨fun hc => k.calm (h.calm hc), fun o ho => k.out o (h.out o ho), h.only.trans k.only⟩

theorem StrikeStep.foldl {α : Type} (f : State → α → State) (hf : ∀ u a, StrikeStep u (f u a)) (l : List α) (s : State) :
    StrikeStep s (l.foldl f s) :=
  List.foldlRecOn l f (.refl s) fun u hu a _ => hu.trans (hf u a)

theorem Marked.strikeStep (h : Marked s t) : StrikeStep s t := ⟨h.calm, h.out, h.only.mono (by simp)⟩

theorem StrikeStep.of_quiet {gs : List Area} (h : Quiet s t) (ho : OnlyIn gs s t) (hg : ∀ g ∈ gs, g ∈ strikeAreas) (hout : t.out = s.out) :
    StrikeStep s t := ⟨h.calm, fun _ hm => hout ▸ hm, ho.mono hg⟩

theorem quiet_modRow (p : Nat) (f : GrantRow → GrantRow) (s : State) : Quiet s (s.modRow p f) := quiet_withDamper s _

theorem quiet_loseSettings (unit : Nat) (mask : BitVec 8) (last : Nat) (s : State) : Quiet s (loseSettings unit mask last s) :=
  ⟨rfl, rfl, rfl, rfl, rfl, rfl, rfl, rfl, rfl, fun _ h => .inl h, fun h => h, rfl⟩

theorem only_loseSettings (unit : Nat) (mask : BitVec 8) (last : Nat) (s : State) : OnlyIn [.ret] s (loseSettings unit mask last s) := by
  intro g hg
  cases g with
  | ret => exact absurd (by simp) hg
  | _ => rfl

theorem strikeStep_modPart (p : Nat) (f : Part → Part) (s : State) : StrikeStep s (s.modPart p f) := (marked_modPart p f s).strikeStep

theorem strikeStep_modRow (p : Nat) (f : GrantRow → GrantRow) (s : State) : StrikeStep s (s.modRow p f) :=
  .of_quiet (quiet_modRow p f s) (only_withDamper s _) (by simp) rfl

theorem strikeStep_loseSettings (unit : Nat) (mask : BitVec 8) (last : Nat) (s : State) : StrikeStep s (loseSettings unit mask last s) :=
  .of_quiet (quiet_loseSettings unit mask last s) (only_loseSettings unit mask last s) (by simp) rfl

theorem only_traceStrike (p : Nat) (s : State) : OnlyIn [.gl, .scribe, .out] s (traceStrike p s) := only_pushTrace _ _ _

theorem quiet_traceStrike (p : Nat) (s : State) : Quiet s (traceStrike p s) := quiet_pushTrace _ _ _

theorem strikeStep_traceStrike (p : Nat) (s : State) : StrikeStep s (traceStrike p s) :=
  ⟨(quiet_traceStrike p s).calm, fun _ h => out_pushTrace _ _ h, (only_traceStrike p s).mono (by simp)⟩

/-! ### TDI ERROR (R372, R554) -/

theorem out_modChan (c : Nat) (f : Channel → Channel) {o : Output} (h : o ∈ s.out) : o ∈ (s.modChan c f).out := by
  unfold State.modChan
  dsimp only
  split
  · split
    · exact List.mem_cons_of_mem _ h
    · split
      · exact List.mem_cons_of_mem _ h
      · exact h
  · exact h

/-- An emptied channel has no doorbell to look at. -/
theorem notified_emptyChannel (c : Nat) (s : State) : Notified s (s.modChan c emptyChannel) := by
  refine ⟨only_modChan s c emptyChannel, fun o ho => out_modChan c emptyChannel ho, fun hl q hq => ?_⟩
  rw [modChan_mail] at hq
  obtain ⟨i, hi⟩ := List.mem_iff_getElem?.mp hq
  rw [List.getElem?_modify] at hi
  obtain ⟨r, hr, rfl⟩ := Option.map_eq_some_iff.mp hi
  split
  · rfl
  · exact hl r (List.mem_of_getElem? hr)

/-- A TDI's new state, and the channels that its ERROR empties. -/
theorem setTdi_notifies (p : Nat) (st : TdiState) (s : State) :
    Notified (s.modPart p fun q => { q with tdi := st }) (setTdi p st s) := by
  unfold setTdi
  dsimp only
  split
  · refine List.foldlRecOn _ _ (Notified.refl _) fun u hu c _ => hu.trans ?_
    split
    · exact notified_emptyChannel c u
    · exact .refl u
  · exact .refl _

theorem strikeStep_setTdi (p : Nat) (st : TdiState) (s : State) : StrikeStep s (setTdi p st s) :=
  (strikeStep_modPart p _ s).trans (setTdi_notifies p st s).reported.marked.strikeStep

/-! ### Key slots (R344) -/

/-- A calm block stays calm when key slots leave it. -/
theorem calm_withKp {x : Kingpost} (hslots : ∀ k ∈ x.slots, k ∈ s.kp.slots) (hhalted : x.halted = s.kp.halted) (hc : s.calm) :
    State.calm { s with kp := x } = true := by
  have hserved : State.mailServed { s with kp := x } = s.mailServed := by rw [State.mailServed, hhalted]; rfl
  simp only [State.calm, Bool.and_eq_true, List.all_eq_true, stranded_congr (t := { s with kp := x }) (s := s) rfl rfl, hserved] at hc ⊢
  obtain ⟨⟨⟨⟨hwork, hkeys⟩, hruns⟩, hparcels⟩, hchans⟩ := hc
  exact ⟨⟨⟨⟨hwork, fun k hk => hkeys k (hslots k hk)⟩, hruns⟩, hparcels⟩, hchans⟩

theorem strikeStep_eraseSlot (p slot : Nat) (s : State) : StrikeStep s (eraseSlot p slot s) := by
  refine ⟨fun hc => (quiet_emit _ _).calm (calm_withKp (fun _ hk => List.mem_of_mem_filter hk) rfl hc),
    fun o ho => List.mem_cons_of_mem _ ho, fun g hg => ?_⟩
  cases g with
  | kp | out => exact absurd (by simp) hg
  | _ => rfl

theorem strikeStep_eraseKeys (p : Nat) (s : State) : StrikeStep s (eraseKeys p s) :=
  StrikeStep.foldl _ (fun u _ => strikeStep_eraseSlot _ _ u) _ s

/-- Erasing slots one by one keeps none of them. -/
theorem slots_foldl_eraseSlot (l : List KeySlot) (s : State) :
    ∀ k ∈ (l.foldl (fun t k => eraseSlot k.part k.slot t) s).kp.slots, k ∈ s.kp.slots ∧ k ∉ l := by
  induction l generalizing s with
  | nil => exact fun k hk => ⟨hk, List.not_mem_nil⟩
  | cons a l ih =>
    intro k hk
    obtain ⟨hmem, hl⟩ := ih (eraseSlot a.part a.slot s) k hk
    obtain ⟨hold, hne⟩ := List.mem_filter.mp hmem
    refine ⟨hold, fun hka => ?_⟩
    rcases List.mem_cons.mp hka with rfl | hka
    · simp at hne
    · exact hl hka

theorem slots_eraseKeys (p : Nat) (s : State) : ∀ k ∈ (eraseKeys p s).kp.slots, k.part ≠ p := by
  intro k hk he
  obtain ⟨hold, hgone⟩ := slots_foldl_eraseSlot _ s k hk
  exact hgone (List.mem_filter.mpr ⟨hold, decide_eq_true he⟩)

/-! ### Sill and the units (R190, R406) -/

/-- Sill without a partition's buffered and held lines and its requests. -/
def sillErased (p : Nat) (s : State) : State :=
  { s with sill := { s.sill with
      pool := s.sill.pool.filter (fun l => l.part ≠ p)
      heldLines := s.sill.heldLines.filter (fun l => l.part ≠ p)
      remote := s.sill.remote.filter (fun q => q.part ≠ p) } }

theorem eraseSill_of_none {p : Nat} (h : s.sill.accesses.all (fun a => a.part ≠ p) = true) : eraseSill p s = sillErased p s := by
  have hnone : s.sill.accesses.filter (fun a => a.part = p) = [] := by
    rw [List.filter_eq_nil_iff]
    intro a ha he
    exact of_decide_eq_true (List.all_eq_true.mp h a ha) (of_decide_eq_true he)
  simp only [eraseSill, hnone, List.foldl_nil]
  rfl

theorem strikeStep_sillErased (p : Nat) (s : State) : StrikeStep s (sillErased p s) :=
  .of_quiet (served_withSill s _).quiet (only_withSill s _) (by simp) rfl

theorem only_eraseWork (p : Nat) (s : State) : OnlyIn [.gl, .inl, .pegs, .vs] s (eraseWork p s) := by
  intro g hg
  cases g with
  | gl | inl | pegs | vs => exact absurd (by simp) hg
  | _ => rfl

theorem quiet_eraseWork (p : Nat) (h : s.vs.stopping = []) : Quiet s (eraseWork p s) :=
  ⟨rfl, rfl, rfl, rfl, by rw [h]; simp [eraseWork, clearCounters, h], rfl, rfl, rfl, rfl, fun _ hx => .inl (List.mem_of_mem_filter hx),
    fun hm => hm, rfl⟩

theorem strikeStep_eraseWork (p : Nat) (s : State) : StrikeStep s (eraseWork p s) := by
  refine ⟨fun hc => ?_, fun _ h => h, (only_eraseWork p s).mono (by simp)⟩
  obtain ⟨-, -, -, -, hstop, -⟩ := State.calm_cases hc
  exact (quiet_eraseWork p hstop).calm hc

end

end Sys2Proof.Machine
end

section
/-! PROOFS. The phases of a strike from the end of teardown to the release (12 R404 to R406), and clean granules (12 R394). -/

namespace Sys2Proof.Machine

section
variable {s u : State} {q : Nat}

/-! ### The command that waits for an end -/

/-- A command that has waited is answered with ST_OK, where there is one. -/
def answeredIf (o : Option CmdRef) (v : BitVec 128) (s : State) : State :=
  match o with
  | some r => answer r stOk v s
  | none => s

theorem quiet_answeredIf (o : Option CmdRef) (v : BitVec 128) (s : State) : Quiet s (answeredIf o v s) := by
  cases o with
  | none => exact .rfl
  | some r => exact quiet_answer r stOk v s

theorem only_answeredIf (o : Option CmdRef) (v : BitVec 128) (s : State) : OnlyIn [.parts, .cmds, .gl, .scribe, .out] s (answeredIf o v s) := by
  cases o with
  | none => exact .refl _ s
  | some r => exact only_answerWith r stOk false v s

theorem noted_answeredIf (o : Option CmdRef) (v : BitVec 128) (s : State) : Noted s (answeredIf o v s) := by
  cases o with
  | none => exact .refl s
  | some r => exact noted_answer s r stOk v

/-- A command of the operator's ring is answered in that ring, and no partition notes it. -/
theorem only_answer_mgmt {r : CmdRef} (h : r.src = .mgmt) (st : Nat) (v : BitVec 128) (s : State) :
    OnlyIn [.cmds, .out] s (answer r st v s) := by
  have hdone : noteDone r st (s.land r) = s.land r := by simp [noteDone, h, srcIsCtx]
  unfold answer answerWith
  simp only [hdone, h]
  split
  · exact (only_land s r).mono (by simp)
  · refine ((only_land s r).mono (by simp)).trans fun g hg => ?_
    unfold deliver ringReply writeCompletion
    dsimp only
    split
    all_goals
      cases g with
      | cmds | out => exact absurd (by simp) hg
      | _ => rfl

/-! ### S1: the crypto-erase (R406) -/

/-- A partition as S1 begins. -/
def Part.erased (now : Nat) (x : Part) : Part :=
  { x with
    domain := 0, tierKey := none, verifierId := none, tenantDebug := false, ivParcel := 0, ivPack := 0, phase := .s1, phaseAt := now
    tornAt := now, endRelease := none }

/-- The keys of a partition erased, after its TDI's ERROR and its record. -/
def keysErased (q : Nat) (s : State) : State := eraseKeys q (traceStrike q (setTdi q .error s))

/-- A partition's work erased, and its record begun anew. -/
def partErased (q : Nat) (s : State) : State :=
  (eraseWork q (sillErased q (keysErased q s))).modPart q (Part.erased s.now)

theorem strikeStep_keysErased (q : Nat) (s : State) : StrikeStep s (keysErased q s) :=
  ((strikeStep_setTdi q .error s).trans (strikeStep_traceStrike q _)).trans (strikeStep_eraseKeys q _)

theorem strikeStep_partErased (q : Nat) (s : State) : StrikeStep s (partErased q s) :=
  (((strikeStep_keysErased q s).trans (strikeStep_sillErased q _)).trans (strikeStep_eraseWork q _)).trans (strikeStep_modPart q _ _)

/-- The erase of keys reaches neither Sill nor, but for the TDI, the partition. -/
theorem keysErased_keeps (q : Nat) (s : State) :
    (keysErased q s).sill = s.sill ∧ (keysErased q s).parts = (s.modPart q fun x => { x with tdi := .error }).parts := by
  have hkeys : OnlyIn [.kp, .out] (traceStrike q (setTdi q .error s)) (keysErased q s) :=
    OnlyIn.foldl _ (fun v k g hg => by
      cases g with
      | kp | out => exact absurd (by simp) hg
      | _ => rfl) _ _
  have htrace := only_traceStrike q (setTdi q .error s)
  have htdi := (setTdi_notifies q .error s).only
  exact ⟨(htdi .sill (by decide)).trans ((htrace .sill (by decide)).trans (hkeys .sill (by decide))),
    (htdi .parts (by decide)).trans ((htrace .parts (by decide)).trans (hkeys .parts (by decide)))⟩

/-- S1's beginning after the partition's work is erased: its grant is frozen, and the settings that it loses are noted (R406). -/
def s1Noted (q : Nat) (s : State) : State :=
  loseSettings uSl 0x01 5 (loseSettings uKp 0x12 5 (s.modRow q fun g => { g with frozen := some g.grant }))

theorem strikeStep_s1Noted (q : Nat) (s : State) : StrikeStep s (s1Noted q s) :=
  ((strikeStep_modRow q _ s).trans (strikeStep_loseSettings _ _ _ _)).trans (strikeStep_loseSettings _ _ _ _)

theorem parts_s1Noted (q : Nat) (s : State) : (s1Noted q s).parts = s.parts := rfl

theorem kp_s1Noted (q : Nat) (s : State) : (s1Noted q s).kp = s.kp := rfl

theorem beginS1_of_none (h : s.sill.accesses.all (fun a => a.part ≠ q) = true) : beginS1 q s = s1Noted q (partErased q s) := by
  have hnone : eraseSill q (keysErased q s) = sillErased q (keysErased q s) := eraseSill_of_none (by
    obtain ⟨hsill, -⟩ := keysErased_keeps q s
    rw [hsill]
    exact h)
  rw [partErased, ← hnone]
  rfl

theorem part_partErased (h : q < s.parts.length) : (partErased q s).part q = { (s.part q).erased s.now with tdi := .error } := by
  obtain ⟨-, hkeys⟩ := keysErased_keeps q s
  unfold partErased
  generalize keysErased q s = u at hkeys
  have hwork : (eraseWork q (sillErased q u)).parts = u.parts := rfl
  have hparts := hwork.trans hkeys
  generalize eraseWork q (sillErased q u) = v at hparts
  have hlen : q < v.parts.length := by rw [hparts]; exact h.trans_eq (List.length_modify _ _ _).symm
  rw [part_modPart_self hlen, part_congr hparts, part_modPart_self h]
  rfl

theorem slots_partErased (q : Nat) (s : State) : ∀ k ∈ (partErased q s).kp.slots, k.part ≠ q := by
  have hsill : OnlyIn [.sill] (keysErased q s) (sillErased q (keysErased q s)) := only_withSill _ _
  have hkp : (partErased q s).kp = (keysErased q s).kp :=
    Eq.trans (only_modPart _ q _ .kp (by decide)) (Eq.trans (only_eraseWork q _ .kp (by decide)) (hsill .kp (by decide)))
  rw [hkp]
  exact slots_eraseKeys q _

/-! ### TEARDOWN_COMPLETE (R404, R405) -/

/-- The result of PART_RELEASE: the time that remains, in µs (R404). -/
abbrev releaseResult (x : Part) : BitVec 128 := resultOf [(16, 4, 2000 + zeroUs (granules x.t0) + 20)]

/-- The state in which S1 begins: PART_RELEASE has its reply, and the partition is STRIKING. -/
def tornDown (q : Nat) (s : State) : State :=
  setPState q .striking (answeredIf (s.part q).endRelease (releaseResult (s.part q)) s)

theorem teardownComplete_of_closed (hr : s.running = true) (hp : (s.part q).phase = .teardown) (ho : s.teardownOpen q = false) :
    teardownComplete q s = beginS1 q (tornDown q s) := by
  simp only [teardownComplete, hr, hp, ho, Bool.not_true, ne_eq, not_true, decide_false, Bool.or_self, Bool.false_eq_true, if_false]
  rfl

theorem exec_teardownComplete (hc : s.calm) (hr : s.running = true) (hlen : q < s.parts.length) (hp : (s.part q).phase = .teardown)
    (ho : s.teardownOpen q = false) (ha : s.sill.accesses.all (fun a => a.part ≠ q) = true)
    (hsrc : ∀ r, (s.part q).endRelease = some r → r.src = .cmd q) :
    ∃ (t : State) (x : Part), exec (.teardownComplete q) s = .next t ∧ x.pstate = .striking ∧
      t.part q = { Part.erased s.now x with tdi := .error } ∧
      (∀ k ∈ t.kp.slots, k.part ≠ q) ∧
      (∀ r, (s.part q).endRelease = some r → Replied r stOk (releaseResult (s.part q)) s.now t) ∧ t.cal = s.cal ∧ t.fuses = s.fuses := by
  have hquiet := quiet_answeredIf (s.part q).endRelease (releaseResult (s.part q)) s
  have hanswer := only_answeredIf (s.part q).endRelease (releaseResult (s.part q)) s
  have hnoted := noted_answeredIf (s.part q).endRelease (releaseResult (s.part q)) s
  have hreplied : ∀ r, (s.part q).endRelease = some r →
      Replied r stOk (releaseResult (s.part q)) s.now (answeredIf (s.part q).endRelease (releaseResult (s.part q)) s) := fun r hrel => by
    have hcmd := hsrc r hrel
    rw [hrel]
    exact answer_replies (fun id hid => by rw [hcmd] at hid; cases hid) fun k hk => by rw [hcmd] at hk; cases hk
  have hrow := teardownComplete_of_closed hr hp ho
  unfold tornDown at hrow
  generalize answeredIf (s.part q).endRelease (releaseResult (s.part q)) s = w at hrow hquiet hanswer hnoted hreplied
  have hmarked := marked_setPState q .striking w
  have hstate := pstate_setPState (s := w) (hlen.trans_eq hnoted.parts_length.symm) .striking
  have hvlen := (parts_length_setPState q .striking w).trans hnoted.parts_length
  generalize setPState q .striking w = v at hrow hmarked hstate hvlen
  have hsill : v.sill = s.sill := (hanswer .sill (by decide)).trans (hmarked.only .sill (by decide))
  have hcal : v.cal = s.cal := (hanswer .cal (by decide)).trans (hmarked.only .cal (by decide))
  have hfuses : v.fuses = s.fuses := (hanswer .fuses (by decide)).trans (hmarked.only .fuses (by decide))
  have hnow : v.now = s.now := congrArg Calendar.now hcal
  have hstep := (strikeStep_partErased q v).trans (strikeStep_s1Noted q _)
  have hpart : (s1Noted q (partErased q v)).part q = { Part.erased v.now (v.part q) with tdi := .error } :=
    (part_congr (parts_s1Noted q _) q).trans (part_partErased (hlen.trans_eq hvlen.symm))
  have hslots : ∀ k ∈ (s1Noted q (partErased q v)).kp.slots, k.part ≠ q := by
    rw [kp_s1Noted]
    exact slots_partErased q v
  rw [beginS1_of_none (by rw [hsill]; exact ha)] at hrow
  generalize s1Noted q (partErased q v) = u at hrow hstep hpart hslots
  have hcmds : u.cmds = w.cmds := (hmarked.only .cmds (by decide)).trans (hstep.only .cmds (by decide))
  have hucal : u.cal = s.cal := Eq.trans (hstep.only .cal (by decide)) hcal
  have hufuses : u.fuses = s.fuses := Eq.trans (hstep.only .fuses (by decide)) hfuses
  rw [hnow] at hpart
  exact ⟨_, v.part q, (congrArg (settled s) hrow).trans (settled_calm (hstep.calm (hmarked.calm (hquiet.calm hc)))), hstate, hpart, hslots,
    fun r hrel => (hreplied r hrel).of_cmd (hsrc r hrel) (fun o ho => hstep.out o (hmarked.out o ho)) (congrArg Cmds.cmdHeld hcmds),
    hucal, hufuses⟩

/-! ### S1 to S3 (R406) -/

/-- A partition enters a phase in a state `u` that only its time tells apart from the partition's own. -/
theorem settled_setPhase {gs : List Area} (hc : s.calm) (hq : Quiet s u) (ho : OnlyIn gs s u) (hg : .parts ∈ gs) (hp : u.parts = s.parts)
    (hlen : q < s.parts.length) (ph : Phase) :
    ∃ t, settled s (setPhase q ph u) = .next t ∧ t.now = u.now ∧ t.part q = { s.part q with phase := ph, phaseAt := t.now } ∧
      t.out = u.out ∧ t.sill = u.sill ∧ OnlyIn gs s t := by
  refine ⟨_, settled_calm ((hq.trans (quiet_modPart u q _)).calm hc), rfl, ?_, rfl, rfl,
    (ho.trans ((only_modPart u q _).mono fun g hm => by rw [List.mem_singleton.mp hm]; exact hg)).queue _⟩
  exact (part_modPart_self (hlen.trans_eq (congrArg List.length hp.symm)) _).trans (by rw [part_congr hp]; rfl)

theorem exec_strikeS1End {due : Nat} (hc : s.calm) (hlen : q < s.parts.length)
    (hrow : strikeS1End q s = setPhase q .s2 (s.atTime due)) :
    ∃ t, exec (.strikeS1End q) s = .next t ∧ t.now = max s.now due ∧ t.part q = { s.part q with phase := .s2, phaseAt := t.now } ∧
      OnlyIn [.cal, .start, .parts] s t := by
  obtain ⟨t, ht, hnow, hpart, -, -, honly⟩ := settled_setPhase (gs := [.cal, .start, .parts]) hc (quiet_atTime s due)
    ((only_atTime s due).mono (by simp)) (by simp) (State.atTime_parts s due) hlen .s2
  exact ⟨t, (congrArg (settled s) hrow).trans ht, hnow.trans (now_atTime s due), hpart, honly⟩

theorem exec_strikeReserveGrant (hc : s.calm) (hr : s.running = true) (hlen : q < s.parts.length) (hp : (s.part q).phase = .s2)
    (hb : reserveBlocked s q = false) :
    ∃ t, exec (.strikeReserveGrant q) s = .next t ∧ t.part q = { s.part q with phase := .s3, phaseAt := s.now } ∧ OnlyIn [.parts] s t := by
  have hrow : strikeReserveGrant q s = setPhase q .s3 s := by simp [strikeReserveGrant, hr, hp, hb]
  obtain ⟨t, ht, hnow, hpart, -, -, honly⟩ := settled_setPhase (gs := [.parts]) hc .rfl (.refl _ s) (by simp) rfl hlen .s3
  rw [hnow] at hpart
  exact ⟨t, (congrArg (settled s) hrow).trans ht, hpart, honly⟩

/-- The ranges of a partition in tier 0 zeroed, and its ledger gone (R406). -/
def tierZeroed (q : Nat) (rs : List Range) (s : State) : State :=
  { s with
    sill := { s.sill with ledger := s.sill.ledger.filter (fun e => e.part ≠ q) }
    out := (rs.map fun r => Output.stackZero r.first r.count).reverse ++ s.out }

theorem quiet_tierZeroed (q : Nat) (rs : List Range) (s : State) : Quiet s (tierZeroed q rs s) :=
  ⟨rfl, rfl, rfl, rfl, rfl, rfl, rfl, rfl, rfl, fun _ h => .inl h, fun h => h, rfl⟩

theorem only_tierZeroed (q : Nat) (rs : List Range) (s : State) : OnlyIn [.sill, .out] s (tierZeroed q rs s) := by
  intro g hg
  cases g with
  | sill | out => exact absurd (by simp) hg
  | _ => rfl

theorem strikeS3End_of_s3 (hr : s.running = true) (hp : (s.part q).phase = .s3) :
    strikeS3End q s =
      setPhase q .s4 (tierZeroed q (s.part q).t0 (s.atTime ((s.part q).phaseAt + 1000 * zeroUs (granules (s.part q).t0)))) := by
  simp only [strikeS3End, hr, hp, Bool.not_true, ne_eq, not_true, decide_false, Bool.or_self, Bool.false_eq_true, if_false,
    foldl_emit_eq (fun r : Range => Output.stackZero r.first r.count)]
  rfl

theorem exec_strikeS3End {due : Nat} (hc : s.calm) (hlen : q < s.parts.length)
    (hrow : strikeS3End q s = setPhase q .s4 (tierZeroed q (s.part q).t0 (s.atTime due))) :
    ∃ t, exec (.strikeS3End q) s = .next t ∧ t.now = max s.now due ∧ t.part q = { s.part q with phase := .s4, phaseAt := t.now } ∧
      (∀ x ∈ (s.part q).t0, .stackZero x.first x.count ∈ t.out) ∧
      t.sill.ledger = s.sill.ledger.filter (fun e => e.part ≠ q) ∧ OnlyIn [.cal, .start, .parts, .sill, .out] s t := by
  obtain ⟨t, ht, hnow, hpart, hout, hsill, honly⟩ := settled_setPhase (gs := [.cal, .start, .parts, .sill, .out]) hc
    ((quiet_atTime s due).trans (quiet_tierZeroed q (s.part q).t0 _))
    (((only_atTime s due).mono (by simp)).trans ((only_tierZeroed q (s.part q).t0 _).mono (by simp))) (by simp) rfl hlen .s4
  refine ⟨t, (congrArg (settled s) hrow).trans ht, hnow.trans (now_atTime s due), hpart, fun x hx => ?_, by rw [hsill]; rfl, honly⟩
  rw [hout]
  exact List.mem_append_left _ (List.mem_reverse.mpr (List.mem_map_of_mem hx))

/-! ### S4: the release (R406) -/

/-- The mailbox without a partition's assignment. -/
def unassigned (p : Nat) (s : State) : State :=
  { s with mail := { s.mail with assign := s.mail.assign.map (fun a => if a = (p, true) then (0, false) else a) } }

theorem quiet_unassigned (p : Nat) (s : State) : Quiet s (unassigned p s) :=
  ⟨rfl, rfl, rfl, rfl, rfl, rfl, rfl, rfl, rfl, fun _ h => .inl h, fun h => h, rfl⟩

theorem quiet_unassign (p : Nat) (s : State) : Quiet s (unassign p s) := by
  unfold unassign
  split
  · exact (quiet_unassigned p s).trans (quiet_loseSettings _ _ _ _)
  · exact .rfl

theorem only_unassign (p : Nat) (s : State) : OnlyIn [.mail, .ret] s (unassign p s) := by
  unfold unassign
  split
  · exact ((only_withMail s _).mono (by simp)).trans ((only_loseSettings _ _ _ _).mono (by simp))
  · exact .refl _ s

/-- The record of a partition `x` and what the block keeps by its number begun anew (R58, R190, R406). -/
def partForgotten (p : Nat) (x : Part) (s : State) : State :=
  State.modRow
    { s with
      parts := s.parts.modify p fun _ => Part.reset
      cmds := { s.cmds with gens := s.cmds.gens.filter fun e => !(x.shares.ctxBase ≤ e.1 && e.1 < x.shares.ctxBase + x.shares.contexts) }
      sill := { s.sill with sweep := s.sill.sweep ++ sweepOf x }
      vs := { s.vs with msixLocked := s.vs.msixLocked.filter fun y => y ≠ p }
      scribe := { s.scribe with traces := s.scribe.traces.filter fun y => y.slot ≠ p } } p fun g => { g with frozen := none }

theorem quiet_partForgotten (p : Nat) (x : Part) (s : State) : Quiet s (partForgotten p x s) :=
  ⟨rfl, rfl, rfl, rfl, rfl, rfl, rfl, rfl, rfl, fun _ h => .inl h, fun h => h, rfl⟩

theorem only_partForgotten (p : Nat) (x : Part) (s : State) :
    OnlyIn [.parts, .cmds, .sill, .vs, .scribe, .damper] s (partForgotten p x s) := by
  intro g hg
  cases g with
  | parts | cmds | sill | vs | scribe | damper => exact absurd (by simp) hg
  | _ => rfl

theorem releasePart_eq (p : Nat) (s : State) :
    releasePart p s = partForgotten p (s.part p) (traceStrike p (unassign p (setPState p .free (releaseResvs p s)))) := by
  simp only [releasePart, partForgotten, State.modPart]

theorem only_releaseResvs (p : Nat) (s : State) : OnlyIn [.cal] s (releaseResvs p s) := by
  intro g hg
  cases g with
  | cal => exact absurd (by simp) hg
  | _ => rfl

theorem quiet_releaseResvs (p : Nat) (s : State) : Quiet s (releaseResvs p s) :=
  ⟨rfl, rfl, rfl, rfl, rfl, rfl, rfl, rfl, rfl, fun _ h => .inl h, fun h => h, rfl⟩

/-- What S4 leaves of a calm block `s`: `t` is the state after it. -/
structure Released (p : Nat) (s t : State) : Prop where
  calm : t.calm
  part : t.part p = Part.reset
  others : ∀ k, k ≠ p → t.part k = s.part k
  cal : t.cal = (releaseResvs p s).cal
  kp : t.kp = s.kp
  fuses : t.fuses = s.fuses

theorem released_releasePart (hc : s.calm) (hlen : q < s.parts.length) : Released q s (releasePart q s) := by
  have hmarked := marked_setPState q .free (releaseResvs q s)
  have hlength := parts_length_setPState q .free (releaseResvs q s)
  have hothers := fun k (hk : k ≠ q) => part_setPState_of_ne (s := releaseResvs q s) hk .free
  rw [releasePart_eq]
  generalize setPState q .free (releaseResvs q s) = u at hmarked hlength hothers ⊢
  have hquiet := (quiet_unassign q u).trans (quiet_traceStrike q _)
  have honly : OnlyIn [.mail, .ret, .gl, .scribe, .out] u (traceStrike q (unassign q u)) :=
    ((only_unassign q u).mono (by simp)).trans ((only_traceStrike q _).mono (by simp))
  generalize traceStrike q (unassign q u) = v at hquiet honly
  have hforgot := only_partForgotten q (s.part q) v
  have hparts : v.parts = u.parts := honly .parts (by decide)
  have hcal : v.cal = u.cal := honly .cal (by decide)
  have hkp : v.kp = u.kp := honly .kp (by decide)
  have hfuses : v.fuses = u.fuses := honly .fuses (by decide)
  refine ⟨(quiet_partForgotten q _ v).calm (hquiet.calm (hmarked.calm ((quiet_releaseResvs q s).calm hc))), ?_, fun k hk => ?_,
    hcal.trans (hmarked.only .cal (by decide)), hkp.trans (hmarked.only .kp (by decide)), hfuses.trans (hmarked.only .fuses (by decide))⟩
  · exact part_modPart_self (s := v) (hlen.trans_eq (by rw [hparts, hlength]; rfl)) fun _ => Part.reset
  · exact (part_modPart_of_ne (s := v) hk _).trans ((part_congr hparts k).trans (hothers k hk))

theorem strikeS4End_of_s4 (hr : s.running = true) (hp : (s.part q).phase = .s4) :
    strikeS4End q s = answeredIf (s.part q).endDestroy 0 (releasePart q (s.atTime ((s.part q).phaseAt + 20000))) := by
  simp only [strikeS4End, hr, hp, Bool.not_true, ne_eq, not_true, decide_false, Bool.or_self, Bool.false_eq_true, if_false]
  rfl

theorem exec_strikeS4End {due : Nat} (hc : s.calm) (hlen : q < s.parts.length)
    (hsrc : ∀ r, (s.part q).endDestroy = some r → r.src = .mgmt)
    (hrow : strikeS4End q s = answeredIf (s.part q).endDestroy 0 (releasePart q (s.atTime due))) :
    ∃ t, exec (.strikeS4End q) s = .next t ∧ t.now = max s.now due ∧ t.part q = Part.reset ∧ (∀ x ∈ t.cal.resvs, x.part ≠ q) ∧
      (∀ r, (s.part q).endDestroy = some r → Replied r stOk 0 t.now t) ∧ (∀ k, k ≠ q → t.part k = s.part k) ∧ t.kp = s.kp ∧
      t.fuses = s.fuses := by
  have hrel := released_releasePart (s := s.atTime due) ((quiet_atTime s due).calm hc) hlen
  generalize releasePart q (s.atTime due) = u at hrow hrel
  have hquiet := quiet_answeredIf (s.part q).endDestroy 0 u
  have hanswer : OnlyIn [.cmds, .out] u (answeredIf (s.part q).endDestroy 0 u) := by
    cases ho : (s.part q).endDestroy with
    | none => exact .refl _ u
    | some r => exact only_answer_mgmt (hsrc r ho) stOk 0 u
  have hreplied : ∀ r, (s.part q).endDestroy = some r → Replied r stOk 0 u.now (answeredIf (s.part q).endDestroy 0 u) := fun r ho => by
    have hmgmt := hsrc r ho
    rw [ho]
    exact answer_replies (fun id hid => by rw [hmgmt] at hid; cases hid) fun k hk => by rw [hmgmt] at hk; cases hk
  generalize answeredIf (s.part q).endDestroy 0 u = t at hrow hquiet hanswer hreplied
  have hcal : t.cal = u.cal := hanswer .cal (by decide)
  have hparts : t.parts = u.parts := hanswer .parts (by decide)
  have hkp : t.kp = u.kp := hanswer .kp (by decide)
  have hfuses : t.fuses = u.fuses := hanswer .fuses (by decide)
  have htime : t.now = u.now := congrArg Calendar.now hcal
  have hnow : u.now = (s.atTime due).now := (congrArg Calendar.now hrel.cal).trans rfl
  refine ⟨_, (congrArg (settled s) hrow).trans (settled_calm (hquiet.calm hrel.calm)), (htime.trans hnow).trans (now_atTime s due),
    (part_congr hparts q).trans hrel.part, fun x hx => ?_, fun r ho => ?_, fun k hk => (part_congr hparts k).trans (hrel.others k hk),
    hkp.trans hrel.kp, hfuses.trans hrel.fuses⟩
  · have hx : x ∈ t.cal.resvs := hx
    rw [hcal, hrel.cal] at hx
    exact of_decide_eq_true (List.mem_filter.mp hx).2
  · have h := hreplied r ho
    rw [← htime] at h
    exact h

/-! ### GRANULE_CLEANED (R394) -/

/-- A granule zeroed, and no longer unclean. -/
def granuleZeroed (g : Nat) (s : State) : State :=
  State.emit { s with sill := { s.sill with unclean := rangesWithout s.sill.unclean g } } (.stackZero g 1)

theorem granuleCleaned_of_unclean {g : Nat} (hr : s.running = true)
    (hk : (List.range 16).any (fun k => (s.part k).phase = .s2 || (s.part k).phase = .s3) = false) (hg : lowestOf s.sill.unclean = some g) :
    granuleCleaned s = granuleZeroed g s := by
  simp only [granuleCleaned, hr, hk, hg, Bool.not_true, Bool.or_self, Bool.false_eq_true, if_false]
  rfl

theorem exec_granuleCleaned {g : Nat} (hc : s.calm) (hrow : granuleCleaned s = granuleZeroed g s) :
    ∃ t, exec .granuleCleaned s = .next t ∧ .stackZero g 1 ∈ t.out ∧ t.sill.unclean = rangesWithout s.sill.unclean g ∧
      OnlyIn [.sill, .out, .start] s t := by
  have hserved : SillServed s (granuleZeroed g s) := (served_withSill s _).trans (served_emit _ _)
  have hcalm := (quiet_advanceStart _).calm (hserved.quiet.calm hc)
  obtain ⟨k, -, hk⟩ := advanceStart_step (granuleZeroed g s)
  have hstepped : settled s (advanceStart (granuleCleaned s)) = .next (steppedTo k s.pending (granuleZeroed g s)) := by
    rw [hrow, settled_calm hcalm, hk]
    rfl
  exact ⟨_, hstepped, List.mem_cons_self, rfl, (hserved.only.mono (by simp)).stepped (by simp) k _⟩

end

/-- Settles O36: each phase's row is led to the partition's new record in a state that opens no work; a reply that ends teardown or
the strike stands beside it. -/
theorem strikesRunTheirPhases : Obligations.StrikesRunTheirPhases := by
  refine ⟨fun q s hc hr hlen hp _ ho ha hsrc => ?teardown, fun q s hc hr hlen => ⟨fun hp => ?s1, fun hp hb => ?s2, fun hp => ?s3,
    fun hp hsrc => ?s4⟩, fun g s hc hr hk hg => exec_granuleCleaned hc (granuleCleaned_of_unclean hr hk hg)⟩
  case teardown =>
    obtain ⟨t, x, ht, hx, hpart, hslots, hreplied, hcal, hfuses⟩ := exec_teardownComplete hc hr hlen hp ho ha hsrc
    exact ⟨t, ht, by rw [hpart]; exact hx, by rw [hpart]; rfl, by rw [hpart]; rfl, by rw [hpart]; rfl, by rw [hpart]; rfl,
      by rw [hpart]; rfl, by rw [hpart], hslots, hreplied, hcal, hfuses⟩
  case s1 => exact exec_strikeS1End hc hlen (by simp [strikeS1End, hr, hp])
  case s2 => exact exec_strikeReserveGrant hc hr hlen hp hb
  case s3 => exact exec_strikeS3End hc hlen (strikeS3End_of_s3 hr hp)
  case s4 => exact exec_strikeS4End hc hlen hsrc (strikeS4End_of_s4 hr hp)

end Sys2Proof.Machine
end

section
/-! PROOFS. Peg slots and handles (07 R214, R217, R219): what they are found under after a change, and what a handle leads to. -/

namespace Sys2Proof.Machine

/-! ### Slots (R214) -/

section slots
variable {s t : State} {i j : Nat} {g : Peg} {f : Peg → Peg}

theorem peg?_congr (h : t.pegs = s.pegs) (i : Nat) : t.peg? i = s.peg? i := by rw [State.peg?, h, State.peg?]

theorem idx_of_peg? (h : s.peg? i = some g) : g.idx = i := by simpa using List.find?_some h

theorem peg?_modPeg (hf : ∀ q, (f q).idx = q.idx) : (s.modPeg i f).peg? j = (s.peg? j).map (fun q => if q.idx = i then f q else q) := by
  have hkeeps : ∀ q : Peg, (if q.idx = i then f q else q).idx = q.idx := fun q => by
    split
    · exact hf q
    · rfl
  simp only [State.modPeg, State.peg?, List.find?_map, Function.comp_def, hkeeps]

theorem peg?_modPeg_self (hf : ∀ q, (f q).idx = q.idx) (h : s.peg? i = some g) : (s.modPeg i f).peg? i = some (f g) := by
  rw [peg?_modPeg hf, h, Option.map_some, if_pos (idx_of_peg? h)]

theorem peg?_modPeg_of_ne (hf : ∀ q, (f q).idx = q.idx) (h : j ≠ i) : (s.modPeg i f).peg? j = s.peg? j := by
  rw [peg?_modPeg hf]
  cases hg : s.peg? j with
  | none => rfl
  | some q => rw [Option.map_some, if_neg (by rw [idx_of_peg? hg]; exact h)]

/-- A peg that joins the slots is found under its number. -/
theorem find?_pegInsert (l : List Peg) (g : Peg) : (pegInsert l g).find? (fun x => x.idx = g.idx) = some g := by
  induction l with
  | nil => simp [pegInsert]
  | cons a l ih =>
    unfold pegInsert
    split
    · simp
    · next ha =>
      split
      · simp
      · simpa [ha] using ih

theorem slotState_fst {gen : Nat} (h : (s.slotState i gen).1 = some g) : s.peg? i = some g ∧ g.state = .live := by
  unfold State.slotState at h
  split at h
  · cases h
  · next q hq =>
    split at h
    · cases h
    · split at h
      · next hlive =>
        cases h
        exact ⟨hq, hlive⟩
      · cases h

end slots

/-! ### Handle tables (R217, R220) -/

section handles
variable {c d : Ctx}

theorem entry?_setEntry (e : HandleEntry) (c : Ctx) : (setEntry e c).entry? e.idx = some e := by
  have hnone : (c.handles.filter fun y => y.idx ≠ e.idx).find? (fun y => y.idx = e.idx) = none :=
    List.find?_eq_none.mpr fun y hy he => of_decide_eq_true (List.mem_filter.mp hy).2 (of_decide_eq_true he)
  rw [Ctx.entry?, setEntry, List.find?_append, hnone, Option.none_or, List.find?_cons_of_pos (by simp)]

theorem slot_setEntry (e : HandleEntry) (c : Ctx) : (setEntry e c).slot = c.slot := rfl

theorem slot_releaseEntry (i : Nat) (c : Ctx) : (releaseEntry i c).slot = c.slot := rfl

theorem entry?_congr (h : d.handles = c.handles) (i : Nat) : d.entry? i = c.entry? i := by rw [Ctx.entry?, h, Ctx.entry?]

theorem entryGen_congr (h : d.handles = c.handles) (i : Nat) : d.entryGen i = c.entryGen i := by
  rw [Ctx.entryGen, entry?_congr h, Ctx.entryGen]

theorem CtxKept.freeIndex (h : CtxKept c d) : d.freeIndex = c.freeIndex := by
  simp only [Ctx.freeIndex, entry?_congr h.handles, h.htLog2]

theorem handles_of_work (h : d.work = c.work) : d.handles = c.handles := by
  simpa [Ctx.work] using congrArg Ctx.handles h

end handles

/-! ### Translation (R219) -/

section translation
variable {s : State} {c : Ctx} {x i : Nat} {g : Peg}

/-- The slot and peg of this chip that a translation gives. -/
def Xlat.near? : Xlat → Option (Nat × Peg)
  | .owner i g => some (i, g)
  | .imported i g _ => some (i, g)
  | _ => none

/-- A translation to a peg of this chip gives the live peg of its slot. -/
theorem near?_translate (h : (translate s c x).near? = some (i, g)) : s.peg? i = some g ∧ g.state = .live := by
  have hslot : ∀ k gen : Nat, ∀ q v, s.slotState k gen = (some q, v) → some (k, q) = some (i, g) → s.peg? i = some g ∧ g.state = .live :=
    fun k gen q v hq he => by
      cases he
      exact slotState_fst (congrArg Prod.fst hq)
  -- The checks of R219 in their order: index, entry, generation, target and check bits, then what the target is.
  unfold translate at h
  dsimp only at h
  split at h
  · cases h
  split at h
  · cases h
  split at h
  · cases h
  split at h
  · cases h
  split at h
  · cases h
  split at h
  case h_1 k gen _ =>
    split at h
    case h_1 heq => exact hslot _ _ _ _ heq h
    case h_2 => cases h
  case h_2 k gen _ _ =>
    split at h
    case h_1 heq => exact hslot _ _ _ _ heq h
    case h_2 => cases h
  case h_3 => cases h

theorem translate_owner_live (h : translate s c x = .owner i g) : s.peg? i = some g ∧ g.state = .live :=
  near?_translate (by rw [h]; rfl)

/-- A handle leads to a live peg of this chip: as its owner, or with the right `bit` (R217, R222, R223, R224). -/
def LeadsTo (s : State) (c : Ctx) (x bit i : Nat) (g : Peg) : Prop :=
  translate s c x = .owner i g ∨ ∃ r, translate s c x = .imported i g r ∧ bitOf r bit = true

theorem LeadsTo.peg? {bit : Nat} (h : LeadsTo s c x bit i g) : s.peg? i = some g := by
  obtain h | ⟨r, h, -⟩ := h <;> exact (near?_translate (by rw [h]; rfl)).1

end translation

end Sys2Proof.Machine
end

section
/-! PROOFS. The starts of the peg commands (07 R220 to R242): the state that a context's command meets, and what it leaves of its
source while it acts. -/

namespace Sys2Proof.Machine

/-! ### Pool requests (R236) -/

section pool
variable {s : State}

/-- A parcel that asks nothing of the pool is no member of a fence with POOL. -/
theorem poolMembers_addParcel {f : Nat → TxParcel} (hf : ∀ n m, (f n).body ≠ .atomicReq m) (part : Nat) :
    poolMembers part (s.addParcel f) = poolMembers part s := by
  unfold poolMembers State.addParcel
  rw [List.filter_append, List.filter_cons_of_neg, List.filter_nil, List.append_nil]
  intro hmember
  obtain ⟨-, hbody⟩ := Bool.and_eq_true_iff.mp hmember
  split at hbody
  · next m hm => exact hf _ m hm
  · cases hbody

theorem poolMembers_writeTrace (n : Nat) (recs : List TraceRec) (s : State) (part : Nat) :
    poolMembers part (writeTrace n recs s) = poolMembers part s := by
  unfold writeTrace
  split
  · rfl
  · split
    · dsimp only
      rw [poolMembers, State.modTrace_gl, ← poolMembers]
      exact poolMembers_addParcel (fun _ _ h => by cases h) part
    · refine List.foldlRecOn (motive := fun u => poolMembers part u = poolMembers part s) recs _ rfl fun u hu r _ => ?_
      split
      · exact hu
      · dsimp only
        split
        · exact hu
        · split <;> exact hu

theorem poolMembers_pushTrace (n : Nat) (r : TraceRec) (s : State) (part : Nat) :
    poolMembers part (pushTrace n r s) = poolMembers part s := by
  unfold pushTrace
  split
  · rfl
  · split
    · rfl
    · have key : ∀ (b : Bool) (u v : State), poolMembers part u = poolMembers part s → poolMembers part v = poolMembers part s →
          poolMembers part (if b then u else v) = poolMembers part s := fun b u v hu hv => by
        cases b
        · exact hv
        · exact hu
      exact key _ _ _ (poolMembers_writeTrace _ _ _ part) rfl

theorem poolMembers_noteStart (r : CmdRef) (s : State) (part : Nat) : poolMembers part (noteStart r s) = poolMembers part s := by
  unfold noteStart traceCtx
  dsimp only
  split
  · split
    · rfl
    · split
      · exact poolMembers_pushTrace _ _ _ part
      · rfl
  · rfl

end pool

/-! ### The state that a context's command meets -/

/-- While the links stay as they are, so do the ways out. -/
theorem Quiet.reaches {s t : State} (h : Quiet s t) {dst : Nat} (hr : s.reaches dst = true) : t.reaches dst = true := by
  rwa [State.reaches, wayOut_congr (.of_state fun n => by rw [State.link, h.links, State.link]) h.coord, chip_congr h.coord]

/-- A context's command meets a state that differs by what its arrival leaves: its context `c` has become `d`. -/
structure CtxStart (op : Op) (p : Packet) (s : State) (c : Ctx) (u : State) (d : Ctx) : Prop where
  isCtx : srcIsCtx p.src = true
  calm : u.calm
  started : Started s u
  only : OnlyIn replyAreas s u
  ctx : u.ctx? p.slot = some d
  kept : CtxKept c d
  pool : ∀ part, poolMembers part u = poolMembers part s
  fresh : u.staleRef (named op p s) = false

section start
variable {op : Op} {p : Packet} {s u : State} {c d : Ctx}

theorem submit_ctxStart (a : Aux) (hi : op.issuers = [.c]) (hc : s.calm) (hp : passes op p s) (hctx : s.ctx? p.slot = some c) :
    ∃ u d, submit op p a s = startOf op (named op p s) p a u ∧ CtxStart op p s c u d := by
  have hsrc := srcIsCtx_of_passes (.inl hi) hp
  have hsession : ∀ id, p.src ≠ .session id := fun id h => by rw [h] at hsrc; cases hsrc
  have hopened : ∀ part, poolMembers part (opened op p s) = poolMembers part s := fun part => by
    rw [poolMembers, show (opened op p s).gl = s.gl from only_opened .gl (by decide), poolMembers]
  have hnow : (opened op p s).now = (named op p s).start := by
    change (opened op p s).cal.now = (arrived p s).cal.now
    rw [show (opened op p s).cal = s.cal from only_opened .cal (by decide), only_arrived p s .cal (by decide)]
  have key : ∀ u, submit op p a s = startOf op (named op p s) p a u → Started s u → u.vs = s.vs →
      (∀ part, poolMembers part u = poolMembers part s) →
      ∃ u d, submit op p a s = startOf op (named op p s) p a u ∧ CtxStart op p s c u d := fun u hu hs hvs hpool => by
    obtain ⟨d, hd, hkept⟩ := hs.ctxs _ _ hctx
    exact ⟨u, d, hu, hsrc, hs.quiet.calm hc, hs, hs.onlyNoVs hvs, hd, hkept, hpool, hs.fresh hp⟩
  have hbegins := submit_passes a hc hp
  rcases begin_cases op (named op p s) p a (opened op p s) with h | h <;> rw [hnow] at h
  · exact key _ (hbegins.trans h) started_opened (opened_vs hsession) hopened
  · exact key _ (hbegins.trans h) (started_opened.trans (started_noteStart _ _))
      (Eq.trans ((only_noteStart _ _) .vs (by decide)) (opened_vs hsession))
      fun part => (poolMembers_noteStart _ _ part).trans (hopened part)

namespace CtxStart
variable (h : CtxStart op p s c u d)
include h

theorem pegs : u.pegs = s.pegs := h.only .pegs (by decide)

theorem parts : u.parts = s.parts := h.started.only .parts (by decide)

theorem now : u.now = s.now := congrArg Calendar.now (h.only .cal (by decide))

theorem translate_eq (x : Nat) : translate u d x = translate s c x := translate_kept h.kept h.pegs x

theorem leadsTo {x bit i : Nat} {g : Peg} (hx : LeadsTo s c x bit i g) : LeadsTo u d x bit i g := by
  rwa [LeadsTo, h.translate_eq]

theorem reaches {dst : Nat} (hr : s.reaches dst = true) : u.reaches dst = true := h.started.quiet.reaches hr

end CtxStart

end start

/-! ### While a command acts -/

/-- A command's effect so far: nothing is left for the block to do, only some areas have changed, and its source can still be
answered. -/
structure Underway (gs : List Area) (s t : State) : Prop where
  quiet : Quiet s t
  only : OnlyIn gs s t
  gens : t.cmds.gens = s.cmds.gens
  ctxs : ∀ n, (t.ctx? n).isNone = (s.ctx? n).isNone
  parts : t.parts.length = s.parts.length

namespace Underway
variable {gs : List Area} {s t u : State}

theorem refl (gs : List Area) (s : State) : Underway gs s s := ⟨.rfl, .refl _ s, rfl, fun _ => rfl, rfl⟩

theorem trans (h : Underway gs s t) (k : Underway gs t u) : Underway gs s u :=
  ⟨h.quiet.trans k.quiet, h.only.trans k.only, k.gens.trans h.gens, fun n => (k.ctxs n).trans (h.ctxs n), k.parts.trans h.parts⟩

theorem mono {hs : List Area} (h : Underway gs s t) (k : ∀ g ∈ gs, g ∈ hs) : Underway hs s t :=
  ⟨h.quiet, h.only.mono k, h.gens, h.ctxs, h.parts⟩

theorem staleRef (h : Underway gs s t) (r : CmdRef) : t.staleRef r = s.staleRef r :=
  staleRef_congr (by rw [State.genOf, h.gens, State.genOf]) (h.ctxs _)

end Underway

section underway
variable (s : State)

theorem underway_withPegs (x : Pegs) : Underway [.pegs] s { s with pegs := x } := by
  refine ⟨⟨rfl, rfl, rfl, rfl, rfl, rfl, rfl, rfl, rfl, fun _ h => .inl h, id, rfl⟩, fun g hg => ?_, rfl, fun _ => rfl, rfl⟩
  cases g with
  | pegs => exact absurd (by simp) hg
  | _ => rfl

theorem underway_modPeg (i : Nat) (f : Peg → Peg) : Underway [.pegs] s (s.modPeg i f) := underway_withPegs s _

theorem underway_draw : Underway [.fresh] s s.draw.2 := ⟨quiet_draw s, only_draw s, rfl, fun _ => rfl, rfl⟩

theorem underway_hold (r : CmdRef) : Underway [.cmds] s (hold r s) := ⟨quiet_hold r s, only_hold r s, rfl, fun _ => rfl, rfl⟩

theorem underway_modCtx (n : Nat) {f : Ctx → Ctx} (hf : ∀ c, (f c).slot = c.slot) : Underway [.cmds] s (s.modCtx n f) :=
  ⟨quiet_modCtx s n f, only_modCtx s n f, rfl, fun m => by rw [ctx?_modCtx hf, Option.isNone_map], rfl⟩

end underway

/-- A command whose effect leaves it unanswered goes on. -/
theorem CtxStart.goesOn {op : Op} {p : Packet} {i : Instr} {s u w : State} {c d : Ctx} {gs : List Area}
    (h : CtxStart op p s c u d) (hsub : ∀ g ∈ replyAreas, g ∈ gs) (hw : Underway gs u w) (hi : exec i s = settled s w) :
    exec i s = .next { w with pending := s.pending } ∧ OnlyIn gs s { w with pending := s.pending } :=
  ⟨hi.trans (settled_calm (hw.quiet.calm h.calm)), ((h.only.mono hsub).trans hw.only).queue _⟩

/-- A command whose effect ends it is answered. -/
theorem CtxStart.ends {op : Op} {p : Packet} {i : Instr} {s u w : State} {c d : Ctx} {gs : List Area} {st : Nat} {v : BitVec 128}
    (h : CtxStart op p s c u d) (hp : passes op p s) (hsub : ∀ g ∈ replyAreas, g ∈ gs) (hcal : Area.cal ∉ gs)
    (hw : Underway gs u w) (hi : exec i s = settled s (complete (named op p s) st v w)) :
    exec i s = .next { complete (named op p s) st v w with pending := s.pending } ∧
      Answered op p st v s { complete (named op p s) st v w with pending := s.pending } ∧
      OnlyIn gs s { complete (named op p s) st v w with pending := s.pending } := by
  have hcalm := (hw.quiet.trans (quiet_complete (named op p s) st v w)).calm h.calm
  have hends := (only_complete (named op p s) st v w).mono hsub
  have hnow : w.now = s.now := congrArg Calendar.now ((h.only .cal (by decide)).trans (hw.only .cal hcal))
  have hanswered : Answered op p st v s (complete (named op p s) st v w) :=
    complete_answers ((hw.staleRef _).trans h.fresh) hnow
      (fun id hid => absurd h.isCtx (by rw [hid]; exact Bool.false_ne_true))
      fun q hq => by rw [hw.parts, h.parts]; exact ring_of_passes hp q hq
  exact ⟨hi.trans (settled_calm hcalm), hanswered.queue _, (((h.only.mono hsub).trans hw.only).trans hends).queue _⟩

/-! ### Replies, records and messages on the way -/

/-- What replies to other commands, records and messages to other chips leave: their marks, and no more. -/
structure MarksOnly (s t : State) : Prop where
  quiet : Quiet s t
  only : OnlyIn replyAreas s t
  noted : Noted s t

namespace MarksOnly
variable {s t u : State}

theorem refl (s : State) : MarksOnly s s := ⟨.rfl, .refl _ s, .refl s⟩

theorem trans (h : MarksOnly s t) (k : MarksOnly t u) : MarksOnly s u := ⟨h.quiet.trans k.quiet, h.only.trans k.only, h.noted.trans k.noted⟩

/-- A fold of steps that leave marks alone leaves marks alone. -/
theorem foldl {α : Type} {f : State → α → State} {l : List α} (hf : ∀ u, MarksOnly s u → ∀ a ∈ l, MarksOnly u (f u a)) :
    MarksOnly s (l.foldl f s) :=
  List.foldlRecOn l f (MarksOnly.refl s) fun u hu a ha => hu.trans (hf u hu a ha)

theorem underway (h : MarksOnly s t) : Underway replyAreas s t := by
  refine ⟨h.quiet, h.only, h.noted.gens, fun n => ?_, h.noted.parts_length⟩
  cases hc : s.ctx? n with
  | none => rw [h.noted.ctx?_eq_none hc]
  | some c =>
    obtain ⟨d, hd, -⟩ := h.noted.ctx? hc
    rw [hd]
    rfl

theorem pegs (h : MarksOnly s t) : t.pegs = s.pegs := h.only .pegs (by decide)

theorem reaches (h : MarksOnly s t) {dst : Nat} (hr : s.reaches dst = true) : t.reaches dst = true := h.quiet.reaches hr

end MarksOnly

section marks
variable (s : State)

theorem marksOnly_complete (r : CmdRef) (st : Nat) (v : BitVec 128) : MarksOnly s (complete r st v s) :=
  ⟨quiet_complete r st v s, only_complete r st v s, noted_complete r st v s⟩

theorem marksOnly_tracePeg (r : CmdRef) (flags value : Nat) : MarksOnly s (tracePeg r flags value s) :=
  ⟨quiet_traceCtx _ _ _ _ s, (only_traceCtx _ _ _ _ s).mono (by simp), noted_traceCtx s _ _ _ _⟩

theorem marksOnly_countPegEvent (part st : Nat) : MarksOnly s (countPegEvent part st s) :=
  ⟨quiet_modView s _ _, (only_modView s _ _).mono (by simp), noted_modView s _ _⟩

variable {s}

/-- A message to a chip that a link leads on towards leaves. -/
theorem marksOnly_sendPeg {dst : Nat} (h : s.reaches dst = true) (part : Nat) (m : PegMsg) : MarksOnly s (sendPeg part dst m s) := by
  refine ⟨quiet_addParcel_reached s _ fun n => ?_, (only_addParcel s _).mono (by simp), noted_addParcel s fun _ => rfl⟩
  have hway : s.wayOut s.chip dst 0 false ≠ .unreachable := of_decide_eq_true h
  change (true && true && decide (s.wayOut s.chip dst 0 false = .unreachable) && _) = false
  rw [decide_eq_false hway]
  rfl

end marks

end Sys2Proof.Machine
end

section
/-! PROOFS. PEG_ALLOC and PEG_FREE (07 R214, R217, R220, R221, R240). -/

namespace Sys2Proof.Machine

section
variable {s u : State} {r : CmdRef} {p : Packet} {c d : Ctx} {i hi : Nat} {g : Peg}

/-- A command that ends with an entry put in its context's handle table is answered, and the entry stands there. -/
theorem CtxStart.endsWithEntry {op : Op} {ins : Instr} {w : State} {x : Ctx} {gs : List Area} {v : BitVec 128} {e : HandleEntry}
    {f : Ctx → Ctx} (h : CtxStart op p s c u d) (hp : passes op p s) (hsub : ∀ g ∈ replyAreas, g ∈ gs) (hcal : Area.cal ∉ gs)
    (hw : Underway gs u w) (hctx : w.ctx? p.slot = some x) (hf : ∀ q, (f q).slot = q.slot) (he : (f x).entry? e.idx = some e)
    (hi : exec ins s = settled s (complete (named op p s) stOk v (w.modCtx p.slot f))) :
    ∃ t c', exec ins s = .next t ∧ t.pegs = w.pegs ∧ t.ctx? p.slot = some c' ∧ c'.entry? e.idx = some e ∧ Answered op p stOk v s t ∧
      OnlyIn gs s t := by
  have hput := (underway_modCtx w p.slot hf).mono (hs := gs) fun a ha => hsub a (by rw [List.mem_singleton.mp ha]; decide)
  obtain ⟨ht, hanswer, hareas⟩ := h.ends hp hsub hcal (hw.trans hput) hi
  obtain ⟨c', hc', hwork⟩ := (noted_complete (named op p s) stOk v _).ctx? (ctx?_modCtx_self hf hctx)
  exact ⟨_, c', ht, only_complete (named op p s) stOk v _ .pegs (by decide), hc', (entry?_congr (handles_of_work hwork) _).trans he,
    hanswer, hareas⟩

/-! ### PEG_ALLOC (R220) -/

/-- A partition may take a FREE slot: its share and the block have one (R220). -/
def slotFree (part : Nat) (s : State) : Bool :=
  (s.pegsOf part).length < (s.part part).shares.pegs && (s.pegs.slots.filter (fun g => g.state != .free)).length < 65536

theorem pegsOf_congr (h : u.pegs = s.pegs) (part : Nat) : u.pegsOf part = s.pegsOf part := by rw [State.pegsOf, h, State.pegsOf]

theorem slotFree_congr (h : u.pegs = s.pegs) (hp : u.parts = s.parts) (part : Nat) : slotFree part u = slotFree part s := by
  rw [slotFree, pegsOf_congr h, h, State.part, hp, slotFree, State.part]

/-- The slot that a PEG_ALLOC takes: a free one, or that of the share's oldest orphan. -/
def allocSlot (part : Nat) (s : State) : Nat :=
  if slotFree part s then
    kthFree ((s.pegs.slots.filter (fun g => g.state != .free)).map (fun g => g.idx))
      (s.draw.1 % (65536 - (s.pegs.slots.filter (fun g => g.state != .free)).length))
  else ((oldestOrphan (s.pegsOf part)).map (fun g => g.idx)).getD 0

/-- The generation after that of a slot, 1 for one never used (R214). -/
def nextSlotGen (i : Nat) (s : State) : Nat :=
  match s.peg? i with
  | none => 1
  | some h => (h.slotGen + 1) % 256

theorem nextSlotGen_eq_elim (i : Nat) (s : State) : nextSlotGen i s = (s.peg? i).elim 1 (fun h => (h.slotGen + 1) % 256) := by
  rw [nextSlotGen]
  cases s.peg? i <;> rfl

/-- The peg that a PEG_ALLOC makes in slot `i`. -/
def newPeg (r : CmdRef) (p : Packet) (i : Nat) (s : State) : Peg :=
  { idx := i, value := BitVec.ofNat 64 (pf p 24 8), isValue := pf p 20 1 = 1, state := .live, slotGen := nextSlotGen i s,
    ownerPart := r.part, ownerCtx := r.slot, role := .none, partner := 0, depth := 0, orphanedAt := 0 }

/-- A state that holds a peg and has drawn the number that chose its slot. -/
def pegAllocated (g : Peg) (s : State) : State := { s.draw.2 with pegs := { s.pegs with slots := pegInsert s.pegs.slots g } }

/-- An entry of a handle table with its owner's target. -/
def ownerEntry (c : Ctx) (hi : Nat) (g : Peg) : HandleEntry :=
  { idx := hi, gen := c.entryGen hi, target := some (.owner g.idx g.slotGen), checkOk := true }

theorem startPegAlloc_of_room (hc : s.ctx? r.slot = some c) (hi : c.freeIndex = some i)
    (hroom : slotFree r.part s = true ∨ (oldestOrphan (s.pegsOf r.part)).isSome = true) :
    startPegAlloc r p s = complete r stOk (resultOf [(16, 4, mkHandle i (c.entryGen i))])
      ((pegAllocated (newPeg r p (allocSlot r.part s) s) s).modCtx r.slot
        (setEntry (ownerEntry c i (newPeg r p (allocSlot r.part s) s)))) := by
  unfold startPegAlloc
  simp only [hc, hi]
  split
  · next hno horphan =>
    rw [horphan] at hroom
    rcases hroom with hroom | hroom
    · exact absurd (hno.symm.trans hroom) Bool.false_ne_true
    · cases hroom
  · rfl

theorem peg?_pegAllocated (g : Peg) (s : State) : (pegAllocated g s).peg? g.idx = some g := find?_pegInsert _ g

theorem underway_pegAllocated (g : Peg) (s : State) : Underway [.pegs, .fresh] s (pegAllocated g s) :=
  ((underway_draw s).mono (by simp)).trans ((underway_withPegs s.draw.2 _).mono (by simp))

/-! ### Orphaning (R240) -/

/-- A peg out of its ring. -/
def Peg.unrung (q : Peg) : Peg := { q with role := .none, partner := 0, depth := 0 }

/-- A peg orphaned at a count of the order clock. -/
def Peg.orphanedAs (clock : Nat) (q : Peg) : Peg := { q.unrung with state := .orphaned, orphanedAt := clock }

/-- The slots after a live peg `g` has been orphaned: its partner leaves the ring too. -/
def slotOrphaned (g : Peg) (s : State) : State :=
  let t := s.modPeg g.idx (Peg.orphanedAs s.pegs.orphanClock)
  if g.role = .none then t else t.modPeg g.partner Peg.unrung

/-- The waits of a slot end: its local waits and its registrations of other chips. -/
def waitsEnded (i : Nat) (s : State) : State :=
  { s with pegs := { s.pegs with
      waiters := s.pegs.waiters.filter (fun w => !(w.peg = i && w.remoteChip.isNone))
      remote := s.pegs.remote.filter (fun w => w.peg ≠ i)
      orphanClock := s.pegs.orphanClock + 1 } }

/-- A live peg orphaned, before those who wait on it are told. -/
def pegOrphaned (g : Peg) (s : State) : State := waitsEnded g.idx (slotOrphaned g s)

theorem slotOrphaned_waits (g : Peg) (s : State) :
    (slotOrphaned g s).pegs.waiters = s.pegs.waiters ∧ (slotOrphaned g s).pegs.remote = s.pegs.remote := by
  unfold slotOrphaned
  dsimp only
  split <;> exact ⟨rfl, rfl⟩

theorem underway_pegOrphaned (g : Peg) (s : State) : Underway [.pegs] s (pegOrphaned g s) := by
  have hslots : Underway [.pegs] s (slotOrphaned g s) := by
    unfold slotOrphaned
    dsimp only
    split
    · exact underway_modPeg _ _ _
    · exact (underway_modPeg _ _ _).trans (underway_modPeg _ _ _)
  exact hslots.trans (underway_withPegs _ _)

/-- An orphaned peg keeps its value and is in no ring. -/
theorem peg?_pegOrphaned (hg : s.peg? g.idx = some g) :
    ∃ q, (pegOrphaned g s).peg? g.idx = some q ∧ q.state = .orphaned ∧ q.value = g.value ∧ q.role = .none := by
  have hself := peg?_modPeg_self (f := Peg.orphanedAs s.pegs.orphanClock) (fun _ => rfl) hg
  change ∃ q, (slotOrphaned g s).peg? g.idx = some q ∧ _
  unfold slotOrphaned
  dsimp only
  split
  · exact ⟨_, hself, rfl, rfl, rfl⟩
  · rw [peg?_modPeg (f := Peg.unrung) (fun _ => rfl), hself, Option.map_some]
    split <;> exact ⟨_, rfl, rfl, rfl, rfl⟩

theorem waits_pegOrphaned (g : Peg) (s : State) :
    (∀ w ∈ (pegOrphaned g s).pegs.waiters, w.peg = g.idx → w.remoteChip ≠ none) ∧
      ∀ w ∈ (pegOrphaned g s).pegs.remote, w.peg ≠ g.idx := by
  refine ⟨fun w hw hpeg hnone => ?_, fun w hw => of_decide_eq_true (List.mem_filter.mp hw).2⟩
  have hkept := (List.mem_filter.mp hw).2
  rw [hpeg, hnone] at hkept
  simp at hkept

/-- Orphaning a live peg answers its local waits and tells the chips that registered, after which nothing more happens. -/
theorem marksOnly_orphanPeg (hg : s.peg? i = some g) (hlive : g.state = .live)
    (hreach : ∀ w ∈ s.pegs.remote, w.peg = i → s.reaches w.src = true) : MarksOnly (pegOrphaned g s) (orphanPeg i s) := by
  obtain rfl := idx_of_peg? hg
  obtain ⟨hwaiters, hremote⟩ := slotOrphaned_waits g s
  have hquiet := (underway_pegOrphaned g s).quiet
  have heq : orphanPeg g.idx s =
      (s.pegs.remote.filter (fun w => w.peg = g.idx)).foldl (fun t w =>
        sendPeg w.part w.src (pegMsg 0x13 stPegOrphaned g.idx g.slotGen w.part w.context w.seq g.value 0 0) t)
      ((s.pegs.waiters.filter (fun w => w.peg = g.idx && w.remoteChip.isNone)).foldl
        (fun t w => complete w.ref stPegOrphaned (detailOf g.value.toNat) t) (pegOrphaned g s)) := by
    unfold orphanPeg
    simp only [hg]
    rw [if_neg (not_not.mpr hlive), ← hwaiters, ← hremote]
    rfl
  rw [heq]
  have hanswered : MarksOnly (pegOrphaned g s) ((s.pegs.waiters.filter (fun w => w.peg = g.idx && w.remoteChip.isNone)).foldl
      (fun t w => complete w.ref stPegOrphaned (detailOf g.value.toNat) t) (pegOrphaned g s)) :=
    .foldl fun t _ w _ => marksOnly_complete t w.ref _ _
  refine hanswered.trans (.foldl fun t ht w hw => marksOnly_sendPeg (ht.reaches (hanswered.reaches ?_)) _ _)
  obtain ⟨hmem, hpeg⟩ := List.mem_filter.mp hw
  exact hquiet.reaches (hreach w hmem (of_decide_eq_true hpeg))

theorem exec_pegAlloc (hc : s.calm) (hp : passes .pegAlloc p s) (hctx : s.ctx? p.slot = some c) (hfree : c.freeIndex = some hi)
    (hroom : slotFree p.part s = true ∨ (oldestOrphan (s.pegsOf p.part)).isSome = true) :
    ∃ t i c', exec (.pegAlloc p) s = .next t ∧ t.peg? i = some (newPeg (named .pegAlloc p s) p i s) ∧ t.ctx? p.slot = some c' ∧
      c'.entry? hi = some (ownerEntry c hi (newPeg (named .pegAlloc p s) p i s)) ∧
      Answered .pegAlloc p stOk (resultOf [(16, 4, mkHandle hi (c.entryGen hi))]) s t ∧ OnlyIn (.pegs :: .fresh :: replyAreas) s t := by
  obtain ⟨u, d, hu, hstart⟩ := submit_ctxStart .none rfl hc hp hctx
  have hroom' : slotFree p.part u = true ∨ (oldestOrphan (u.pegsOf p.part)).isSome = true := by
    rwa [slotFree_congr hstart.pegs hstart.parts, pegsOf_congr hstart.pegs]
  have hgen : d.entryGen hi = c.entryGen hi := entryGen_congr hstart.kept.handles hi
  have hrow := hu.trans (startPegAlloc_of_room (r := named .pegAlloc p s) (p := p) hstart.ctx (hstart.kept.freeIndex.trans hfree)
    hroom')
  rw [hgen] at hrow
  generalize allocSlot (named .pegAlloc p s).part u = i at hrow
  have hnew : newPeg (named .pegAlloc p s) p i u = newPeg (named .pegAlloc p s) p i s := by
    simp only [newPeg, nextSlotGen, peg?_congr hstart.pegs]
  have hentry : ownerEntry d hi (newPeg (named .pegAlloc p s) p i s) = ownerEntry c hi (newPeg (named .pegAlloc p s) p i s) := by
    rw [ownerEntry, hgen, ownerEntry]
  rw [hnew, hentry] at hrow
  obtain ⟨t, c', ht, hpegs, hrest⟩ := hstart.endsWithEntry (ins := .pegAlloc p) hp (gs := .pegs :: .fresh :: replyAreas) (by simp)
    (by decide) ((underway_pegAllocated _ u).mono (by simp)) hstart.ctx (slot_setEntry _) (entry?_setEntry _ d) (congrArg (settled s) hrow)
  exact ⟨t, i, c', ht, (peg?_congr hpegs i).trans (peg?_pegAllocated _ u), hrest⟩

/-! ### PEG_FREE (R221) -/

/-- The released entry of a handle. -/
def releasedEntry (c : Ctx) (idx : Nat) : HandleEntry := { idx := idx, gen := (c.entryGen idx + 1) % 256, target := none, checkOk := true }

theorem entry?_releaseEntry (idx : Nat) (c : Ctx) : (releaseEntry idx c).entry? idx = some (releasedEntry c idx) :=
  entry?_setEntry (releasedEntry c idx) c

theorem startPegFree_of_owner (hc : s.ctx? r.slot = some c) (hx : translate s c (pf p 20 4) = .owner i g) :
    startPegFree r p s = complete r stOk 0 ((orphanPeg i s).modCtx r.slot (releaseEntry (pf p 20 4 % 4096))) := by
  simp only [startPegFree, hc, hx]

theorem startPegFree_of_imported (hc : s.ctx? r.slot = some c)
    (hx : (∃ i g r, translate s c (pf p 20 4) = .imported i g r) ∨ ∃ ch pt i g r, translate s c (pf p 20 4) = .remote ch pt i g r) :
    startPegFree r p s = complete r stOk 0 (s.modCtx r.slot (releaseEntry (pf p 20 4 % 4096))) := by
  obtain ⟨i, g, k, hx⟩ | ⟨ch, pt, i, g, k, hx⟩ := hx <;> simp only [startPegFree, hc, hx]

/-- A PEG_FREE that ends with the handle's entry released, after what it does to the pegs. -/
theorem exec_pegFree {w : State} {e : Ctx} {gs : List Area} (hp : passes .pegFree p s) (hstart : CtxStart .pegFree p s c u d)
    (hsub : ∀ g ∈ replyAreas, g ∈ gs) (hcal : Area.cal ∉ gs) (hw : Underway gs u w) (hctx : w.ctx? p.slot = some e)
    (hkept : e.handles = c.handles)
    (hrow : submit .pegFree p .none s = complete (named .pegFree p s) stOk 0 (w.modCtx p.slot (releaseEntry (pf p 20 4 % 4096)))) :
    ∃ t c', exec (.pegFree p) s = .next t ∧ t.pegs = w.pegs ∧ t.ctx? p.slot = some c' ∧
      c'.entry? (pf p 20 4 % 4096) = some (releasedEntry c (pf p 20 4 % 4096)) ∧ Answered .pegFree p stOk 0 s t ∧ OnlyIn gs s t := by
  have hentry := entry?_releaseEntry (pf p 20 4 % 4096) e
  rw [releasedEntry, entryGen_congr hkept, ← releasedEntry] at hentry
  exact hstart.endsWithEntry (ins := .pegFree p) (e := releasedEntry c (pf p 20 4 % 4096)) hp hsub hcal hw hctx (slot_releaseEntry _) hentry
    (congrArg (settled s) hrow)

theorem exec_pegFree_of_owner (hc : s.calm) (hp : passes .pegFree p s) (hctx : s.ctx? p.slot = some c)
    (hx : translate s c (pf p 20 4) = .owner i g) (hreach : ∀ w ∈ s.pegs.remote, w.peg = i → s.reaches w.src = true) :
    ∃ t q c', exec (.pegFree p) s = .next t ∧ t.peg? i = some q ∧ q.state = .orphaned ∧ q.value = g.value ∧ q.role = .none ∧
      (∀ w ∈ t.pegs.waiters, w.peg = i → w.remoteChip ≠ none) ∧ (∀ w ∈ t.pegs.remote, w.peg ≠ i) ∧ t.ctx? p.slot = some c' ∧
      c'.entry? (pf p 20 4 % 4096) = some (releasedEntry c (pf p 20 4 % 4096)) ∧ Answered .pegFree p stOk 0 s t ∧
      OnlyIn (.pegs :: replyAreas) s t := by
  obtain ⟨u, d, hu, hstart⟩ := submit_ctxStart .none rfl hc hp hctx
  obtain ⟨hg, hlive⟩ := translate_owner_live hx
  have hgu := (peg?_congr hstart.pegs i).trans hg
  have hmarks := marksOnly_orphanPeg hgu hlive fun w hw hpeg => hstart.reaches (hreach w (hstart.pegs ▸ hw) hpeg)
  obtain rfl := idx_of_peg? hg
  have hslots := underway_pegOrphaned g u
  obtain ⟨e, he, hwork⟩ := hmarks.noted.ctx? (n := p.slot) (c := d) ((ctx?_congr (hslots.only .cmds (by decide)) _).trans hstart.ctx)
  obtain ⟨t, c', ht, hpegs, hrest⟩ := exec_pegFree hp hstart (gs := .pegs :: replyAreas) (by simp) (by decide)
    ((hslots.mono (by simp)).trans (hmarks.underway.mono (by simp))) he ((handles_of_work hwork).trans hstart.kept.handles)
    (hu.trans (startPegFree_of_owner hstart.ctx ((hstart.translate_eq _).trans hx)))
  have hpegs : t.pegs = (pegOrphaned g u).pegs := hpegs.trans hmarks.pegs
  obtain ⟨q, hq, hstate, hvalue, hrole⟩ := peg?_pegOrphaned hgu
  obtain ⟨hwaiters, hremote⟩ := waits_pegOrphaned g u
  rw [← hpegs] at hwaiters hremote
  exact ⟨t, q, c', ht, (peg?_congr hpegs _).trans hq, hstate, hvalue, hrole, hwaiters, hremote, hrest⟩

end

/-- Settles O25: a PEG_ALLOC puts its peg and its entry where the checks found room; a PEG_FREE orphans the peg or leaves the pegs alone,
and then releases its entry. -/
theorem pegAllocAndPegFreeComplete : Obligations.PegAllocAndPegFreeComplete := by
  refine ⟨fun p s c hi hc hp hctx hfree hroom => ?alloc, fun p s c i g hc hp hctx hx hreach => exec_pegFree_of_owner hc hp hctx hx hreach,
    fun p s c x hc hp hctx hx himport => ?imported⟩
  case alloc =>
    obtain ⟨t, i, c', ht, hg, hc', he, hrest⟩ := exec_pegAlloc hc hp hctx hfree
      (hroom.imp_left fun ⟨hshare, hblock⟩ => by simp [slotFree, hshare, hblock])
    exact ⟨t, _, c', ht, hg, rfl, rfl, rfl, rfl, rfl, rfl, nextSlotGen_eq_elim i s, hc', he, hrest⟩
  case imported =>
    subst hx
    obtain ⟨u, d, hu, hstart⟩ := submit_ctxStart .none rfl hc hp hctx
    obtain ⟨t, c', ht, -, hrest⟩ := exec_pegFree hp hstart (gs := replyAreas) (fun _ h => h) (by decide) (.refl _ u) hstart.ctx
      hstart.kept.handles
      (hu.trans (startPegFree_of_imported (r := named .pegFree p s) hstart.ctx (by rw [hstart.translate_eq]; exact himport)))
    exact ⟨t, c', ht, hrest⟩

end Sys2Proof.Machine
end

section
/-! PROOFS. SIGNAL (07 R215, R222, R223, R229, R231, R237, R243). -/

namespace Sys2Proof.Machine

section
variable {s u : State} {r : CmdRef} {p : Packet} {c d : Ctx} {i v : Nat} {g : Peg}

/-! ### Values of pegs (R215, R243) -/

theorem pf_lt (p : Packet) (off len : Nat) : pf p off len < 2 ^ (8 * len) := Nat.mod_lt _ (Nat.two_pow_pos _)

/-- A field of 8 bytes is a 64-bit value. -/
theorem toNat_quad (p : Packet) (off : Nat) : (BitVec.ofNat 64 (pf p off 8)).toNat = pf p off 8 := by
  rw [BitVec.toNat_ofNat, Nat.mod_eq_of_lt (pf_lt p off 8)]

theorem signalValue_lt (g : Peg) (h : v < 2 ^ 64) : signalValue g v < 2 ^ 64 := by
  have hold := g.value.isLt
  unfold signalValue pegMax
  split <;> omega

theorem ringAllows_congr (h : u.pegs = s.pegs) (g : Peg) (v : Nat) : ringAllows u g v = ringAllows s g v := by
  rw [ringAllows, peg?_congr h, ringAllows]

/-- A peg with another value. -/
def Peg.withValue (n : Nat) (q : Peg) : Peg := { q with value := BitVec.ofNat 64 n }

theorem toNat_withValue (h : v < 2 ^ 64) (g : Peg) : (g.withValue (signalValue g v)).value.toNat = signalValue g v :=
  (BitVec.toNat_ofNat _ _).trans (Nat.mod_eq_of_lt (signalValue_lt g h))

/-! ### Waking (R223, R231) -/

/-- A local wait on a peg that its value satisfies, and that is not pre-empted (R226). -/
def Waiter.wokenBy (g : Peg) (w : Waiter) : Bool :=
  w.peg = g.idx && w.remoteChip.isNone && !w.preempted && satisfies g.value w.target

/-- A registration of another chip that a peg's value satisfies. -/
def RemoteWait.wokenBy (g : Peg) (w : RemoteWait) : Bool := w.peg = g.idx && satisfies g.value w.target

/-- A state without the waits and registrations that a peg wakes. -/
def waitsWoken (g : Peg) (s : State) : State :=
  { s with pegs := { s.pegs with waiters := s.pegs.waiters.filter (fun w => !w.wokenBy g)
                                 remote := s.pegs.remote.filter (fun w => !w.wokenBy g) } }

/-- What is left to wait on a peg is not satisfied. -/
theorem unsatisfied_waitsWoken (g : Peg) (s : State) :
    (∀ w ∈ (waitsWoken g s).pegs.waiters, w.peg = g.idx → w.remoteChip = none → w.preempted = false →
        satisfies g.value w.target = false) ∧
      ∀ w ∈ (waitsWoken g s).pegs.remote, w.peg = g.idx → satisfies g.value w.target = false := by
  refine ⟨fun w hw hpeg hhere hgoes => ?_, fun w hw hpeg => ?_⟩
  · have hkept := (List.mem_filter.mp hw).2
    simpa [Waiter.wokenBy, hpeg, hhere, hgoes] using hkept
  · have hkept := (List.mem_filter.mp hw).2
    simpa [RemoteWait.wokenBy, hpeg] using hkept

/-- Waking answers the local waits and notifies the chips that registered, after which nothing more happens. -/
theorem marksOnly_wakePeg (hg : s.peg? g.idx = some g) (hreach : ∀ w ∈ s.pegs.remote, w.peg = g.idx → s.reaches w.src = true) :
    MarksOnly (waitsWoken g s) (wakePeg g.idx s) := by
  have heq : wakePeg g.idx s =
      (s.pegs.remote.filter (RemoteWait.wokenBy g)).foldl (fun t w =>
        sendPeg w.part w.src (pegMsg 0x12 stOk g.idx g.slotGen w.part w.context w.seq g.value 0 0) t)
      ((s.pegs.waiters.filter (Waiter.wokenBy g)).foldl (fun t w =>
        complete w.ref stOk (resultOf [(16, 8, g.value.toNat)]) (tracePeg w.ref 1 g.value.toNat t)) (waitsWoken g s)) := by
    unfold wakePeg
    simp only [hg]
    rfl
  rw [heq]
  have hanswered : MarksOnly (waitsWoken g s) ((s.pegs.waiters.filter (Waiter.wokenBy g)).foldl (fun t w =>
      complete w.ref stOk (resultOf [(16, 8, g.value.toNat)]) (tracePeg w.ref 1 g.value.toNat t)) (waitsWoken g s)) :=
    .foldl fun t _ w _ => (marksOnly_tracePeg t w.ref _ _).trans (marksOnly_complete _ w.ref _ _)
  refine hanswered.trans (.foldl fun t ht w hw => marksOnly_sendPeg (ht.reaches (hanswered.reaches ?_)) _ _)
  obtain ⟨hmem, hwoken⟩ := List.mem_filter.mp hw
  have hpeg : w.peg = g.idx := of_decide_eq_true (Bool.and_eq_true_iff.mp hwoken).1
  exact (underway_withPegs s _).quiet.reaches (hreach w hmem hpeg)

/-! ### A signal applied (R215, R243) -/

/-- What allows a signal to raise a peg to a value that is not saturated. -/
structure Raises (s : State) (g : Peg) (v : Nat) : Prop where
  old : g.value.toNat ≠ pegMax
  new : signalValue g v ≠ pegMax
  ring : ringAllows s g (signalValue g v) = true
  rises : ¬(g.isValue = true ∧ v < g.value.toNat)

theorem signalPeg_of_raises (h : Raises s g v) :
    signalPeg g v s = (stOk, signalValue g v, wakePeg g.idx (s.modPeg g.idx (Peg.withValue (signalValue g v)))) := by
  have hrises : ¬(g.isValue && decide (v < g.value.toNat)) = true := by simpa using h.rises
  unfold signalPeg
  dsimp only
  rw [if_neg h.old, h.ring, if_neg (by decide), if_neg hrises, if_neg h.new]
  rfl

theorem signalPeg_of_saturated (h : g.value.toNat = pegMax) (v : Nat) (s : State) :
    signalPeg g v s = (stPegSaturated, 0, countPegEvent g.ownerPart stPegSaturated s) := if_pos h

/-- A signal through a handle that leads to a peg of this chip ends as the signal on the peg says. -/
theorem signalThrough_of_leadsTo {h st n : Nat} {x : Quad} {t : State} (hc : s.ctx? r.slot = some c) (hx : LeadsTo s c h 0 i g)
    (hs : signalPeg g x.toNat s = (st, n, t)) :
    signalThrough r h x s = complete r st (pegResult st n) (tracePeg r 0 n t) := by
  obtain hx | ⟨k, hx, hk⟩ := hx
  · simp only [signalThrough, hc, hx, hs]
  · simp only [signalThrough, hc, hx, hs, hk, Bool.not_true, Bool.false_eq_true, if_false]

theorem startSignal_of_noFences (hc : s.ctx? r.slot = some c) (hf : c.fences = []) :
    startSignal r p s = signalThrough r (pf p 20 4) (BitVec.ofNat 64 (pf p 24 8)) s := by
  simp only [startSignal, hc, Option.bind_some, hf, List.getLast?_nil]

theorem exec_signal_of_raises (hc : s.calm) (hp : passes .signal p s) (hctx : s.ctx? p.slot = some c) (hf : c.fences = [])
    (hx : LeadsTo s c (pf p 20 4) 0 i g) (hraises : Raises s g (pf p 24 8))
    (hreach : ∀ w ∈ s.pegs.remote, w.peg = i → s.reaches w.src = true) :
    ∃ t q, exec (.signal p) s = .next t ∧ t.peg? i = some q ∧ q.value.toNat = signalValue g (pf p 24 8) ∧
      (∀ w ∈ t.pegs.waiters, w.peg = i → w.remoteChip = none → w.preempted = false → satisfies q.value w.target = false) ∧
      (∀ w ∈ t.pegs.remote, w.peg = i → satisfies q.value w.target = false) ∧ (∀ j, j ≠ i → t.peg? j = s.peg? j) ∧
      Answered .signal p stOk (resultOf [(16, 8, signalValue g (pf p 24 8))]) s t ∧ OnlyIn (.pegs :: replyAreas) s t := by
  obtain ⟨u, d, hu, hstart⟩ := submit_ctxStart .none rfl hc hp hctx
  have hg := hx.peg?
  obtain rfl := idx_of_peg? hg
  have hraises' : Raises u g (BitVec.ofNat 64 (pf p 24 8)).toNat := by
    rw [toNat_quad]
    exact ⟨hraises.old, hraises.new, (ringAllows_congr hstart.pegs _ _).trans hraises.ring, hraises.rises⟩
  have hrow := hu.trans ((startSignal_of_noFences (r := named .signal p s) (p := p) hstart.ctx (hstart.kept.fences.trans hf)).trans
    (signalThrough_of_leadsTo hstart.ctx (hstart.leadsTo hx) (signalPeg_of_raises hraises')))
  rw [toNat_quad] at hrow
  have hslots := underway_modPeg u g.idx (Peg.withValue (signalValue g (pf p 24 8)))
  have hself := peg?_modPeg_self (f := Peg.withValue (signalValue g (pf p 24 8))) (fun _ => rfl) ((peg?_congr hstart.pegs _).trans hg)
  have hmarks := marksOnly_wakePeg (g := g.withValue (signalValue g (pf p 24 8))) hself fun w hw hpeg =>
    hslots.quiet.reaches (hstart.reaches (hreach w (hstart.pegs ▸ hw) hpeg))
  have htraced := hmarks.trans (marksOnly_tracePeg _ (named .signal p s) 0 (signalValue g (pf p 24 8)))
  obtain ⟨ht, hanswer, hareas⟩ := hstart.ends (i := .signal p) hp (gs := .pegs :: replyAreas) (by simp) (by decide)
    (((hslots.trans (underway_withPegs _ _)).mono (by simp)).trans (htraced.underway.mono (by simp))) (congrArg (settled s) hrow)
  have hpegs := Eq.trans (only_complete (named .signal p s) stOk (pegResult stOk (signalValue g (pf p 24 8))) _ .pegs (by decide))
    htraced.pegs
  obtain ⟨hwaiters, hremote⟩ := unsatisfied_waitsWoken (g.withValue (signalValue g (pf p 24 8)))
    (u.modPeg g.idx (Peg.withValue (signalValue g (pf p 24 8))))
  rw [← hpegs] at hwaiters hremote
  refine ⟨_, _, ht, (peg?_congr hpegs _).trans hself, toNat_withValue (pf_lt p 24 8) g, hwaiters, hremote, fun j hj => ?_, hanswer,
    hareas⟩
  exact (peg?_congr hpegs j).trans ((peg?_modPeg_of_ne (f := Peg.withValue _) (fun _ => rfl) hj).trans (peg?_congr hstart.pegs j))

theorem exec_signal_of_saturated (hc : s.calm) (hp : passes .signal p s) (hctx : s.ctx? p.slot = some c) (hf : c.fences = [])
    (hx : LeadsTo s c (pf p 20 4) 0 i g) (hmax : g.value.toNat = pegMax) :
    ∃ t, exec (.signal p) s = .next t ∧ Answered .signal p stPegSaturated 0 s t ∧ OnlyIn replyAreas s t := by
  obtain ⟨u, d, hu, hstart⟩ := submit_ctxStart .none rfl hc hp hctx
  have hrow := hu.trans ((startSignal_of_noFences (r := named .signal p s) (p := p) hstart.ctx (hstart.kept.fences.trans hf)).trans
    (signalThrough_of_leadsTo hstart.ctx (hstart.leadsTo hx) (signalPeg_of_saturated hmax _ u)))
  rw [show pegResult stPegSaturated 0 = 0 from by decide] at hrow
  exact ⟨_, hstart.ends (i := .signal p) hp (fun _ h => h) (by decide)
    ((marksOnly_countPegEvent u g.ownerPart stPegSaturated).trans (marksOnly_tracePeg _ (named .signal p s) 0 0)).underway
    (congrArg (settled s) hrow)⟩

/-! ### A signal held behind a fence (R237) -/

/-- A context that holds one more signal, behind fence `f`. -/
def Ctx.holding (r : CmdRef) (p : Packet) (f : Fence) (c : Ctx) : Ctx :=
  { c with held := c.held ++
      [{ ref := r, handle := BitVec.ofNat 32 (pf p 20 4), value := BitVec.ofNat 64 (pf p 24 8), behind := f.ref.seq }] }

theorem startSignal_of_fence {f : Fence} (hc : s.ctx? r.slot = some c) (hf : c.fences.getLast? = some f) :
    startSignal r p s = (hold r s).modCtx r.slot (Ctx.holding r p f) := by
  simp only [startSignal, hc, Option.bind_some, hf]
  rfl

theorem exec_signal_of_fence {f : Fence} (hc : s.calm) (hp : passes .signal p s) (hctx : s.ctx? p.slot = some c)
    (hf : c.fences.getLast? = some f) :
    ∃ t c', exec (.signal p) s = .next t ∧ t.ctx? p.slot = some c' ∧ c'.held = (c.holding (named .signal p s) p f).held ∧
      (t.inflight? (named .signal p s)).isSome = true ∧ OnlyIn replyAreas s t := by
  obtain ⟨u, d, hu, hstart⟩ := submit_ctxStart .none rfl hc hp hctx
  have hrow := hu.trans (startSignal_of_fence (r := named .signal p s) (p := p) hstart.ctx
    ((congrArg List.getLast? hstart.kept.fences).trans hf))
  have hheld := (underway_hold u (named .signal p s)).trans
    (underway_modCtx _ p.slot (f := Ctx.holding (named .signal p s) p f) fun _ => rfl)
  obtain ⟨ht, hareas⟩ := hstart.goesOn (i := .signal p) (gs := replyAreas) (fun _ h => h) (hheld.mono (by simp))
    (congrArg (settled s) hrow)
  exact ⟨_, _, ht, ctx?_modCtx_self (s := hold (named .signal p s) u) (f := Ctx.holding (named .signal p s) p f) (fun _ => rfl)
    hstart.ctx, congrArg (· ++ _) hstart.kept.held, inflight?_hold_isSome (named .signal p s) u, hareas⟩

/-! ### A signal to another chip (R222, R228, R229) -/

/-- A command that is in flight from now on. -/
def flying (r : CmdRef) (s : State) : State := if (s.inflight? r).isSome then s else hold r s

theorem underway_flying (r : CmdRef) (s : State) : Underway [.cmds] s (flying r s) := by
  unfold flying
  split
  · exact .refl _ s
  · exact underway_hold s r

theorem inflight?_flying (r : CmdRef) (s : State) : ((flying r s).inflight? r).isSome = true := by
  unfold flying
  split
  · next h => exact h
  · exact inflight?_hold_isSome r s

/-- A state that awaits the answer to a remote signal. -/
def signalAwaited (r : CmdRef) (chip : Nat) (s : State) : State :=
  { flying r s with pegs := { s.pegs with
      signals := s.pegs.signals ++ [{ ref := r, chip := chip, parcel := s.gl.nextId, settledAt := none, answer := none }] } }

theorem underway_signalAwaited (r : CmdRef) (chip : Nat) (s : State) : Underway (.pegs :: replyAreas) s (signalAwaited r chip s) :=
  ((underway_flying r s).mono (by simp)).trans ((underway_withPegs (flying r s) _).mono (by simp))

theorem signalThrough_of_remote {h chip part peg gen k : Nat} {x : Quad} (hc : s.ctx? r.slot = some c)
    (hx : translate s c h = .remote chip part peg gen k) (hk : bitOf k 0 = true) :
    signalThrough r h x s =
      sendPeg r.part chip (pegMsg 0x01 0 peg gen part r.slot r.seq x 0 0) (signalAwaited r chip s) := by
  have hpegs : (flying r s).pegs = s.pegs := (underway_flying r s).only .pegs (by decide)
  simp only [signalThrough, hc, hx, hk, Bool.not_true, Bool.false_eq_true, if_false]
  rw [signalAwaited, ← hpegs]
  rfl

theorem exec_signal_of_remote {chip part peg gen k : Nat} (hc : s.calm) (hp : passes .signal p s) (hctx : s.ctx? p.slot = some c)
    (hf : c.fences = []) (hx : translate s c (pf p 20 4) = .remote chip part peg gen k) (hk : bitOf k 0 = true)
    (hreach : s.reaches chip = true) :
    ∃ t x, exec (.signal p) s = .next t ∧ x ∈ t.gl.parcels ∧ x.dst = chip ∧ x.cls = 0 ∧ x.part = p.part ∧
      x.body = .peg (pegMsg 0x01 0 peg gen part p.slot p.seq (BitVec.ofNat 64 (pf p 24 8)) 0 0) ∧
      (t.inflight? (named .signal p s)).isSome = true ∧ OnlyIn (.pegs :: replyAreas) s t := by
  obtain ⟨u, d, hu, hstart⟩ := submit_ctxStart .none rfl hc hp hctx
  have hrow := hu.trans ((startSignal_of_noFences (r := named .signal p s) (p := p) hstart.ctx (hstart.kept.fences.trans hf)).trans
    (signalThrough_of_remote hstart.ctx ((hstart.translate_eq _).trans hx) hk))
  have hawaits := underway_signalAwaited (named .signal p s) chip u
  have hsent := marksOnly_sendPeg (hawaits.quiet.reaches (hstart.reaches hreach)) p.part
    (pegMsg 0x01 0 peg gen part p.slot p.seq (BitVec.ofNat 64 (pf p 24 8)) 0 0)
  obtain ⟨ht, hareas⟩ := hstart.goesOn (i := .signal p) (gs := .pegs :: replyAreas) (by simp)
    (hawaits.trans (hsent.underway.mono (by simp))) (congrArg (settled s) hrow)
  exact ⟨_, _, ht, List.mem_append_right _ List.mem_cons_self, rfl, rfl, rfl, rfl, inflight?_flying (named .signal p s) u, hareas⟩

end

/-- Settles O26: a signal raises its peg and wakes those it satisfies, or ends on a saturated peg; behind a fence it joins the held
signals, and for another chip it leaves as a message. -/
theorem signalCompletes : Obligations.SignalCompletes :=
  ⟨fun _ _ _ _ _ hc hp hctx hf hx hold hnew hring hrises hreach =>
      exec_signal_of_raises hc hp hctx hf hx ⟨hold, hnew, hring, hrises⟩ hreach,
    fun _ _ _ _ _ hc hp hctx hf hx hmax => exec_signal_of_saturated hc hp hctx hf (.inl hx) hmax,
    fun _ _ _ _ hc hp hctx hf => exec_signal_of_fence hc hp hctx hf,
    fun _ _ _ _ _ _ _ _ hc hp hctx hf hx hk hreach => exec_signal_of_remote hc hp hctx hf hx hk hreach⟩

end Sys2Proof.Machine
end

section
/-! PROOFS. WAIT and FENCE (07 R223, R225, R235, R236, R238). -/

namespace Sys2Proof.Machine

/-! ### WAIT (R223, R225) -/

section wait
variable {s u : State} {r : CmdRef} {p : Packet} {c d : Ctx} {i : Nat} {g : Peg}

theorem startWait_of_leadsTo (hc : s.ctx? r.slot = some c) (hx : LeadsTo s c (pf p 20 4) 1 i g) :
    startWait r p s = waitLocal r g (BitVec.ofNat 64 (pf p 24 8)) (pf p 32 4) s := by
  obtain hx | ⟨k, hx, hk⟩ := hx
  · simp only [startWait, hc, hx]
  · simp only [startWait, hc, hx, hk, Bool.not_true, Bool.false_eq_true, if_false]

/-- The wait of a command on a peg of this chip. -/
def localWait (r : CmdRef) (g : Peg) (target : Quad) (deadline : Nat) : Waiter :=
  { ref := r, peg := g.idx, remoteChip := none, target := target, deadline := deadline, lastArmed := 0, preempted := false,
    heldAnswer := none, homePart := r.part, homeGen := g.slotGen }

/-- A state with one more armed wait. -/
def waitArmed (w : Waiter) (s : State) : State :=
  { hold w.ref s with pegs := { s.pegs with waiters := s.pegs.waiters ++ [w] } }

theorem underway_waitArmed (w : Waiter) (s : State) : Underway (.pegs :: replyAreas) s (waitArmed w s) :=
  ((underway_hold s w.ref).mono (by simp)).trans ((underway_withPegs (hold w.ref s) _).mono (by simp))

theorem waitersUsed_congr (h : u.pegs = s.pegs) (part : Nat) : u.waitersUsed part = s.waitersUsed part := by
  rw [State.waitersUsed, h, State.waitersUsed]

section judged
variable {target : Quad} {timeout : Nat}

theorem waitLocal_of_satisfied (h : satisfies g.value target = true) :
    waitLocal r g target timeout s = complete r stOk (resultOf [(16, 8, g.value.toNat)]) (tracePeg r 1 g.value.toNat s) := if_pos h

theorem waitLocal_of_no_timeout (h : satisfies g.value target = false) (ht : timeout = 0) :
    waitLocal r g target timeout s = complete r stPegTimeout (detailOf g.value.toNat) (countPegEvent r.part stPegTimeout s) := by
  rw [waitLocal, if_neg (by rw [h]; exact Bool.false_ne_true), if_pos ht]

theorem waitLocal_of_room (h : satisfies g.value target = false) (ht : timeout ≠ 0)
    (hroom : s.waitersUsed r.part < (s.part r.part).shares.waiters) :
    waitLocal r g target timeout s = waitArmed (localWait r g target (s.now + timeout * 1000)) s := by
  rw [waitLocal, if_neg (by rw [h]; exact Bool.false_ne_true), if_neg ht, if_neg (Nat.not_le.mpr hroom)]
  rfl

end judged

/-- A WAIT through a handle that leads to a peg of this chip becomes a wait on that peg. -/
theorem submit_wait (hc : s.calm) (hp : passes .wait p s) (hctx : s.ctx? p.slot = some c) (hx : LeadsTo s c (pf p 20 4) 1 i g) :
    ∃ u d, CtxStart .wait p s c u d ∧
      exec (.wait p) s = settled s (waitLocal (named .wait p s) g (BitVec.ofNat 64 (pf p 24 8)) (pf p 32 4) u) := by
  obtain ⟨u, d, hu, hstart⟩ := submit_ctxStart .none rfl hc hp hctx
  exact ⟨u, d, hstart, congrArg (settled s) (hu.trans (startWait_of_leadsTo hstart.ctx (hstart.leadsTo hx)))⟩

theorem exec_wait_of_satisfied (hc : s.calm) (hp : passes .wait p s) (hctx : s.ctx? p.slot = some c)
    (hx : LeadsTo s c (pf p 20 4) 1 i g) (hsat : satisfies g.value (BitVec.ofNat 64 (pf p 24 8)) = true) :
    ∃ t, exec (.wait p) s = .next t ∧ Answered .wait p stOk (resultOf [(16, 8, g.value.toNat)]) s t ∧ OnlyIn replyAreas s t := by
  obtain ⟨u, d, hstart, hrow⟩ := submit_wait hc hp hctx hx
  rw [waitLocal_of_satisfied hsat] at hrow
  exact ⟨_, hstart.ends hp (fun _ h => h) (by decide) (marksOnly_tracePeg u _ 1 _).underway hrow⟩

theorem exec_wait_of_no_timeout (hc : s.calm) (hp : passes .wait p s) (hctx : s.ctx? p.slot = some c)
    (hx : LeadsTo s c (pf p 20 4) 1 i g) (hsat : satisfies g.value (BitVec.ofNat 64 (pf p 24 8)) = false) (htime : pf p 32 4 = 0) :
    ∃ t, exec (.wait p) s = .next t ∧ Answered .wait p stPegTimeout (detailOf g.value.toNat) s t ∧ OnlyIn replyAreas s t := by
  obtain ⟨u, d, hstart, hrow⟩ := submit_wait hc hp hctx hx
  rw [waitLocal_of_no_timeout hsat htime] at hrow
  exact ⟨_, hstart.ends hp (fun _ h => h) (by decide) (marksOnly_countPegEvent u _ stPegTimeout).underway hrow⟩

theorem exec_wait_of_room (hc : s.calm) (hp : passes .wait p s) (hctx : s.ctx? p.slot = some c)
    (hx : LeadsTo s c (pf p 20 4) 1 i g) (hsat : satisfies g.value (BitVec.ofNat 64 (pf p 24 8)) = false) (htime : pf p 32 4 ≠ 0)
    (hroom : s.waitersUsed p.part < (s.part p.part).shares.waiters) :
    ∃ t, exec (.wait p) s = .next t ∧ t.pegs.waiters = s.pegs.waiters ++
        [localWait (named .wait p s) g (BitVec.ofNat 64 (pf p 24 8)) (s.now + pf p 32 4 * 1000)] ∧
      (t.inflight? (named .wait p s)).isSome = true ∧ t.pegs.slots = s.pegs.slots ∧ OnlyIn (.pegs :: replyAreas) s t := by
  obtain ⟨u, d, hstart, hrow⟩ := submit_wait hc hp hctx hx
  have hroom' : u.waitersUsed p.part < (u.part p.part).shares.waiters := by
    rwa [waitersUsed_congr hstart.pegs, State.part, hstart.parts]
  rw [waitLocal_of_room hsat htime hroom', hstart.now] at hrow
  obtain ⟨ht, hareas⟩ := hstart.goesOn (gs := .pegs :: replyAreas) (by simp) (underway_waitArmed _ u) hrow
  exact ⟨_, ht, congrArg (·.waiters ++ _) hstart.pegs, inflight?_hold_isSome (named .wait p s) u,
    (congrArg Pegs.slots hstart.pegs :), hareas⟩

end wait

/-! ### Members of a fence (R238) -/

section members
variable {s t : State} {c : Ctx}

theorem nextBundle_congr (h : t.gl.coord = s.gl.coord) (a b : Nat) (m : Bool) : t.nextBundle a b m = s.nextBundle a b m := by
  simp only [State.nextBundle, State.dim, State.dims, h]

/-- A command's start settles no member of a fence: it leaves the epochs and every parcel that has been numbered. -/
theorem Started.memberDone (h : Started s t) (part : Nat) (m : FenceMember) : memberDone t part m = memberDone s part m := by
  have hparts : t.parts = s.parts := h.only .parts (by decide)
  have hepochs : t.gl.bundleEpochs = s.gl.bundleEpochs := by rw [h.glRest]
  have hroute : ∀ dst mirror, t.routeEpoch part dst mirror = s.routeEpoch part dst mirror := fun dst mirror => by
    rw [State.routeEpoch, nextBundle_congr h.quiet.coord, chip_congr h.quiet.coord, State.part, hparts, hepochs, State.routeEpoch,
      State.part]
  have hpending : ∀ dst mirror e, t.epochPending part dst mirror e = s.epochPending part dst mirror e := fun dst mirror e => by
    obtain ⟨l, hl, hnew⟩ := h.parcels
    rw [State.epochPending, hl, List.any_append, State.epochPending, Bool.or_eq_left_iff_imp]
    intro hany
    obtain ⟨x, hx, hin⟩ := List.any_eq_true.mp hany
    simp [(hnew x hx).1] at hin
  simp only [Machine.memberDone, hroute, hpending]

/-! ### The fences of one context (R236, R238) -/

theorem advanceFences_of_nil {slot : Nat} (hc : s.ctx? slot = some c) (hf : c.fences = []) (k : Nat) : advanceFences slot k s = s := by
  cases k with
  | zero => rfl
  | succ k => simp [advanceFences, hc, hf]

/-- A context's only fence, not failed, ends where its members are done, and else stays. -/
theorem advanceFences_of_single {slot : Nat} {f : Fence} (hc : s.ctx? slot = some c) (hf : c.fences = [f]) (hok : f.failed = false)
    (k : Nat) : advanceFences slot (k + 1) s = if fenceReady s f then advanceFences slot k (endFence slot f s) else s := by
  simp [advanceFences, hc, hf, hok]

/-- A context without one fence and the signals held behind it. -/
def Ctx.withoutFence (f : Fence) (c : Ctx) : Ctx :=
  { c with fences := c.fences.filter (fun x => x.ref ≠ f.ref), held := c.held.filter (fun h => h.behind ≠ f.ref.seq) }

/-- The result of a fence that is done: its members and the superseded epochs among them. -/
def fenceResult (f : Fence) (s : State) : BitVec 128 := resultOf [(16, 4, f.members.length), (20, 4, fenceSuperseded s f)]

theorem endFence_of_none_held {slot : Nat} {f : Fence} (hc : s.ctx? slot = some c) (hheld : c.held = []) (hok : f.failed = false) :
    endFence slot f s = complete f.ref stOk (fenceResult f s) (tracePeg f.ref 2 0 (s.modCtx slot (Ctx.withoutFence f))) := by
  simp only [endFence, hc, hheld, hok, List.filter_nil, List.foldl_nil, Bool.false_eq_true, if_false]
  rfl

end members

/-! ### FENCE -/

section fence
variable {s u : State} {r : CmdRef} {p : Packet} {c d : Ctx}

/-- The members that a FENCE adds to its context's open set: with POOL, the pool requests (R236). -/
def fencePool (p : Packet) (part : Nat) (s : State) : List FenceMember :=
  if bitOf p.flags.toNat 4 then poolMembers part s else []

/-- A context whose open set, with more members, has become a fence. -/
def Ctx.fenced (r : CmdRef) (pool : List FenceMember) (c : Ctx) : Ctx :=
  { c with openSet := [], fences := c.fences ++ [{ ref := r, members := c.openSet ++ pool, failed := false }] }

theorem startFence_eq (r : CmdRef) (p : Packet) (s : State) :
    startFence r p s = advanceFences r.slot 3 ((hold r s).modCtx r.slot (Ctx.fenced r (fencePool p r.part s))) := rfl

/-- The fence that a FENCE arms. -/
def newFence (r : CmdRef) (ms : List FenceMember) : Fence := { ref := r, members := ms, failed := false }

/-- What a FENCE finds armed once its context, which had no armed fence, has its open set as one. -/
structure FenceArmed (p : Packet) (s : State) (c : Ctx) (ms : List FenceMember) (u w : State) (e : Ctx) : Prop where
  ctx : w.ctx? p.slot = some e
  fences : e.fences = [newFence (named .fence p s) ms]
  openSet : e.openSet = []
  held : e.held = c.held
  flies : (w.inflight? (named .fence p s)).isSome = true
  underway : Underway replyAreas u w
  ready : fenceReady w (newFence (named .fence p s) ms) = ms.all (memberDone s p.part)

/-- A FENCE of a context with no armed fence arms its open set, and then looks at it. -/
theorem submit_fence {ms : List FenceMember} (hc : s.calm) (hp : passes .fence p s) (hctx : s.ctx? p.slot = some c)
    (hfences : c.fences = []) (hms : ms = c.openSet ++ fencePool p p.part s) :
    ∃ u d w e, CtxStart .fence p s c u d ∧ FenceArmed p s c ms u w e ∧
      exec (.fence p) s = settled s (if fenceReady w (newFence (named .fence p s) ms) then
        advanceFences p.slot 2 (endFence p.slot (newFence (named .fence p s) ms) w) else w) := by
  subst hms
  obtain ⟨u, d, hu, hstart⟩ := submit_ctxStart .none rfl hc hp hctx
  have hpool : fencePool p p.part u = fencePool p p.part s := by rw [fencePool, hstart.pool, fencePool]
  have hw : ((hold (named .fence p s) u).modCtx p.slot (Ctx.fenced (named .fence p s) (fencePool p p.part s))).ctx? p.slot =
      some (d.fenced (named .fence p s) (fencePool p p.part s)) := ctx?_modCtx_self (fun _ => rfl) hstart.ctx
  have harmed : (d.fenced (named .fence p s) (fencePool p p.part s)).fences =
      [newFence (named .fence p s) (c.openSet ++ fencePool p p.part s)] := by
    rw [Ctx.fenced, hstart.kept.fences, hfences, hstart.kept.openSet]
    rfl
  have hrow := hu.trans (startFence_eq (named .fence p s) p u)
  rw [show (named .fence p s).part = p.part from rfl, hpool] at hrow
  exact ⟨u, d, _, _, hstart, ⟨hw, harmed, rfl, hstart.kept.held, inflight?_hold_isSome (named .fence p s) u,
      ((underway_hold u _).trans (underway_modCtx _ p.slot (f := Ctx.fenced _ _) fun _ => rfl)).mono (by simp),
      congrArg (List.all _) (funext fun m => hstart.started.memberDone p.part m)⟩,
    congrArg (settled s) (hrow.trans (advanceFences_of_single hw harmed rfl 2))⟩

theorem exec_fence_of_done {ms : List FenceMember} (hc : s.calm) (hp : passes .fence p s) (hctx : s.ctx? p.slot = some c)
    (hfences : c.fences = []) (hheld : c.held = []) (hms : ms = c.openSet ++ fencePool p p.part s)
    (hdone : ∀ m ∈ ms, memberDone s p.part m = true) :
    ∃ t c' k, exec (.fence p) s = .next t ∧ t.ctx? p.slot = some c' ∧ c'.fences = [] ∧ c'.openSet = [] ∧
      Answered .fence p stOk (resultOf [(16, 4, ms.length), (20, 4, k)]) s t ∧ OnlyIn replyAreas s t := by
  obtain ⟨u, d, w, e, hstart, harmed, hrow⟩ := submit_fence hc hp hctx hfences hms
  rw [if_pos (harmed.ready.trans (List.all_eq_true.mpr hdone)), endFence_of_none_held harmed.ctx (harmed.held.trans hheld) rfl] at hrow
  have hmarks := marksOnly_tracePeg (w.modCtx p.slot (Ctx.withoutFence (newFence (named .fence p s) ms))) (named .fence p s) 2 0
  obtain ⟨c', hc', hwork⟩ := (hmarks.trans (marksOnly_complete _ (named .fence p s) stOk
    (fenceResult (newFence (named .fence p s) ms) w))).noted.ctx? (ctx?_modCtx_self (f := Ctx.withoutFence _) (fun _ => rfl) harmed.ctx)
  have hnone : c'.fences = [] := by
    have hkept : c'.fences = (e.withoutFence (newFence (named .fence p s) ms)).fences := by
      simpa [Ctx.work] using congrArg Ctx.fences hwork
    rw [hkept, Ctx.withoutFence, harmed.fences]
    simp
  have hset : c'.openSet = e.openSet := by simpa [Ctx.work, Ctx.withoutFence] using congrArg Ctx.openSet hwork
  have hgone := (underway_modCtx w p.slot (f := Ctx.withoutFence (newFence (named .fence p s) ms)) fun _ => rfl).mono
    (hs := replyAreas) (by simp)
  rw [show (newFence (named .fence p s) ms).ref = named .fence p s from rfl, advanceFences_of_nil hc' hnone] at hrow
  obtain ⟨ht, hanswer, hareas⟩ := hstart.ends hp (gs := replyAreas) (fun _ h => h) (by decide)
    (harmed.underway.trans (hgone.trans hmarks.underway)) hrow
  exact ⟨_, c', fenceSuperseded w (newFence (named .fence p s) ms), ht, hc', hnone, hset.trans harmed.openSet, hanswer, hareas⟩

theorem exec_fence_of_not_done {ms : List FenceMember} {m : FenceMember} (hc : s.calm) (hp : passes .fence p s)
    (hctx : s.ctx? p.slot = some c) (hfences : c.fences = []) (hms : ms = c.openSet ++ fencePool p p.part s) (hm : m ∈ ms)
    (hopen : memberDone s p.part m = false) :
    ∃ t c', exec (.fence p) s = .next t ∧ t.ctx? p.slot = some c' ∧ c'.openSet = [] ∧
      c'.fences = [newFence (named .fence p s) ms] ∧ (t.inflight? (named .fence p s)).isSome = true ∧ OnlyIn replyAreas s t := by
  obtain ⟨u, d, w, e, hstart, harmed, hrow⟩ := submit_fence hc hp hctx hfences hms
  rw [if_neg (by rw [harmed.ready, List.all_eq_true]; exact fun hall => by rw [hall m hm] at hopen; cases hopen)] at hrow
  obtain ⟨ht, hareas⟩ := hstart.goesOn (gs := replyAreas) (fun _ h => h) harmed.underway hrow
  exact ⟨_, e, ht, harmed.ctx, harmed.openSet, harmed.fences, harmed.flies, hareas⟩

end fence

/-- Settles O27: a WAIT is judged by the peg's value and armed where it may wait; a FENCE is armed with the open set, and ends at once
where every member is done. -/
theorem waitAndFenceComplete : Obligations.WaitAndFenceComplete := by
  refine ⟨fun p s c i g hc hp hctx hx => ⟨fun hsat => exec_wait_of_satisfied hc hp hctx hx hsat,
    fun hsat htime => exec_wait_of_no_timeout hc hp hctx hx hsat htime, fun hsat htime hroom => ?armed⟩,
    fun p s c ms hc hp hctx hfences hheld hms => ?fence⟩
  case armed =>
    obtain ⟨t, ht, hwaiters, hrest⟩ := exec_wait_of_room hc hp hctx hx hsat htime hroom
    exact ⟨t, _, ht, hwaiters, rfl, idx_of_peg? (LeadsTo.peg? hx), rfl, rfl, rfl, hrest⟩
  case fence =>
    exact ⟨fun hdone => exec_fence_of_done hc hp hctx hfences hheld hms hdone,
      fun ⟨m, hm, hopen⟩ => exec_fence_of_not_done hc hp hctx hfences hms hm hopen⟩

end Sys2Proof.Machine
end

section
/-! PROOFS. EXPORT, IMPORT, RING_DECLARE and PEG_READ (07 R217, R224, R227, R228, R242). -/

namespace Sys2Proof.Machine

section
variable {s u : State} {r : CmdRef} {p : Packet} {c d : Ctx} {i j hi : Nat} {g h : Peg}

/-! ### EXPORT (R227) and PEG_READ (R224) -/

/-- The descriptor of a slot of chip `chip` and partition `part` (R227). -/
def descriptor (i gen chip part rights : Nat) : Nat := i + 2 ^ 16 * gen + 2 ^ 24 * chip + 2 ^ 35 * part + 2 ^ 39 * rights

theorem startExport_of_owner (hc : s.ctx? r.slot = some c) (hx : translate s c (pf p 20 4) = .owner i g) :
    startExport r p s =
      complete r stOk (resultOf [(16, 8, descriptor i g.slotGen s.chip r.part (bitsOf (pf p 24 1) 0 3))]) s := by
  simp only [startExport, hc, hx]
  rfl

theorem exec_exportPeg (hc : s.calm) (hp : passes .exportPeg p s) (hctx : s.ctx? p.slot = some c)
    (hx : translate s c (pf p 20 4) = .owner i g) :
    ∃ t, exec (.exportPeg p) s = .next t ∧
      Answered .exportPeg p stOk (resultOf [(16, 8, descriptor i g.slotGen s.chip p.part (bitsOf (pf p 24 1) 0 3))]) s t ∧
      OnlyIn replyAreas s t := by
  obtain ⟨u, d, hu, hstart⟩ := submit_ctxStart .none rfl hc hp hctx
  have hrow := hu.trans (startExport_of_owner (r := named .exportPeg p s) hstart.ctx ((hstart.translate_eq _).trans hx))
  rw [chip_congr hstart.started.quiet.coord] at hrow
  exact ⟨_, hstart.ends (i := .exportPeg p) hp (fun _ h => h) (by decide) (.refl _ u) (congrArg (settled s) hrow)⟩

theorem startPegRead_of_leadsTo (hc : s.ctx? r.slot = some c) (hx : LeadsTo s c (pf p 20 4) 1 i g) :
    startPegRead r p s = complete r stOk (pegReadResult g) s := by
  obtain hx | ⟨k, hx, hk⟩ := hx
  · simp only [startPegRead, hc, hx]
  · simp only [startPegRead, hc, hx, hk, Bool.not_true, Bool.false_eq_true, if_false]

theorem exec_pegRead (hc : s.calm) (hp : passes .pegRead p s) (hctx : s.ctx? p.slot = some c) (hx : LeadsTo s c (pf p 20 4) 1 i g) :
    ∃ t, exec (.pegRead p) s = .next t ∧ Answered .pegRead p stOk (pegReadResult g) s t ∧ OnlyIn replyAreas s t := by
  obtain ⟨u, d, hu, hstart⟩ := submit_ctxStart .none rfl hc hp hctx
  have hrow := hu.trans (startPegRead_of_leadsTo (r := named .pegRead p s) hstart.ctx (hstart.leadsTo hx))
  exact ⟨_, hstart.ends (i := .pegRead p) hp (fun _ h => h) (by decide) (.refl _ u) (congrArg (settled s) hrow)⟩

/-- The role of a peg as its bits in the result of PEG_READ. -/
theorem pegReadResult_eq (g : Peg) :
    pegReadResult g = resultOf [(16, 8, g.value.toNat), (24, 1, (if g.isValue then 1 else 0) +
      (if g.value.toNat = pegMax then 2 else 0) + 4 * (if g.role = .producer then 1 else if g.role = .consumer then 2 else 0))] := by
  unfold pegReadResult
  cases g.role <;> rfl

/-! ### IMPORT (R228) -/

/-- A descriptor in bytes 24 to 31 that may be imported with target `e`: of a live peg of this chip and partition, or of another chip
with the right that lets it be imported there. -/
def Importable (s : State) (p : Packet) (e : HandleTarget) : Prop :=
  bitsOf (pf p 24 8) 24 11 = s.chip ∧ bitsOf (pf p 24 8) 35 4 = p.part ∧
      (∃ g, (s.slotState (bitsOf (pf p 24 8) 0 16) (bitsOf (pf p 24 8) 16 8)).1 = some g ∧ g.ownerPart = p.part) ∧
      e = .localImport (bitsOf (pf p 24 8) 0 16) (bitsOf (pf p 24 8) 16 8) (bitsOf (pf p 24 8) 39 3) ∨
    bitsOf (pf p 24 8) 24 11 ≠ s.chip ∧ bitOf (bitsOf (pf p 24 8) 39 3) 2 = true ∧
      e = .remote (bitsOf (pf p 24 8) 24 11) (bitsOf (pf p 24 8) 35 4) (bitsOf (pf p 24 8) 0 16) (bitsOf (pf p 24 8) 16 8)
        (bitsOf (pf p 24 8) 39 3)

theorem Importable.congr {e : HandleTarget} (h : Importable s p e) (hpegs : u.pegs = s.pegs) (hchip : u.chip = s.chip) :
    Importable u p e := by
  have hslot : ∀ k gen, u.slotState k gen = s.slotState k gen := fun k gen => by
    rw [State.slotState, peg?_congr hpegs, State.slotState]
  rwa [Importable, hchip, hslot]

/-- The entry of an imported handle. -/
def importedEntry (c : Ctx) (hi : Nat) (e : HandleTarget) : HandleEntry :=
  { idx := hi, gen := c.entryGen hi, target := some e, checkOk := true }

theorem startImport_of_importable {e : HandleTarget} (hc : s.ctx? r.slot = some c) (hfree : c.freeIndex = some hi)
    (hpart : r.part = p.part) (he : Importable s p e) :
    startImport r p s = complete r stOk (resultOf [(16, 4, mkHandle hi (c.entryGen hi))])
      (s.modCtx r.slot (setEntry (importedEntry c hi e))) := by
  obtain ⟨hchip, hown, ⟨g, hg, howner⟩, rfl⟩ | ⟨hchip, hright, rfl⟩ := he
  · have hslot : s.slotState (bitsOf (pf p 24 8) 0 16) (bitsOf (pf p 24 8) 16 8) =
        (some g, (s.slotState (bitsOf (pf p 24 8) 0 16) (bitsOf (pf p 24 8) 16 8)).2) := by rw [← hg]
    rw [← hpart] at hown howner
    simp only [startImport, hc, hfree]
    rw [if_pos hchip, if_neg (not_not.mpr hown), hslot]
    dsimp only
    rw [if_pos howner]
    rfl
  · simp only [startImport, hc, hfree, hchip, hright, Bool.not_true, Bool.false_eq_true, if_false]
    rfl

theorem exec_importPeg {e : HandleTarget} (hc : s.calm) (hp : passes .importPeg p s) (hctx : s.ctx? p.slot = some c)
    (hfree : c.freeIndex = some hi) (he : Importable s p e) :
    ∃ t c', exec (.importPeg p) s = .next t ∧ t.ctx? p.slot = some c' ∧ c'.entry? hi = some (importedEntry c hi e) ∧
      Answered .importPeg p stOk (resultOf [(16, 4, mkHandle hi (c.entryGen hi))]) s t ∧ OnlyIn replyAreas s t := by
  obtain ⟨u, d, hu, hstart⟩ := submit_ctxStart .none rfl hc hp hctx
  have hgen : d.entryGen hi = c.entryGen hi := entryGen_congr hstart.kept.handles hi
  have hrow := hu.trans (startImport_of_importable (r := named .importPeg p s) hstart.ctx (hstart.kept.freeIndex.trans hfree) rfl
    (he.congr hstart.pegs (chip_congr hstart.started.quiet.coord)))
  rw [importedEntry, hgen, ← importedEntry] at hrow
  obtain ⟨t, c', ht, -, hrest⟩ := hstart.endsWithEntry (ins := .importPeg p) hp (gs := replyAreas) (fun _ h => h) (by decide)
    (.refl _ u) hstart.ctx (slot_setEntry _) (entry?_setEntry _ d) (congrArg (settled s) hrow)
  exact ⟨t, c', ht, hrest⟩

/-! ### RING_DECLARE (R242) -/

/-- A peg that has become one end of a ring. -/
def Peg.inRing (role : RingRole) (partner depth : Nat) (q : Peg) : Peg := { q with role := role, partner := partner, depth := depth }

/-- Two pegs may become producer and consumer of a ring of some depth. -/
structure RingReady (i j depth : Nat) (g h : Peg) : Prop where
  producer : g.isValue = false
  consumer : h.isValue = false
  apart : i ≠ j
  freeProducer : g.role = .none
  freeConsumer : h.role = .none
  ordered : h.value.toNat ≤ g.value.toNat
  within : g.value.toNat - h.value.toNat ≤ depth

/-- The pegs of slots `i` and `j` as producer and consumer of a ring. -/
def ringDeclared (i j depth : Nat) (s : State) : State :=
  (s.modPeg i (Peg.inRing .producer j depth)).modPeg j (Peg.inRing .consumer i depth)

theorem startRingDeclare_of_ready (hc : s.ctx? r.slot = some c) (hdepth : pf p 28 4 ≠ 0) (hx : translate s c (pf p 20 4) = .owner i g)
    (hy : translate s c (pf p 24 4) = .owner j h) (hready : RingReady i j (pf p 28 4) g h) :
    startRingDeclare r p s = complete r stOk 0 (ringDeclared i j (pf p 28 4) s) := by
  obtain ⟨hg, hh, hij, hgr, hhr, hle, hwithin⟩ := hready
  simp only [startRingDeclare, hc, hx, hy, hg, hh, hgr, hhr, hij, hdepth, Nat.not_lt.mpr hle, Nat.not_lt.mpr hwithin]
  rfl

/-- A ring's producer and its partner released. -/
def ringReleased (i : Nat) (g : Peg) (s : State) : State := (s.modPeg i Peg.unrung).modPeg g.partner Peg.unrung

theorem startRingDeclare_of_release (hc : s.ctx? r.slot = some c) (hdepth : pf p 28 4 = 0)
    (hx : translate s c (pf p 20 4) = .owner i g) (hrole : g.role = .producer) :
    startRingDeclare r p s = complete r stOk 0 (ringReleased i g s) := by
  simp only [startRingDeclare, hc, hx, hdepth, hrole]
  rfl

/-- A RING_DECLARE that ends with only the pegs changed. -/
theorem exec_ringDeclare {w : State} (hp : passes .ringDeclare p s) (hstart : CtxStart .ringDeclare p s c u d)
    (hw : Underway [.pegs] u w) (hrow : submit .ringDeclare p .none s = complete (named .ringDeclare p s) stOk 0 w) :
    ∃ t, exec (.ringDeclare p) s = .next t ∧ t.pegs = w.pegs ∧ Answered .ringDeclare p stOk 0 s t ∧
      OnlyIn (.pegs :: replyAreas) s t := by
  obtain ⟨ht, hanswer, hareas⟩ := hstart.ends (i := .ringDeclare p) hp (gs := .pegs :: replyAreas) (by simp) (by decide)
    (hw.mono (by simp)) (congrArg (settled s) hrow)
  exact ⟨_, ht, only_complete (named .ringDeclare p s) stOk 0 w .pegs (by decide), hanswer, hareas⟩

theorem exec_ringDeclare_of_ready (hc : s.calm) (hp : passes .ringDeclare p s) (hctx : s.ctx? p.slot = some c) (hdepth : pf p 28 4 ≠ 0)
    (hx : translate s c (pf p 20 4) = .owner i g) (hy : translate s c (pf p 24 4) = .owner j h)
    (hready : RingReady i j (pf p 28 4) g h) :
    ∃ t, exec (.ringDeclare p) s = .next t ∧ t.peg? i = some (g.inRing .producer j (pf p 28 4)) ∧
      t.peg? j = some (h.inRing .consumer i (pf p 28 4)) ∧ Answered .ringDeclare p stOk 0 s t ∧ OnlyIn (.pegs :: replyAreas) s t := by
  obtain ⟨u, d, hu, hstart⟩ := submit_ctxStart .none rfl hc hp hctx
  obtain ⟨t, ht, hpegs, hrest⟩ := exec_ringDeclare hp hstart ((underway_modPeg u i _).trans (underway_modPeg _ j _))
    (hu.trans (startRingDeclare_of_ready (r := named .ringDeclare p s) hstart.ctx hdepth ((hstart.translate_eq _).trans hx)
      ((hstart.translate_eq _).trans hy) hready))
  have hg := (peg?_congr hstart.pegs i).trans (translate_owner_live hx).1
  have hh := (peg?_congr hstart.pegs j).trans (translate_owner_live hy).1
  refine ⟨t, ht, (peg?_congr hpegs i).trans ?_, (peg?_congr hpegs j).trans ?_, hrest⟩
  · exact (peg?_modPeg_of_ne (f := Peg.inRing .consumer i _) (fun _ => rfl) hready.apart).trans
      (peg?_modPeg_self (f := Peg.inRing .producer j _) (fun _ => rfl) hg)
  · exact peg?_modPeg_self (f := Peg.inRing .consumer i _) (fun _ => rfl)
      ((peg?_modPeg_of_ne (f := Peg.inRing .producer j _) (fun _ => rfl) hready.apart.symm).trans hh)

/-- What is found in a slot that has been taken out of its ring is in no ring. -/
theorem role_of_unrung {k : Nat} {b : Peg} (hb : (s.modPeg k Peg.unrung).peg? k = some b) : b.role = .none := by
  rw [peg?_modPeg (f := Peg.unrung) fun _ => rfl] at hb
  obtain ⟨q, hq, rfl⟩ := Option.map_eq_some_iff.mp hb
  rw [if_pos (idx_of_peg? hq)]
  rfl

theorem exec_ringDeclare_of_release (hc : s.calm) (hp : passes .ringDeclare p s) (hctx : s.ctx? p.slot = some c)
    (hdepth : pf p 28 4 = 0) (hx : translate s c (pf p 20 4) = .owner i g) (hrole : g.role = .producer) :
    ∃ t a, exec (.ringDeclare p) s = .next t ∧ t.peg? i = some a ∧ a.role = .none ∧ a.value = g.value ∧
      (∀ b, t.peg? g.partner = some b → b.role = .none) ∧ Answered .ringDeclare p stOk 0 s t ∧ OnlyIn (.pegs :: replyAreas) s t := by
  obtain ⟨u, d, hu, hstart⟩ := submit_ctxStart .none rfl hc hp hctx
  obtain ⟨t, ht, hpegs, hrest⟩ := exec_ringDeclare hp hstart ((underway_modPeg u i _).trans (underway_modPeg _ g.partner _))
    (hu.trans (startRingDeclare_of_release (r := named .ringDeclare p s) hstart.ctx hdepth ((hstart.translate_eq _).trans hx) hrole))
  have hg := peg?_modPeg_self (f := Peg.unrung) (fun _ => rfl) ((peg?_congr hstart.pegs i).trans (translate_owner_live hx).1)
  have hself : ∃ a, t.peg? i = some a ∧ a.role = .none ∧ a.value = g.value := by
    rw [peg?_congr hpegs, peg?_modPeg (f := Peg.unrung) fun _ => rfl, hg, Option.map_some]
    split <;> exact ⟨_, rfl, rfl, rfl⟩
  obtain ⟨a, ha, hnone, hvalue⟩ := hself
  exact ⟨t, a, ht, ha, hnone, hvalue, fun b hb => role_of_unrung ((peg?_congr hpegs _).symm.trans hb), hrest⟩

end

/-- Settles O28: an EXPORT and a PEG_READ only answer, an IMPORT puts its entry at the lowest free index, and a RING_DECLARE changes the
roles of its two pegs. -/
theorem exportImportRingDeclarePegReadComplete : Obligations.ExportImportRingDeclarePegReadComplete := by
  refine ⟨fun p s c i g hc hp hctx hx => exec_exportPeg hc hp hctx hx,
    fun p s c hi e hc hp hctx hfree he => exec_importPeg hc hp hctx hfree he,
    fun p s c i j g h hc hp hctx hx => ⟨fun hdepth hy hg hh hij hgr hhr hle hwithin => ?declare,
      fun hdepth hrole => exec_ringDeclare_of_release hc hp hctx hdepth hx hrole⟩,
    fun p s c i g hc hp hctx hx => ?read⟩
  case declare =>
    obtain ⟨t, ht, ha, hb, hrest⟩ := exec_ringDeclare_of_ready hc hp hctx hdepth hx hy ⟨hg, hh, hij, hgr, hhr, hle, hwithin⟩
    exact ⟨t, _, _, ht, ha, hb, rfl, rfl, hrest⟩
  case read =>
    rw [← pegReadResult_eq]
    exact exec_pegRead hc hp hctx hx

end Sys2Proof.Machine
end

section
/-! PROOFS. Changes of the calendar alone (08): they open no work for the block. -/

namespace Sys2Proof.Machine

section
variable {s t : State}

theorem only_withCal (s : State) (x : Calendar) : OnlyIn [.cal] s { s with cal := x } := by
  intro g hg
  cases g with
  | cal => exact absurd (by simp) hg
  | _ => rfl

theorem quiet_withCal (s : State) (x : Calendar) : Quiet s { s with cal := x } :=
  ⟨rfl, rfl, rfl, rfl, rfl, rfl, rfl, rfl, rfl, fun _ h => .inl h, id, rfl⟩

theorem settled_withCal (x : Calendar) (hc : s.calm) : settled s { s with cal := x } = .next { s with cal := x } :=
  settled_quiet hc (quiet_withCal s x) rfl

/-- A calm state is a row's answer as it stands. -/
theorem settled_of_calm (ht : t.calm) (hp : t.pending = s.pending) : settled s t = .next t := by rw [settled_calm ht, ← hp]

/-! ### Reservations -/

/-- The state with other reservations. -/
def withResvs (rs : List Resv) (s : State) : State := { s with cal := { s.cal with resvs := rs } }

theorem replaceHome_eq (entry i : Nat) (s : State) : ∃ rs, replaceHome entry i s = withResvs rs s := by
  unfold replaceHome
  dsimp only
  repeat' split
  all_goals exact ⟨_, rfl⟩

/-- A second look at the home links changes reservations alone (R277). -/
theorem rehome_eq (s : State) : ∃ rs, rehome s = withResvs rs s := by
  refine List.foldlRecOn (motive := fun u => ∃ rs, u = withResvs rs s) _ _ ⟨s.cal.resvs, rfl⟩ fun u hu r _ => ?_
  have hreplaced : ∃ rs, (List.range r.links.length).foldl (fun u i => replaceHome r.entry i u) u = withResvs rs s := by
    refine List.foldlRecOn (motive := fun v => ∃ rs, v = withResvs rs s) _ _ hu fun v hv i _ => ?_
    obtain ⟨rs, rfl⟩ := hv
    exact replaceHome_eq r.entry i _
  obtain ⟨rs, he⟩ := hreplaced
  rw [he]
  exact ⟨_, rfl⟩

end

end Sys2Proof.Machine
end

section
/-! PROOFS. Ticks and frame boundaries (08 R256, R273, R274, R277, R281). -/

namespace Sys2Proof.Machine

section
variable {s t u : State}

/-! ### CALENDAR_TICK (R277, R281) -/

/-- The state at the start of a tick, home links not yet looked at again. -/
def tickBegun (tick frame : Nat) (s : State) : State := { s with cal := { s.cal with tick := tick, tickNs := 0, frame := frame } }

theorem calendarTick_within (hc : s.counting = true) (ht : s.cal.tick < 9999) :
    calendarTick s = rehome (tickBegun (s.cal.tick + 1) s.cal.frame s) := by
  have hle : ¬ 9999 ≤ s.cal.tick := by omega
  simp [calendarTick, hc, hle, tickBegun]

theorem calendarTick_last (hc : s.counting = true) (ht : 9999 ≤ s.cal.tick) (hl : s.cal.locked = false) :
    calendarTick s = rehome (tickBegun 0 ((s.cal.frame + 1) % 2 ^ 64) s) := by
  simp [calendarTick, hc, ht, hl, tickBegun]

theorem calendarTick_awaiting_edge (ht : 9999 ≤ s.cal.tick) (hl : s.cal.locked = true) : calendarTick s = s := by
  simp [calendarTick, ht, hl]

theorem echoTick_of_no_runs (h : s.tests.runs = []) : echoTick s = s := by
  simp [echoTick, h]

/-- A tick's row in a calm block that runs no test: the tick, and reservations looked at again. -/
theorem exec_calendarTick_begun {tick frame : Nat} (hc : s.calm) (hr : s.tests.runs = [])
    (h : calendarTick s = rehome (tickBegun tick frame s)) :
    ∃ rs, exec .calendarTick s = .next (withResvs rs (tickBegun tick frame s)) := by
  obtain ⟨rs, he⟩ := rehome_eq (tickBegun tick frame s)
  refine ⟨rs, ?_⟩
  change settled s (echoTick (calendarTick s)) = _
  rw [h, he, echoTick_of_no_runs (by exact hr)]
  exact settled_withCal _ hc

theorem only_tickBegun (rs : List Resv) (tick frame : Nat) (s : State) : OnlyIn [.cal] s (withResvs rs (tickBegun tick frame s)) :=
  only_withCal s _

/-! ### FRAME_BOUNDARY (R273, R274) -/

theorem levelStep_cases (n t l : Nat) :
    levelStep n t l = l ∨ (n % 2 = 0 ∧ levelStep n t l = l + 1) ∨ (n % 2 = 1 ∧ levelStep n t l + 1 = l) := by
  unfold levelStep
  split
  · rename_i h
    simp only [Bool.and_eq_true, decide_eq_true_eq] at h
    exact .inr (.inl ⟨h.2, rfl⟩)
  · split
    · rename_i h
      simp only [Bool.and_eq_true, decide_eq_true_eq] at h
      exact .inr (.inr ⟨h.2, by omega⟩)
    · exact .inl rfl

/-- A partition's view after the boundary that begins a frame, where its target level is `target` (R273, R274). -/
def View.atBoundary (frame target : Nat) (v : View) : View :=
  match v.optPending with
  | some on => { v with shared := on, level := 0, optPending := none }
  | none => if v.shared then { v with level := levelStep frame target v.level } else v

theorem View.atBoundary_of_opting {v : View} {on : Bool} (h : v.optPending = some on) (frame target : Nat) :
    v.atBoundary frame target = { v with shared := on, level := 0, optPending := none } := by
  simp only [View.atBoundary, h]

theorem View.atBoundary_of_private {v : View} (h : v.optPending = none) (hs : v.shared = false) (frame target : Nat) :
    v.atBoundary frame target = v := by
  simp [View.atBoundary, h, hs]

/-- A level moves by at most one, up in an even frame and down in an odd one (R274). -/
theorem View.level_atBoundary {v : View} (h : v.optPending = none) (frame target : Nat) :
    (v.atBoundary frame target).level = v.level ∨ (frame % 2 = 0 ∧ (v.atBoundary frame target).level = v.level + 1) ∨
      (frame % 2 = 1 ∧ (v.atBoundary frame target).level + 1 = v.level) := by
  cases hs : v.shared with
  | false => exact .inl (by rw [View.atBoundary_of_private h hs])
  | true =>
    have he : (v.atBoundary frame target).level = levelStep frame target v.level := by simp [View.atBoundary, h, hs]
    rw [he]
    exact levelStep_cases _ _ _

/-- What a boundary has made of the partitions `ps`, one after the other. -/
structure BoundaryOf (ps : List Nat) (s t : State) : Prop where
  only : OnlyIn [.cal, .parts, .damper] s t
  cal : t.cal = { s.cal with quotas := t.cal.quotas }
  quiet : Quiet s t
  pending : t.pending = s.pending
  views : ∀ p ∈ ps, ∃ target, (t.part p).view = (s.part p).view.atBoundary s.cal.frame target
  others : ∀ p, p ∉ ps → t.part p = s.part p

theorem BoundaryOf.cons {p : Nat} {ps : List Nat} (h : BoundaryOf [p] s t) (k : BoundaryOf ps t u) (hp : p ∉ ps) :
    BoundaryOf (p :: ps) s u := by
  refine ⟨h.only.trans k.only, by rw [k.cal, h.cal], h.quiet.trans k.quiet, k.pending.trans h.pending, fun q hq => ?_, fun q hq => ?_⟩
  · rcases List.mem_cons.mp hq with rfl | hq
    · rw [k.others q hp]
      exact h.views q (List.mem_singleton.mpr rfl)
    · have hframe : t.cal.frame = s.cal.frame := by rw [h.cal]
      have hne : q ∉ [p] := fun he => hp (List.mem_singleton.mp he ▸ hq)
      rw [← h.others q hne, ← hframe]
      exact k.views q hq
  · rw [List.mem_cons, not_or] at hq
    rw [k.others q hq.2, h.others q (by simpa using hq.1)]

/-- The rest of the partitions follow in their order. -/
theorem BoundaryOf.foldl {f : State → Nat → State} (hf : ∀ u p, BoundaryOf [p] u (f u p)) {ps : List Nat} (hps : ps.Nodup) (s : State) :
    BoundaryOf ps s (ps.foldl f s) := by
  induction ps generalizing s with
  | nil => exact ⟨.refl _ s, rfl, .rfl, rfl, fun p hp => absurd hp List.not_mem_nil, fun _ _ => rfl⟩
  | cons p ps ih =>
    obtain ⟨hp, hps⟩ := List.nodup_cons.mp hps
    exact (hf s p).cons (ih hps _) hp

theorem part_of_length_le {p : Nat} (h : s.parts.length ≤ p) : s.part p = Part.reset := by
  rw [State.part, List.getD_eq_getElem?_getD, List.getElem?_eq_none h, Option.getD_none]

/-- A partition's new view with new quotas and grant rows. -/
theorem boundaryOf_modView {p target : Nat} {f : View → View} (hf : f (s.part p).view = (s.part p).view.atBoundary s.cal.frame target)
    (qs : List (Nat × Nat × Nat)) (rows : List GrantRow) :
    BoundaryOf [p] s { s.modView p f with cal := { s.cal with quotas := qs }, damper := { s.damper with rows := rows } } := by
  refine ⟨fun g hg => ?_, rfl, ⟨rfl, rfl, rfl, rfl, rfl, rfl, rfl, rfl, rfl, fun _ h => .inl h, id, rfl⟩, rfl, fun q hq => ⟨target, ?_⟩,
    fun q hq => part_modPart_of_ne (by simpa using hq) _⟩
  · cases g with
    | cal | parts | damper => exact absurd (by simp) hg
    | _ => rfl
  · obtain rfl := List.mem_singleton.mp hq
    change ((s.modView q f).part q).view = _
    by_cases hlen : q < s.parts.length
    · rw [State.modView, part_modPart_self hlen]
      exact hf
    · have hreset : (s.modView q f).part q = Part.reset := part_of_length_le (by simpa [State.modView, State.modPart] using hlen)
      rw [hreset, part_of_length_le (by omega)]
      exact (View.atBoundary_of_private rfl rfl _ _).symm

theorem modView_id (p : Nat) (s : State) : s.modView p id = s := by
  have hid : (fun q : Part => { q with view := id q.view }) = id := rfl
  rw [State.modView, State.modPart, hid, List.modify_id]

/-- The old level that a boundary keeps for the Damper (R314). -/
def oldLevelRows (p : Nat) (s : State) : List GrantRow :=
  s.damper.rows.modify p (fun g => { g with oldLevel := (s.part p).view.level })

theorem boundaryOf_boundaryPart (p cap : Nat) (s : State) : BoundaryOf [p] s (boundaryPart p cap s) := by
  unfold boundaryPart
  dsimp only
  split
  · rename_i on hon
    exact boundaryOf_modView (target := 0) (f := fun w => { w with shared := on, level := 0, optPending := none })
      (View.atBoundary_of_opting hon _ _).symm s.cal.quotas (oldLevelRows p s)
  · rename_i hnone
    split
    · rename_i hs
      have hs : (s.part p).view.shared = false := by simpa using hs
      have h := boundaryOf_modView (target := 0) (f := id) (View.atBoundary_of_private hnone hs _ _).symm s.cal.quotas (oldLevelRows p s)
      rwa [modView_id] at h
    · rename_i hs
      have hs : (s.part p).view.shared = true := by simpa using hs
      refine boundaryOf_modView (target := min (levelTarget s p) cap) (f := fun w => { w with level := _ }) ?_ _ (oldLevelRows p s)
      simp [View.atBoundary, hnone, hs]

/-- A boundary gives every partition its new view, one after the other in rising number (R274). -/
theorem boundaryOf_frameBoundary (hc : s.counting = true) : BoundaryOf (List.range 16) s (frameBoundary s) := by
  have hfold := BoundaryOf.foldl (f := fun t p => boundaryPart p ((levelCaps s).getD p 0) t)
    (fun u p => boundaryOf_boundaryPart p _ u) (List.nodup_range (n := 16)) { s with cal := { s.cal with quotas := [] } }
  have hbegun : frameBoundary s = (List.range 16).foldl (fun t p => boundaryPart p ((levelCaps s).getD p 0) t)
      { s with cal := { s.cal with quotas := [] } } := by
    rw [frameBoundary, hc]
    rfl
  rw [hbegun]
  exact ⟨((only_withCal s _).mono (by simp)).trans hfold.only, hfold.cal, (quiet_withCal s _).trans hfold.quiet, hfold.pending, hfold.views,
    hfold.others⟩

end

end Sys2Proof.Machine
end

section
/-! PROOFS. Frame edges and the loss of lock (08 R256 to R258, R560): platform time, and the times the block has stored. -/

namespace Sys2Proof.Machine

section
variable {s t u : State}

/-! ### Times moved (R258, R560) -/

theorem link_shiftTimes_state (d : Int) (s : State) (n : Nat) : ((shiftTimes d s).link n).state = (s.link n).state := by
  simp only [State.link, shiftTimes, List.getD_eq_getElem?_getD, List.getElem?_map]
  cases s.gl.links[n]? <;> rfl

/-- A parcel with its times moved. -/
def TxParcel.moved (d : Int) (x : TxParcel) : TxParcel :=
  { x with acceptedAt := Machine.moved d x.acceptedAt, eligibleAt := x.eligibleAt.map (Machine.moved d)
           leftAt := x.leftAt.map (Machine.moved d) }

theorem stranded_shiftTimes (d : Int) (s : State) (x : TxParcel) : (shiftTimes d s).stranded (x.moved d) = s.stranded x := by
  rw [stranded_congr_of_keyed (.of_state (link_shiftTimes_state d s)) rfl, State.stranded, State.stranded]
  simp only [TxParcel.moved, Option.isSome_map, Option.isNone_map]
  rfl

/-- Moved times open no work: what waits is told by whether a time is there, not by which it is. -/
theorem calm_shiftTimes (d : Int) (hc : s.calm) : (shiftTimes d s).calm := by
  simp only [State.calm, Bool.and_eq_true] at hc ⊢
  obtain ⟨⟨⟨⟨⟨⟨⟨hqueues, hrungs⟩, hopening⟩, hstopping⟩, hslots⟩, hruns⟩, hparcels⟩, hchans⟩ := hc
  refine ⟨⟨⟨⟨⟨⟨⟨hqueues, ?rungs⟩, hopening⟩, hstopping⟩, hslots⟩, ?runs⟩, ?parcels⟩, ?chans⟩
  case rungs =>
    change (s.plumb.rungs.map _).all _ = true
    rw [List.all_map]
    simpa only [Function.comp_def, Option.isNone_map] using hrungs
  case runs =>
    change (s.tests.runs.map _).all _ = true
    rw [List.all_map]
    simpa only [Function.comp_def, link_shiftTimes_state] using hruns
  case parcels =>
    change (s.gl.parcels.map (TxParcel.moved d)).all _ = true
    rw [List.all_map]
    simpa only [Function.comp_def, stranded_shiftTimes] using hparcels
  case chans =>
    change (!s.mailServed || (s.mail.chans.map _).all _) = true
    rw [List.all_map]
    exact hchans

/-! ### FRAME_P_EDGE -/

theorem framePEdge_first (tod : Nat) (hc : s.counting = true) (hf : s.cal.firstEdge = false) :
    framePEdge tod true s = firstLock tod s := by
  simp [framePEdge, hc, hf]

theorem calm_firstLock (tod : Nat) (hc : s.calm) : (firstLock tod s).calm :=
  (quiet_withCal _ _).calm (calm_shiftTimes _ hc)

theorem framePEdge_accepted {tod due : Nat} {valid : Bool} (hc : s.counting = true) (hf : s.cal.firstEdge = true)
    (hl : s.cal.locked = true) (hdue : due = s.cal.lastTod + 10000000) (hw : within100 s.now s.cal.expectAt = true)
    (htod : valid = true → tod = due) : framePEdge tod valid s = acceptEdge due valid s := by
  subst hdue
  cases valid <;> simp_all [framePEdge]

/-- No bound lies behind platform time, so none is broken (R257). -/
theorem breakPassed_of_none (h : ∀ x ∈ s.gl.parcels, x.bounded = true → s.now ≤ x.deadline) : breakPassed s = s := by
  rw [breakPassed, List.filter_eq_nil_iff.mpr fun x hx hb => ?_]
  · rfl
  · simp only [Bool.and_eq_true, decide_eq_true_eq] at hb
    exact absurd (h x hx hb.1) (by omega)

/-- A frame that begins at time `t` on an edge accepted while locked, platform time then being `now` (R256, R257). -/
def edgeTaken (t now slow : Nat) (valid : Bool) (s : State) : State :=
  atEdge t { s with cal := { s.cal with todOk := valid, frameOk := true, now := now, slow := slow, slowPhase := false } }

theorem acceptEdge_forward {due : Nat} (valid : Bool) (h : s.now ≤ due)
    (hb : ∀ x ∈ s.gl.parcels, x.bounded = true → due ≤ x.deadline) :
    acceptEdge due valid s = edgeTaken due due 0 valid s := by
  rw [acceptEdge]
  dsimp only
  rw [if_pos h]
  exact breakPassed_of_none hb

theorem acceptEdge_backward {due : Nat} (valid : Bool) (h : due < s.now) :
    acceptEdge due valid s = edgeTaken due s.now (2 * (s.now - due)) valid s := by
  rw [acceptEdge]
  dsimp only
  rw [if_neg (by omega)]
  rfl

/-! ### FRAME_LOCK_LOST -/

/-- The block at the loss of lock, its event not yet logged (R257). -/
def freeRunning (s : State) : State :=
  { s.atTime (s.cal.expectAt + 100) with
    cal := { (s.atTime (s.cal.expectAt + 100)).cal with
      locked := false, freeRun := true, frameOk := false, slips := bump 255 s.cal.slips, frame := (s.cal.frame + 1) % 2 ^ 64, tick := 0
      tickNs := 0, relock := (0, 0, 0) } }

theorem frameLockLost_of_locked (hc : s.counting = true) (hl : s.cal.locked = true) :
    frameLockLost s = plumbEvent 0x02 1 0 none false 0 none (freeRunning s) := by
  rw [frameLockLost, hc, hl]
  rfl

theorem quiet_freeRunning (s : State) : Quiet s (freeRunning s) := (quiet_atTime s _).trans (quiet_withCal _ _)

theorem only_freeRunning (s : State) : OnlyIn [.cal, .start] s (freeRunning s) :=
  (only_atTime s _).trans ((only_withCal _ _).mono (by simp))

/-- The event of a loss of lock leaves the calendar as the loss has made it (R257, R428). -/
theorem exec_frameLockLost (hc : s.calm) (hcount : s.counting = true) (hl : s.cal.locked = true) :
    ∃ t, exec .frameLockLost s = .next t ∧ t.cal = (freeRunning s).cal ∧ t.plumb.sticky.getLsbD 0x02 = true ∧
      OnlyIn [.cal, .start, .plumb, .mail, .out] s t := by
  have hevent := reported_plumbEvent (src := 0x02) (by decide) 1 0 none false 0 none (freeRunning s)
  have honly : OnlyIn [.cal, .start, .plumb, .mail, .out] s (plumbEvent 0x02 1 0 none false 0 none (freeRunning s)) :=
    ((only_freeRunning s).mono (by simp)).trans (hevent.only.mono (by simp))
  refine ⟨{ plumbEvent 0x02 1 0 none false 0 none (freeRunning s) with pending := s.pending }, ?_, hevent.only .cal (by decide),
    sticky_plumbEvent (by decide) (by decide) 1 0 none 0 none (freeRunning s),
    honly.queue s.pending⟩
  change settled s (frameLockLost s) = _
  rw [frameLockLost_of_locked hcount hl, settled_calm (hevent.marked.calm ((quiet_freeRunning s).calm hc))]

end

/-- Settles O39: a tick, an edge and BACK_OK change the calendar alone, a boundary the partitions' views beside it; the times that the
first edge moves open no work, and no more does the event of a loss of lock. -/
theorem timeAndFramesAdvance : Obligations.TimeAndFramesAdvance := by
  unfold Obligations.TimeAndFramesAdvance
  refine ⟨fun s hc hcount hruns => ⟨fun ht => ?within, fun ht hl => ?last, fun ht hl => ?awaiting⟩,
    fun s hc hcount => ?boundary, fun tod s hc hcount hf => ?first,
    fun tod due valid s hc hcount hf hl hdue hw htod => ⟨fun hle hb => ?forward, fun hlt => ?backward⟩,
    fun s hc hu => ⟨fun hcount hl => ?lost, ?backOk⟩⟩
  case within =>
    obtain ⟨rs, he⟩ := exec_calendarTick_begun hc hruns (calendarTick_within hcount ht)
    exact ⟨_, he, rfl, rfl, rfl, rfl, only_tickBegun _ _ _ s⟩
  case last =>
    obtain ⟨rs, he⟩ := exec_calendarTick_begun hc hruns (calendarTick_last hcount ht hl)
    exact ⟨_, he, rfl, rfl, rfl, rfl, only_tickBegun _ _ _ s⟩
  case awaiting =>
    refine ⟨s, ?_, .refl _ s⟩
    change settled s (echoTick (calendarTick s)) = _
    rw [calendarTick_awaiting_edge ht hl, echoTick_of_no_runs hruns]
    exact settled_of_calm hc rfl
  case boundary =>
    have hb := boundaryOf_frameBoundary hcount
    refine ⟨_, settled_of_calm (hb.quiet.calm hc) hb.pending, hb.only, by rw [State.now, hb.cal]; rfl, fun q on hq _ hon => ?opting,
      fun q hq hnone => ?staying⟩
    case opting =>
      obtain ⟨target, hv⟩ := hb.views q (List.mem_range.mpr hq)
      rw [hv, View.atBoundary_of_opting hon]
      exact ⟨rfl, rfl, rfl⟩
    case staying =>
      obtain ⟨target, hv⟩ := hb.views q (List.mem_range.mpr hq)
      rw [hv]
      exact ⟨fun hs => View.atBoundary_of_private hnone hs _ _, View.level_atBoundary hnone _ _⟩
  case first =>
    refine ⟨firstLock tod s, ?_, rfl, rfl, rfl, rfl, rfl, rfl, rfl, rfl, rfl⟩
    change settled s (framePEdge tod true s) = _
    rw [framePEdge_first tod hcount hf]
    exact settled_of_calm (calm_firstLock tod hc) rfl
  case forward =>
    refine ⟨edgeTaken due due 0 valid s, ?_, rfl, rfl, rfl, rfl, rfl, rfl, rfl, only_withCal s _⟩
    change settled s (framePEdge tod valid s) = _
    rw [framePEdge_accepted hcount hf hl hdue hw htod, acceptEdge_forward valid hle hb]
    exact settled_withCal _ hc
  case backward =>
    refine ⟨edgeTaken due s.now (2 * (s.now - due)) valid s, ?_, rfl, rfl, rfl, rfl, rfl, rfl, only_withCal s _⟩
    change settled s (framePEdge tod valid s) = _
    rw [framePEdge_accepted hcount hf hl hdue hw htod, acceptEdge_backward valid hlt]
    exact settled_withCal _ hc
  case lost =>
    obtain ⟨t, he, hcal, hsticky, honly⟩ := exec_frameLockLost hc hcount hl
    refine ⟨t, he, ?_⟩
    simp only [State.now, hcal]
    exact ⟨rfl, rfl, rfl, rfl, rfl, rfl, now_atTime s _, hsticky, honly⟩
  case backOk =>
    refine ⟨_, ?_, rfl, only_withCal s _⟩
    change settled s (backOkWrite s) = _
    rw [backOkWrite, if_pos hu]
    exact settled_withCal _ hc

end Sys2Proof.Machine
end

section

/-! PROOFS. Parcels that share an identifier: the eligibility of one reaches the other. -/

namespace Sys2Proof.Machine

/-- A class BE DATA parcel to chip 1 that waits for its eligibility. -/
def waitingBe : TxParcel :=
  mkParcel 0 1 .data none 1 4 0 64 0 0 (.data []) none false 0

/-- A parcel to the block's own chip under the same identifier: no link leads there, so once eligible it is unreachable (R98). -/
def namesakeBe : TxParcel :=
  { waitingBe with dst := 0, pseq := some 0 }

/-- A calm running block with KEYED links whose two parcels share identifier 0, as no run gives them out (`nextId`); the statement asks for
no distinct identifiers. -/
def sharedId : State :=
  { State.reset with
    start := { State.reset.start with pwrAon := true, pwrCore := true, inReset := false }
    gl := { State.reset.gl with
      coord := 0x133000, links := List.replicate 64 { Link.reset with state := .keyed }, parcels := [waitingBe, namesakeBe] } }

/-- Whether an instruction's step ends with event 0x84 sticky, the unreachable destination of R98. -/
def leavesUnreachable (i : Instr) (s : State) : Bool :=
  match exec i s with
  | .next t => t.plumb.sticky.getLsbD 0x84
  | _ => false

theorem leavesUnreachable_of_next {i : Instr} {s t : State} (he : exec i s = .next t) :
    leavesUnreachable i s = t.plumb.sticky.getLsbD 0x84 := by
  rw [leavesUnreachable, he]

/-- PARCEL_ELIGIBLE marks every parcel of the identifier; the namesake is then stranded, and its event is logged. -/
theorem leavesUnreachable_sharedId : leavesUnreachable (.parcelEligible 0) sharedId = true := by
  decide +kernel

/-- Refutes O10: nothing in the statement says that identifiers are distinct. With a second parcel under the same one and without a way
out, the step of the eligible parcel discards that one and logs event 0x84, so `plumb` changes, outside the areas the statement allows.
The clauses about LDT and the notices are not what fails. -/
theorem not_parcelsBecomeEligibleAndBoundsBreak : ¬ Obligations.ParcelsBecomeEligibleAndBoundsBreak := by
  unfold Obligations.ParcelsBecomeEligibleAndBoundsBreak
  rintro ⟨heligible, -⟩
  have hbe := (heligible 0 sharedId waitingBe (by decide +kernel) (by decide +kernel) rfl rfl (by decide +kernel) (by decide +kernel)
    (by decide +kernel) (fun _ hctx => nomatch hctx) (by decide +kernel)).2
  obtain ⟨t, y, he, -, -, -, honly⟩ := hbe rfl rfl
  have hplumb : t.plumb = sharedId.plumb := honly .plumb (by decide)
  have hlogged := leavesUnreachable_sharedId
  rw [leavesUnreachable_of_next he, hplumb] at hlogged
  exact absurd hlogged (by decide +kernel)

end Sys2Proof.Machine
end

section

/-! PROOFS. What a command's reply leaves of the partitions, and its trace of the parcels (04 R69, 15 R495 to R498). -/

namespace Sys2Proof.Machine

/-! ### Properties of the partitions -/

section parts
variable {α : Type} {g : Part → α} {f : Part → Part} {s t : State} {r : CmdRef}

theorem apply_part (g : Part → α) (s : State) (k : Nat) : g (s.part k) = (s.parts.map g).getD k (g Part.reset) := by
  rw [State.part, List.getD_map]

/-- A property that a change keeps is kept of every partition. -/
theorem map_parts_modPart (hf : ∀ q, g (f q) = g q) (p : Nat) (s : State) : (s.modPart p f).parts.map g = s.parts.map g := by
  refine List.ext_getElem? fun i => ?_
  simp only [State.modPart, List.getElem?_map, List.getElem?_modify]
  cases s.parts[i]? with
  | none => rfl
  | some q => by_cases hi : p = i <;> simp [hi, hf]

theorem apply_part_modPart (hf : ∀ q, g (f q) = g q) (p k : Nat) (s : State) : g ((s.modPart p f).part k) = g (s.part k) := by
  rw [apply_part g, map_parts_modPart hf, apply_part g]

theorem apply_part_modView {h : View → View} (hf : ∀ q : Part, g { q with view := h q.view } = g q) (p k : Nat) (s : State) :
    g ((s.modView p h).part k) = g (s.part k) := apply_part_modPart hf p k s

/-- A property of a partition that its ring and the counts of its ended commands do not show. -/
structure HidesReplies (g : Part → α) : Prop where
  ring : ∀ q x, g { q with ring := x } = g q
  counts : ∀ (q : Part) a b d, g { q with view := { q.view with completed := a, broken := b, delayed := d } } = g q

variable (hg : HidesReplies g)
include hg

theorem HidesReplies.noteDone (st : Nat) : (noteDone r st s).parts.map g = s.parts.map g := by
  have hview : ∀ u : State, (u.modView r.part fun v => { v with
      completed := (v.completed + 1) % 2 ^ 32
      broken := if st = stBoundBroken then bump 255 v.broken else v.broken
      delayed := if st = stDelayed then bump 255 v.delayed else v.delayed }).parts.map g = u.parts.map g := fun u =>
    map_parts_modPart (fun q => hg.counts q _ _ _) r.part u
  unfold Sys2Proof.Machine.noteDone
  split
  · rfl
  · dsimp only
    split
    · rw [only_traceCtx _ _ _ _ _ .parts (by decide), hview]
      rfl
    · rw [hview]
      rfl

theorem HidesReplies.modRing (ring : RingId) (f : RingRegs → RingRegs) : (s.modRing ring f).parts.map g = s.parts.map g := by
  cases ring with
  | part p => exact map_parts_modPart (fun q => hg.ring q _) p s
  | mgmt => rfl

theorem HidesReplies.ringReply (ring : RingId) (rep : Reply) : (ringReply ring rep s).parts.map g = s.parts.map g := by
  unfold Sys2Proof.Machine.ringReply writeCompletion
  dsimp only
  split
  · exact hg.modRing _ _
  · exact hg.modRing _ _

theorem HidesReplies.deliver (src : Source) (rep : Reply) : (deliver src rep s).parts.map g = s.parts.map g := by
  unfold Sys2Proof.Machine.deliver
  split
  · split <;> rfl
  · exact hg.ringReply _ _
  · exact hg.ringReply _ _
  · split <;> rfl

theorem HidesReplies.complete (st : Nat) (v : BitVec 128) : (complete r st v s).parts.map g = s.parts.map g := by
  unfold Sys2Proof.Machine.complete answer answerWith
  dsimp only
  split
  · rfl
  · split
    · exact hg.noteDone st
    · exact (hg.deliver _ _).trans (hg.noteDone st)

end parts

/-! ### Parcels of the traces -/

/-- A parcel that carries trace records, as no command's: nothing is told when it goes (R498). -/
def TxParcel.Untold (x : TxParcel) : Prop := x.kind = .data ∧ x.ref = none

/-- What has joined the parcels carries trace records. -/
def TracesJoin (s t : State) : Prop := ∀ x ∈ t.gl.parcels, x ∈ s.gl.parcels ∨ x.Untold

section joins
variable {s t u : State}

theorem TracesJoin.of_gl (h : t.gl = s.gl) : TracesJoin s t := fun x hx => .inl (by rwa [← h])

theorem TracesJoin.trans (h : TracesJoin s t) (k : TracesJoin t u) : TracesJoin s u := fun x hx => (k x hx).elim (h x) .inr

theorem tracesJoin_writeTrace (n : Nat) (recs : List TraceRec) (s : State) : TracesJoin s (writeTrace n recs s) := by
  unfold writeTrace
  split
  · exact .of_gl rfl
  · split
    · intro x hx
      rcases List.mem_append.mp hx with hx | hx
      · exact .inl hx
      · rw [List.mem_singleton.mp hx]
        exact .inr ⟨rfl, rfl⟩
    · refine .of_gl (List.foldlRecOn (motive := fun u : State => u.gl = s.gl) recs _ rfl fun u hu r _ => ?_)
      split
      · exact hu
      · dsimp only
        split
        · exact hu
        · split <;> exact hu

theorem TracesJoin.ite {c : Prop} [Decidable c] (ht : TracesJoin s t) (hu : TracesJoin s u) : TracesJoin s (if c then t else u) := by
  split
  · exact ht
  · exact hu

theorem tracesJoin_pushTrace (n : Nat) (r : TraceRec) (s : State) : TracesJoin s (pushTrace n r s) := by
  unfold pushTrace
  split
  · exact .of_gl rfl
  · split
    · exact .of_gl rfl
    · exact .ite (.trans (.of_gl rfl) (tracesJoin_writeTrace _ _ _)) (.of_gl rfl)

theorem tracesJoin_noteStart (r : CmdRef) (s : State) : TracesJoin s (noteStart r s) := by
  unfold noteStart traceCtx
  dsimp only
  split
  · split
    · exact .of_gl rfl
    · split
      · exact .trans (.of_gl rfl) (tracesJoin_pushTrace _ _ _)
      · exact .of_gl rfl
  · exact .of_gl rfl

end joins

end Sys2Proof.Machine
end

section

/-! PROOFS. The calendar's commands (08 R265 to R273). -/

namespace Sys2Proof.Machine

/-! ### Starts and ends -/

/-- What the start of a command that no session gives meets of a calm block. -/
structure Begun (op : Op) (p : Packet) (s u : State) : Prop where
  calm : u.calm
  started : Started s u
  only : OnlyIn replyAreas s u
  joined : TracesJoin s u
  outside : ∀ id, p.src ≠ .session id

section begun
variable {op : Op} {p : Packet} {s u w : State} {a : Aux} {i : Instr} {gs : List Area} {st : Nat} {v : BitVec 128}

/-- A command that sessions may not give comes from none (R77, R78). -/
theorem src_ne_session (hi : ∀ id, op.issuers.any (fun i => issuerIs i (.session id)) = false) (hp : passes op p s) (id : Nat) :
    p.src ≠ .session id := by
  intro hid
  have h := passes_issuer hp
  rw [hid, hi] at h
  cases h

theorem submit_begun (a : Aux) (hc : s.calm) (hp : passes op p s)
    (hi : ∀ id, op.issuers.any (fun i => issuerIs i (.session id)) = false) :
    ∃ u, submit op p a s = startOf op (named op p s) p a u ∧ Begun op p s u := by
  have hsrc := src_ne_session hi hp
  have hopened : (opened op p s).gl = s.gl := only_opened .gl (by decide)
  have hnow : (opened op p s).now = (named op p s).start := by
    change (opened op p s).cal.now = (arrived p s).cal.now
    rw [show (opened op p s).cal = s.cal from only_opened .cal (by decide), only_arrived p s .cal (by decide)]
  have hbegun : ∀ u, Started s u → u.vs = s.vs → TracesJoin s u → Begun op p s u := fun u hs hvs he =>
    ⟨hs.quiet.calm hc, hs, hs.onlyNoVs hvs, he, hsrc⟩
  have hbegins := submit_passes a hc hp
  rcases begin_cases op (named op p s) p a (opened op p s) with h | h <;> rw [hnow] at h
  · exact ⟨_, hbegins.trans h, hbegun _ started_opened (opened_vs hsrc) (.of_gl hopened)⟩
  · exact ⟨_, hbegins.trans h, hbegun _ (started_opened.trans (started_noteStart _ _))
      (Eq.trans ((only_noteStart _ _) .vs (by decide)) (opened_vs hsrc)) (.trans (.of_gl hopened) (tracesJoin_noteStart _ _))⟩

namespace Begun
variable (h : Begun op p s u)
include h

theorem cal : u.cal = s.cal := h.only .cal (by decide)

theorem now : u.now = s.now := congrArg Calendar.now h.cal

theorem parts : u.parts = s.parts := h.started.only .parts (by decide)

theorem retired : u.plumb.retired = s.plumb.retired := congrArg Plumb.retired (h.started.only .plumb (by decide))

theorem mgmtRefusal_eq (r : CmdRef) (k : Nat) : mgmtRefusal r k u = mgmtRefusal r k s := by
  rw [mgmtRefusal, namedRefusal, part_congr h.parts, mgmtRefusal, namedRefusal]

/-- A command whose effect ends it is answered; the calendar stays as the effect left it, and the partitions but for what replies
count. -/
theorem ends (i : Instr) (hi : exec i s = settled s (submit op p a s)) (hp : passes op p s)
    (he : submit op p a s = complete (named op p s) st v w) (hsub : ∀ g ∈ replyAreas, g ∈ gs)
    (hw : Underway gs u w) (hnow : w.now = u.now) :
    ∃ t, exec i s = .next t ∧ t.cal = w.cal ∧
      (∀ {α : Type} {g : Part → α}, HidesReplies g → ∀ k, g (t.part k) = g (w.part k)) ∧
      Answered op p st v s t ∧ OnlyIn gs s t := by
  have hcalm := (hw.quiet.trans (quiet_complete (named op p s) st v w)).calm h.calm
  have hends := only_complete (named op p s) st v w
  have hanswered : Answered op p st v s (complete (named op p s) st v w) :=
    complete_answers ((hw.staleRef _).trans (h.started.fresh hp)) (hnow.trans h.now) (fun id hid => absurd hid (h.outside id))
      fun q hq => by rw [hw.parts, h.parts]; exact ring_of_passes hp q hq
  refine ⟨_, (hi.trans (congrArg (settled s) he)).trans (settled_calm hcalm), hends .cal (by decide), fun {_ g} hg k => ?_,
    hanswered.queue _,
    (((h.only.mono hsub).trans hw.only).trans (hends.mono hsub)).queue _⟩
  change g ((complete (named op p s) st v w).part k) = _
  rw [apply_part g, hg.complete, apply_part g]

end Begun

end begun

/-- A change of the calendar leaves the command's source as it was. -/
theorem underway_withCal (s : State) (x : Calendar) : Underway [.cal] s { s with cal := x } :=
  ⟨quiet_withCal s x, only_withCal s x, rfl, fun _ => rfl, rfl⟩

theorem underway_modView (s : State) (p : Nat) (f : View → View) : Underway [.parts] s (s.modView p f) :=
  ⟨quiet_modView s p f, only_modView s p f, rfl, fun _ => rfl, by simp [State.modView, State.modPart]⟩

/-! ### ADMIT_REQUEST (R265 to R267) -/

/-- What admission looks at is the same. -/
structure SameAdmission (s t : State) : Prop where
  cal : t.cal = s.cal
  links : t.gl.links = s.gl.links
  retired : t.plumb.retired = s.plumb.retired
  pstate : ∀ k, (t.part k).pstate = (s.part k).pstate
  shares : ∀ k, (t.part k).shares = (s.part k).shares
  shared : ∀ k, (t.part k).view.shared = (s.part k).view.shared

/-- R420's mark on a tenant whose context asks for admission. -/
def admitting (r : CmdRef) (part : Nat) (s : State) : State :=
  if srcIsCtx r.src && part ≠ 0 then s.modView part (fun v => { v with admitted := true }) else s

section admission
variable {s t u : State} {op : Op} {r : CmdRef} {p : Packet} {q : AdmitReq} {part pos : Nat}

theorem underway_admitting (r : CmdRef) (part : Nat) (s : State) : Underway replyAreas s (admitting r part s) := by
  unfold admitting
  split
  · exact (underway_modView s _ _).mono (by simp)
  · exact .refl _ s

theorem sameAdmission_admitting (r : CmdRef) (part : Nat) (s : State) : SameAdmission s (admitting r part s) := by
  unfold admitting
  split
  · exact ⟨rfl, rfl, rfl, fun k => apply_part_modView (g := Part.pstate) (fun _ => rfl) part k s,
      fun k => apply_part_modView (g := Part.shares) (fun _ => rfl) part k s,
      fun k => apply_part_modView (g := fun q => q.view.shared) (fun _ => rfl) part k s⟩
  · exact ⟨rfl, rfl, rfl, fun _ => rfl, fun _ => rfl, fun _ => rfl⟩

theorem Begun.sameAdmission (h : Begun op p s u) : SameAdmission s u :=
  ⟨h.cal, h.started.quiet.links, h.retired, fun k => by rw [part_congr h.parts], fun k => by rw [part_congr h.parts],
    fun k => by rw [part_congr h.parts]⟩

theorem SameAdmission.trans (h : SameAdmission s t) (k : SameAdmission t u) : SameAdmission s u :=
  ⟨k.cal.trans h.cal, k.links.trans h.links, k.retired.trans h.retired, fun n => (k.pstate n).trans (h.pstate n),
    fun n => (k.shares n).trans (h.shares n), fun n => (k.shared n).trans (h.shared n)⟩

namespace SameAdmission
variable (h : SameAdmission s t)
include h

theorem resvsOf (k : Nat) : t.resvsOf k = s.resvsOf k := by rw [State.resvsOf, h.cal, State.resvsOf]

theorem mgmtRefusal (r : CmdRef) (k : Nat) : mgmtRefusal r k t = mgmtRefusal r k s := by
  have hstruck : (t.part k).struck = (s.part k).struck := by rw [Part.struck, Part.struck, h.pstate]
  unfold Sys2Proof.Machine.mgmtRefusal namedRefusal
  rw [hstruck, h.pstate]

theorem keyed (b : Nat) : t.keyed b = s.keyed b := by
  unfold State.keyed State.link
  rw [h.links]

theorem freeLink (cls n : Nat) : t.freeLink cls n = s.freeLink cls n := by
  simp only [State.freeLink, State.heldOn, State.transitRc, State.transitTc, State.quotaOn, h.cal]

theorem freeSeal (cls resource b : Nat) : t.freeSeal cls resource b = s.freeSeal cls resource b := by
  simp only [State.freeSeal, State.heldTile, State.retiredOf, h.cal, h.retired]

theorem freeGuard (cls : Nat) : t.freeGuard cls = s.freeGuard cls := by simp only [State.freeGuard, State.heldSill, h.cal]

theorem freeSealed (cls n : Nat) : t.freeSealed cls n = s.freeSealed cls n := by
  simp only [State.freeSealed, State.heldSill, State.retiredOf, h.cal, h.retired]

theorem admitPos (q : AdmitReq) : admitPos t q = admitPos s q := by
  have hfits : admitFits t q = admitFits s q := funext fun pos => by
    simp only [admitFits, h.keyed, h.freeLink, h.freeSeal]
  simp only [Sys2Proof.Machine.admitPos, hfits, h.freeSeal, h.freeGuard, h.freeSealed]

end SameAdmission

/-- The conditions of R265 to R267 met, the request is granted. -/
theorem startAdmitRequest_granted (hpart : part = aboutPart r (pbits p 32 0 4)) (hu : SameAdmission s (admitting r part u))
    (hm : mgmtRefusal r part s = none) (hrc : pf p 20 1 = 1 → part = 0)
    (hts : pf p 20 1 = 3 → (s.part part).view.shared = true) (hframe : s.cal.frameOk = true)
    (hshare : (s.resvsOf part).length < (s.part part).shares.resvs) (hroom : s.cal.resvs.length < 1024)
    (hpos : admitPos s (admitReq part p) = some pos) :
    startAdmitRequest r p u = grantAdmission r (admitReq part p) pos (admitting r part u) := by
  have hclosed : ¬((admitReq part p).cls = 1 && part ≠ 0) = true := fun hb =>
    of_decide_eq_true (Bool.and_eq_true_iff.mp hb).2 (hrc (of_decide_eq_true (Bool.and_eq_true_iff.mp hb).1))
  have hprivate : ¬((admitReq part p).cls = 3 && !(s.part part).view.shared) = true := fun hb => by
    obtain ⟨hcls, hshared⟩ := Bool.and_eq_true_iff.mp hb
    rw [hts (of_decide_eq_true hcls)] at hshared
    cases hshared
  have hfull : ¬((s.part part).shares.resvs ≤ (s.resvsOf part).length || 1024 ≤ s.cal.resvs.length) = true := by
    simp only [Bool.or_eq_true, decide_eq_true_eq]
    omega
  unfold startAdmitRequest
  dsimp only
  rw [← hpart, ← admitting, hu.mgmtRefusal, hm]
  dsimp only
  rw [if_neg hclosed, hu.shared, if_neg hprivate, hu.cal, hframe, if_neg (by decide), hu.shares, hu.resvsOf, if_neg hfull,
    hu.admitPos, hpos]

theorem mem_resvInsert {l : List Resv} {x y : Resv} : y ∈ resvInsert l x ↔ y = x ∨ y ∈ l := by
  induction l with
  | nil => simp [resvInsert]
  | cons a l ih =>
    unfold resvInsert
    split
    · exact List.mem_cons
    · rw [List.mem_cons, ih, List.mem_cons]
      exact or_left_comm

theorem length_resvInsert (l : List Resv) (x : Resv) : (resvInsert l x).length = l.length + 1 := by
  induction l with
  | nil => rfl
  | cons a l ih =>
    unfold resvInsert
    split
    · rfl
    · rw [List.length_cons, ih, List.length_cons]

/-- A granted request ends with its reservation in the list. -/
theorem grantAdmission_eq (r : CmdRef) (q : AdmitReq) (pos : Nat) (s : State) :
    ∃ x entry, x = mkResv s.draw.2 q entry pos ∧ grantAdmission r q pos s = complete r stOk
      (resultOf [(16, 4, x.id), (20, 4, x.bound), (24, 2, x.slots), (26, 2, x.units),
        (28, 1, if q.resource = 1 then x.homes + 16 * pos else x.homes)]) (withResvs (resvInsert s.cal.resvs x) s.draw.2) :=
  ⟨_, _, rfl, rfl⟩

end admission

/-! ### ADMIT_RELEASE (R269) -/

section release
variable {s : State} {e : Nat} {x : TxParcel} {y : Resv}

theorem withholdParcel_untold (hx : x.Untold) (st d : Nat) (s : State) : withholdParcel x st d s = s.dropParcel x.id := by
  obtain ⟨hkind, href⟩ := hx
  simp [withholdParcel, hkind, href, replyParcel]

theorem underway_dropParcel (id : Nat) (s : State) : Underway [.gl] s (s.dropParcel id) :=
  ⟨quiet_dropParcel id s, only_dropParcel id s, rfl, fun _ => rfl, rfl⟩

/-- The state without some parcels. -/
def dropParcels (l : List TxParcel) (s : State) : State := l.foldl (fun t x => t.dropParcel x.id) s

theorem underway_dropParcels (l : List TxParcel) (s : State) : Underway [.gl] s (dropParcels l s) :=
  List.foldlRecOn (motive := Underway [.gl] s) l _ (.refl _ s) fun _ hu x _ => hu.trans (underway_dropParcel x.id _)

theorem mem_dropParcels {l : List TxParcel} (h : x ∈ (dropParcels l s).gl.parcels) : x ∈ s.gl.parcels ∧ x ∉ l := by
  induction l generalizing s with
  | nil => exact ⟨h, List.not_mem_nil⟩
  | cons y l ih =>
    obtain ⟨hmem, hrest⟩ := ih h
    obtain ⟨hs, hne⟩ := List.mem_filter.mp hmem
    refine ⟨hs, fun hx => ?_⟩
    rcases List.mem_cons.mp hx with rfl | hx
    · exact of_decide_eq_true hne rfl
    · exact hrest hx

/-- The change of a reservation that is released (R269). -/
def Resv.released (x : Resv) : Resv := { x with state := .releasing }

/-- The parcels that name a reservation and are not yet eligible. -/
def waitingFor (e : Nat) (s : State) : List TxParcel := s.gl.parcels.filter (fun x => x.resv = some e && x.eligibleAt.isNone)

theorem mem_waitingFor : x ∈ waitingFor e s ↔ x ∈ s.gl.parcels ∧ x.resv = some e ∧ x.eligibleAt = none := by
  simp [waitingFor]

/-- Parcels that no command waits for are dropped without a word when their reservation is released. -/
theorem releaseResv_of_untold (h : ∀ x ∈ waitingFor e s, x.Untold) :
    releaseResv e s = reapResv (dropParcels (waitingFor e s) (s.modResv e Resv.released)) := by
  refine congrArg reapResv (List.foldl_ext _ _ _ fun t x hx => ?_)
  exact withholdParcel_untold (h x hx) _ _ t

/-- A change of one reservation changes the list's entries under its number. -/
theorem filter_modResv {f : Resv → Resv} (hf : ∀ y, (f y).entry = y.entry) (e : Nat) (s : State) :
    (s.modResv e f).cal.resvs.filter (fun y => y.entry = e) = (s.cal.resvs.filter (fun y => y.entry = e)).map f := by
  have hentry : ∀ y : Resv, (if y.entry = e then f y else y).entry = y.entry := fun y => by
    split
    · exact hf y
    · rfl
  rw [State.modResv, List.filter_map]
  simp only [Function.comp_def, hentry]
  exact List.map_congr_left fun y hy => if_pos (of_decide_eq_true (List.mem_filter.mp hy).2)

theorem assocGet_raised_of_ne {l : List Resv} (h : ∀ y ∈ l, y.entry ≠ e) (gens : List (Nat × Nat)) :
    assocGet (l.foldl (fun g y => assocSet g y.entry ((y.gen + 1) % 256)) gens) e 0 = assocGet gens e 0 :=
  List.foldlRecOn (motive := fun g => assocGet g e 0 = assocGet gens e 0) l _ rfl fun g hg y hy =>
    (assocGet_assocSet_of_ne g _ 0 (h y hy).symm).trans hg

/-- The generation of an entry is raised by the one reservation that stood under it. -/
theorem assocGet_raised {l : List Resv} (h : l.filter (fun y => y.entry = e) = [y]) (gens : List (Nat × Nat)) :
    assocGet (l.foldl (fun g y => assocSet g y.entry ((y.gen + 1) % 256)) gens) e 0 = (y.gen + 1) % 256 := by
  induction l generalizing gens with
  | nil => cases h
  | cons z l ih =>
    rw [List.foldl_cons]
    by_cases hz : z.entry = e
    · rw [List.filter_cons_of_pos (by simpa using hz), List.cons.injEq] at h
      obtain ⟨rfl, hrest⟩ := h
      rw [assocGet_raised_of_ne (fun w hw he => by simpa [he] using List.filter_eq_nil_iff.mp hrest w hw), hz, assocGet_assocSet_self]
    · rw [List.filter_cons_of_neg (by simpa using hz)] at h
      exact ih h _

/-- A reservation that goes when the block next looks: it is released and its last parcel has left. -/
def State.reaps (s : State) (y : Resv) : Bool :=
  y.state = .releasing && !s.gl.parcels.any (fun x => x.resv = some y.entry && x.leftAt.isNone)

theorem reaps_of_unnamed (hstate : y.state = .releasing) (hparcels : ∀ x ∈ s.gl.parcels, x.resv ≠ some y.entry) :
    s.reaps y = true := by
  have hidle : s.gl.parcels.any (fun x => x.resv = some y.entry && x.leftAt.isNone) = false :=
    List.any_eq_false.mpr fun x hx hb => hparcels x hx (of_decide_eq_true (Bool.and_eq_true_iff.mp hb).1)
  rw [State.reaps, hstate, hidle]
  rfl

theorem mem_reapResv {z : Resv} : z ∈ (reapResv s).cal.resvs ↔ z ∈ s.cal.resvs ∧ s.reaps z = false := by
  rw [← Bool.not_eq_true']
  exact List.mem_filter

theorem resvGens_reapResv (s : State) : (reapResv s).cal.resvGens =
    (s.cal.resvs.filter s.reaps).foldl (fun g y => assocSet g y.entry ((y.gen + 1) % 256)) s.cal.resvGens := rfl

/-- A released reservation that no parcel names goes, and its entry's generation is raised (R269). -/
theorem reapResv_ends (hy : s.cal.resvs.filter (fun y => y.entry = e) = [y]) (hreaps : s.reaps y = true) :
    (∀ z ∈ (reapResv s).cal.resvs, z.entry ≠ e) ∧ assocGet (reapResv s).cal.resvGens e 0 = (y.gen + 1) % 256 := by
  refine ⟨fun z hz he => ?_, ?_⟩
  · obtain ⟨hmem, hkept⟩ := mem_reapResv.mp hz
    have hone : z ∈ s.cal.resvs.filter (fun y => y.entry = e) := List.mem_filter.mpr ⟨hmem, decide_eq_true he⟩
    rw [hy, List.mem_singleton] at hone
    rw [hone, hreaps] at hkept
    cases hkept
  · rw [resvGens_reapResv]
    refine assocGet_raised ?_ _
    rw [List.filter_comm, hy, List.filter_cons_of_pos hreaps, List.filter_nil]

end release

/-! ### SHAPER_SET (R272) -/

section shaper
variable {s t u : State} {r : CmdRef} {p : Packet} {e id : Nat} {src : Source} {x : Resv}

/-- The BE shaper that a SHAPER_SET sets, if it sets one. -/
def newShaper (part : Nat) (p : Packet) (s : State) : Option Shaper :=
  if pf p 24 4 = 0 then none else
    some { part := part, resource := pf p 20 4, rate := pf p 24 4, depth := pf p 28 4, tokens := 0, tokensAt := s.now }

/-- The state whose partition has another BE shaper of the resource that a SHAPER_SET names, or none. -/
def withShaper (part : Nat) (p : Packet) (s : State) : State :=
  { s with cal := { s.cal with
      shapers := s.cal.shapers.filter (fun h => !(h.part = part && h.resource = pf p 20 4)) ++ (newShaper part p s).toList } }

theorem startShaperSet_be (hbe : beTarget (pf p 20 4) = true) (hctx : srcIsCtx r.src = true) :
    startShaperSet r p s = complete r stOk 0 (withShaper r.part p s) := by
  unfold startShaperSet withShaper newShaper
  dsimp only
  rw [if_pos hbe, hctx, if_neg (by decide)]
  split <;> rfl

theorem shaper?_withShaper (part : Nat) (p : Packet) (s : State) : (withShaper part p s).shaper? part (pf p 20 4) = newShaper part p s := by
  have hrest : (s.cal.shapers.filter (fun h => !(h.part = part && h.resource = pf p 20 4))).find?
      (fun h => h.part = part && h.resource = pf p 20 4) = none := by
    rw [List.find?_eq_none]
    intro h hh hc
    have hother := (List.mem_filter.mp hh).2
    rw [hc] at hother
    cases hother
  rw [State.shaper?, withShaper, List.find?_append, hrest, Option.none_or, newShaper]
  split
  · rfl
  · simp

theorem shaper?_congr (h : t.cal = s.cal) (part resource : Nat) : t.shaper? part resource = s.shaper? part resource := by
  rw [State.shaper?, h, State.shaper?]

theorem resv?_congr (h : t.cal = s.cal) (e : Nat) : t.resv? e = s.resv? e := by rw [State.resv?, h, State.resv?]

theorem namedResv_congr (h : t.cal = s.cal) (src : Source) (id : Nat) : namedResv src id t = namedResv src id s := by
  rw [namedResv, State.resvFor, resv?_congr h, namedResv, State.resvFor]

theorem entry_of_resv? (h : s.resv? e = some x) : x.entry = e := by
  rw [State.resv?] at h
  simpa using List.find?_some h

/-- A reservation that a RESV names stands under its entry. -/
theorem resv?_of_namedResv (h : namedResv src id s = some x) : s.resv? x.entry = some x := by
  unfold namedResv at h
  split at h
  · cases h
  · obtain ⟨y, hy, hif⟩ := Option.bind_eq_some_iff.mp h
    split at hif
    · cases hif
      rwa [entry_of_resv? hy]
    · cases hif

theorem resv?_modResv {f : Resv → Resv} (hf : ∀ y, (f y).entry = y.entry) (h : s.resv? e = some x) :
    (s.modResv e f).resv? e = some (f x) := by
  have hentry : ∀ y : Resv, (if y.entry = e then f y else y).entry = y.entry := fun y => by
    split
    · exact hf y
    · rfl
  rw [State.resv?] at h
  rw [State.resv?, State.modResv, List.find?_map]
  simp only [Function.comp_def, hentry]
  rw [h, Option.map_some, if_pos (entry_of_resv? h)]

/-- A reservation whose shaper is set, its bucket begun anew. -/
def Resv.reshaped (rate now : Nat) (y : Resv) : Resv :=
  { y with shaperRate := rate, tokens := if y.cls = 1 then y.depth else 0, tokensAt := now }

theorem startShaperSet_resv (hbe : beTarget (pf p 20 4) = false) (hm : mgmtRefusal r (resvPart (pf p 20 4)) s = none)
    (hx : namedResv r.src (pf p 20 4) s = some x) :
    startShaperSet r p s = complete r stOk 0 (s.modResv x.entry (Resv.reshaped (pf p 24 4) s.now)) := by
  unfold startShaperSet
  dsimp only
  rw [hbe, if_neg (by decide), hm, hx]
  rfl

end shaper

/-! ### ADMIT_RELEASE, P0_RESERVE, SHARED_OPT_IN and CAL_QUERY (R268 to R270, R273) -/

section others
variable {s t u : State} {op : Op} {r : CmdRef} {p : Packet} {x : Resv}

theorem startAdmitRelease_named (hm : mgmtRefusal r (resvPart (pf p 20 4)) s = none) (hx : namedResv r.src (pf p 20 4) s = some x) :
    startAdmitRelease r p s = complete r stOk 0 (releaseResv x.entry s) := by
  unfold startAdmitRelease
  dsimp only
  rw [hm, hx]

/-- What waits for a reservation that no earlier parcel names are trace records alone. -/
theorem Begun.waitingFor_untold {e : Nat} (h : Begun op p s u) (hs : ∀ y ∈ s.gl.parcels, y.resv ≠ some e) :
    ∀ y ∈ waitingFor e u, y.Untold := fun y hy => by
  obtain ⟨hmem, hresv, -⟩ := mem_waitingFor.mp hy
  exact (h.joined y hmem).resolve_left fun hold => hs y hold hresv

/-- No parcel names a reservation whose waiting parcels have gone. -/
theorem Begun.unnamed {e : Nat} (h : Begun op p s u) (hs : ∀ y ∈ s.gl.parcels, y.resv ≠ some e) (f : Resv → Resv) :
    ∀ y ∈ (dropParcels (waitingFor e u) (u.modResv e f)).gl.parcels, y.resv ≠ some e := by
  intro y hy hresv
  obtain ⟨hmem, hout⟩ := mem_dropParcels hy
  obtain ⟨l, hl, hnew⟩ := h.started.parcels
  rw [State.modResv_gl] at hmem
  have hwaits : y.eligibleAt = none := by
    rw [hl] at hmem
    rcases List.mem_append.mp hmem with hold | hnewest
    · exact absurd hresv (hs y hold)
    · exact (hnew y hnewest).2
  exact hout (mem_waitingFor.mpr ⟨hmem, hresv, hwaits⟩)

/-- A reservation that no earlier parcel names ends with its release, and its entry's generation is raised. -/
theorem Begun.releaseResv (h : Begun op p s u) (hone : s.cal.resvs.filter (fun y => y.entry = x.entry) = [x])
    (hs : ∀ y ∈ s.gl.parcels, y.resv ≠ some x.entry) :
    Underway [.gl, .cal] u (releaseResv x.entry u) ∧ (releaseResv x.entry u).now = u.now ∧
      (∀ y ∈ (releaseResv x.entry u).cal.resvs, y.entry ≠ x.entry) ∧
      assocGet (releaseResv x.entry u).cal.resvGens x.entry 0 = (x.gen + 1) % 256 := by
  have hdrop := underway_dropParcels (waitingFor x.entry u) (u.modResv x.entry Resv.released)
  have hcal : (dropParcels (waitingFor x.entry u) (u.modResv x.entry Resv.released)).cal = (u.modResv x.entry Resv.released).cal :=
    hdrop.only .cal (by decide)
  rw [releaseResv_of_untold (h.waitingFor_untold hs)]
  refine ⟨((underway_withCal u _).mono (by simp)).trans ((hdrop.mono (by simp)).trans ((underway_withCal _ _).mono (by simp))),
    (congrArg Calendar.now hcal :), reapResv_ends (y := x.released) ?_ (reaps_of_unnamed rfl (h.unnamed hs _))⟩
  rw [hcal, filter_modResv (f := Resv.released) (fun _ => rfl), h.cal, hone]
  rfl

theorem p0Room_congr (hcal : t.cal = s.cal) (hret : t.plumb.retired = s.plumb.retired) (h : P0Share) : p0Room t h = p0Room s h := by
  unfold p0Room State.transitRc State.transitTc State.heldOn State.heldTile State.heldSill State.retiredOf
  rw [hcal, hret]

theorem p0Covers_congr (hcal : t.cal = s.cal) (h : P0Share) : p0Covers t h = p0Covers s h := by
  unfold p0Covers State.heldOn State.heldTile State.heldSill
  rw [hcal]

theorem startP0Reserve_covered (hf : s.cal.frameOk = true) (hroom : p0Room s (p0ShareOf p) = true)
    (hcovers : p0Covers s (p0ShareOf p) = true) :
    startP0Reserve r p s = complete r stOk 0 { s with cal := { s.cal with p0 := p0ShareOf p } } := by
  unfold startP0Reserve
  dsimp only
  rw [hf, if_neg (by decide), hroom, if_neg (by decide), hcovers, if_neg (by decide)]

/-- A partition's wish to share, which waits for the frame boundary. -/
def View.opting (on : Bool) (v : View) : View := { v with optPending := some on }

theorem startSharedOptIn_free (h : pf p 20 1 = 0 → (s.resvsOf r.part).any (fun x => x.cls = 3) = false) :
    startSharedOptIn r p s = complete r stOk 0 (s.modView r.part (View.opting (decide (pf p 20 1 = 1)))) := by
  unfold startSharedOptIn
  refine if_neg fun hb => ?_
  obtain ⟨hzero, hany⟩ := Bool.and_eq_true_iff.mp hb
  rw [h (of_decide_eq_true hzero)] at hany
  cases hany

theorem hidesReplies_optPending : HidesReplies fun q => q.view.optPending := ⟨fun _ _ => rfl, fun _ _ _ _ => rfl⟩

theorem hidesReplies_shared : HidesReplies fun q => q.view.shared := ⟨fun _ _ => rfl, fun _ _ _ _ => rfl⟩

/-- Tenants' commands come from a context (R77). -/
theorem srcIsCtx_of_tenant (hi : op.issuers = [.t]) (hp : passes op p s) : srcIsCtx p.src = true := by
  have h := passes_issuer hp
  cases hsrc : p.src with
  | cmd q => rfl
  | ring q => rfl
  | mgmt => simp [hi, hsrc, issuerIs] at h
  | session id => simp [hi, hsrc, issuerIs] at h

theorem startCalQuery_counts (h : pf p 20 4 = 0) : startCalQuery r p s = complete r stOk (if srcIsCtx r.src
    then resultOf [(16, 2, (s.resvsOf r.part).length), (18, 1, (s.part r.part).view.level)]
    else resultOf [(16, 2, s.cal.resvs.length)]) s := by
  unfold startCalQuery
  dsimp only
  rw [if_pos h]
  split <;> rfl

theorem startCalQuery_resv (h : pf p 20 4 ≠ 0) (hm : mgmtRefusal r (resvPart (pf p 20 4)) s = none)
    (hx : s.resv? (bitsOf (pf p 20 4) 0 10) = some x) (hid : x.id = pf p 20 4) (hpart : srcIsCtx r.src = true → x.part = r.part) :
    startCalQuery r p s = complete r stOk (resultOf [(16, 4, x.rate), (20, 4, x.bound), (24, 2, x.slots), (26, 1, x.state.code),
      (27, 1, (s.part x.part).view.level)]) s := by
  have hshown : (decide (x.id = pf p 20 4) && (!srcIsCtx r.src || decide (x.part = r.part))) = true := by
    cases hs : srcIsCtx r.src <;> simp [hid, hpart, hs]
  unfold startCalQuery
  dsimp only
  rw [if_neg h, hm, hx, Option.filter_some, if_pos hshown]

end others

/-! ### The obligation -/

/-- Settles O37: each start runs to its end on the state that the packet's arrival leaves, whose calendar and partitions are those of
the calm block. What may have joined the parcels are trace records, which the release of a reservation drops without a word. -/
theorem calendarCommandsComplete : Obligations.CalendarCommandsComplete := by
  unfold Obligations.CalendarCommandsComplete
  refine ⟨fun p s q pos hc hp hq hm hrc hts hf hshare hroom hpos => ?request, fun p s x hc hp hm hx hone hparcels => ?release,
    fun p s hc hp => ⟨fun hbe hctx => ?shaper, fun x hbe hm hx => ?reshape⟩, fun p s hc hp hf hroom hcovers => ?reserve,
    fun p s hc hp hnone => ?optIn, fun p s hc hp => ⟨fun hzero => ?counts, fun x hne hm hx hid hpart => ?resv⟩⟩
  case request =>
    obtain ⟨u, hu, hb⟩ := submit_begun .none hc hp fun _ => rfl
    have hsame := hb.sameAdmission.trans (sameAdmission_admitting (named .admitRequest p s) q u)
    have hstart := startAdmitRequest_granted hq hsame hm hrc hts hf hshare hroom hpos
    obtain ⟨x, entry, hx, he⟩ :=
      grantAdmission_eq (named .admitRequest p s) (admitReq q p) pos (admitting (named .admitRequest p s) q u)
    obtain ⟨t, ht, hcal, -, hanswer, honly⟩ := hb.ends (.admitRequest p) rfl hp (hu.trans (hstart.trans he))
      (gs := .cal :: .fresh :: replyAreas) (by simp)
      (((underway_admitting _ _ _).mono (by simp)).trans (((underway_draw _).mono (by simp)).trans ((underway_withCal _ _).mono (by simp))))
      (congrArg Calendar.now (sameAdmission_admitting (named .admitRequest p s) q u).cal :)
    have hresvs : t.cal.resvs = resvInsert s.cal.resvs x := by
      rw [hcal, ← hsame.cal]
      rfl
    have hgen : x.gen = assocGet s.cal.resvGens x.entry 0 := by
      rw [hx, ← hsame.cal]
      rfl
    refine ⟨t, x, ht, ?_, fun y hy => ?_, ?_, ?_⟩
    · rw [hresvs]
      exact mem_resvInsert.mpr (.inl rfl)
    · rw [hresvs]
      exact mem_resvInsert.mpr (.inr hy)
    · rw [hresvs]
      exact length_resvInsert _ _
    · subst hx
      exact ⟨rfl, rfl, rfl, rfl, rfl, rfl, rfl, rfl, rfl, rfl, rfl, rfl, hgen, hanswer, honly⟩
  case release =>
    obtain ⟨u, hu, hb⟩ := submit_begun .none hc hp fun _ => rfl
    have hstart := startAdmitRelease_named (r := named .admitRelease p s) (s := u) (by rwa [hb.mgmtRefusal_eq])
      ((namedResv_congr hb.cal _ _).trans hx)
    obtain ⟨hw, hnow, hgone, hgen⟩ := hb.releaseResv hone hparcels
    obtain ⟨t, ht, hcal, -, hanswer, honly⟩ := hb.ends (.admitRelease p) rfl hp (hu.trans hstart)
      (gs := .cal :: replyAreas) (by simp) (hw.mono (by simp)) hnow
    exact ⟨t, ht, by rwa [hcal], by rwa [hcal], hanswer, honly⟩
  case shaper =>
    obtain ⟨u, hu, hb⟩ := submit_begun .none hc hp fun _ => rfl
    have hstart := startShaperSet_be (r := named .shaperSet p s) (s := u) hbe hctx
    obtain ⟨t, ht, hcal, -, hanswer, honly⟩ := hb.ends (.shaperSet p) rfl hp (hu.trans hstart)
      (gs := .cal :: replyAreas) (by simp) ((underway_withCal u _).mono (by simp)) rfl
    refine ⟨t, ht, ?_, hanswer, honly⟩
    rw [shaper?_congr hcal, ← hb.now]
    exact shaper?_withShaper _ p u
  case reshape =>
    obtain ⟨u, hu, hb⟩ := submit_begun .none hc hp fun _ => rfl
    have hstart := startShaperSet_resv (r := named .shaperSet p s) (s := u) hbe (by rwa [hb.mgmtRefusal_eq])
      ((namedResv_congr hb.cal _ _).trans hx)
    obtain ⟨t, ht, hcal, -, hanswer, honly⟩ := hb.ends (.shaperSet p) rfl hp (hu.trans hstart)
      (gs := .cal :: replyAreas) (by simp) ((underway_withCal u _).mono (by simp)) rfl
    refine ⟨t, ht, ?_, hanswer, honly⟩
    rw [resv?_congr hcal, ← hb.now]
    exact resv?_modResv (fun _ => rfl) ((resv?_congr hb.cal _).trans (resv?_of_namedResv hx))
  case reserve =>
    obtain ⟨u, hu, hb⟩ := submit_begun .none hc hp fun _ => rfl
    have hstart := startP0Reserve_covered (r := named .p0Reserve p s) (s := u) (by rwa [hb.cal])
      (by rwa [p0Room_congr hb.cal hb.retired]) (by rwa [p0Covers_congr hb.cal])
    obtain ⟨t, ht, hcal, -, hanswer, honly⟩ := hb.ends (.p0Reserve p) rfl hp (hu.trans hstart)
      (gs := .cal :: replyAreas) (by simp) ((underway_withCal u _).mono (by simp)) rfl
    exact ⟨t, ht, by rw [hcal, ← hb.cal], hanswer, honly⟩
  case optIn =>
    obtain ⟨u, hu, hb⟩ := submit_begun .none hc hp fun _ => rfl
    have hstart := startSharedOptIn_free (r := named .sharedOptIn p s) (s := u) fun hzero => by
      rw [hb.sameAdmission.resvsOf]
      exact hnone hzero
    obtain ⟨t, ht, -, hkept, hanswer, honly⟩ := hb.ends (.sharedOptIn p) rfl hp (hu.trans hstart)
      (gs := replyAreas) (fun _ hg => hg) ((underway_modView u _ _).mono (by simp)) rfl
    obtain ⟨-, -, hpart⟩ := passes_ctx hp (srcIsCtx_of_tenant rfl hp)
    have hset := part_modPart_self (s := u) (p := p.part) (by rwa [hb.parts])
      (fun q => { q with view := q.view.opting (decide (pf p 20 1 = 1)) })
    refine ⟨t, ht, (hkept hidesReplies_optPending p.part).trans ?_, (hkept hidesReplies_shared p.part).trans ?_, hanswer, honly⟩
    · exact congrArg (fun q => q.view.optPending) hset
    · exact (congrArg (fun q => q.view.shared) hset).trans (by rw [part_congr hb.parts])
  case counts =>
    obtain ⟨u, hu, hb⟩ := submit_begun .none hc hp fun _ => rfl
    obtain ⟨t, ht, -, -, hanswer, honly⟩ := hb.ends (.calQuery p) rfl hp (hu.trans (startCalQuery_counts hzero))
      (gs := replyAreas) (fun _ hg => hg) (.refl _ u) rfl
    rw [hb.sameAdmission.resvsOf, part_congr hb.parts, hb.cal] at hanswer
    exact ⟨t, ht, honly, hanswer⟩
  case resv =>
    obtain ⟨u, hu, hb⟩ := submit_begun .none hc hp fun _ => rfl
    have hstart := startCalQuery_resv (r := named .calQuery p s) (s := u) hne (by rwa [hb.mgmtRefusal_eq])
      ((resv?_congr hb.cal _).trans hx) hid hpart
    obtain ⟨t, ht, -, -, hanswer, honly⟩ := hb.ends (.calQuery p) rfl hp (hu.trans hstart)
      (gs := replyAreas) (fun _ hg => hg) (.refl _ u) rfl
    rw [part_congr hb.parts] at hanswer
    exact ⟨t, ht, honly, hanswer⟩

end Sys2Proof.Machine
end

section
/-! PROOFS. DM_THERM, DM_RAMP and DM_IDLE (09 R316 to R318): what they read, at reset and after a write. -/

namespace Sys2Proof.Machine

section registers
variable (s : State) (ide : Bool) (v : Quad)

/-- Function 0 reads a register of the block's units as it stands (R533, R541). -/
theorem readVia_block {w : Nat} (hw : w < 0xB00000) : readVia (.pf ide) w s = (regAt s w).elim 0 (fun r => r.2) := by
  have hchan : ¬ 0xB00000 ≤ w := by omega
  simp [readVia, windowOf, viewOf_eq_none (w := w) (by omega), hchan]

theorem readVia_therm : readVia (.pf ide) 0x800004 s =
    fld 0 8 s.damper.tHot + fld 8 8 s.damper.tCrit + fld 16 8 s.damper.tTrip := by
  rw [readVia_block s ide (by decide), regAt_therm, Option.elim_some]

theorem readVia_ramp : readVia (.pf ide) 0x800008 s = s.damper.slope := by
  rw [readVia_block s ide (by decide), regAt_ramp, Option.elim_some]

theorem regAt_idle : regAt s 0x80000C = some (false, s.damper.idleW) := rfl

theorem readVia_idle : readVia (.pf ide) 0x80000C s = s.damper.idleW := by
  rw [readVia_block s ide (by decide), regAt_idle, Option.elim_some]

/-- The three temperatures side by side are the low 24 bits of the word they were taken from (R316). -/
theorem therm_fields (n : Nat) : fld 0 8 (bitsOf n 0 8) + fld 8 8 (bitsOf n 8 8) + fld 16 8 (bitsOf n 16 8) = n % 2 ^ 24 := by
  simp only [fld, bitsOf]
  omega

theorem readVia_therm_writeTherm {n : Nat} (h : Rising n) : readVia (.pf ide) 0x800004 (writeTherm n s) = n % 2 ^ 24 := by
  rw [writeTherm_of_rising s n h, readVia_therm, ← therm_fields]

theorem exec_write_idle {s : State} {ide : Bool} (v : Quad) (hc : s.calm) (hu : s.up = true) :
    exec (.registerWrite (.pf ide) 0x80000C v false) s = .next { s with damper := { s.damper with idleW := v.toNat % 2 ^ 11 } } := by
  have hlow : bitsOf (bitsOf v.toNat 0 32) 0 11 = v.toNat % 2 ^ 11 := by rw [bitsOf_low _ (by decide), bitsOf, pow_zero, Nat.div_one]
  rw [← hlow]
  exact exec_registerWrite_narrow v hc hu (by decide) rfl (regAt_idle s) rfl (quiet_withDamper _ _) rfl

end registers

/-- Settles O5: each register reads the fields that its write has set, and a write that a rule ignores sets none. -/
theorem thermalRampAndIdleRegisters : Obligations.ThermalRampAndIdleRegisters := by
  unfold Obligations.ThermalRampAndIdleRegisters
  refine ⟨fun ide => ⟨readVia_therm _ ide, readVia_ramp _ ide, readVia_idle _ ide⟩, fun ide v s hc hu => ⟨?therm, ?ramp, ?idle⟩⟩
  case therm =>
    refine ⟨_, exec_write_therm v hc hu, fun h => ⟨readVia_therm_writeTherm s ide h, ?_⟩, fun h => ?_⟩
    · rw [writeTherm_of_rising s _ h]
      exact only_withDamper _ _
    · rw [writeTherm_of_not_rising s _ h, readVia_therm, readVia_therm]
      exact ⟨rfl, rfl, only_countMalformed s⟩
  case ramp =>
    have hfield : bitsOf v.toNat 0 6 = v.toNat % 64 := by simp only [bitsOf, pow_zero, Nat.div_one, Nat.reducePow]
    refine ⟨_, exec_write_ramp v hc hu, fun h => ?_, fun hlow hhigh => ?_, only_withDamper _ _⟩
    · rw [hfield, if_neg (by omega)]
    · rw [readVia_ramp, hfield, if_pos ⟨hlow, hhigh⟩]
  case idle => exact ⟨_, exec_write_idle v hc hu, readVia_idle _ ide, only_withDamper _ _⟩

end Sys2Proof.Machine
end

section
/-! PROOFS. SET_PKG_LIMIT, GRANT_QUERY, THROTTLE_QUERY and ENTER_STATE (09 R295, R309 to R313). -/

namespace Sys2Proof.Machine

/-! ### Commands that end at once -/

section begun
variable {op : Op} {p : Packet} {s u w : State} {i : Instr} {gs : List Area} {st : Nat} {v : BitVec 128}

namespace Begun
variable (h : Begun op p s u)
include h

theorem damper : u.damper = s.damper := h.only .damper (by decide)

theorem halted : u.scribe.halted = s.scribe.halted := h.started.halted

/-- A command whose effect ends it is answered, and what its reply leaves alone is as the effect left it. -/
theorem answers (hp : passes op p s) (he : exec i s = settled s (complete (named op p s) st v w)) (hsub : ∀ g ∈ replyAreas, g ∈ gs)
    (hw : Underway gs u w) (hnow : w.now = u.now) :
    ∃ t, exec i s = .next t ∧ OnlyIn replyAreas w t ∧ Answered op p st v s t ∧ OnlyIn gs s t := by
  have hcalm := (hw.quiet.trans (quiet_complete (named op p s) st v w)).calm h.calm
  have hends := only_complete (named op p s) st v w
  have hanswered : Answered op p st v s (complete (named op p s) st v w) :=
    complete_answers ((hw.staleRef _).trans (h.started.fresh hp)) (hnow.trans h.now) (fun id hid => absurd hid (h.outside id))
      fun q hq => by rw [hw.parts, h.parts]; exact ring_of_passes hp q hq
  exact ⟨_, he.trans (settled_calm hcalm), hends.queue _, hanswered.queue _,
    (((h.only.mono hsub).trans hw.only).trans (hends.mono hsub)).queue _⟩

/-- A command that changes nothing but for its reply. -/
theorem answersOnly (hp : passes op p s) (he : exec i s = settled s (complete (named op p s) st v u)) :
    ∃ t, exec i s = .next t ∧ Answered op p st v s t ∧ OnlyIn replyAreas s t := by
  obtain ⟨t, ht, -, hanswer, honly⟩ := h.answers hp he (fun _ hg => hg) (.refl _ u) rfl
  exact ⟨t, ht, hanswer, honly⟩

/-- A command whose effect is the Damper's alone. -/
theorem answersDamper {x : Damper} (hp : passes op p s) (he : exec i s = settled s (complete (named op p s) st v { u with damper := x })) :
    ∃ t, exec i s = .next t ∧ t.damper = x ∧ Answered op p st v s t ∧ OnlyIn (.damper :: replyAreas) s t := by
  obtain ⟨t, ht, hkept, hanswer, honly⟩ := h.answers (gs := .damper :: replyAreas) hp he (by simp)
    ⟨quiet_withDamper u x, (only_withDamper u x).mono (by simp), rfl, fun _ => rfl, rfl⟩ rfl
  exact ⟨t, ht, hkept .damper (by decide), hanswer, honly⟩

end Begun

end begun

/-! ### SET_PKG_LIMIT (R295, R313) -/

section limit
variable {s t : State}

theorem committed_congr (hp : t.parts = s.parts) : t.committed = s.committed := by rw [State.committed, hp, State.committed]

theorem levelCaps_congr (hp : t.parts = s.parts) (hd : t.damper = s.damper) : levelCaps t = levelCaps s := by
  have hcap : ∀ fitted q, levelCap t fitted q = levelCap s fitted q := fun fitted q => by
    rw [levelCap, levelCap, part_congr hp, committed_congr hp, State.capW, State.capW, hd]
  simp only [levelCaps, hcap, part_congr hp]

/-- The state under another package limit (R305). -/
def withPkgLimit (limit : Nat) (s : State) : State := { s with damper := { s.damper with pkgLimit := limit } }

theorem levelExcess_eq (s : State) (limit : Nat) :
    levelExcess s limit =
      (List.range 16).foldl (fun n p => max n ((s.part p).view.level - (levelCaps (withPkgLimit limit s)).getD p 0)) 0 := rfl

theorem limitFrame_congr (hp : t.parts = s.parts) (hd : t.damper = s.damper) (hc : t.cal = s.cal) (limit : Nat) :
    limitFrame t limit = limitFrame s limit := by
  have hcaps : levelCaps (withPkgLimit limit t) = levelCaps (withPkgLimit limit s) :=
    levelCaps_congr hp (by rw [withPkgLimit, withPkgLimit, hd])
  have hexcess : levelExcess t limit = levelExcess s limit := by simp only [levelExcess_eq, hcaps, part_congr hp]
  rw [limitFrame, hexcess, hc, limitFrame]

theorem startSetPkgLimit_covered {r : CmdRef} {p : Packet} (hlow : s.committed ≤ 16 * pf p 20 2)
    (hhigh : 16 * pf p 20 2 ≤ s.ballastCapacity + 16 * s.damper.idleW) :
    startSetPkgLimit r p s = complete r stOk (resultOf [(16, 2, s.damper.effLimit), (20, 8, limitFrame s (pf p 20 2))])
      { s with damper := { s.damper with pkgNext := some (pf p 20 2) } } := by
  rw [startSetPkgLimit, if_neg (by omega), if_neg (by omega)]

theorem exec_setPkgLimit_covered {p : Packet} (hc : s.calm) (hp : passes .setPkgLimit p s) (hlow : s.committed ≤ 16 * pf p 20 2)
    (hhigh : 16 * pf p 20 2 ≤ s.ballastCapacity + 16 * s.damper.idleW) :
    ∃ t, exec (.setPkgLimit p) s = .next t ∧ t.damper = { s.damper with pkgNext := some (pf p 20 2) } ∧
      Answered .setPkgLimit p stOk (resultOf [(16, 2, s.damper.effLimit), (20, 8, limitFrame s (pf p 20 2))]) s t ∧
      OnlyIn (.damper :: replyAreas) s t := by
  obtain ⟨u, hu, hb⟩ := submit_begun .none hc hp fun _ => rfl
  have hstart := startSetPkgLimit_covered (r := named .setPkgLimit p s) (s := u) (p := p)
    (by rwa [committed_congr hb.parts]) (by rwa [State.ballastCapacity, hb.damper])
  rw [limitFrame_congr hb.parts hb.damper hb.cal, hb.damper] at hstart
  exact hb.answersDamper hp (congrArg (settled s) (hu.trans hstart))

end limit

/-! ### GRANT_QUERY and THROTTLE_QUERY (R311, R312) -/

section queries
variable {s t : State}

theorem grantRow_congr (h : t.damper = s.damper) (q : Nat) : t.grantRow q = s.grantRow q := by rw [State.grantRow, h, State.grantRow]

/-- What GRANT_QUERY replies to a source about partition q (R312). -/
def grantFields (src : Source) (q : Nat) (s : State) : List (Nat × Nat × Nat) :=
  [(16, 2, (s.part q).resvW),
    (18, 2, if (s.part q).view.shared then (s.part q).resvW * levelQuarters (s.part q).view.level / 4 else 0)] ++
  (if srcIsCtx src then [] else
    [(20, 2, (96 * (s.grantRow q).grant - 96 * (s.grantRow q).reached - s.quota96 q) / 96), (22, 2, (s.grantRow q).grant),
      (24, 2, s.damper.effLimit), (26, 2, s.committed / 16)])

/-- What THROTTLE_QUERY replies about partition q (R311). -/
def throttleFields (q : Nat) (s : State) : List (Nat × Nat × Nat) :=
  [(16, 1, (s.part q).view.pace), (17, 1, if (s.part q).view.shared then (s.part q).view.level else 0xFF),
    (18, 1, (if (s.part q).view.emergency then 1 else 0) + (if (s.part q).view.beWeight ≠ 0 then 2 else 0))]

theorem quota96_congr (hp : t.parts = s.parts) (hd : t.damper = s.damper) (q : Nat) : t.quota96 q = s.quota96 q := by
  simp only [State.quota96, State.fq, State.bt, part_congr hp, hd]

theorem grantFields_congr (hp : t.parts = s.parts) (hd : t.damper = s.damper) (src : Source) (q : Nat) :
    grantFields src q t = grantFields src q s := by
  rw [grantFields, part_congr hp, grantRow_congr hd, quota96_congr hp hd, committed_congr hp, hd, grantFields]

theorem throttleFields_congr (hp : t.parts = s.parts) (q : Nat) : throttleFields q t = throttleFields q s := by
  rw [throttleFields, part_congr hp, throttleFields]

theorem startGrantQuery_allowed {r : CmdRef} {p : Packet} (h : mgmtRefusal r (aboutPart r (pbits p 20 0 4)) s = none) :
    startGrantQuery r p s = complete r stOk (resultOf (grantFields r.src (aboutPart r (pbits p 20 0 4)) s)) s := by
  unfold startGrantQuery
  dsimp only
  rw [h]
  dsimp only
  by_cases hctx : srcIsCtx r.src = true
  · rw [if_pos hctx, grantFields, if_pos hctx, List.append_nil]
  · rw [if_neg hctx, grantFields, if_neg hctx]

theorem startThrottleQuery_allowed {r : CmdRef} {p : Packet} (h : mgmtRefusal r (aboutPart r (pbits p 20 0 4)) s = none) :
    startThrottleQuery r p s = complete r stOk (resultOf (throttleFields (aboutPart r (pbits p 20 0 4)) s)) s := by
  unfold startThrottleQuery
  dsimp only
  rw [h]
  rfl

theorem exec_grantQuery_allowed {p : Packet} (hc : s.calm) (hp : passes .grantQuery p s)
    (h : mgmtRefusal (named .grantQuery p s) (aboutPart (named .grantQuery p s) (pbits p 20 0 4)) s = none) :
    ∃ t, exec (.grantQuery p) s = .next t ∧
      Answered .grantQuery p stOk (resultOf (grantFields p.src (aboutPart (named .grantQuery p s) (pbits p 20 0 4)) s)) s t ∧
      OnlyIn replyAreas s t := by
  obtain ⟨u, hu, hb⟩ := submit_begun .none hc hp fun _ => rfl
  have hstart := startGrantQuery_allowed (r := named .grantQuery p s) (s := u) (p := p) (by rwa [hb.mgmtRefusal_eq])
  rw [grantFields_congr hb.parts hb.damper] at hstart
  exact hb.answersOnly hp (congrArg (settled s) (hu.trans hstart))

theorem exec_throttleQuery_allowed {p : Packet} (hc : s.calm) (hp : passes .throttleQuery p s)
    (h : mgmtRefusal (named .throttleQuery p s) (aboutPart (named .throttleQuery p s) (pbits p 20 0 4)) s = none) :
    ∃ t, exec (.throttleQuery p) s = .next t ∧
      Answered .throttleQuery p stOk (resultOf (throttleFields (aboutPart (named .throttleQuery p s) (pbits p 20 0 4)) s)) s t ∧
      OnlyIn replyAreas s t := by
  obtain ⟨u, hu, hb⟩ := submit_begun .none hc hp fun _ => rfl
  have hstart := startThrottleQuery_allowed (r := named .throttleQuery p s) (s := u) (p := p) (by rwa [hb.mgmtRefusal_eq])
  rw [throttleFields_congr hb.parts] at hstart
  exact hb.answersOnly hp (congrArg (settled s) (hu.trans hstart))

end queries

/-! ### ENTER_STATE (R309, R310) -/

section lowPower
variable {s : State} {r : CmdRef} {p : Packet}

/-- A move between low-power states is open: no halt, no emergency and no other move (R310). -/
structure MayMove (s : State) : Prop where
  notHalted : s.scribe.halted = false
  noEmergency : s.damper.emergency = false
  notMoving : s.damper.moving = none

theorem MayMove.refusal (h : MayMove s) : (s.scribe.halted || s.damper.emergency || s.damper.moving.isSome) = false := by
  rw [h.notHalted, h.noEmergency, h.notMoving]
  rfl

theorem Begun.mayMove {op : Op} {u : State} (hb : Begun op p s u) (h : MayMove s) : MayMove u := by
  obtain ⟨hhalt, hemergency, hmoving⟩ := h
  exact ⟨by rw [hb.halted, hhalt], by rw [hb.damper, hemergency], by rw [hb.damper, hmoving]⟩

theorem startEnterState_present (h : lstateOf (pf p 20 1) = s.damper.lstate) :
    startEnterState r p s = complete r stOk (resultOf [(16, 1, s.damper.lstate.code)]) s := by
  simp [startEnterState, h]

theorem startEnterState_deep (h : lstateOf (pf p 20 1) ≠ s.damper.lstate) (hm : MayMove s)
    (hg : lstateOf (pf p 20 1) = .l2 ∨ lstateOf (pf p 20 1) = .l3) (hfree : s.parts.any (fun q => q.pstate ≠ .free) = false) :
    startEnterState r p s = complete r stOk (resultOf [(16, 1, s.damper.lstate.code)])
      { s with damper := { s.damper with moving := some (s.damper.lstate, lstateOf (pf p 20 1)) } } := by
  have hdeep : (decide (lstateOf (pf p 20 1) = .l2) || decide (lstateOf (pf p 20 1) = .l3)) = true := by simpa using hg
  simp only [startEnterState, h, hm.refusal, hdeep, hfree, if_true, if_false, Bool.and_false, Bool.false_eq_true]

theorem not_deep {g : LState} (hg : g = .l0 ∨ g = .l1) : (decide (g = .l2) || decide (g = .l3)) = false := by
  rcases hg with rfl | rfl <;> rfl

theorem startEnterState_wake (h : lstateOf (pf p 20 1) ≠ s.damper.lstate) (hm : MayMove s)
    (hg : lstateOf (pf p 20 1) = .l0 ∨ lstateOf (pf p 20 1) = .l1) (hcur : s.damper.lstate = .l2) :
    startEnterState r p s = complete r stOk (resultOf [(16, 1, 2)])
      { s with damper := { s.damper with moving := some (.l2, lstateOf (pf p 20 1)) }
               start := { s.start with gltOn := 0xFF, sltOn := 0xF } } := by
  simp only [startEnterState, h, hm.refusal, not_deep hg, if_false, Bool.false_and, Bool.false_eq_true]
  rw [if_pos hcur, hcur]
  rfl

theorem startEnterState_light (h : lstateOf (pf p 20 1) ≠ s.damper.lstate) (hm : MayMove s)
    (hg : lstateOf (pf p 20 1) = .l0 ∨ lstateOf (pf p 20 1) = .l1) (hcur : s.damper.lstate ≠ .l2) :
    startEnterState r p s = complete r stOk (resultOf [(16, 1, s.damper.lstate.code)])
      { s with damper := { s.damper with
          lstate := lstateOf (pf p 20 1), gated := if lstateOf (pf p 20 1) = .l0 then [] else s.damper.gated } } := by
  simp only [startEnterState, h, hm.refusal, not_deep hg, hcur, if_false, Bool.false_and, Bool.false_eq_true]

theorem underway_wake (u : State) (x : Damper) :
    Underway [.damper, .start] u { u with damper := x, start := { u.start with gltOn := 0xFF, sltOn := 0xF } } :=
  ⟨⟨rfl, rfl, rfl, rfl, rfl, rfl, rfl, rfl, rfl, fun _ h => .inl h, id, rfl⟩,
    ((only_withDamper u x).mono (by simp)).trans ((only_withStart _ _).mono (by simp)), rfl, fun _ => rfl, rfl⟩

end lowPower

/-- Settles O40: each command starts on a state that agrees with the given one on the Damper and the partitions, and its effect ends
it. -/
theorem damperCommandsComplete : Obligations.DamperCommandsComplete := by
  unfold Obligations.DamperCommandsComplete
  refine ⟨fun p s hc hp hlow hhigh => exec_setPkgLimit_covered hc hp hlow hhigh,
    fun p s q hc hq => ⟨fun hp hr => ?grant, fun hp hr => ?throttle⟩,
    fun p s g hc hp hg => ⟨fun hpresent => ?present, fun hne hhalt hemergency hmoving =>
      ⟨fun hdeep hfree => ?deep, fun hlight hcur => ?wake, fun hlight hcur => ?light⟩⟩⟩
  case grant =>
    subst hq
    obtain ⟨t, ht, hanswer, honly⟩ := exec_grantQuery_allowed hc hp hr
    exact ⟨t, ht, honly, hanswer⟩
  case throttle =>
    subst hq
    obtain ⟨t, ht, hanswer, honly⟩ := exec_throttleQuery_allowed hc hp hr
    exact ⟨t, ht, honly, hanswer⟩
  all_goals
    subst hg
    obtain ⟨u, hu, hb⟩ := submit_begun .none hc hp fun _ => rfl
  case present =>
    have hstart := startEnterState_present (r := named .enterState p s) (p := p) (s := u) (by rwa [hb.damper])
    rw [hb.damper, ← hpresent] at hstart
    exact hb.answersOnly hp (congrArg (settled s) (hu.trans hstart))
  case deep =>
    have hstart := startEnterState_deep (r := named .enterState p s) (p := p) (s := u) (by rwa [hb.damper])
      (hb.mayMove ⟨hhalt, hemergency, hmoving⟩) hdeep (by rwa [hb.parts])
    rw [hb.damper] at hstart
    exact hb.answersDamper hp (congrArg (settled s) (hu.trans hstart))
  case wake =>
    have hstart := startEnterState_wake (r := named .enterState p s) (p := p) (s := u) (by rwa [hb.damper])
      (hb.mayMove ⟨hhalt, hemergency, hmoving⟩) hlight (by rwa [hb.damper])
    rw [hb.damper] at hstart
    obtain ⟨t, ht, hkept, hanswer, honly⟩ := hb.answers (i := .enterState p) (gs := .damper :: .start :: replyAreas) hp
      (congrArg (settled s) (hu.trans hstart)) (by simp) ((underway_wake u _).mono (by simp)) rfl
    have hpower := hkept .start (by decide)
    exact ⟨t, ht, hkept .damper (by decide), congrArg Start.gltOn hpower, congrArg Start.sltOn hpower, hanswer, honly⟩
  case light =>
    have hstart := startEnterState_light (r := named .enterState p s) (p := p) (s := u) (by rwa [hb.damper])
      (hb.mayMove ⟨hhalt, hemergency, hmoving⟩) hlight (by rwa [hb.damper])
    rw [hb.damper] at hstart
    exact hb.answersDamper hp (congrArg (settled s) (hu.trans hstart))

end Sys2Proof.Machine
end

section
/-! PROOFS. Grant rows (09 R296), and the tray rung that stays asked for while events are logged (14 R428, R438). -/

namespace Sys2Proof.Machine

section
variable {s t u : State}

/-! ### Rows -/

theorem grantRow_modRow_self {q : Nat} (h : q < s.damper.rows.length) (f : GrantRow → GrantRow) :
    (s.modRow q f).grantRow q = f (s.grantRow q) := by
  simp [State.grantRow, State.modRow, h]

theorem grantRow_modRow_of_ne {q k : Nat} (h : k ≠ q) (f : GrantRow → GrantRow) : (s.modRow q f).grantRow k = s.grantRow k := by
  simp [State.grantRow, State.modRow, Ne.symm h]

theorem grantRow_of_length_le {q : Nat} (h : s.damper.rows.length ≤ q) : s.grantRow q = GrantRow.zero := by
  rw [State.grantRow, List.getD_eq_getElem?_getD, List.getElem?_eq_none h, Option.getD_none]

theorem only_modRow (p : Nat) (f : GrantRow → GrantRow) (s : State) : OnlyIn [.damper] s (s.modRow p f) := only_withDamper s _

/-! ### The tray rung asked for -/

theorem trayAsked_plumbLog (src sub action : Nat) (part : Option Nat) (quant : Bool) (detail : Nat) (s : State) :
    (plumbLog src sub action part quant detail s).plumb.trayAsked = s.plumb.trayAsked := by
  unfold plumbLog
  dsimp only
  split
  · rfl
  · rw [(notified_noticeFault _ _ _ _ _).only .plumb (by decide)]
    rfl

theorem trayAsked_thresholdMet (n : Nat) (s : State) : (thresholdMet n s).2.plumb.trayAsked = s.plumb.trayAsked := by
  unfold thresholdMet
  dsimp only
  split
  · rfl
  · dsimp only
    split <;> rfl

theorem trayAsked_mergeCause (src : Nat) (s : State) : (mergeCause src s).plumb.trayAsked = s.plumb.trayAsked := by
  unfold mergeCause
  dsimp only
  split
  · rfl
  · split <;> rfl

theorem trayAsked_requestChip (src : Nat) (tenant : Bool) (s : State) :
    (requestChip src tenant s).plumb.trayAsked = s.plumb.trayAsked := by
  unfold requestChip
  split
  · rfl
  · split
    · exact trayAsked_mergeCause src s
    · rfl

theorem trayAsked_thresholdChip (src : Nat) (s : State) : (thresholdChip src s).plumb.trayAsked = s.plumb.trayAsked := by
  unfold thresholdChip
  dsimp only
  split
  · exact (trayAsked_requestChip _ _ _).trans (trayAsked_thresholdMet src s)
  · exact trayAsked_thresholdMet src s

theorem trayAsked_requestRungFor (r : Rung) (scope src : Nat) (tenant : Bool) (s : State) :
    (requestRungFor r scope src tenant s).plumb.trayAsked = s.plumb.trayAsked := by
  unfold requestRungFor
  split
  · exact trayAsked_requestChip src tenant s
  · split
    · exact (trayAsked_thresholdChip _ _).trans (trayAsked_plumbLog _ _ _ _ _ _ s)
    · rfl

theorem trayAsked_plumbThreshold (src : Nat) (named : Option Nat) (s : State) :
    (plumbThreshold src named s).plumb.trayAsked = s.plumb.trayAsked := by
  have hrung : ∀ r scope, (requestRung r scope src (thresholdMet src s).2).plumb.trayAsked = s.plumb.trayAsked := fun r scope =>
    (trayAsked_requestRungFor r scope src _ _).trans (trayAsked_thresholdMet src s)
  unfold plumbThreshold
  dsimp only
  split
  · exact trayAsked_thresholdMet src s
  · split
    case h_5 => exact trayAsked_thresholdMet src s
    all_goals exact hrung _ _

/-- No event takes back that the tray rung is asked for (R438). -/
theorem trayAsked_plumbEvent (src sub action : Nat) (part : Option Nat) (quant : Bool) (detail : Nat) (named : Option Nat) (s : State) :
    (plumbEvent src sub action part quant detail named s).plumb.trayAsked = s.plumb.trayAsked :=
  (trayAsked_plumbThreshold src named _).trans (trayAsked_plumbLog src sub action part quant detail s)

/-! ### A row that ends with an event -/

/-- An event after a change that opens no work: the Damper stays as the change has made it, and the source's sticky bit is set (R428). -/
theorem settled_plumbEvent {src : Nat} {gs : List Area} (h : src ≠ 1) (hlt : src < 256) (sub action : Nat) (part : Option Nat)
    (detail : Nat) (named : Option Nat) (hc : s.calm) (hq : Quiet s u) (ho : OnlyIn gs s u) (hg : ∀ g ∈ [Area.plumb, .mail, .out], g ∈ gs) :
    ∃ t, settled s (plumbEvent src sub action part false detail named u) = .next t ∧ t.damper = u.damper ∧
      t.plumb.trayAsked = u.plumb.trayAsked ∧ t.plumb.sticky.getLsbD src = true ∧ OnlyIn gs s t := by
  have hevent := reported_plumbEvent h sub action part false detail named u
  exact ⟨_, settled_calm (hevent.marked.calm (hq.calm hc)), hevent.only .damper (by decide), trayAsked_plumbEvent _ _ _ _ _ _ _ u,
    sticky_plumbEvent h hlt sub action part detail named u, (ho.trans (hevent.only.mono hg)).queue _⟩

end

end Sys2Proof.Machine
end

section
/-! PROOFS. TELEM_WORD, TELEM_LOST, GRANT_VIOLATION, LIMIT_ALERT_CHANGE and REGULATOR_ALERT (09 R291, R293, R299 to R303). -/

namespace Sys2Proof.Machine

section telemetry
variable {s : State} {w : Word}

/-! ### Words by their TYPE (R291) -/

theorem settled_withDamper (x : Damper) (hc : s.calm) : settled s { s with damper := x } = .next { s with damper := x } :=
  settled_quiet hc (quiet_withDamper s x) rfl

/-- Without injections no word is ignored (R523). -/
theorem exec_telemWord (w : Word) (hi : s.tests.injections = []) : exec (.telemWord w) s = settled s (telemWord w s) := by
  change settled s (telemWordTested w s) = _
  rw [telemWordTested, State.telemDeaf, hi]
  rfl

theorem telemWord_power (hu : s.up = true) (ht : bitsOf w.toNat 28 4 = 1) :
    telemWord w s = { s with damper := { s.damper with pkgPower := bitsOf w.toNat 0 24 } } := by
  simp [telemWord, hu, ht]

theorem telemWord_rail (hu : s.up = true) (ht : bitsOf w.toNat 28 4 = 2) :
    telemWord w s =
      { s with damper := { s.damper with rails := assocSet s.damper.rails (bitsOf w.toNat 24 4) (bitsOf w.toNat 0 24) } } := by
  simp [telemWord, hu, ht]

theorem telemWord_temp (hu : s.up = true) (ht : bitsOf w.toNat 28 4 = 3) :
    telemWord w s = tempWord (bitsOf w.toNat 24 4) (signedOf 16 (bitsOf (bitsOf w.toNat 0 24) 0 16)) s := by
  simp [telemWord, hu, ht]

theorem telemWord_energy (hu : s.up = true) (ht : bitsOf w.toNat 28 4 = 4) :
    telemWord w s = energyWord (bitsOf w.toNat 24 4) (bitsOf w.toNat 0 24) s := by
  simp [telemWord, hu, ht]

theorem telemWord_tickEnd (hu : s.up = true) (ht : bitsOf w.toNat 28 4 = 5) :
    telemWord w s = { s with damper := { s.damper with tickEnd := true } } := by
  simp [telemWord, hu, ht]

theorem telemWord_reserved (hu : s.up = true) (ht : bitsOf w.toNat 28 4 = 0 ∨ 5 < bitsOf w.toNat 28 4) :
    telemWord w s = dmEvent s := by
  have hne : ∀ k, 1 ≤ k → k ≤ 5 → bitsOf w.toNat 28 4 ≠ k := fun k _ _ => by omega
  simp [telemWord, hu, hne]

/-- A row after the energy word v of its partition (R292, R293). -/
def GrantRow.measured (v : Nat) (g : GrantRow) : GrantRow :=
  { g with
    energy := bitsOf v 0 23, demand := bitOf v 23, demandTicks := if bitOf v 23 then g.demandTicks + 1 else g.demandTicks
    overTicks := if 105 * g.lastGrant < 16 * bitsOf v 0 23 then g.overTicks + 1 else 0 }

theorem energyWord_eq (q v : Nat) (s : State) : energyWord q v s = s.modRow q (GrantRow.measured v) := rfl

/-! ### Temperatures (R299, R301, R302) -/

/-- A sensor's reading taken, whatever follows from it. -/
def tempTaken (sensor : Nat) (k : Int) (s : State) : State :=
  { s with damper := { s.damper with
      temps := s.damper.temps.filter (fun e => e.1 ≠ sensor) ++ [(sensor, k)]
      coolEpoch := s.damper.coolEpoch && decide (k < 16 * ((s.damper.tCrit : Int) - 5)) } }

theorem quiet_tempTaken (sensor : Nat) (k : Int) (s : State) : Quiet s (tempTaken sensor k s) := quiet_withDamper s _

theorem only_tempTaken (sensor : Nat) (k : Int) (s : State) : OnlyIn [.damper] s (tempTaken sensor k s) := only_withDamper s _

theorem tempWord_below {sensor : Nat} {k : Int} (ht : k < 16 * (s.damper.tTrip : Int)) (hcrit : k < 16 * (s.damper.tCrit : Int)) :
    tempWord sensor k s = tempTaken sensor k s := by
  unfold tempWord
  dsimp only
  rw [if_neg (by omega), if_neg (by omega)]
  rfl

theorem tempWord_critical {sensor : Nat} {k : Int} (ht : k < 16 * (s.damper.tTrip : Int)) (hcrit : 16 * (s.damper.tCrit : Int) ≤ k) :
    tempWord sensor k s = thermEmergency (tempTaken sensor k s) := by
  unfold tempWord
  dsimp only
  rw [if_neg (by omega), if_pos hcrit]
  rfl

theorem tempWord_trip {sensor : Nat} {k : Int} (ht : 16 * (s.damper.tTrip : Int) ≤ k) :
    tempWord sensor k s = thermTrip (tempTaken sensor k s) := by
  unfold tempWord
  dsimp only
  rw [if_pos ht]
  rfl

/-- A row whose grant is taken away. -/
def GrantRow.zeroed (g : GrantRow) : GrantRow := { g with grant := 0, reached := 0, frozen := g.frozen.map (fun _ => 0) }

/-- The block once the thermal emergency has begun, its event not yet logged (R301). -/
def emergencyBegun (s : State) : State :=
  let drop := (s.damper.rows.drop 1).foldl (fun n g => n + min g.draw g.grant) 0
  dmEvent (addRamp drop (s.slopeNs drop) false false { s with damper := { s.damper with
    emergency := true, touched := true, coolEpoch := false
    rows := s.damper.rows.mapIdx (fun p g => if p = 0 then g else g.zeroed) } })

theorem thermEmergency_begins (he : s.damper.emergency = false) (ht : s.damper.tripped = false) :
    thermEmergency s = plumbEvent 0x05 0 1 none false 0 none (emergencyBegun s) := by
  rw [thermEmergency, he, ht]
  rfl

theorem quiet_emergencyBegun (s : State) : Quiet s (emergencyBegun s) := quiet_withDamper s (emergencyBegun s).damper

theorem only_emergencyBegun (s : State) : OnlyIn [.damper] s (emergencyBegun s) := only_withDamper s (emergencyBegun s).damper

theorem grantRow_emergencyBegun (q : Nat) (s : State) :
    (emergencyBegun s).grantRow q = if q = 0 then s.grantRow q else (s.grantRow q).zeroed := by
  change (s.damper.rows.mapIdx _).getD q GrantRow.zero = _
  rw [List.getD_eq_getElem?_getD, List.getElem?_mapIdx, State.grantRow, List.getD_eq_getElem?_getD]
  cases s.damper.rows[q]? with
  | some g => rfl
  | none => exact (ite_self _).symm

/-- The block once the thermal trip is taken and the tray rung asked for, its event not yet logged (R302). -/
def tripTaken (s : State) : State :=
  let drop := s.damper.pkgPower * 16 / 10
  { addRamp drop (max 50000 (s.slopeNs drop)) false false { s with damper := { s.damper with
      tripped := true, rows := s.damper.rows.map GrantRow.zeroed } } with
    plumb := { s.plumb with trayAsked := some 0x06 } }

theorem thermTrip_taken (ht : s.damper.tripped = false) :
    thermTrip s = plumbEvent 0x06 0 7 none false 0 none (tripTaken s) := by
  rw [thermTrip, ht]
  rfl

theorem quiet_tripTaken (s : State) : Quiet s (tripTaken s) :=
  ⟨rfl, rfl, rfl, rfl, rfl, rfl, rfl, rfl, rfl, fun _ h => .inl h, id, rfl⟩

theorem only_tripTaken (s : State) : OnlyIn [.damper, .plumb] s (tripTaken s) :=
  ((only_withDamper s (tripTaken s).damper).mono (by simp)).trans ((only_withPlumb _ (tripTaken s).plumb).mono (by simp))

theorem grant_tripTaken (q : Nat) (s : State) : ((tripTaken s).grantRow q).grant = 0 := by
  change ((s.damper.rows.map GrantRow.zeroed).getD q GrantRow.zero).grant = 0
  rw [List.getD_eq_getElem?_getD, List.getElem?_map]
  cases s.damper.rows[q]? <;> rfl

/-- A temperature at T_CRIT but below T_TRIP, no emergency running (R301). -/
theorem exec_telemWord_critical {k : Int} (hc : s.calm) (hu : s.up = true) (hi : s.tests.injections = [])
    (htype : bitsOf w.toNat 28 4 = 3) (hk : k = signedOf 16 (bitsOf (bitsOf w.toNat 0 24) 0 16))
    (ht : k < 16 * (s.damper.tTrip : Int)) (hcrit : 16 * (s.damper.tCrit : Int) ≤ k) (he : s.damper.emergency = false)
    (hn : s.damper.tripped = false) :
    ∃ t, exec (.telemWord w) s = .next t ∧ t.damper.emergency = true ∧ t.damper.touched = true ∧
      (∀ q, q ≠ 0 → (t.grantRow q).grant = 0) ∧ t.grantRow 0 = s.grantRow 0 ∧ t.plumb.sticky.getLsbD 0x05 = true ∧
      OnlyIn [.damper, .plumb, .mail, .out] s t := by
  have htaken := (only_tempTaken (bitsOf w.toNat 24 4) k s).trans (only_emergencyBegun _)
  obtain ⟨t, hsettled, hdamper, -, hsticky, honly⟩ := settled_plumbEvent (src := 0x05) (by decide) (by decide) 0 1 none 0 none hc
    ((quiet_tempTaken _ k s).trans (quiet_emergencyBegun _)) (htaken.mono (hs := [.damper, .plumb, .mail, .out]) (by simp)) (by simp)
  refine ⟨t, ?_, by rw [hdamper]; rfl, by rw [hdamper]; rfl, fun q hq => ?_, ?_, hsticky, honly⟩
  · rw [exec_telemWord w hi, telemWord_temp hu htype, ← hk, tempWord_critical ht hcrit, thermEmergency_begins (s := tempTaken _ k s) he hn]
    exact hsettled
  · rw [grantRow_congr hdamper, grantRow_emergencyBegun, if_neg hq]
    rfl
  · rw [grantRow_congr hdamper, grantRow_emergencyBegun, if_pos rfl]
    rfl

/-- A temperature at T_TRIP (R302). -/
theorem exec_telemWord_trip {k : Int} (hc : s.calm) (hu : s.up = true) (hi : s.tests.injections = [])
    (htype : bitsOf w.toNat 28 4 = 3) (hk : k = signedOf 16 (bitsOf (bitsOf w.toNat 0 24) 0 16))
    (ht : 16 * (s.damper.tTrip : Int) ≤ k) (hn : s.damper.tripped = false) :
    ∃ t, exec (.telemWord w) s = .next t ∧ t.damper.tripped = true ∧ (∀ q, (t.grantRow q).grant = 0) ∧
      t.plumb.trayAsked = some 0x06 ∧ t.plumb.sticky.getLsbD 0x06 = true ∧ OnlyIn [.damper, .plumb, .mail, .out] s t := by
  have htaken := ((only_tempTaken (bitsOf w.toNat 24 4) k s).mono (by simp)).trans (only_tripTaken _)
  obtain ⟨t, hsettled, hdamper, htray, hsticky, honly⟩ := settled_plumbEvent (src := 0x06) (by decide) (by decide) 0 7 none 0 none hc
    ((quiet_tempTaken _ k s).trans (quiet_tripTaken _)) (htaken.mono (hs := [.damper, .plumb, .mail, .out]) (by simp)) (by simp)
  refine ⟨t, ?_, by rw [hdamper]; rfl, fun q => ?_, htray, hsticky, honly⟩
  · rw [exec_telemWord w hi, telemWord_temp hu htype, ← hk, tempWord_trip ht, thermTrip_taken (s := tempTaken _ k s) hn]
    exact hsettled
  · rw [grantRow_congr hdamper]
    exact grant_tripTaken q _

/-! ### Losses, violations and alerts (R293, R300, R303) -/

theorem telemLost_missed (hu : s.up = true) (hl : s.damper.telemLost = false) (hm : 2 ≤ s.damper.missed) :
    telemLost s = plumbEvent 0x03 0 1 none false 0 none
      { s with damper := { s.damper with telemLost := true, coolEpoch := false, pool := 0 } } := by
  have hmiss : ¬ s.damper.missed < 2 := by omega
  simp [telemLost, hu, hl, hmiss]

/-- The block once a grant violation is counted, its event not yet logged (R293). -/
def violationTaken (q : Nat) (s : State) : State := dmEvent (s.modRow q fun g => { g with overTicks := 0 })

theorem grantViolation_over {q : Nat} (hu : s.up = true) (h : 3 ≤ (s.grantRow q).overTicks) :
    grantViolation q s = plumbEvent 0x07 0 1 (some q) false 0 (some q) (violationTaken q s) := by
  have hover : ¬ (s.grantRow q).overTicks < 3 := by omega
  simp [grantViolation, hu, hover, violationTaken]

/-- A row that has counted ticks is one of the block's. -/
theorem overTicks_violationTaken {q : Nat} (h : 3 ≤ (s.grantRow q).overTicks) : ((violationTaken q s).grantRow q).overTicks = 0 := by
  have hlen : q < s.damper.rows.length := by
    by_contra hle
    rw [grantRow_of_length_le (by omega)] at h
    exact absurd h (by decide)
  exact congrArg GrantRow.overTicks (grantRow_modRow_self hlen _)

theorem limitAlertChange_up (high : Bool) (hu : s.up = true) :
    limitAlertChange high s = { s with damper := { s.damper with alert := high, alertSince := if high then some 0 else none } } := by
  simp [limitAlertChange, hu]

theorem regulatorAlert_due {n : Nat} (hu : s.up = true) (hn : s.damper.alertSince = some n) (h : 100 ≤ n) :
    regulatorAlert s = plumbEvent 0x04 0 1 none false 0 none { s with damper := { s.damper with alertSince := some 0 } } := by
  simp [regulatorAlert, hn, hu, h]

/-- A row that changes the Damper and then logs an event of a source. -/
theorem settled_damperEvent {src : Nat} (x : Damper) (h : src ≠ 1) (hlt : src < 256) (part named : Option Nat) (hc : s.calm) :
    ∃ t, settled s (plumbEvent src 0 1 part false 0 named { s with damper := x }) = .next t ∧ t.damper = x ∧
      t.plumb.sticky.getLsbD src = true ∧ OnlyIn [.damper, .plumb, .mail, .out] s t := by
  obtain ⟨t, hsettled, hdamper, -, hrest⟩ := settled_plumbEvent h hlt 0 1 part 0 named hc (quiet_withDamper s x)
    ((only_withDamper s x).mono (hs := [.damper, .plumb, .mail, .out]) (by simp)) (by simp)
  exact ⟨t, hsettled, hdamper, hrest⟩

end telemetry

/-- Settles O42: a word changes the Damper alone, but for the two temperatures whose emergency or trip is then logged; so are a loss of
telemetry, a violation and an alert that stands, and their events open no work. -/
theorem telemetryAndAlertsAct : Obligations.TelemetryAndAlertsAct := by
  unfold Obligations.TelemetryAndAlertsAct
  refine ⟨fun w s v hc hu hi hv => ?words, fun s hc hu => ⟨fun hl hm => ?lost, fun q h => ?violation, fun high => ?alert,
    fun n hn h => ?regulator⟩⟩
  case words =>
    subst hv
    refine ⟨fun ht => ?power, fun ht => ?rail, fun k ht hk => ⟨fun htrip hcrit => ?below, fun htrip hcrit he hn => ?critical,
      fun htrip hn => ?trip⟩, fun q ht hq hlen => ?energy, fun ht => ?tickEnd, fun ht => ?reserved⟩
    case critical => exact exec_telemWord_critical hc hu hi ht hk htrip hcrit he hn
    case trip => exact exec_telemWord_trip hc hu hi ht hk htrip hn
    all_goals rw [exec_telemWord w hi]
    case power =>
      rw [telemWord_power hu ht]
      exact ⟨_, settled_withDamper _ hc, rfl, only_withDamper s _⟩
    case rail =>
      rw [telemWord_rail hu ht]
      exact ⟨_, settled_withDamper _ hc, rfl, only_withDamper s _⟩
    case below =>
      rw [telemWord_temp hu ht, ← hk, tempWord_below htrip hcrit]
      exact ⟨_, settled_withDamper _ hc, List.mem_append_right _ (List.mem_singleton.mpr rfl), rfl, only_withDamper s _⟩
    case energy =>
      subst hq
      rw [telemWord_energy hu ht, energyWord_eq]
      have hrow := grantRow_modRow_self hlen (GrantRow.measured (bitsOf w.toNat 0 24))
      exact ⟨_, settled_quiet hc (quiet_modRow _ _ s) rfl, by rw [hrow]; rfl, by rw [hrow]; rfl, by rw [hrow]; rfl,
        fun k hk => grantRow_modRow_of_ne hk _, by rw [hrow]; rfl, only_modRow _ _ s⟩
    case tickEnd =>
      rw [telemWord_tickEnd hu ht]
      exact ⟨_, settled_withDamper _ hc, rfl, only_withDamper s _⟩
    case reserved =>
      rw [telemWord_reserved hu ht]
      exact ⟨_, settled_withDamper _ hc, rfl, only_withDamper s _⟩
  case lost =>
    change ∃ t, settled s (telemLost s) = _ ∧ _
    rw [telemLost_missed hu hl hm]
    exact settled_damperEvent _ (by decide) (by decide) none none hc
  case violation =>
    obtain ⟨t, hsettled, hdamper, hrest⟩ := settled_damperEvent (src := 0x07) (violationTaken q s).damper (by decide) (by decide)
      (some q) (some q) hc
    refine ⟨t, ?_, ?_, by rw [hdamper]; rfl, hrest⟩
    · change settled s (grantViolation q s) = _
      rw [grantViolation_over hu h]
      exact hsettled
    · rw [grantRow_congr (s := violationTaken q s) hdamper]
      exact overTicks_violationTaken h
  case alert =>
    change ∃ t, settled s (limitAlertChange high s) = _ ∧ _
    rw [limitAlertChange_up high hu]
    exact ⟨_, settled_withDamper _ hc, rfl, only_withDamper s _⟩
  case regulator =>
    change ∃ t, settled s (regulatorAlert s) = _ ∧ _
    rw [regulatorAlert_due hu hn h]
    exact settled_damperEvent _ (by decide) (by decide) none none hc

end Sys2Proof.Machine
end

section
/-! PROOFS. The grants of a budget tick (09 R296, R297): none moves by more than 25 W. -/

namespace Sys2Proof.Machine

/-! ### What a partition wants -/

/-- All by which a partition may rise in a tick. -/
def Want.up (w : Want) : Nat := w.upResv + w.upQuota + w.upBe

/-- A rise cut into its three parts is the whole rise. -/
theorem parts_of_rise (up a b : Nat) : min up a + min (up - min up a) b + (up - min up a - min (up - min up a) b) = up := by omega

theorem wantOf_clamped (s : State) (wsum p : Nat) : (wantOf s wsum p).up ≤ 400 ∧ (wantOf s wsum p).down ≤ 400 := by
  unfold wantOf Want.up
  dsimp only
  split
  · exact ⟨Nat.zero_le _, Nat.zero_le _⟩
  · dsimp only
    rw [parts_of_rise]
    exact ⟨Nat.min_le_left _ _, Nat.min_le_left _ _⟩

/-- After a trip no grant moves (R302). -/
theorem wantOf_tripped {s : State} (h : s.damper.tripped = true) (wsum p : Nat) :
    (wantOf s wsum p).up = 0 ∧ (wantOf s wsum p).down = 0 := by
  unfold wantOf Want.up
  dsimp only
  rw [if_pos (by rw [h, Bool.or_true])]
  exact ⟨rfl, rfl⟩

/-! ### Rises in priority order -/

/-- What a list of rises gives partition p. -/
def riseOf (p : Nat) (l : List (Nat × Nat)) : Nat := (l.filter (fun r => r.1 = p)).foldl (fun n r => n + r.2) 0

theorem riseOf_eq_sum (p : Nat) (l : List (Nat × Nat)) : riseOf p l = ((l.filter (fun r => r.1 = p)).map Prod.snd).sum := by
  rw [riseOf, List.sum_eq_foldl, List.foldl_map]

theorem riseOf_append (p : Nat) (l m : List (Nat × Nat)) : riseOf p (l ++ m) = riseOf p l + riseOf p m := by
  simp only [riseOf_eq_sum, List.filter_append, List.map_append, List.sum_append]

theorem riseOf_cons (p : Nat) (r : Nat × Nat) (l : List (Nat × Nat)) :
    riseOf p (r :: l) = (if r.1 = p then r.2 else 0) + riseOf p l := by
  by_cases h : r.1 = p <;> simp [riseOf_eq_sum, h]

theorem riseOf_eq_zero {p : Nat} {l : List (Nat × Nat)} (h : ∀ r ∈ l, r.1 ≠ p) : riseOf p l = 0 := by
  rw [riseOf, List.filter_eq_nil_iff.mpr fun r hr => by simpa using h r hr]
  rfl

/-- A rise taken is not above the rise asked for. -/
theorem riseOf_takeRises_le (p budget : Nat) (l : List (Nat × Nat)) : riseOf p (takeRises budget l) ≤ riseOf p l := by
  induction l generalizing budget with
  | nil => exact Nat.le_refl _
  | cons r l ih =>
    rw [takeRises, riseOf_cons, riseOf_cons]
    refine Nat.add_le_add ?_ (ih _)
    dsimp only
    split
    · exact Nat.min_le_right _ _
    · exact Nat.le_refl _

/-- One part of the rises of the partitions that `keep` selects. -/
def partRises (keep : Nat → Bool) (f : Want → Nat) (ws : List (Nat × Want)) : List (Nat × Nat) :=
  (ws.filter (fun w => keep w.1)).map (fun w => (w.1, f w.2))

/-- What partition p gets of one part of the rises is at most that part of its own. -/
theorem riseOf_partRises_le (keep : Nat → Bool) (f : Want → Nat) {ws : List (Nat × Want)} (hn : (ws.map Prod.fst).Nodup)
    {w : Nat × Want} (hw : w ∈ ws) : riseOf w.1 (partRises keep f ws) ≤ if keep w.1 then f w.2 else 0 := by
  induction ws with
  | nil => cases hw
  | cons x ws ih =>
    obtain ⟨hx, hn⟩ := List.nodup_cons.mp hn
    have hcons : partRises keep f (x :: ws) = (if keep x.1 then [(x.1, f x.2)] else []) ++ partRises keep f ws := by
      by_cases hk : keep x.1 = true <;> simp [partRises, hk]
    rw [hcons, riseOf_append]
    rcases List.mem_cons.mp hw with rfl | hw
    · have hrest : riseOf w.1 (partRises keep f ws) = 0 := by
        refine riseOf_eq_zero fun r hr he => hx ?_
        obtain ⟨y, hy, rfl⟩ := List.mem_map.mp hr
        exact List.mem_map.mpr ⟨y, List.mem_of_mem_filter hy, he⟩
      rw [hrest, Nat.add_zero]
      split
      · exact Nat.le_of_eq ((riseOf_cons _ _ _).trans (by rw [if_pos rfl]; rfl))
      · exact Nat.le_refl _
    · have hne : x.1 ≠ w.1 := fun he => hx (he ▸ List.mem_map_of_mem hw)
      have hhead : riseOf w.1 (if keep x.1 then [(x.1, f x.2)] else []) = 0 := by
        refine riseOf_eq_zero fun r hr => ?_
        split at hr
        · rw [List.mem_singleton.mp hr]
          exact hne
        · cases hr
      rw [hhead, Nat.zero_add]
      exact ih hn hw

/-- The rises that a tick takes, P0's first (R296). -/
def riseOrder (ws : List (Nat × Want)) : List (Nat × Nat) :=
  partRises (fun p => decide (p = 0)) Want.up ws ++ partRises (fun p => decide (p ≠ 0)) Want.upResv ws ++
    partRises (fun p => decide (p ≠ 0)) Want.upQuota ws ++ partRises (fun p => decide (p ≠ 0)) Want.upBe ws

/-- No partition gets more than it wants. -/
theorem riseOf_riseOrder_le {ws : List (Nat × Want)} (hn : (ws.map Prod.fst).Nodup) {w : Nat × Want} (hw : w ∈ ws) :
    riseOf w.1 (riseOrder ws) ≤ w.2.up := by
  have hle := fun keep f => riseOf_partRises_le keep f hn hw
  rw [riseOrder, riseOf_append, riseOf_append, riseOf_append]
  by_cases h0 : w.1 = 0
  · have hall := (hle (fun p => decide (p = 0)) Want.up).trans_eq (if_pos (by simp [h0]))
    have hrest := fun f => (hle (fun p => decide (p ≠ 0)) f).trans_eq (if_neg (by simp [h0]))
    have hresv := hrest Want.upResv
    have hquota := hrest Want.upQuota
    have hbe := hrest Want.upBe
    omega
  · have hall := (hle (fun p => decide (p = 0)) Want.up).trans_eq (if_neg (by simp [h0]))
    have hrest := fun f => (hle (fun p => decide (p ≠ 0)) f).trans_eq (if_pos (by simp [h0]))
    have hresv := hrest Want.upResv
    have hquota := hrest Want.upQuota
    have hbe := hrest Want.upBe
    have hup : w.2.up = w.2.upResv + w.2.upQuota + w.2.upBe := rfl
    omega

/-! ### The rows after a tick -/

section tick
variable {s : State}

/-- What every partition wants in a tick. -/
def wants (s : State) : List (Nat × Want) :=
  let wsum := (List.range 16).foldl (fun n p => if s.wantsPool p then n + (s.part p).view.beWeight else n) 0
  (List.range 16).map (fun p => (p, wantOf s wsum p))

theorem nodup_wants (s : State) : ((wants s).map Prod.fst).Nodup := by
  have hkeys : (wants s).map Prod.fst = List.range 16 := by
    simp only [wants, List.map_map, Function.comp_def, List.map_id']
  rw [hkeys]
  exact List.nodup_range

/-- The fall of a partition that wants to fall by n: its share where the falls of all exceed their rises by more than 25 W (R296). -/
def fallOf (ws : List (Nat × Want)) (n : Nat) : Nat :=
  let up := ws.foldl (fun n w => n + w.2.upResv + w.2.upQuota + w.2.upBe) 0
  let down := ws.foldl (fun n w => n + w.2.down) 0
  if up + 400 < down then n * (up + 400) / down else n

theorem fallOf_le (ws : List (Nat × Want)) (n : Nat) : fallOf ws n ≤ n := by
  unfold fallOf
  dsimp only
  split
  · rename_i h
    exact Nat.div_le_of_le_mul (by rw [Nat.mul_comm n]; exact Nat.mul_le_mul_right n (Nat.le_of_lt h))
  · exact Nat.le_refl n

/-- The rise that a tick gives partition p (R296). -/
def riseIn (ws : List (Nat × Want)) (p : Nat) : Nat :=
  riseOf p (takeRises (ws.foldl (fun n w => n + w.2.down) 0 + 400) (riseOrder ws))

theorem riseIn_le {ws : List (Nat × Want)} (hn : (ws.map Prod.fst).Nodup) {w : Nat × Want} (hw : w ∈ ws) : riseIn ws w.1 ≤ w.2.up :=
  (riseOf_takeRises_le _ _ _).trans (riseOf_riseOrder_le hn hw)

/-- A partition's row after a tick. -/
def GrantRow.ticked (ws : List (Nat × Want)) (w : Nat × Want) (g : GrantRow) : GrantRow :=
  { g with reached := w.2.reached, lastGrant := g.grant, grant := g.grant + riseIn ws w.1 - fallOf ws w.2.down }

theorem computeGrants_eq (s : State) :
    computeGrants s = (wants s).foldl (fun t w => t.modRow w.1 (GrantRow.ticked (wants s) w)) s := rfl

/-- Rows changed one after the other, each once: one that is not named stays. -/
theorem grantRow_foldl_modRow {f : Nat × Want → GrantRow → GrantRow} {ws : List (Nat × Want)} (hn : (ws.map Prod.fst).Nodup) (q : Nat)
    (s : State) :
    (ws.foldl (fun t w => t.modRow w.1 (f w)) s).grantRow q = s.grantRow q ∨
      ∃ w ∈ ws, w.1 = q ∧ (ws.foldl (fun t w => t.modRow w.1 (f w)) s).grantRow q = f w (s.grantRow q) := by
  induction ws generalizing s with
  | nil => exact .inl rfl
  | cons x ws ih =>
    obtain ⟨hx, hn⟩ := List.nodup_cons.mp hn
    rw [List.foldl_cons]
    by_cases hq : x.1 = q
    · have hrest : (ws.foldl (fun t w => t.modRow w.1 (f w)) (s.modRow x.1 (f x))).grantRow q = (s.modRow x.1 (f x)).grantRow q := by
        rcases ih hn (s.modRow x.1 (f x)) with h | ⟨w, hw, he, -⟩
        · exact h
        · exact absurd (List.mem_map.mpr ⟨w, hw, he.trans hq.symm⟩) hx
      rw [hrest]
      subst hq
      by_cases hlen : x.1 < s.damper.rows.length
      · exact .inr ⟨x, List.mem_cons_self, rfl, grantRow_modRow_self hlen _⟩
      · refine .inl ?_
        rw [grantRow_of_length_le (s := s) (by omega)]
        exact grantRow_of_length_le (by simpa [State.modRow] using hlen)
    · have hhead := grantRow_modRow_of_ne (s := s) (Ne.symm hq) (f x)
      rcases ih hn (s.modRow x.1 (f x)) with h | ⟨w, hw, he, h⟩
      · exact .inl (h.trans hhead)
      · exact .inr ⟨w, List.mem_cons_of_mem _ hw, he, h.trans (by rw [hhead])⟩

/-- A tick moves no grant by more than 25 W, and none after a trip (R296, R302). -/
theorem grant_computeGrants (q : Nat) (s : State) :
    ((computeGrants s).grantRow q).grant ≤ (s.grantRow q).grant + 400 ∧
      (s.grantRow q).grant ≤ ((computeGrants s).grantRow q).grant + 400 ∧
      (s.damper.tripped = true → ((computeGrants s).grantRow q).grant = (s.grantRow q).grant) := by
  rw [computeGrants_eq]
  rcases grantRow_foldl_modRow (f := GrantRow.ticked (wants s)) (nodup_wants s) q s with h | ⟨w, hw, rfl, h⟩
  · rw [h]
    exact ⟨Nat.le_add_right _ _, Nat.le_add_right _ _, fun _ => rfl⟩
  · have hrise := riseIn_le (nodup_wants s) hw
    have hfall := fallOf_le (wants s) w.2.down
    have hgrant : (GrantRow.ticked (wants s) w (s.grantRow w.1)).grant =
      (s.grantRow w.1).grant + riseIn (wants s) w.1 - fallOf (wants s) w.2.down := rfl
    obtain ⟨p, -, he⟩ := List.mem_map.mp hw
    have hwant : w.2 = wantOf s _ p := congrArg Prod.snd he.symm
    obtain ⟨hup, hdown⟩ := wantOf_clamped s _ p
    rw [← hwant] at hup hdown
    rw [h, hgrant]
    refine ⟨by omega, by omega, fun htrip => ?_⟩
    obtain ⟨hup, hdown⟩ := wantOf_tripped htrip _ p
    rw [← hwant] at hup hdown
    omega

/-- The state with other grant rows. -/
def withRows (rs : List GrantRow) (s : State) : State := { s with damper := { s.damper with rows := rs } }

theorem computeGrants_withRows (s : State) : ∃ rs, computeGrants s = withRows rs s := by
  refine List.foldlRecOn (motive := fun u => ∃ rs, u = withRows rs s) _ _ ⟨s.damper.rows, rfl⟩ fun u hu w _ => ?_
  obtain ⟨rs, rfl⟩ := hu
  exact ⟨_, rfl⟩

end tick

end Sys2Proof.Machine
end

section
/-! PROOFS. BUDGET_TICK and POWER_EPOCH_BOUNDARY (09 R296, R299 to R301, R303, R311, R313, R420). -/

namespace Sys2Proof.Machine

/-! ### BUDGET_TICK -/

section tick
variable {s t u : State}

/-- A tick before its alert limit and grants: its number, a waiting package limit, telemetry and the ramps (R290, R303, R313). -/
def limitsTaken (s : State) : State :=
  { s with damper := { s.damper with
      btick := s.cal.tick / 100
      pkgLimit := s.damper.pkgNext.getD s.damper.pkgLimit
      pkgNext := none
      missed := if s.damper.tickEnd then 0 else s.damper.missed + 1
      telemLost := if s.damper.tickEnd then false else s.damper.telemLost
      tickEnd := false
      ramps := s.damper.ramps.filter (fun r => r.runs s.now) } }

/-- The state from which a tick's grants are computed. -/
def tickOpened (s : State) : State :=
  { limitsTaken s with damper := { (limitsTaken s).damper with alertLimit := alertStep (limitsTaken s) } }

/-- The grants of a tick and the figures that it publishes (R296, R300). -/
def tickClosed (s : State) : State :=
  let t := computeGrants s
  { t with damper := { t.damper with
      effLimit := s.eff96 / 1536
      overLimit := 1536 * s.capW < 96 * s.committed + s.quotaSum
      pool := s.pool96 / 96
      alertSince := if s.damper.alert && s.pool96 = 0 then some ((s.damper.alertSince.getD 0) + 1) else
        if s.damper.alert then some 0 else none } }

theorem budgetTick_counting (hc : s.counting = true) (hh : s.scribe.halted = false) : budgetTick s = tickClosed (tickOpened s) := by
  rw [budgetTick, hc, hh]
  rfl

theorem budgetTick_halted (hh : s.scribe.halted = true) : budgetTick s = s := by
  rw [budgetTick, hh, Bool.or_true]
  rfl

theorem grantRow_of_rows (h : t.damper.rows = s.damper.rows) (q : Nat) : t.grantRow q = s.grantRow q := by
  rw [State.grantRow, h, State.grantRow]

/-- The close of a tick leaves its limits and its telemetry; the rows are those of its grants. -/
theorem tickClosed_damper (s : State) : ∃ d : Damper, tickClosed s = { s with damper := d } ∧ d.pkgLimit = s.damper.pkgLimit ∧
    d.pkgNext = s.damper.pkgNext ∧ d.btick = s.damper.btick ∧ d.tickEnd = s.damper.tickEnd ∧ d.missed = s.damper.missed ∧
    d.telemLost = s.damper.telemLost ∧ d.rows = (computeGrants s).damper.rows := by
  obtain ⟨rs, he⟩ := computeGrants_withRows s
  unfold tickClosed
  rw [he]
  exact ⟨_, rfl, rfl, rfl, rfl, rfl, rfl, rfl, rfl⟩

theorem quiet_injectionTick (s : State) : Quiet s (injectionTick s) :=
  ⟨rfl, rfl, rfl, rfl, rfl, rfl, rfl, rfl, rfl, fun _ h => .inl h, id, rfl⟩

theorem only_injectionTick (s : State) : OnlyIn [.tests] s (injectionTick s) := by
  intro g hg
  cases g with
  | tests => exact absurd (by simp) hg
  | _ => rfl

/-- A budget tick of a block that counts: it changes the Damper alone, but for the injections that it counts down (R296, R523). -/
theorem exec_budgetTick_counting (hc : s.calm) (hcount : s.counting = true) (hh : s.scribe.halted = false) :
    ∃ t, exec .budgetTick s = .next t ∧ t.damper = (tickClosed (tickOpened s)).damper ∧ OnlyIn [.damper, .tests] s t := by
  obtain ⟨d, he, -⟩ := tickClosed_damper (tickOpened s)
  have hd : tickClosed (tickOpened s) = { s with damper := d } := he
  refine ⟨injectionTick { s with damper := d }, ?_, by rw [hd]; rfl,
    ((only_withDamper s d).mono (by simp)).trans ((only_injectionTick _).mono (by simp))⟩
  change settled s (injectionTick (budgetTick s)) = _
  rw [budgetTick_counting hcount hh, hd]
  exact settled_quiet hc ((quiet_withDamper s d).trans (quiet_injectionTick _)) rfl

theorem exec_budgetTick_halted (hc : s.calm) (hh : s.scribe.halted = true) : exec .budgetTick s = .next (injectionTick s) := by
  change settled s (injectionTick (budgetTick s)) = _
  rw [budgetTick_halted hh]
  exact settled_quiet hc (quiet_injectionTick s) rfl

end tick

/-! ### The partitions' figures of an epoch (R301, R311, R403, R420) -/

section epoch
variable {s t u : State}

/-- A partition `r` whose figures of an epoch are taken from `q` and begin anew. -/
structure EpochTaken (ticks : Nat) (touched : Bool) (q r : Part) : Prop where
  pace : r.view.pace = paceOf ticks
  completedLast : r.view.completedLast = q.view.completed
  completed : r.view.completed = 0
  admitted : r.view.admitted = false
  emergency : r.view.emergency = touched
  pstate : r.pstate = q.pstate

/-- What an epoch's end has made of the partitions `ps`, one after the other. -/
structure EpochOf (ps : List Nat) (s t : State) : Prop where
  only : OnlyIn [.parts, .damper] s t
  quiet : Quiet s t
  pending : t.pending = s.pending
  length : t.parts.length = s.parts.length
  damper : t.damper = { s.damper with rows := t.damper.rows }
  taken : ∀ p ∈ ps, p < s.parts.length →
    EpochTaken (s.grantRow p).demandTicks (s.damper.touched && decide (p ≠ 0)) (s.part p) (t.part p)
  others : ∀ p, p ∉ ps → t.part p = s.part p ∧ t.grantRow p = s.grantRow p

theorem EpochOf.cons {p : Nat} {ps : List Nat} (h : EpochOf [p] s t) (k : EpochOf ps t u) (hp : p ∉ ps) : EpochOf (p :: ps) s u := by
  refine ⟨h.only.trans k.only, h.quiet.trans k.quiet, k.pending.trans h.pending, k.length.trans h.length, by rw [k.damper, h.damper],
    fun q hq hlen => ?_, fun q hq => ?_⟩
  · rcases List.mem_cons.mp hq with rfl | hq
    · rw [(k.others q hp).1]
      exact h.taken q (List.mem_singleton.mpr rfl) hlen
    · have hne : q ∉ [p] := fun he => hp (List.mem_singleton.mp he ▸ hq)
      have hbegun := k.taken q hq (by rwa [h.length])
      obtain ⟨hpart, hrow⟩ := h.others q hne
      have htouched : t.damper.touched = s.damper.touched := by rw [h.damper]
      rwa [hpart, hrow, htouched] at hbegun
  · obtain ⟨hne, hq⟩ := not_or.mp (List.mem_cons.not.mp hq)
    obtain ⟨hpart, hrow⟩ := h.others q (List.mem_singleton.not.mpr hne)
    obtain ⟨hpart', hrow'⟩ := k.others q hq
    exact ⟨hpart'.trans hpart, hrow'.trans hrow⟩

theorem EpochOf.foldl {f : State → Nat → State} (hf : ∀ u p, EpochOf [p] u (f u p)) {ps : List Nat} (hps : ps.Nodup) (s : State) :
    EpochOf ps s (ps.foldl f s) := by
  induction ps generalizing s with
  | nil => exact ⟨.refl _ s, .rfl, rfl, rfl, rfl, fun p hp => absurd hp List.not_mem_nil, fun _ _ => ⟨rfl, rfl⟩⟩
  | cons p ps ih =>
    obtain ⟨hp, hps⟩ := List.nodup_cons.mp hps
    exact (hf s p).cons (ih hps _) hp

theorem epochOf_epochPart (p : Nat) (s : State) : EpochOf [p] s (epochPart p s) := by
  refine ⟨((only_modView s _ _).mono (by simp)).trans ((only_modRow _ _ _).mono (by simp)),
    (quiet_modView s _ _).trans (quiet_modRow _ _ _), rfl, List.length_modify _ _ _, rfl, fun q hq hlen => ?_, fun q hq => ?_⟩
  · obtain rfl := List.mem_singleton.mp hq
    have hpart : (epochPart q s).part q = _ := part_modPart_self hlen _
    rw [hpart]
    exact ⟨rfl, rfl, rfl, rfl, rfl, rfl⟩
  · have hne : q ≠ p := List.mem_singleton.not.mp hq
    exact ⟨part_modPart_of_ne hne _, grantRow_modRow_of_ne hne _⟩

/-- The partitions at the end of an epoch, in their order. -/
def epochParts (s : State) : State := (List.range 16).foldl (fun t p => epochPart p t) s

theorem epochOf_epochParts (s : State) : EpochOf (List.range 16) s (epochParts s) :=
  EpochOf.foldl (fun u p => epochOf_epochPart p u) List.nodup_range s

/-! ### The Damper's part (R299, R301) -/

theorem damperEpoch_eq (s : State) :
    damperEpoch s = { epochParts s with damper := { (epochParts s).damper with
      thermLimit := (thermStep s).1, hot := (thermStep s).2
      emergency := s.damper.emergency && !(s.damper.emergency && s.damper.coolEpoch && !s.damper.telemLost)
      touched := s.damper.emergency && !(s.damper.emergency && s.damper.coolEpoch && !s.damper.telemLost)
      coolEpoch := !s.damper.telemLost } } := by
  unfold damperEpoch
  generalize thermStep s = x
  obtain ⟨limit, hot⟩ := x
  rfl

theorem quiet_damperEpoch (s : State) : Quiet s (damperEpoch s) := (epochOf_epochParts s).quiet.trans (quiet_withDamper _ _)

theorem only_damperEpoch (s : State) : OnlyIn [.parts, .damper] s (damperEpoch s) :=
  (epochOf_epochParts s).only.trans ((only_withDamper _ _).mono (by simp))

theorem pending_damperEpoch (s : State) : (damperEpoch s).pending = s.pending := (epochOf_epochParts s).pending

theorem taken_damperEpoch {p : Nat} (hp : p < 16) (hlen : p < s.parts.length) :
    EpochTaken (s.grantRow p).demandTicks (s.damper.touched && decide (p ≠ 0)) (s.part p) ((damperEpoch s).part p) := by
  have hparts : (damperEpoch s).parts = (epochParts s).parts := by rw [damperEpoch_eq]
  rw [part_congr hparts]
  exact (epochOf_epochParts s).taken p (List.mem_range.mpr hp) hlen

/-! ### Accounts and latched views (R490, R533) -/

/-- Waiting times brought up to the present leave the contexts in their slots. -/
structure WaitsNoted (s t : State) : Prop where
  only : OnlyIn [.cmds, .fresh] s t
  quiet : Quiet s t
  pending : t.pending = s.pending
  slots : t.cmds.ctxs.map (fun c => c.slot) = s.cmds.ctxs.map (fun c => c.slot)

theorem slots_modCtx (n : Nat) {f : Ctx → Ctx} (hf : ∀ c, (f c).slot = c.slot) (s : State) :
    (s.modCtx n f).cmds.ctxs.map (fun c => c.slot) = s.cmds.ctxs.map (fun c => c.slot) := by
  rw [State.modCtx, List.map_map]
  refine List.map_congr_left fun c _ => ?_
  change (if c.slot = n then f c else c).slot = c.slot
  split
  · exact hf c
  · rfl

/-- A waiting time takes three free values and changes the accounts of one context. -/
theorem noteWait_eq (n : Nat) (s : State) :
    ∃ f : Ctx → Ctx, (∀ c, (f c).slot = c.slot) ∧ noteWait n s = s.draw.2.draw.2.draw.2.modCtx n f := by
  refine ⟨_, ?_, rfl⟩
  exact fun _ => rfl

theorem waitsNoted_noteWait (n : Nat) (s : State) : WaitsNoted s (noteWait n s) := by
  obtain ⟨f, hf, he⟩ := noteWait_eq n s
  have hdraws := ((only_draw s).trans (only_draw _)).trans (only_draw s.draw.2.draw.2)
  rw [he]
  exact ⟨(hdraws.mono (by simp)).trans ((only_modCtx _ _ _).mono (by simp)),
    (((quiet_draw s).trans (quiet_draw _)).trans (quiet_draw _)).trans (quiet_modCtx _ _ _), rfl, slots_modCtx n hf _⟩

theorem waitsNoted_foldl (l : List Ctx) (s : State) : WaitsNoted s (l.foldl (fun t c => noteWait c.slot t) s) :=
  List.foldlRecOn l _ (motive := fun t => WaitsNoted s t) ⟨.refl _ s, .rfl, rfl, rfl⟩ fun t h c _ =>
    have k := waitsNoted_noteWait c.slot t
    ⟨h.only.trans k.only, h.quiet.trans k.quiet, k.pending.trans h.pending, k.slots.trans h.slots⟩

/-- Every context's account copied as the one of the epoch (R490). -/
def withEpochSets (s : State) : State :=
  { s with cmds := { s.cmds with ctxs := s.cmds.ctxs.map (fun c => { c with epochSet := c.accounting }) } }

theorem quiet_withEpochSets (s : State) : Quiet s (withEpochSets s) :=
  ⟨rfl, rfl, rfl, rfl, rfl, rfl, rfl, rfl, rfl, fun _ h => .inl h, id, rfl⟩

theorem only_withEpochSets (s : State) : OnlyIn [.cmds] s (withEpochSets s) := by
  intro g hg
  cases g with
  | cmds => exact absurd (by simp) hg
  | _ => rfl

/-- Latched views: what function 0 reads is all that changes (R533). -/
structure ViewsLatched (s t : State) : Prop where
  only : OnlyIn [.parts] s t
  quiet : Quiet s t
  pending : t.pending = s.pending
  parts : ∀ k, ∃ l, t.part k = { s.part k with view := { (s.part k).view with latched := l } }

theorem viewsLatched_latchView (p : Nat) (s : State) : ViewsLatched s (latchView p s) := by
  refine ⟨only_modView s _ _, quiet_modView s _ _, rfl, fun k => ?_⟩
  by_cases hk : k = p
  · subst hk
    by_cases hlen : k < s.parts.length
    · exact ⟨_, part_modPart_self hlen _⟩
    · have hout : (latchView k s).part k = s.part k := by
        rw [part_of_length_le (s := s) (by omega)]
        exact part_of_length_le (by simpa [latchView, State.modView, State.modPart] using hlen)
      exact ⟨_, hout⟩
  · exact ⟨_, part_modPart_of_ne hk _⟩

theorem viewsLatched_foldl (l : List Nat) (s : State) : ViewsLatched s (l.foldl (fun t p => latchView p t) s) :=
  List.foldlRecOn l _ (motive := fun t => ViewsLatched s t) ⟨.refl _ s, .rfl, rfl, fun k => ⟨(s.part k).view.latched, rfl⟩⟩
    fun t h p _ => by
      have k := viewsLatched_latchView p t
      refine ⟨h.only.trans k.only, h.quiet.trans k.quiet, k.pending.trans h.pending, fun j => ?_⟩
      obtain ⟨x, hx⟩ := h.parts j
      obtain ⟨y, hy⟩ := k.parts j
      exact ⟨y, by rw [hy, hx]⟩

/-- What is latched is none of an epoch's figures. -/
theorem EpochTaken.latched {ticks : Nat} {touched : Bool} {q r : Part} (h : EpochTaken ticks touched q r) (l : List (Nat × Quad)) :
    EpochTaken ticks touched q { r with view := { r.view with latched := l } } :=
  ⟨h.pace, h.completedLast, h.completed, h.admitted, h.emergency, h.pstate⟩

/-! ### POWER_EPOCH_BOUNDARY -/

/-- The accounts after a boundary's Damper part. -/
def epochAccounts (s : State) : State := s.cmds.ctxs.foldl (fun t c => noteWait c.slot t) (damperEpoch s)

/-- The state after a boundary. -/
def epochEnded (s : State) : State := (List.range 16).foldl (fun t p => latchView p t) (withEpochSets (epochAccounts s))

theorem powerEpochBoundary_up (hu : s.up = true) : powerEpochBoundary s = epochEnded s := by
  rw [powerEpochBoundary, hu]
  rfl

theorem waitsNoted_epochAccounts (s : State) : WaitsNoted (damperEpoch s) (epochAccounts s) := waitsNoted_foldl _ _

theorem viewsLatched_epochEnded (s : State) : ViewsLatched (withEpochSets (epochAccounts s)) (epochEnded s) := viewsLatched_foldl _ _

theorem quiet_epochEnded (s : State) : Quiet s (epochEnded s) :=
  (((quiet_damperEpoch s).trans (waitsNoted_epochAccounts s).quiet).trans (quiet_withEpochSets _)).trans (viewsLatched_epochEnded s).quiet

theorem only_epochEnded (s : State) : OnlyIn [.damper, .parts, .cmds, .fresh] s (epochEnded s) :=
  ((((only_damperEpoch s).mono (by simp)).trans ((waitsNoted_epochAccounts s).only.mono (by simp))).trans
    ((only_withEpochSets _).mono (by simp))).trans ((viewsLatched_epochEnded s).only.mono (by simp))

theorem pending_epochEnded (s : State) : (epochEnded s).pending = s.pending :=
  ((viewsLatched_epochEnded s).pending.trans (waitsNoted_epochAccounts s).pending).trans (pending_damperEpoch s)

theorem damper_epochEnded (s : State) : (epochEnded s).damper = (damperEpoch s).damper := by
  have hlatched : (epochEnded s).damper = (withEpochSets (epochAccounts s)).damper := (viewsLatched_epochEnded s).only .damper (by decide)
  have hsets : (withEpochSets (epochAccounts s)).damper = (epochAccounts s).damper := only_withEpochSets _ .damper (by decide)
  have hnoted : (epochAccounts s).damper = (damperEpoch s).damper := (waitsNoted_epochAccounts s).only .damper (by decide)
  rw [hlatched, hsets, hnoted]

theorem taken_epochEnded {p : Nat} (hp : p < 16) (hlen : p < s.parts.length) :
    EpochTaken (s.grantRow p).demandTicks (s.damper.touched && decide (p ≠ 0)) (s.part p) ((epochEnded s).part p) := by
  obtain ⟨l, hl⟩ := (viewsLatched_epochEnded s).parts p
  have hparts : (withEpochSets (epochAccounts s)).parts = (damperEpoch s).parts := (waitsNoted_epochAccounts s).only .parts (by decide)
  rw [hl, part_congr hparts]
  exact (taken_damperEpoch hp hlen).latched l

theorem ctxs_epochEnded (s : State) : (epochEnded s).cmds.ctxs = (withEpochSets (epochAccounts s)).cmds.ctxs :=
  congrArg Cmds.ctxs ((viewsLatched_epochEnded s).only .cmds (by decide))

theorem epochSet_epochEnded {c : Ctx} (h : c ∈ (epochEnded s).cmds.ctxs) : c.epochSet = c.accounting := by
  rw [ctxs_epochEnded] at h
  obtain ⟨d, -, rfl⟩ := List.mem_map.mp h
  rfl

theorem slots_epochEnded (s : State) : (epochEnded s).cmds.ctxs.map (fun c => c.slot) = s.cmds.ctxs.map (fun c => c.slot) := by
  have hcmds : (damperEpoch s).cmds = s.cmds := only_damperEpoch s .cmds (by decide)
  rw [ctxs_epochEnded, withEpochSets, List.map_map, ← hcmds]
  exact (waitsNoted_epochAccounts s).slots

end epoch

/-- Settles O41: a tick opens with its limits and its telemetry, which its grants leave, and each grant moves by what a partition wants,
clamped to 25 W; an epoch's end takes the partitions one after the other, then the accounts and the latched views. -/
theorem budgetTicksMoveGrantsSlowly : Obligations.BudgetTicksMoveGrantsSlowly := by
  unfold Obligations.BudgetTicksMoveGrantsSlowly
  refine ⟨fun s hc hcount => ⟨fun hh => ?tick, fun hh => ⟨_, exec_budgetTick_halted hc hh, only_injectionTick s⟩⟩, fun s hc hu => ?epoch⟩
  case tick =>
    obtain ⟨t, he, hdamper, honly⟩ := exec_budgetTick_counting hc hcount hh
    obtain ⟨d, hd, hlimit, hnext, hbtick, hend, hmissed, hlost, hrows⟩ := tickClosed_damper (tickOpened s)
    have hclosed : t.damper = d := by rw [hdamper, hd]
    have hrow : ∀ q, t.grantRow q = (computeGrants (tickOpened s)).grantRow q := grantRow_of_rows (by rw [hclosed, hrows])
    have hopened : ∀ q, (tickOpened s).grantRow q = s.grantRow q := fun _ => rfl
    have hgrant := fun q => grant_computeGrants q (tickOpened s)
    simp only [hopened, ← hrow] at hgrant
    refine ⟨t, he, by rw [hclosed, hlimit]; rfl, by rw [hclosed, hnext]; rfl, by rw [hclosed, hbtick]; rfl, by rw [hclosed, hend]; rfl,
      by rw [hclosed, hmissed]; rfl, by rw [hclosed, hlost]; rfl, fun q _ => ?_, fun htrip q _ => ?_, honly⟩
    · obtain ⟨hup, hdown, -⟩ := hgrant q
      exact ⟨hup, hdown⟩
    · obtain ⟨-, -, hstill⟩ := hgrant q
      exact hstill htrip
  case epoch =>
    refine ⟨epochEnded s, ?_, only_epochEnded s, fun q hq hlen => ?_, ?_,
      by rw [damper_epochEnded, damperEpoch_eq], by rw [damper_epochEnded, damperEpoch_eq], fun c h => epochSet_epochEnded h, slots_epochEnded s⟩
    · change settled s (powerEpochBoundary s) = _
      rw [powerEpochBoundary_up hu]
      exact settled_quiet hc (quiet_epochEnded s) (pending_epochEnded s)
    · obtain ⟨hpace, hlast, hcompleted, hadmitted, hemergency, hpstate⟩ := taken_epochEnded hq hlen
      exact ⟨hpace, hlast, hcompleted, hadmitted, hemergency, hpstate⟩
    · rw [damper_epochEnded, damperEpoch_eq]
      change (s.damper.emergency && !(s.damper.emergency && s.damper.coolEpoch && !s.damper.telemLost)) = _
      cases s.damper.emergency <;> rfl

end Sys2Proof.Machine
end

section
/-! PROOFS. What the start of a command of any source leaves, sessions among them (03 R73, 10 R347, 11 R364), and what the effect of a
command of Kingpost leaves while it acts. -/

namespace Sys2Proof.Machine

/-! ### Sessions (R73, R340) -/

/-- A session without its expected sequence. -/
def Session.identity (x : Session) : Session := { x with expected := 0 }

/-- The sessions are the same but for what they expect next (R73). -/
def SameSessions (s t : State) : Prop := t.vs.sessions.map Session.identity = s.vs.sessions.map Session.identity

section sessions
variable {s t : State} {op : Op} {p : Packet}

theorem SameSessions.find? (h : SameSessions s t) (id : Nat) :
    (t.vs.sessions.find? fun x => x.id = id).map Session.identity = (s.vs.sessions.find? fun x => x.id = id).map Session.identity := by
  have key : ∀ l : List Session,
      (l.find? fun x => x.id = id).map Session.identity = (l.map Session.identity).find? fun x => x.id = id := fun l => by
    rw [List.find?_map]
    rfl
  rw [key, key, h]

theorem SameSessions.session? (h : SameSessions s t) (src : Source) :
    (t.session? src).map Session.identity = (s.session? src).map Session.identity := by
  cases src with
  | session id => exact h.find? id
  | _ => rfl

theorem SameSessions.session?_eq_none (h : SameSessions s t) {src : Source} (hs : s.session? src = none) : t.session? src = none := by
  simpa only [hs, Option.map_none, Option.map_eq_none_iff] using h.session? src

/-- A session is known by what it does not expect: its VERIFIER_ID and whether it was opened with mutual authentication. -/
theorem SameSessions.session?_eq_some (h : SameSessions s t) {src : Source} {y : Session} (hy : t.session? src = some y) :
    ∃ x, s.session? src = some x ∧ x.verifierId = y.verifierId ∧ x.mutualAuth = y.mutualAuth := by
  have hmap := h.session? src
  rw [hy, Option.map_some] at hmap
  obtain ⟨x, hx, he⟩ := Option.map_eq_some_iff.mp hmap.symm
  have hverifier : x.identity.verifierId = y.identity.verifierId := by rw [he]
  have hauth : x.identity.mutualAuth = y.identity.mutualAuth := by rw [he]
  exact ⟨x, hx, hverifier, hauth⟩

theorem sameSessions_advanceSeq (r : CmdRef) (s : State) : SameSessions s (advanceSeq r s) := by
  unfold advanceSeq
  split
  · rfl
  · rename_i id hid
    unfold SameSessions
    rw [List.map_map]
    refine List.map_congr_left fun x _ => ?_
    rw [Function.comp_apply]
    split <;> rfl
  · rfl

theorem sameSessions_opened : SameSessions s (opened op p s) := by
  have harrived : (arrived p s).vs = s.vs := only_arrived p s .vs (by decide)
  have hserved : (opened op p s).vs = (accepted op p s).vs := only_noteServed _ _ .vs (by decide)
  rw [SameSessions, hserved, ← harrived]
  exact sameSessions_advanceSeq _ _

theorem session?_of_srcIsCtx {src : Source} (h : srcIsCtx src = true) (s : State) : s.session? src = none := by
  cases src with
  | session id => cases h
  | _ => rfl

end sessions

/-! ### The state that a command of any source meets -/

/-- A command meets a state that differs by what its arrival leaves. -/
structure Met (op : Op) (p : Packet) (s u : State) : Prop where
  calm : u.calm
  started : Started s u
  sessions : SameSessions s u
  vs : (∀ id, p.src ≠ .session id) → u.vs = s.vs

theorem submit_met {op : Op} {p : Packet} {s : State} (a : Aux) (hc : s.calm) (hp : passes op p s) :
    ∃ u, submit op p a s = startOf op (named op p s) p a u ∧ Met op p s u := by
  have hnow : (opened op p s).now = (named op p s).start := by
    change (opened op p s).cal.now = (arrived p s).cal.now
    rw [show (opened op p s).cal = s.cal from only_opened .cal (by decide), only_arrived p s .cal (by decide)]
  have hbegins := submit_passes a hc hp
  rcases begin_cases op (named op p s) p a (opened op p s) with h | h <;> rw [hnow] at h
  · exact ⟨_, hbegins.trans h, started_opened.quiet.calm hc, started_opened, sameSessions_opened, opened_vs⟩
  · have hstarted := started_opened.trans (started_noteStart (named op p s) (opened op p s))
    have hvs : (noteStart (named op p s) (opened op p s)).vs = (opened op p s).vs := only_noteStart _ _ .vs (by decide)
    exact ⟨_, hbegins.trans h, hstarted.quiet.calm hc, hstarted, by rw [SameSessions, hvs]; exact sameSessions_opened,
      fun hsrc => hvs.trans (opened_vs hsrc)⟩

/-! ### Outputs that stand -/

section out
variable {s : State} {o : Output}

theorem out_traceCtx (p c b : Nat) (r : TraceRec) (h : o ∈ s.out) : o ∈ (traceCtx p c b r s).out := by
  unfold traceCtx
  split
  · exact h
  · split
    · exact out_pushTrace _ _ h
    · exact h

theorem out_noteDone (r : CmdRef) (st : Nat) (h : o ∈ s.out) : o ∈ (noteDone r st s).out := by
  unfold noteDone
  split
  · exact h
  · dsimp only
    split
    · exact out_traceCtx _ _ _ _ h
    · exact h

theorem out_ringReply (ring : RingId) (rep : Reply) (h : o ∈ s.out) : o ∈ (ringReply ring rep s).out := by
  have hring : ∀ f, (s.modRing ring f).out = s.out := fun f => by cases ring <;> rfl
  unfold ringReply writeCompletion
  dsimp only
  split
  · rwa [hring]
  · exact List.mem_cons_of_mem _ (by rwa [hring])

theorem out_deliver (src : Source) (rep : Reply) (h : o ∈ s.out) : o ∈ (deliver src rep s).out := by
  unfold deliver
  split
  · split
    · exact List.mem_cons_of_mem _ h
    · exact h
  · exact out_ringReply _ _ h
  · exact out_ringReply _ _ h
  · split
    · exact List.mem_cons_of_mem _ h
    · exact h

/-- A reply takes back nothing that has left. -/
theorem out_complete (r : CmdRef) (st : Nat) (v : BitVec 128) (h : o ∈ s.out) : o ∈ (complete r st v s).out := by
  unfold complete answer answerWith
  dsimp only
  split
  · exact h
  · have hdone : o ∈ (noteDone r st (s.land r)).out := out_noteDone r st h
    split
    · exact hdone
    · exact out_deliver _ _ hdone

end out

/-! ### While a command of Kingpost acts -/

/-- The areas that the effects of Kingpost's commands reach. -/
abbrev keyAreas : List Area := [.parts, .cmds, .kp, .fresh, .out]

/-- The effect of a Kingpost command so far: the block has nothing to do by itself, and its source can still be answered. Unlike
`Underway`, key slots may change. -/
structure KeyStep (s t : State) : Prop where
  calm : s.calm → t.calm
  only : OnlyIn keyAreas s t
  gens : t.cmds.gens = s.cmds.gens
  ctxs : t.cmds.ctxs = s.cmds.ctxs
  parts : t.parts.length = s.parts.length

section step
variable {s t u : State}

theorem KeyStep.refl (s : State) : KeyStep s s := ⟨fun h => h, .refl _ s, rfl, rfl, rfl⟩

theorem KeyStep.trans (h : KeyStep s t) (k : KeyStep t u) : KeyStep s u :=
  ⟨fun hc => k.calm (h.calm hc), h.only.trans k.only, k.gens.trans h.gens, k.ctxs.trans h.ctxs, k.parts.trans h.parts⟩

theorem keyStep_emit (o : Output) (s : State) : KeyStep s (s.emit o) :=
  ⟨(quiet_emit s o).calm, (only_emit s o).mono (by simp), rfl, rfl, rfl⟩

theorem only_withFresh (n : Nat) (s : State) : OnlyIn [.fresh] s { s with fresh := n } := by
  intro g hg
  cases g with
  | fresh => exact absurd (by simp) hg
  | _ => rfl

theorem keyStep_withFresh (n : Nat) (s : State) : KeyStep s { s with fresh := n } :=
  have hquiet : Quiet s { s with fresh := n } := ⟨rfl, rfl, rfl, rfl, rfl, rfl, rfl, rfl, rfl, fun _ h => .inl h, id, rfl⟩
  ⟨hquiet.calm, (only_withFresh n s).mono (by simp), rfl, rfl, rfl⟩

theorem keyStep_hold (r : CmdRef) (s : State) : KeyStep s (hold r s) :=
  ⟨(quiet_hold r s).calm, (only_hold r s).mono (by simp), rfl, rfl, rfl⟩

theorem keyStep_modPart (p : Nat) (f : Part → Part) (s : State) : KeyStep s (s.modPart p f) :=
  ⟨(quiet_modPart s p f).calm, (only_modPart s p f).mono (by simp), rfl, rfl, List.length_modify _ _ _⟩

theorem only_withKp (s : State) (x : Kingpost) : OnlyIn [.kp] s { s with kp := x } := by
  intro g hg
  cases g with
  | kp => exact absurd (by simp) hg
  | _ => rfl

/-- A calm block stays calm while no key slot is being evicted and mailboxes are not served anew. -/
theorem calm_withKeys {x : Kingpost} (hslots : ∀ k ∈ x.slots, k.state ≠ .evicting) (hhalted : s.kp.halted = true → x.halted = true)
    (hc : s.calm) : State.calm { s with kp := x } = true := by
  have hserved : State.mailServed { s with kp := x } = true → s.mailServed = true := by
    simp only [State.mailServed, State.up, Bool.and_eq_true, Bool.not_eq_true']
    exact fun ⟨h, hx⟩ => ⟨h, Bool.eq_false_iff.mpr fun hk => by rw [hhalted hk] at hx; cases hx⟩
  simp only [State.calm, Bool.and_eq_true, List.all_eq_true, stranded_congr (t := { s with kp := x }) (s := s) rfl rfl] at hc ⊢
  obtain ⟨⟨⟨⟨hwork, -⟩, hruns⟩, hparcels⟩, hchans⟩ := hc
  refine ⟨⟨⟨⟨hwork, fun k hk => decide_eq_true (hslots k hk)⟩, hruns⟩, hparcels⟩, ?_⟩
  cases hm : State.mailServed { s with kp := x } with
  | false => rfl
  | true =>
    rw [hserved hm] at hchans
    exact hchans

theorem keyStep_withKp {x : Kingpost} (hslots : s.calm → ∀ k ∈ x.slots, k.state ≠ .evicting)
    (hhalted : s.kp.halted = true → x.halted = true) : KeyStep s { s with kp := x } :=
  ⟨fun hc => calm_withKeys (hslots hc) hhalted hc, (only_withKp s x).mono (by simp), rfl, rfl, rfl⟩

/-- In a calm block no key slot is being evicted. -/
theorem notEvicting_of_calm (hc : s.calm) : ∀ k ∈ s.kp.slots, k.state ≠ .evicting := by
  obtain ⟨-, -, -, -, -, hslots, -⟩ := State.calm_cases hc
  exact hslots

end step

/-! ### Commands that end -/

section ends
variable {op : Op} {p : Packet} {i : Instr} {s u w : State} {st : Nat} {v : BitVec 128} {gs : List Area}

namespace Met
variable (h : Met op p s u)
include h

theorem parts : u.parts = s.parts := h.started.only .parts (by decide)

theorem part (k : Nat) : u.part k = s.part k := part_congr h.parts k

theorem kp : u.kp = s.kp := h.started.only .kp (by decide)

theorem cal : u.cal = s.cal := h.started.only .cal (by decide)

theorem now : u.now = s.now := congrArg Calendar.now h.cal

theorem fuses : u.fuses = s.fuses := h.started.only .fuses (by decide)

theorem debugs : u.debugs = s.debugs := h.started.only .debugs (by decide)

theorem only : OnlyIn (.vs :: replyAreas) s u := h.started.only.mono (by simp)

theorem inCarve_eq (k a n : Nat) : u.inCarve k a n = s.inCarve k a n :=
  inCarve_congr h.parts (h.started.only .sill (by decide)) h.started.quiet.coord k a n

theorem place_eq (k a n : Nat) : place u k a n = place s k a n :=
  place_congr h.parts (h.started.only .sill (by decide)) h.started.quiet.coord k a n

theorem injections (hi : s.tests.injections = []) : u.tests.injections = [] := by rw [h.started.only .tests (by decide), hi]

/-- The source of a command that has passed its checks can still be answered while the command acts. -/
theorem answered (hp : passes op p s) (hw : KeyStep u w) : Answered op p st v s (complete (named op p s) st v w) := by
  have hstale : w.staleRef (named op p s) = u.staleRef (named op p s) :=
    staleRef_congr (by rw [State.genOf, hw.gens, State.genOf]) (by rw [State.ctx?, hw.ctxs, State.ctx?])
  refine complete_answers (hstale.trans (h.started.fresh hp)) ((congrArg Calendar.now (hw.only .cal (by decide))).trans h.now)
    (fun id hid => ?_) fun q hq => by rw [hw.parts, h.parts]; exact ring_of_passes hp q hq
  have hheard : (arrived p s).vs.sessions.any (fun x => x.id = id) = true := by
    simp only [passes, hears, Bool.and_eq_true] at hp
    obtain ⟨⟨⟨⟨-, hheard⟩, -⟩, -⟩, -⟩ := hp
    rw [hid] at hheard
    exact hheard
  rw [hw.only .vs (by decide), h.started.sessions, ← only_arrived p s .vs (by decide)]
  exact hheard

/-- A command whose effect ends it is answered; its effect and what has left stand. -/
theorem ends (hp : passes op p s) (he : exec i s = settled s (complete (named op p s) st v w)) (hw : KeyStep u w)
    (ho : OnlyIn gs u w) :
    ∃ t, exec i s = .next t ∧ OnlyIn replyAreas w t ∧ (∀ o ∈ w.out, o ∈ t.out) ∧
      (∀ {α : Type} {g : Part → α}, HidesReplies g → ∀ k, g (t.part k) = g (w.part k)) ∧
      Answered op p st v s t ∧ OnlyIn (gs ++ .vs :: replyAreas) s t ∧
      ((∀ id, p.src ≠ .session id) → OnlyIn (gs ++ replyAreas) s t) := by
  have hcalm := (quiet_complete (named op p s) st v w).calm (hw.calm h.calm)
  have hends := only_complete (named op p s) st v w
  have hgs : OnlyIn (gs ++ .vs :: replyAreas) u w := ho.mono fun _ => List.mem_append_left _
  have hgs' : OnlyIn (gs ++ replyAreas) u w := ho.mono fun _ => List.mem_append_left _
  refine ⟨_, he.trans (settled_calm hcalm), hends.queue _, fun o hout => out_complete _ _ _ hout, fun {_ g} hg k => ?_,
    (h.answered hp hw).queue _,
    (((h.only.mono (by simp)).trans hgs).trans (hends.mono (by simp))).queue _, fun hsrc =>
    ((((h.started.onlyNoVs (h.vs hsrc)).mono (by simp)).trans hgs').trans (hends.mono (by simp))).queue _⟩
  change g ((complete (named op p s) st v w).part k) = _
  rw [apply_part g, hg.complete, apply_part g]

end Met

end ends

end Sys2Proof.Machine
end

section
/-! PROOFS. Key slots (10 R339, R344, R345) and the commands that load keys: KEY_LOAD, KEY_PIN_RC and BIND_UNWRAP (10 R338 to R345,
R349). -/

namespace Sys2Proof.Machine

/-! ### Slots -/

section slots
variable {s t : State}

theorem slot?_congr (h : t.kp = s.kp) (part slot : Nat) : t.slot? part slot = s.slot? part slot := by
  rw [State.slot?, h, State.slot?]

theorem key?_congr (h : t.kp = s.kp) (part slot : Nat) : t.key? part slot = s.key? part slot := by
  rw [State.key?, h, State.key?]

theorem weightKeys_congr (h : t.kp = s.kp) : t.weightKeys = s.weightKeys := by rw [State.weightKeys, h, State.weightKeys]

theorem slotCheck_congr (hp : t.parts = s.parts) (hk : t.kp = s.kp) (part given : Nat) :
    slotCheck t part given = slotCheck s part given := by
  simp only [slotCheck, part_congr hp, slot?_congr hk]

/-- A slot that R345 lets a command load is empty, but for slot 0 where it is named. -/
theorem slot?_eq_none_of_slotCheck {part given slot : Nat} (h : slotCheck s part given = .ok slot) (hg : given ≠ 0) :
    s.slot? part slot = none := by
  unfold slotCheck at h
  dsimp only at h
  split at h
  · split at h
    · rename_i k hk
      cases h
      have hfree := List.find?_some hk
      rw [Bool.and_eq_true, Option.isNone_iff_eq_none] at hfree
      exact hfree.2
    · cases h
  · split at h
    · cases h
    · split at h
      · cases h
      · rename_i hfree
        cases h
        simpa [hg] using hfree

theorem slotCheck_zero {part slot : Nat} (h : slotCheck s part 0 = .ok slot) : slot = 0 := by
  unfold slotCheck at h
  rw [if_neg (by decide)] at h
  split at h
  · cases h
  · rw [if_neg (by simp)] at h
    cases h
    rfl

theorem eq_of_slot? {part slot : Nat} {k : KeySlot} (h : s.slot? part slot = some k) : k.part = part ∧ k.slot = slot := by
  simpa using List.find?_some h

theorem mem_of_slot? {part slot : Nat} {k : KeySlot} (h : s.slot? part slot = some k) : k ∈ s.kp.slots := List.mem_of_find?_eq_some h

theorem key?_eq_none_of_slot? {part slot : Nat} (h : s.slot? part slot = none) : s.key? part slot = none := by
  refine List.find?_eq_none.mpr fun k hk hb => List.find?_eq_none.mp h k hk ?_
  rw [Bool.and_eq_true] at hb
  exact hb.1

/-- A slot comes between those before it and those after it. -/
theorem slotInsert_eq (l : List KeySlot) (k : KeySlot) : ∃ l₁ l₂, l = l₁ ++ l₂ ∧ slotInsert l k = l₁ ++ k :: l₂ := by
  induction l with
  | nil => exact ⟨[], [], rfl, rfl⟩
  | cons a l ih =>
    unfold slotInsert
    split
    · exact ⟨[], a :: l, rfl, rfl⟩
    · obtain ⟨l₁, l₂, hl, hk⟩ := ih
      exact ⟨a :: l₁, l₂, by rw [hl]; rfl, by rw [hk]; rfl⟩

/-- The slots after one has been put: those of other numbers as they were, and it between them. -/
theorem slots_putSlot (k : KeySlot) (s : State) :
    ∃ l₁ l₂, (s.putSlot k).kp.slots = l₁ ++ k :: l₂ ∧
      ∀ x ∈ l₁ ++ l₂, x ∈ s.kp.slots ∧ ¬(x.part = k.part ∧ x.slot = k.slot) := by
  obtain ⟨l₁, l₂, hl, hk⟩ := slotInsert_eq (s.kp.slots.filter fun x => !(x.part = k.part && x.slot = k.slot)) k
  refine ⟨l₁, l₂, hk, fun x hx => ?_⟩
  rw [← hl, List.mem_filter] at hx
  exact ⟨hx.1, fun hsame => by simp [hsame] at hx⟩

theorem slot?_putSlot (k : KeySlot) (s : State) : (s.putSlot k).slot? k.part k.slot = some k := by
  obtain ⟨l₁, l₂, hslots, hothers⟩ := slots_putSlot k s
  rw [State.slot?, hslots, List.find?_append, List.find?_cons_of_pos (by simp), Option.or_eq_some_iff]
  refine .inr ⟨List.find?_eq_none.mpr fun x hx hb => (hothers x (List.mem_append_left _ hx)).2 ?_, rfl⟩
  simpa using hb

theorem keyStep_putSlot {k : KeySlot} (hk : s.calm → k.state ≠ .evicting) : KeyStep s (s.putSlot k) := by
  refine keyStep_withKp (x := (s.putSlot k).kp) (fun hc x hx => ?_) fun h => h
  obtain ⟨l₁, l₂, hslots, hothers⟩ := slots_putSlot k s
  rw [hslots] at hx
  rcases List.mem_append.mp hx with hx | hx
  · exact notEvicting_of_calm hc x (hothers x (List.mem_append_left _ hx)).1
  · rcases List.mem_cons.mp hx with rfl | hx
    · exact hk hc
    · exact notEvicting_of_calm hc x (hothers x (List.mem_append_right _ hx)).1

end slots

/-! ### Blobs (R338) -/

section blobs
variable {s t : State} {part given len : Nat} {a : Accepts} {b : Blob}

theorem blobEarly_congr (hp : t.parts = s.parts) (hk : t.kp = s.kp) (hc : t.cal = s.cal) (part : Nat) (a : Accepts) (given len : Nat)
    (b : Blob) : blobEarly t part a given len b = blobEarly s part a given len b := by
  rw [blobEarly, part_congr hp, key?_congr hk, State.now, hc, blobEarly, State.now]

theorem blobLate_congr (hp : t.parts = s.parts) (hk : t.kp = s.kp) (part : Nat) (vid : Hash) (key : Key) (b : Blob) :
    blobLate t part vid key b = blobLate s part vid key b := by
  simp only [blobLate, part_congr hp, key?_congr hk, weightKeys_congr hk]

theorem policyOk_congr (hp : t.parts = s.parts) (hk : t.kp = s.kp) (hf : t.fuses = s.fuses) (hd : t.debugs = s.debugs) (part len : Nat)
    (b : BindSet) : policyOk t part len b = policyOk s part len b := by
  simp only [policyOk, part_congr hp, hk, hf, hd]

/-- A blob that meets the checks of R338 has the usage its command accepts, and slot 0 is for DOMAIN keys alone (R339). -/
theorem usage_of_blobEarly (h : blobEarly s part a given len b = none) :
    blobUsage b = a.usage ∧ (a.usage = 1 → given = 0) ∧ (a.usage ≠ 1 → given ≠ 0) := by
  unfold blobEarly at h
  rcases ite_eq_iff.mp h with ⟨-, h⟩ | ⟨-, h⟩
  · cases h
  · rcases ite_eq_iff.mp h with ⟨-, h⟩ | ⟨hok, -⟩
    · cases h
    · simp only [Bool.or_eq_true, decide_eq_true_eq, not_or, Classical.not_not] at hok
      obtain ⟨⟨⟨husage, -⟩, -⟩, hslot⟩ := hok
      rw [husage] at hslot
      exact ⟨husage, fun h1 => by simpa [h1] using hslot, fun h1 => by simpa [h1] using hslot⟩

theorem blobLate_of_weight {vid : Hash} {key : Key} (hu : blobUsage b ≠ 1) (hroom : s.weightKeys < 256) :
    blobLate s part vid key b = none := by
  rw [blobLate, if_neg hu, if_neg (Nat.not_le.mpr hroom)]

theorem blobLate_of_empty {vid : Hash} {key : Key} (hu : blobUsage b = 1) (hslot : s.slot? part 0 = none) :
    blobLate s part vid key b = none := by
  rw [blobLate, if_pos hu, key?_eq_none_of_slot? hslot]

end blobs

/-! ### The key placed (R340 to R343) -/

section place
variable {op : Op} {p : Packet} {i : Instr} {s u : State} {r : CmdRef} {part slot given len : Nat} {a : Accepts} {vid : Option Hash}
  {noDebug macOk : Bool} {key : Key} {b : Blob}

/-- The slot of an unwrapped key where none was. -/
def freshKey (part slot : Nat) (a : Accepts) (noDebug : Bool) (key : Key) (b : Blob) : KeySlot :=
  { part := part, slot := slot, state := if a.pin then .pinned else .loaded, usage := blobUsage b, attr := BitVec.ofNat 32 (blobAttr b)
    keyId := blobKeyId b, domain := blobDomain b, prefix_ := blobPrefix b, key := key, noDebug := noDebug, evict := none, users := [] }

/-- The slot after a load: a key that stood keeps all but its prefix (R340). -/
def loadedKey (old : Option KeySlot) (new : KeySlot) : KeySlot := old.elim new fun k => { k with prefix_ := new.prefix_ }

/-- The partition of a DOMAIN key: its IV counters begin anew, and a first VERIFIER_ID stands (R340). -/
def Part.rekeyed (vid : Option Hash) (q : Part) : Part := { q with ivParcel := 0, ivPack := 0, verifierId := q.verifierId.or vid }

/-- The state after a load, before its reply. -/
def keyPlaced (part : Nat) (vid : Option Hash) (usage : Nat) (k : KeySlot) (s : State) : State :=
  if usage = 1 then (s.putSlot k).modPart part (Part.rekeyed vid) else s.putSlot k

theorem placeKey_eq (s : State) :
    placeKey r part slot a vid noDebug key b s =
      complete r stOk (loadResult (loadedKey (s.slot? part slot) (freshKey part slot a noDebug key b)))
        (keyPlaced part vid (blobUsage b) (loadedKey (s.slot? part slot) (freshKey part slot a noDebug key b)) s) := by
  have hrekeyed : Part.rekeyed vid = fun q =>
      { q with ivParcel := 0, ivPack := 0, verifierId := match q.verifierId with | some v => some v | none => vid } := by
    funext q
    cases hq : q.verifierId <;> simp [Part.rekeyed, hq]
  rw [keyPlaced, hrekeyed]
  cases hold : s.slot? part slot <;> rw [placeKey, hold] <;> rfl

theorem loadBlob_of_accepted (hearly : blobEarly s part a given len b = none) (htwins : b.twinsOk = true) (hkey : b.key = some key)
    (hmac : macOk = true) (hlate : blobLate s part (vid.getD 0) key b = none) :
    loadBlob r part slot given len a vid noDebug macOk b s = placeKey r part slot a vid noDebug key b s := by
  rw [loadBlob, hearly]
  dsimp only
  rw [htwins, if_neg (by decide), hkey]
  dsimp only
  rw [hmac, if_neg (by decide), hlate]

theorem checkAndLoad_of_accepted (hslot : slotCheck s part (pf p 32 2) = .ok slot)
    (hcarve : srcIsCtx r.src = true → s.inCarve part (pf p 20 6) (pf p 28 2) = true ∧ readCause b.read = none)
    (hearly : blobEarly s part a (pf p 32 2) (pf p 28 2) b = none) (htwins : b.twinsOk = true) (hkey : b.key = some key)
    (hlate : blobLate s part (vid.getD 0) key b = none) :
    checkAndLoad r p part a vid b s = placeKey r part slot a vid false key b s := by
  have hout : ¬(srcIsCtx r.src && !s.inCarve part (pf p 20 6) (pf p 28 2)) = true := fun h => by
    rw [Bool.and_eq_true, Bool.not_eq_true'] at h
    rw [(hcarve h.1).1] at h
    exact Bool.noConfusion h.2
  have hread : ¬(srcIsCtx r.src && (readCause b.read).isSome) = true := fun h => by
    rw [Bool.and_eq_true] at h
    rw [(hcarve h.1).2] at h
    exact Bool.noConfusion h.2
  rw [checkAndLoad, hslot]
  dsimp only
  rw [if_neg hout, if_neg hread]
  exact loadBlob_of_accepted hearly htwins hkey rfl hlate

theorem keyStep_keyPlaced {k : KeySlot} (hk : s.calm → k.state ≠ .evicting) (usage : Nat) :
    KeyStep s (keyPlaced part vid usage k s) := by
  unfold keyPlaced
  split
  · exact (keyStep_putSlot hk).trans (keyStep_modPart _ _ _)
  · exact keyStep_putSlot hk

theorem only_keyPlaced (k : KeySlot) (usage : Nat) (s : State) : OnlyIn [.kp, .parts] s (keyPlaced part vid usage k s) := by
  have hput : OnlyIn [.kp, .parts] s (s.putSlot k) := (only_withKp s _).mono (by simp)
  unfold keyPlaced
  split
  · exact hput.trans ((only_modPart _ _ _).mono (by simp))
  · exact hput

theorem kp_keyPlaced (k : KeySlot) (usage : Nat) (s : State) : (keyPlaced part vid usage k s).kp = (s.putSlot k).kp := by
  unfold keyPlaced
  split <;> rfl

/-- What a load leaves: the key in its slot, and of a DOMAIN key's partition the counters and the VERIFIER_ID. -/
structure KeyPlaced (op : Op) (p : Packet) (s : State) (part slot : Nat) (vid : Option Hash) (new : KeySlot) (t : State) : Prop where
  loaded : t.slot? part slot = some (loadedKey (s.slot? part slot) new)
  rekeyed : new.usage = 1 → part < s.parts.length → (t.part part).ivParcel = 0 ∧ (t.part part).ivPack = 0 ∧
    (t.part part).verifierId = (s.part part).verifierId.or vid
  answered : Answered op p stOk (loadResult (loadedKey (s.slot? part slot) new)) s t
  only : OnlyIn (.kp :: .vs :: replyAreas) s t
  onlyKp : (∀ id, p.src ≠ .session id) → OnlyIn (.kp :: replyAreas) s t

theorem hidesReplies_ivParcel : HidesReplies Part.ivParcel := ⟨fun _ _ => rfl, fun _ _ _ _ => rfl⟩

theorem hidesReplies_ivPack : HidesReplies Part.ivPack := ⟨fun _ _ => rfl, fun _ _ _ _ => rfl⟩

theorem hidesReplies_verifierId : HidesReplies Part.verifierId := ⟨fun _ _ => rfl, fun _ _ _ _ => rfl⟩

/-- A command whose effect places a key. -/
theorem Met.placesKey (h : Met op p s u) (hp : passes op p s)
    (he : exec i s = settled s (placeKey (named op p s) part slot a vid noDebug key b u)) :
    ∃ t, exec i s = .next t ∧ KeyPlaced op p s part slot vid (freshKey part slot a noDebug key b) t := by
  have hkey : ∀ k, loadedKey (u.slot? part slot) (freshKey part slot a noDebug key b) = k →
      k.part = part ∧ k.slot = slot ∧ (u.calm → k.state ≠ .evicting) := by
    rintro k rfl
    cases hold : u.slot? part slot with
    | none =>
      refine ⟨rfl, rfl, fun _ => ?_⟩
      change (if a.pin then SlotState.pinned else SlotState.loaded) ≠ .evicting
      split <;> exact SlotState.noConfusion
    | some k =>
      obtain ⟨hpart, hslot⟩ := eq_of_slot? hold
      exact ⟨hpart, hslot, fun hc => notEvicting_of_calm hc k (mem_of_slot? hold)⟩
  rw [placeKey_eq] at he
  obtain ⟨hpart, hslot, hstate⟩ := hkey _ rfl
  rw [slot?_congr h.kp] at he hpart hslot hstate
  obtain ⟨t, ht, hkept, -, hparts, hanswer, honly, hkp⟩ := h.ends hp he (keyStep_keyPlaced hstate _) (only_keyPlaced _ _ _)
  refine ⟨t, ht, ?_, fun husage hlen => ?_, hanswer, honly.mono (by simp), fun hsrc => (hkp hsrc).mono (by simp)⟩
  · have hput := slot?_putSlot (loadedKey (s.slot? part slot) (freshKey part slot a noDebug key b)) u
    rw [hpart, hslot] at hput
    rwa [slot?_congr (hkept .kp (by decide)), slot?_congr (kp_keyPlaced _ _ _)]
  · have husage : blobUsage b = 1 := husage
    have hrekeyed : (keyPlaced part vid (blobUsage b) (loadedKey (s.slot? part slot) (freshKey part slot a noDebug key b)) u).part part =
        Part.rekeyed vid (s.part part) := by
      rw [keyPlaced, if_pos husage, part_modPart_self (by rw [← h.parts] at hlen; exact hlen), ← h.part]
      rfl
    rw [hparts hidesReplies_ivParcel, hparts hidesReplies_ivPack, hparts hidesReplies_verifierId, hrekeyed]
    exact ⟨rfl, rfl, rfl⟩

end place

/-! ### The three commands -/

section commands
variable {p : Packet} {b : Blob} {s : State} {slot : Nat} {key : Key}

/-- Without injections a verdict stands (R523). -/
theorem withTwins_uninjected (h : s.tests.injections = []) (kind : Nat) (targets : List Nat) (ok : Bool) (f : Bool → State → State) :
    withTwins kind targets ok f s = f ok s := by
  rw [withTwins, List.findSome?_eq_none_iff.mpr fun t _ => armed_eq_none h kind t]

theorem startOf_keyLoad (h : s.tests.injections = []) (r : CmdRef) :
    startOf .keyLoad r p (.blob b) s = startKeyLoad r p b s := by
  rw [startOf, withTwins_uninjected h]
  rfl

theorem startOf_keyPinRc (h : s.tests.injections = []) (r : CmdRef) :
    startOf .keyPinRc r p (.blob b) s = startKeyPinRc r p b s := by
  rw [startOf, withTwins_uninjected h]
  rfl

theorem startOf_bindUnwrap {set : BindSet} (h : s.tests.injections = []) (hentry : set.entry = some b) (r : CmdRef) :
    startOf .bindUnwrap r p (.bindSet set) s = startBindUnwrap r p set s := by
  have hset : ({ set with entry := some b } : BindSet) = set := by rw [← hentry]
  change startBindUnwrapTested r p set s = _
  rw [startBindUnwrapTested, hentry]
  change withTwins _ _ _ _ s = _
  rw [withTwins_uninjected h]
  exact congrArg (startBindUnwrap r p · s) hset

theorem src_ne_session_of_srcIsCtx {src : Source} (h : srcIsCtx src = true) (id : Nat) : src ≠ .session id := by
  rintro rfl
  cases h

theorem exec_keyLoad_weight (hc : s.calm) (hi : s.tests.injections = []) (hp : passes .keyLoad p s) (hsrc : srcIsCtx p.src = true)
    (hslot : slotCheck s p.part (pf p 32 2) = .ok slot) (hcarve : s.inCarve p.part (pf p 20 6) (pf p 28 2) = true)
    (hread : readCause b.read = none)
    (hearly : blobEarly s p.part { usage := 2, kind := 2, pin := false } (pf p 32 2) (pf p 28 2) b = none) (htwins : b.twinsOk = true)
    (hkey : b.key = some key) (hroom : s.weightKeys < 256) :
    ∃ t, exec (.keyLoad p b) s = .next t ∧
      KeyPlaced .keyLoad p s p.part slot none (freshKey p.part slot { usage := 2, kind := 2, pin := false } false key b) t := by
  obtain ⟨u, hu, hm⟩ := submit_met (.blob b) hc hp
  obtain ⟨husage, -, -⟩ := usage_of_blobEarly hearly
  have hstart : startKeyLoad (named .keyLoad p s) p b u =
      placeKey (named .keyLoad p s) p.part slot { usage := 2, kind := 2, pin := false } none false key b u := by
    rw [startKeyLoad, show u.session? (named .keyLoad p s).src = none from session?_of_srcIsCtx hsrc u]
    exact checkAndLoad_of_accepted ((slotCheck_congr hm.parts hm.kp _ _).trans hslot)
      (fun _ => ⟨(hm.inCarve_eq _ _ _).trans hcarve, hread⟩)
      (by rw [blobEarly_congr hm.parts hm.kp hm.cal]; exact hearly) htwins hkey
      (blobLate_of_weight (by rw [husage]; decide) (by rwa [weightKeys_congr hm.kp]))
  exact hm.placesKey hp (congrArg (settled s) (hu.trans ((startOf_keyLoad (hm.injections hi) _).trans hstart)))

theorem exec_keyLoad_domain {x : Session} {q : Nat} (hc : s.calm) (hi : s.tests.injections = []) (hp : passes .keyLoad p s)
    (hx : s.session? p.src = some x) (hauth : x.mutualAuth = true) (hq : q = pbits p 30 0 4) (hq0 : q ≠ 0)
    (hfree : (s.part q).pstate ≠ .free) (hcreated : (s.part q).pstate ≠ .created)
    (hslot : slotCheck s q (pf p 32 2) = .ok slot)
    (hearly : blobEarly s q { usage := 1, kind := 1, pin := false } (pf p 32 2) (pf p 28 2) b = none) (htwins : b.twinsOk = true)
    (hkey : b.key = some key) (hlate : blobLate s q x.verifierId key b = none) :
    ∃ t, exec (.keyLoad p b) s = .next t ∧
      KeyPlaced .keyLoad p s q slot (some x.verifierId) (freshKey q slot { usage := 1, kind := 1, pin := false } false key b) t := by
  obtain ⟨u, hu, hm⟩ := submit_met (.blob b) hc hp
  have hstart : startKeyLoad (named .keyLoad p s) p b u =
      placeKey (named .keyLoad p s) q slot { usage := 1, kind := 1, pin := false } (some x.verifierId) false key b u := by
    cases hy : u.session? (named .keyLoad p s).src with
    | none =>
      have hnone := SameSessions.session?_eq_none (show SameSessions u s from hm.sessions.symm) hy
      rw [show s.session? (named .keyLoad p s).src = some x from hx] at hnone
      cases hnone
    | some y =>
      obtain ⟨x', hx', hverifier, hmutual⟩ := hm.sessions.session?_eq_some hy
      cases hx'.symm.trans hx
      rw [startKeyLoad, hy]
      dsimp only
      rw [← hq, ← hmutual, hauth, if_neg (by simp [hq0]), hm.part, if_neg hfree, if_neg hcreated, ← hverifier]
      refine checkAndLoad_of_accepted (by rw [slotCheck_congr hm.parts hm.kp]; exact hslot) (fun hctx => ?_)
        (by rw [blobEarly_congr hm.parts hm.kp hm.cal]; exact hearly) htwins hkey (by rw [blobLate_congr hm.parts hm.kp]; exact hlate)
      rw [session?_of_srcIsCtx hctx] at hy
      cases hy
  exact hm.placesKey hp (congrArg (settled s) (hu.trans ((startOf_keyLoad (hm.injections hi) _).trans hstart)))

theorem exec_keyPinRc (hc : s.calm) (hi : s.tests.injections = []) (hp : passes .keyPinRc p s)
    (hslot : slotCheck s p.part (pf p 32 2) = .ok slot) (hcarve : s.inCarve p.part (pf p 20 6) (pf p 28 2) = true)
    (hread : readCause b.read = none)
    (hearly : blobEarly s p.part { usage := 1, kind := 1, pin := true } (pf p 32 2) (pf p 28 2) b = none) (htwins : b.twinsOk = true)
    (hkey : b.key = some key) (hempty : s.slot? p.part slot = none) :
    ∃ t, exec (.keyPinRc p b) s = .next t ∧
      KeyPlaced .keyPinRc p s p.part slot none (freshKey p.part slot { usage := 1, kind := 1, pin := true } false key b) t := by
  obtain ⟨u, hu, hm⟩ := submit_met (.blob b) hc hp
  obtain ⟨husage, hzero, -⟩ := usage_of_blobEarly hearly
  obtain rfl : slot = 0 := slotCheck_zero (by rwa [hzero rfl] at hslot)
  have hstart : startKeyPinRc (named .keyPinRc p s) p b u =
      placeKey (named .keyPinRc p s) p.part 0 { usage := 1, kind := 1, pin := true } none false key b u :=
    checkAndLoad_of_accepted ((slotCheck_congr hm.parts hm.kp _ _).trans hslot)
      (fun _ => ⟨(hm.inCarve_eq _ _ _).trans hcarve, hread⟩)
      (by rw [blobEarly_congr hm.parts hm.kp hm.cal]; exact hearly) htwins hkey
      (blobLate_of_empty husage (by rwa [slot?_congr hm.kp]))
  exact hm.placesKey hp (congrArg (settled s) (hu.trans ((startOf_keyPinRc (hm.injections hi) _).trans hstart)))

theorem exec_bindUnwrap {set : BindSet} (hc : s.calm) (hi : s.tests.injections = []) (hp : passes .bindUnwrap p s)
    (hslot : slotCheck s p.part (pf p 32 2) = .ok slot) (hcarve : s.inCarve p.part (pf p 20 6) (pf p 28 4) = true)
    (hdomain : (s.key? p.part 0).isSome = true) (hread : readCause set.read = none) (hentry : set.entry = some b)
    (hpolicy : policyOk s p.part (pf p 28 4) set = true)
    (hearly : blobEarly s p.part { usage := 2, kind := 1, pin := false } (pf p 32 2) 1796 b = none) (htwins : b.twinsOk = true)
    (hmac : set.policyMacOk = true) (hkey : b.key = some key) (hroom : s.weightKeys < 256) :
    ∃ t, exec (.bindUnwrap p set) s = .next t ∧
      KeyPlaced .bindUnwrap p s p.part slot none
        (freshKey p.part slot { usage := 2, kind := 1, pin := false } (!bitOf set.flags.toNat 1) key b) t := by
  obtain ⟨u, hu, hm⟩ := submit_met (.bindSet set) hc hp
  obtain ⟨husage, -, -⟩ := usage_of_blobEarly hearly
  have hload : loadBlob (named .bindUnwrap p s) p.part slot (pf p 32 2) 1796 { usage := 2, kind := 1, pin := false } none
      (!bitOf set.flags.toNat 1) set.policyMacOk b u =
        placeKey (named .bindUnwrap p s) p.part slot { usage := 2, kind := 1, pin := false } none (!bitOf set.flags.toNat 1) key b u :=
    loadBlob_of_accepted (by rw [blobEarly_congr hm.parts hm.kp hm.cal]; exact hearly) htwins hkey hmac
      (blobLate_of_weight (by rw [husage]; decide) (by rwa [weightKeys_congr hm.kp]))
  have hstart : startBindUnwrap (named .bindUnwrap p s) p set u =
      placeKey (named .bindUnwrap p s) p.part slot { usage := 2, kind := 1, pin := false } none (!bitOf set.flags.toNat 1) key b u := by
    have hfree : slotCheck u (named .bindUnwrap p s).part (pf p 32 2) = .ok slot := (slotCheck_congr hm.parts hm.kp _ _).trans hslot
    rw [startBindUnwrap, hfree]
    dsimp only
    rw [show u.inCarve (named .bindUnwrap p s).part (pf p 20 6) (pf p 28 4) = true from (hm.inCarve_eq _ _ _).trans hcarve,
      if_neg (by decide), key?_congr hm.kp, ← Option.not_isSome,
      show (s.key? (named .bindUnwrap p s).part 0).isSome = true from hdomain, if_neg (by decide), hread, if_neg (by decide), hentry]
    dsimp only
    rw [show policyOk u (named .bindUnwrap p s).part (pf p 28 4) set = true from
      (policyOk_congr hm.parts hm.kp hm.fuses hm.debugs _ _ _).trans hpolicy, if_neg (by decide)]
    exact hload
  exact hm.placesKey hp (congrArg (settled s) (hu.trans ((startOf_bindUnwrap (hm.injections hi) hentry _).trans hstart)))

end commands

/-- Settles O30: each load comes down to one key placed; an empty slot holds the key, an occupied slot 0 its old key under the new
prefix. -/
theorem keysAreLoaded : Obligations.KeysAreLoaded := by
  unfold Obligations.KeysAreLoaded
  refine ⟨?weight, ?domain, ?pinned, ?bound⟩
  case weight =>
    intro p b s slot key hc hi hp hsrc hslot hcarve hread hearly htwins hkey hroom
    obtain ⟨t, ht, hplaced⟩ := exec_keyLoad_weight hc hi hp hsrc hslot hcarve hread hearly htwins hkey hroom
    obtain ⟨husage, -, hgiven⟩ := usage_of_blobEarly hearly
    obtain ⟨hin, -, hanswer, -, honly⟩ := hplaced
    rw [slot?_eq_none_of_slotCheck hslot (hgiven (by decide))] at hin hanswer
    exact ⟨t, _, ht, hin, rfl, husage, rfl, rfl, rfl, rfl, hanswer, honly (src_ne_session_of_srcIsCtx hsrc)⟩
  case domain =>
    intro p b s x q slot key hc hi hp hx hauth hq hq0 hlen hfree hcreated hslot hearly htwins hkey hlate
    obtain ⟨t, ht, hin, hrekeyed, hanswer, honly, -⟩ :=
      exec_keyLoad_domain hc hi hp hx hauth hq hq0 hfree hcreated hslot hearly htwins hkey hlate
    obtain ⟨husage, -, -⟩ := usage_of_blobEarly hearly
    obtain ⟨hparcel, hpack, hverifier⟩ := hrekeyed husage hlen
    refine ⟨t, _, ht, hin, fun hempty => ?_, ?_, hparcel, hpack, ?_, hanswer, honly⟩
    · rw [hempty]
      exact ⟨rfl, rfl, husage⟩
    · cases s.slot? q slot <;> rfl
    · rw [hverifier]
      cases (s.part q).verifierId <;> rfl
  case pinned =>
    intro p b s slot key hc hi hp hslot hcarve hread hearly htwins hkey hempty
    obtain ⟨t, ht, hin, hrekeyed, hanswer, -, honly⟩ := exec_keyPinRc hc hi hp hslot hcarve hread hearly htwins hkey hempty
    have hsrc := srcIsCtx_of_passes (.inr rfl) hp
    obtain ⟨husage, -, -⟩ := usage_of_blobEarly hearly
    obtain ⟨-, -, hlen⟩ := passes_ctx hp hsrc
    obtain ⟨hparcel, -, -⟩ := hrekeyed husage hlen
    rw [hempty] at hin hanswer
    exact ⟨t, _, ht, hin, rfl, husage, rfl, rfl, rfl, rfl, rfl, hparcel, hanswer, honly (src_ne_session_of_srcIsCtx hsrc)⟩
  case bound =>
    intro p set e s slot key hc hi hp hslot hcarve hdomain hread hentry hpolicy hearly htwins hmac hkey hroom
    obtain ⟨t, ht, hin, -, hanswer, -, honly⟩ :=
      exec_bindUnwrap hc hi hp hslot hcarve hdomain hread hentry hpolicy hearly htwins hmac hkey hroom
    obtain ⟨husage, -, hgiven⟩ := usage_of_blobEarly hearly
    rw [slot?_eq_none_of_slotCheck hslot (hgiven (by decide))] at hin hanswer
    exact ⟨t, _, ht, hin, rfl, husage, rfl, rfl, rfl, rfl, rfl, hanswer, honly (src_ne_session (fun _ => rfl) hp)⟩

end Sys2Proof.Machine
end

section
/-! PROOFS. KEY_GENERATE, KEY_EVICT and KEY_QUERY (10 R339, R345 to R348), the entropy source and the signature monitor (10 R326, R346,
14 R428). -/

namespace Sys2Proof.Machine

/-! ### Checks of commands that name a partition (R347, R364, R389) -/

section checks
variable {op : Op} {p : Packet} {s u : State}

theorem sessionReaches_congr (hp : u.parts = s.parts) {x y : Session} (hv : x.verifierId = y.verifierId) (q : Nat) :
    u.sessionReaches y q = s.sessionReaches x q := by
  rw [State.sessionReaches, part_congr hp, ← hv, State.sessionReaches]

namespace Met
variable (h : Met op p s u)
include h

theorem mgmtRefusal_eq (r : CmdRef) (q : Nat) : mgmtRefusal r q u = mgmtRefusal r q s := by
  rw [mgmtRefusal, namedRefusal, h.part, mgmtRefusal, namedRefusal]

/-- A session that reaches a partition still does when its command starts (R347, R364). -/
theorem sessionReaches {q : Nat} (hs : ∀ x, s.session? p.src = some x → s.sessionReaches x q = true) :
    ∀ y, u.session? p.src = some y → u.sessionReaches y q = true := fun y hy => by
  obtain ⟨x, hx, hverifier, -⟩ := h.sessions.session?_eq_some hy
  rw [sessionReaches_congr h.parts hverifier, hs x hx]

end Met

end checks

/-! ### KEY_GENERATE (R346) -/

@[simp] theorem length_leBytes (k n : Nat) : (leBytes k n).length = k := by
  induction k generalizing n with
  | zero => rfl
  | succ k ih => rw [leBytes, List.length_cons, ih]

section generate
variable {p : Packet} {s : State} {r : CmdRef} {slot addr : Nat}

/-- An internal blob has the 140 bytes of its KIND, and takes four free values. -/
theorem internalBlob_eq (domain keyId : Nat) (s : State) :
    ∃ bytes, bytes.length = 140 ∧ internalBlob domain keyId s = (bytes, { s with fresh := s.fresh + 4 }) :=
  ⟨_, by simp, rfl⟩

theorem writeMem_of_tier0 {part a : Nat} {data : List Byte} (hdata : data ≠ []) (h : place s part addr data.length = .tier0 a) :
    writeMem part addr data s = s.emit (.write part a data) := by
  rw [writeMem, if_neg (by simpa using hdata), h]

/-- The slot of a generated key. -/
def generatedKey (r : CmdRef) (slot : Nat) (s : State) : KeySlot :=
  { part := r.part, slot := slot, state := .loaded, usage := 2, attr := BitVec.ofNat 32 genAttr, keyId := r.seq
    domain := (s.part r.part).domain, prefix_ := 0, key := Config.freeKey s.kp.draws, noDebug := false, evict := none, users := [] }

/-- One key drawn (log 7). -/
def keyDrawn (s : State) : State := { s with kp := { s.kp with draws := s.kp.draws + 1 } }

/-- A generated key in its slot, its blob's free values drawn. -/
def keyGenerated (r : CmdRef) (slot : Nat) (s : State) : State :=
  { (keyDrawn s).putSlot (generatedKey r slot s) with fresh := s.fresh + 4 }

theorem keyStep_keyGenerated (r : CmdRef) (slot : Nat) (s : State) : KeyStep s (keyGenerated r slot s) := by
  have hdrawn : KeyStep s (keyDrawn s) := keyStep_withKp notEvicting_of_calm fun h => h
  have hput : KeyStep (keyDrawn s) ((keyDrawn s).putSlot (generatedKey r slot s)) := keyStep_putSlot fun _ => by simp [generatedKey]
  exact (hdrawn.trans hput).trans (keyStep_withFresh _ _)

theorem only_keyGenerated (r : CmdRef) (slot : Nat) (s : State) : OnlyIn [.kp, .fresh] s (keyGenerated r slot s) :=
  ((only_withKp s _).mono (by simp)).trans ((only_withFresh _ _).mono (by simp))

/-- A generated key's blob goes to tier 0. -/
theorem generateKey_eq (h : place s r.part addr 140 = .tier0 addr) :
    ∃ bytes, bytes.length = 140 ∧ generateKey r slot addr s =
      complete r stOk (loadResult (generatedKey r slot s)) ((keyGenerated r slot s).emit (.write r.part addr bytes)) := by
  obtain ⟨bytes, hlen, hblob⟩ :=
    internalBlob_eq (s.part r.part).domain r.seq ((keyDrawn s).putSlot (generatedKey r slot s))
  refine ⟨bytes, hlen, ?_⟩
  have hplace : place (keyGenerated r slot s) r.part addr bytes.length = .tier0 addr := by
    rw [hlen]
    exact (place_congr rfl rfl rfl _ _ _).trans h
  have hwrite := writeMem_of_tier0 (List.ne_nil_of_length_pos (by omega)) hplace
  have hgenerate : generateKey r slot addr s =
      complete r stOk (loadResult (generatedKey r slot s)) (writeMem r.part addr
        (internalBlob (s.part r.part).domain r.seq ((keyDrawn s).putSlot (generatedKey r slot s))).1
        (internalBlob (s.part r.part).domain r.seq ((keyDrawn s).putSlot (generatedKey r slot s))).2) := rfl
  rw [hgenerate, hblob]
  exact congrArg (complete r stOk _) hwrite

theorem startKeyGenerate_of_ready (hhealth : s.kp.entropyFail = false) (hslot : slotCheck s r.part (pf p 20 2) = .ok slot)
    (hne : slot ≠ 0) (hcarve : s.inCarve r.part (pf p 24 6) 140 = true) (hdomain : (s.key? r.part 0).isSome = true)
    (hroom : s.weightKeys < 256) : startKeyGenerate r p true s = generateKey r slot (pf p 24 6) s := by
  rw [startKeyGenerate, hhealth, if_neg (by decide), hslot]
  dsimp only
  rw [hcarve, if_neg (by decide), if_neg hne, ← Option.not_isSome, hdomain, if_neg (by decide), if_neg (Nat.not_le.mpr hroom),
    if_neg (by decide)]

theorem exec_keyGenerate (hc : s.calm) (hi : s.tests.injections = []) (hp : passes .keyGenerate p s) (hhealth : s.kp.entropyFail = false)
    (hslot : slotCheck s p.part (pf p 20 2) = .ok slot) (hne : slot ≠ 0) (hcarve : s.inCarve p.part (pf p 24 6) 140 = true)
    (hplace : place s p.part (pf p 24 6) 140 = .tier0 (pf p 24 6)) (hdomain : (s.key? p.part 0).isSome = true)
    (hroom : s.weightKeys < 256) :
    ∃ t bytes, exec (.keyGenerate p true) s = .next t ∧ bytes.length = 140 ∧
      t.slot? p.part slot = some (generatedKey (named .keyGenerate p s) slot s) ∧ t.kp.draws = s.kp.draws + 1 ∧
      .write p.part (pf p 24 6) bytes ∈ t.out ∧
      Answered .keyGenerate p stOk (loadResult (generatedKey (named .keyGenerate p s) slot s)) s t ∧
      OnlyIn (.kp :: .fresh :: replyAreas) s t := by
  obtain ⟨u, hu, hm⟩ := submit_met (.twins true) hc hp
  obtain ⟨bytes, hlen, hgenerate⟩ := generateKey_eq (s := u) (r := named .keyGenerate p s) (slot := slot)
    ((hm.place_eq p.part (pf p 24 6) 140).trans hplace)
  have hstart := startKeyGenerate_of_ready (s := u) (r := named .keyGenerate p s) (p := p) (by rw [hm.kp]; exact hhealth)
    ((slotCheck_congr hm.parts hm.kp _ _).trans hslot) hne ((hm.inCarve_eq _ _ _).trans hcarve)
    (by rw [key?_congr hm.kp]; exact hdomain) (by rwa [weightKeys_congr hm.kp])
  have htwins : startOf .keyGenerate (named .keyGenerate p s) p (.twins true) u = startKeyGenerate (named .keyGenerate p s) p true u := by
    rw [startOf, withTwins_uninjected (hm.injections hi)]
    rfl
  have hkey : generatedKey (named .keyGenerate p s) slot u = generatedKey (named .keyGenerate p s) slot s := by
    rw [generatedKey, hm.part, hm.kp, generatedKey]
  rw [hkey] at hgenerate
  obtain ⟨t, ht, hkept, hout, -, hanswer, -, honly⟩ := hm.ends (i := .keyGenerate p true) (gs := [.kp, .fresh, .out]) hp
    (congrArg (settled s) (hu.trans (htwins.trans (hstart.trans hgenerate))))
    ((keyStep_keyGenerated _ _ _).trans (keyStep_emit _ _))
    (((only_keyGenerated _ _ _).mono (by simp)).trans ((only_emit _ _).mono (by simp)))
  have hkp : t.kp = (keyGenerated (named .keyGenerate p s) slot u).kp := hkept .kp (by decide)
  refine ⟨t, bytes, ht, hlen, ?_, by rw [hkp, ← hm.kp]; rfl, hout _ (List.mem_cons_self ..), hanswer,
    (honly (src_ne_session (fun _ => rfl) hp)).mono (by simp)⟩
  rw [slot?_congr hkp, ← hkey]
  exact slot?_putSlot (generatedKey (named .keyGenerate p s) slot u) (keyDrawn u)

end generate

/-! ### KEY_QUERY (R348) -/

section query
variable {p : Packet} {s : State} {r : CmdRef} {q : Nat}

/-- What KEY_QUERY replies about a slot: zeros for an empty one. -/
def keyQueryResult (src : Source) (slot : Nat) (q : Part) (k : Option KeySlot) : BitVec 128 :=
  k.elim 0 fun k => resultOf [(16, 1, k.state.code), (17, 1, k.usage),
    (19, 1, if srcIsCtx src && slot = 0 && q.verifierId.isSome then 1 else 0), (20, 4, k.attr.toNat), (24, 4, k.keyId), (28, 3, k.domain)]

theorem startKeyQuery_of_share (hq : q = aboutPart r (pbits p 22 0 4)) (hm : mgmtRefusal r q s = none)
    (hcreated : (s.part q).pstate ≠ .created) (hshare : pf p 20 2 < (s.part q).shares.keySlots) :
    startKeyQuery r p s = complete r stOk (keyQueryResult r.src (pf p 20 2) (s.part q) (s.slot? q (pf p 20 2))) s := by
  rw [startKeyQuery]
  dsimp only
  rw [← hq, hm]
  dsimp only
  rw [if_neg hcreated, if_neg (Nat.not_le.mpr hshare)]
  cases s.slot? q (pf p 20 2) <;> rfl

theorem exec_keyQuery (hc : s.calm) (hp : passes .keyQuery p s) (hq : q = aboutPart (named .keyQuery p s) (pbits p 22 0 4))
    (hm : mgmtRefusal (named .keyQuery p s) q s = none) (hcreated : (s.part q).pstate ≠ .created)
    (hshare : pf p 20 2 < (s.part q).shares.keySlots) :
    ∃ t, exec (.keyQuery p) s = .next t ∧
      Answered .keyQuery p stOk (keyQueryResult p.src (pf p 20 2) (s.part q) (s.slot? q (pf p 20 2))) s t ∧ OnlyIn replyAreas s t := by
  obtain ⟨u, hu, hmet⟩ := submit_met .none hc hp
  have hstart := startKeyQuery_of_share (s := u) hq (by rwa [hmet.mgmtRefusal_eq]) (by rwa [hmet.part]) (by rwa [hmet.part])
  rw [hmet.part, slot?_congr hmet.kp] at hstart
  obtain ⟨t, ht, -, -, -, hanswer, -, honly⟩ :=
    hmet.ends (i := .keyQuery p) (gs := []) hp (congrArg (settled s) (hu.trans hstart)) (.refl u) (.refl _ u)
  exact ⟨t, ht, hanswer, honly (src_ne_session (fun _ => rfl) hp)⟩

end query

/-! ### KEY_EVICT (R343, R347) -/

section evict
variable {p : Packet} {s u : State} {r : CmdRef} {k j : KeySlot} {l₁ l₂ : List KeySlot} {q : Nat}

/-- The slot of a key whose eviction a command has asked for. -/
def evictedBy (r : CmdRef) (s : State) (k : KeySlot) : KeySlot :=
  { k with state := .evicting, evict := some r, users := slotUsers s k.part k.slot }

/-- The state in which an eviction waits for the slot's users. -/
def evictionBegun (r : CmdRef) (k : KeySlot) (s : State) : State := (hold r s).putSlot (evictedBy r s k)

theorem evictSlot_eq : evictSlot r k s = finishEvictions (evictionBegun r k s) := rfl

/-- Of one slot that is being evicted, the block waits for its users or erases it; the other slots are no matter. -/
theorem finishEvictions_one (hslots : s.kp.slots = l₁ ++ j :: l₂) (hothers : ∀ x ∈ l₁ ++ l₂, x.state ≠ .evicting)
    (hj : j.state = .evicting) (hr : j.evict = some r) :
    finishEvictions s = if j.users.any (fun x => s.pendingRef x) then s else complete r stOk 0 (eraseSlot j.part j.slot s) := by
  unfold finishEvictions
  rw [hslots, List.foldl_append, List.foldl_cons, foldl_id _ l₁ s fun x hx => by simp [hothers x (List.mem_append_left _ hx)],
    foldl_id _ l₂ _ fun x hx => by simp [hothers x (List.mem_append_right _ hx)]]
  cases husers : j.users.any (fun x => s.pendingRef x) <;> simp [hj, hr]

theorem finishEvictions_begun (hc : s.calm) :
    finishEvictions (evictionBegun r k s) =
      if (slotUsers s k.part k.slot).any (fun x => (evictionBegun r k s).pendingRef x) then evictionBegun r k s
      else complete r stOk 0 (eraseSlot k.part k.slot (evictionBegun r k s)) := by
  obtain ⟨l₁, l₂, hslots, hothers⟩ := slots_putSlot (evictedBy r s k) (hold r s)
  exact finishEvictions_one hslots (fun x hx => notEvicting_of_calm hc x (hothers x hx).1) rfl rfl

theorem startKeyEvict_of_held (hq : q = aboutPart r (pbits p 22 0 4))
    (hreach : ∀ x, s.session? r.src = some x → s.sessionReaches x q = true) (hm : mgmtRefusal r q s = none)
    (hcreated : (s.part q).pstate ≠ .created) (hne : pf p 20 2 ≠ 0) (hk : s.slot? q (pf p 20 2) = some k)
    (hstate : k.state ≠ .evicting) :
    startKeyEvict r p s = finishEvictions (evictionBegun r k s) := by
  unfold startKeyEvict
  rw [← hq]
  cases hx : s.session? r.src with
  | none => simp [hm, hcreated, hne, hk, hstate, evictSlot_eq]
  | some x => simp [hreach x hx, hm, hcreated, hne, hk, hstate, evictSlot_eq]

/-- A slot erased at once leaves nothing to evict. -/
theorem keyStep_evicted (r : CmdRef) (k : KeySlot) (s : State) : KeyStep s (eraseSlot k.part k.slot (evictionBegun r k s)) := by
  obtain ⟨l₁, l₂, hslots, hothers⟩ := slots_putSlot (evictedBy r s k) (hold r s)
  refine (keyStep_hold r s).trans (.trans (keyStep_withKp (x := (eraseSlot k.part k.slot (evictionBegun r k s)).kp) (fun hc x hx => ?_)
    fun h => h) (keyStep_emit (.erase k.part k.slot) _))
  obtain ⟨hmem, hother⟩ := List.mem_filter.mp hx
  rw [show (evictionBegun r k s).kp.slots = l₁ ++ evictedBy r s k :: l₂ from hslots] at hmem
  rcases List.mem_append.mp hmem with hx | hx
  · exact notEvicting_of_calm hc x (hothers x (List.mem_append_left _ hx)).1
  · rcases List.mem_cons.mp hx with rfl | hx
    · simp [evictedBy] at hother
    · exact notEvicting_of_calm hc x (hothers x (List.mem_append_right _ hx)).1

theorem slot?_eraseSlot (part slot : Nat) (s : State) : (eraseSlot part slot s).slot? part slot = none := by
  refine List.find?_eq_none.mpr fun x hx hb => ?_
  obtain ⟨-, hkept⟩ := List.mem_filter.mp hx
  rw [hb] at hkept
  cases hkept

theorem only_evictionBegun (r : CmdRef) (k : KeySlot) (s : State) : OnlyIn [.cmds, .kp] s (evictionBegun r k s) :=
  ((only_hold r s).mono (by simp)).trans ((only_withKp _ _).mono (by simp))

theorem only_eraseSlot (part slot : Nat) (s : State) : OnlyIn [.kp, .out] s (eraseSlot part slot s) :=
  ((only_withKp s _).mono (by simp)).trans ((only_emit _ _).mono (by simp))

end evict

/-! ### An eviction that waits (R347, R352) -/

/-- The block's key slots apart, it has nothing to do by itself. -/
structure CalmButKeys (s : State) : Prop where
  staged : s.cmds.staged = []
  firmware : s.cmds.firmware = []
  contexts : ∀ x ∈ s.plumb.rungs, ¬(x.rung = Rung.context ∧ x.begun = false)
  drains : ∀ x ∈ s.plumb.rungs, ¬(x.begun = true ∧ x.timerFrom = none)
  opening : s.debugs.opening = none
  stopping : s.vs.stopping = []
  runs : ∀ t ∈ s.tests.runs, ¬(t.kind = 0 ∧ t.point = 3 ∧ (s.link t.target).state ≠ .keyed)
  parcels : ∀ x ∈ s.gl.parcels, s.stranded x = false
  looked : s.mailServed = true → s.chansLooked

namespace CalmButKeys
variable {s : State}

theorem of_calm (hc : s.calm) : CalmButKeys s := by
  obtain ⟨hstaged, hfirmware, hrungs, hopening, hstopping, -, hruns, hparcels, hlooked⟩ := State.calm_cases hc
  exact ⟨hstaged, hfirmware, fun x hx => (hrungs x hx).1, fun x hx => (hrungs x hx).2, hopening, hstopping, hruns, hparcels, hlooked⟩

theorem withKp (h : CalmButKeys s) {x : Kingpost} (hhalted : x.halted = s.kp.halted) : CalmButKeys { s with kp := x } := by
  obtain ⟨hstaged, hfirmware, hcontexts, hdrains, hopening, hstopping, hruns, hparcels, hlooked⟩ := h
  refine ⟨hstaged, hfirmware, hcontexts, hdrains, hopening, hstopping, hruns, fun y hy =>
    (stranded_congr (s := s) rfl rfl y).trans (hparcels y hy), fun hm => hlooked ?_⟩
  rwa [State.mailServed, hhalted] at hm

variable (h : CalmButKeys s)
include h

theorem runContextRungs : runContextRungs s = s := by
  rw [Sys2Proof.Machine.runContextRungs, List.filter_eq_nil_iff.mpr fun x hx => by simpa using h.contexts x hx, List.foldl_nil]

theorem finishDrains : finishDrains s = s := by
  rw [Sys2Proof.Machine.finishDrains, List.filter_eq_nil_iff.mpr fun x hx => by simpa using h.drains x hx, List.foldl_nil]

theorem discardUnreachable : discardUnreachable s = s := by
  unfold Sys2Proof.Machine.discardUnreachable
  split
  case isTrue => rfl
  case isFalse =>
    refine foldl_id _ _ s fun x hx => if_pos ?_
    have hway := h.parcels x hx
    simp only [State.stranded, Bool.and_eq_false_iff, Bool.or_eq_false_iff, decide_eq_false_iff_not] at hway
    rcases hway with ((hearly | hleft) | hopen) | ⟨hmirror, hsecond⟩
    · simp [Option.isSome_eq_false_iff.mp hearly]
    · simp [Option.isNone_eq_false_iff.mp hleft]
    · simp [hopen]
    · simp [hsecond, show x.mirror = true by simpa using hmirror]

theorem finishEcho : finishEcho s = s := by
  rw [Sys2Proof.Machine.finishEcho, List.filter_eq_nil_iff.mpr fun x hx => by simpa using h.runs x hx, List.foldl_nil]

theorem lookAll : lookAll s = s := by
  unfold Sys2Proof.Machine.lookAll
  split
  case isTrue hm =>
    refine foldl_id _ _ s fun c _ => lookChan_calm ?_
    rw [State.chan, List.getD_eq_getElem?_getD]
    cases hq : s.mail.chans[c]? with
    | none => exact Channel.reset_looked
    | some q => exact h.looked (Bool.and_eq_true_iff.mp hm).1 q (List.mem_of_getElem? hq)
  case isFalse => rfl

/-- While its evictions wait, the block does nothing by itself. -/
theorem pump (he : finishEvictions s = s) : pump s = s := by
  have hsettle : settleAll s = s := by
    simp [settleAll, h.runContextRungs, h.finishDrains, h.discardUnreachable, he, finishStops, h.stopping, finishDebugOpen, h.opening,
      h.finishEcho]
  simp [Sys2Proof.Machine.pump, hsettle, h.staged, h.firmware, startAll, h.lookAll]

end CalmButKeys

/-! ### KEY_EVICT's two ends -/

section evict
variable {p : Packet} {s : State} {k : KeySlot} {q : Nat}

/-- What a KEY_EVICT that no check refuses begins. -/
theorem submit_keyEvict (hc : s.calm) (hp : passes .keyEvict p s) (hq : q = aboutPart (named .keyEvict p s) (pbits p 22 0 4))
    (hreach : ∀ x, s.session? p.src = some x → s.sessionReaches x q = true) (hm : mgmtRefusal (named .keyEvict p s) q s = none)
    (hcreated : (s.part q).pstate ≠ .created) (hne : pf p 20 2 ≠ 0) (hk : s.slot? q (pf p 20 2) = some k) :
    ∃ u, submit .keyEvict p .none s = finishEvictions (evictionBegun (named .keyEvict p s) k u) ∧ Met .keyEvict p s u ∧
      slotUsers u k.part k.slot = slotUsers s q (pf p 20 2) := by
  obtain ⟨u, hu, hmet⟩ := submit_met .none hc hp
  obtain ⟨hpart, hslot⟩ := eq_of_slot? hk
  refine ⟨u, hu.trans (startKeyEvict_of_held hq (hmet.sessionReaches hreach) (by rwa [hmet.mgmtRefusal_eq]) (by rwa [hmet.part]) hne
    (by rwa [slot?_congr hmet.kp]) (notEvicting_of_calm hc k (mem_of_slot? hk))), hmet, ?_⟩
  rw [slotUsers, hmet.started.quiet.staged, hmet.started.only .inl (by decide), hpart, hslot, slotUsers]

theorem exec_keyEvict_unused (hc : s.calm) (hp : passes .keyEvict p s) (hq : q = aboutPart (named .keyEvict p s) (pbits p 22 0 4))
    (hreach : ∀ x, s.session? p.src = some x → s.sessionReaches x q = true) (hm : mgmtRefusal (named .keyEvict p s) q s = none)
    (hcreated : (s.part q).pstate ≠ .created) (hne : pf p 20 2 ≠ 0) (hk : s.slot? q (pf p 20 2) = some k)
    (husers : slotUsers s q (pf p 20 2) = []) :
    ∃ t, exec (.keyEvict p) s = .next t ∧ t.slot? q (pf p 20 2) = none ∧ Answered .keyEvict p stOk 0 s t ∧
      OnlyIn (.kp :: .vs :: replyAreas) s t := by
  obtain ⟨u, hu, hmet, husing⟩ := submit_keyEvict hc hp hq hreach hm hcreated hne hk
  obtain ⟨rfl, hslot⟩ := eq_of_slot? hk
  rw [finishEvictions_begun hmet.calm, husing, husers, if_neg (by simp)] at hu
  obtain ⟨t, ht, hkept, -, -, hanswer, honly, -⟩ := hmet.ends (i := .keyEvict p) (gs := [.cmds, .kp, .out]) hp
    (congrArg (settled s) hu) (keyStep_evicted _ k u)
    (((only_evictionBegun _ k u).mono (by simp)).trans ((only_eraseSlot _ _ _).mono (by simp)))
  refine ⟨t, ht, ?_, hanswer, honly.mono (by simp)⟩
  rw [slot?_congr (hkept .kp (by decide)), ← hslot]
  exact slot?_eraseSlot _ _ _

theorem exec_keyEvict_used {x : CmdRef} (hc : s.calm) (hp : passes .keyEvict p s)
    (hq : q = aboutPart (named .keyEvict p s) (pbits p 22 0 4))
    (hreach : ∀ x, s.session? p.src = some x → s.sessionReaches x q = true) (hm : mgmtRefusal (named .keyEvict p s) q s = none)
    (hcreated : (s.part q).pstate ≠ .created) (hne : pf p 20 2 ≠ 0) (hk : s.slot? q (pf p 20 2) = some k)
    (hx : x ∈ slotUsers s q (pf p 20 2)) (hpending : s.pendingRef x = true) :
    ∃ t j, exec (.keyEvict p) s = .next t ∧ t.slot? q (pf p 20 2) = some j ∧ j.state = .evicting ∧
      (t.inflight? (named .keyEvict p s)).isSome = true ∧ OnlyIn (.kp :: .vs :: replyAreas) s t := by
  obtain ⟨u, hu, hmet, husing⟩ := submit_keyEvict hc hp hq hreach hm hcreated hne hk
  obtain ⟨rfl, hslot⟩ := eq_of_slot? hk
  have huses : (evictionBegun (named .keyEvict p s) k u).pendingRef x = true := by
    simp only [State.pendingRef, Bool.or_eq_true] at hpending ⊢
    refine hpending.imp (fun h => ?_) fun h => ?_
    · exact hmet.started.quiet.staged.symm ▸ h
    · change (u.cmds.inflight ++ _).any _ = true
      rw [List.any_append, hmet.started.inflight, h, Bool.true_or]
  have hwaits : finishEvictions (evictionBegun (named .keyEvict p s) k u) = evictionBegun (named .keyEvict p s) k u := by
    rw [finishEvictions_begun hmet.calm, husing, if_pos (List.any_eq_true.mpr ⟨x, hx, huses⟩)]
  have hpump := ((CalmButKeys.of_calm ((quiet_hold (named .keyEvict p s) u).calm hmet.calm)).withKp
    (x := (evictionBegun (named .keyEvict p s) k u).kp) rfl).pump hwaits
  have hput := slot?_putSlot (evictedBy (named .keyEvict p s) u k) (hold (named .keyEvict p s) u)
  refine ⟨{ evictionBegun (named .keyEvict p s) k u with pending := s.pending }, _, ?_, hslot ▸ hput, rfl,
    inflight?_hold_isSome _ u, ((hmet.only.mono (by simp)).trans ((only_evictionBegun _ k u).mono (by simp))).queue _⟩
  change settled s (submit .keyEvict p .none s) = _
  rw [hu, hwaits, settled]
  exact congrArg (fun w : State => Host.Outcome.next { w with pending := s.pending }) hpump

end evict

/-! ### The entropy source and the signature monitor (R326, R346) -/

section events
variable {s : State}

/-- The entropy source's failure noted (R346, R355). -/
def entropyFailed (s : State) : State := { s with kp := { s.kp with entropyFail := true, entropy := bump 255 s.kp.entropy } }

theorem settled_entropyFail (hc : s.calm) (hu : s.up = true) :
    ∃ t, settled s (entropyFail s) = .next t ∧ t.kp = (entropyFailed s).kp ∧ t.plumb.sticky.getLsbD 0x0B = true ∧
      OnlyIn [.kp, .plumb, .mail, .out] s t := by
  have hfail : entropyFail s = plumbEvent 0x0B 0 1 none false 0 none (entropyFailed s) := by
    rw [entropyFail, hu]
    rfl
  have hevent := reported_plumbEvent (src := 0x0B) (by decide) 0 1 none false 0 none (entropyFailed s)
  rw [hfail]
  exact ⟨_, settled_calm (hevent.marked.calm (calm_withKeys (notEvicting_of_calm hc) (fun h => h) hc)), hevent.only .kp (by decide),
    sticky_plumbEvent (by decide) (by decide) 0 1 none 0 none _,
    (((only_withKp s _).mono (by simp)).trans (hevent.only.mono (by simp))).queue _⟩

theorem exec_reseedComplete_passed (hc : s.calm) (hu : s.up = true) (hf : s.kp.entropyFail = true) :
    ∃ t, exec (.reseedComplete true) s = .next t ∧ t.kp.entropyFail = false ∧ OnlyIn [.kp] s t := by
  have hreseed : reseedComplete true s = { s with kp := { s.kp with entropyFail := false } } := by
    rw [reseedComplete, hu, hf]
    rfl
  refine ⟨_, ?_, ?_, (only_withKp s { s.kp with entropyFail := false }).queue s.pending⟩
  · change settled s (reseedComplete true s) = _
    rw [hreseed]
    exact settled_calm (calm_withKeys (notEvicting_of_calm hc) (fun h => h) hc)
  · rfl

theorem reseedComplete_failed (hu : s.up = true) (hf : s.kp.entropyFail = true) : reseedComplete false s = entropyFail s := by
  rw [reseedComplete, hu, hf]
  rfl

theorem only_requestChip {src : Nat} (h : src ≠ 1) (tenant : Bool) (s : State) : OnlyIn [.plumb] s (requestChip src tenant s) := by
  unfold requestChip
  split
  · exact only_withPlumb s _
  · split
    · unfold mergeCause
      dsimp only
      rw [if_neg h]
      split <;> exact only_withPlumb s _
    · exact only_withPlumb s _

theorem only_plumbMark (src : Nat) (s : State) : OnlyIn [.plumb] s (plumbMark src s) :=
  (only_withPlumb s _).trans (only_withPlumb _ _)

/-- A chip rung is asked for where none stands and the tray has not taken over (R430, R438). -/
theorem requestChip_of_none {src : Nat} (htray : s.start.trayReq = false) (hcauses : s.plumb.causes = []) (tenant : Bool) :
    (requestChip src tenant s).plumb.causes = [src] ∧
      (requestChip src tenant s).plumb.rungs.any (fun x => x.rung = .chip && !x.begun) = true := by
  rw [requestChip, htray, Bool.false_and, if_neg (by decide), hcauses, if_neg (by decide)]
  exact ⟨rfl, by simp⟩

/-- The firmware core halted by the signature monitor (R326). -/
def coreHalted (s : State) : State := { s with kp := { s.kp with halted := true, cfs := bump 255 s.kp.cfs } }

theorem exec_kpCflow (hc : s.calm) (hu : s.up = true) (hrun : s.kp.halted = false) :
    ∃ t, exec .kpCflow s = .next t ∧ t.kp = (coreHalted s).kp ∧ t.plumb.sticky.getLsbD 0x09 = true ∧
      (s.start.trayReq = false → s.plumb.causes = [] → t.plumb.causes = [0x09] ∧
        t.plumb.rungs.any (fun x => x.rung = .chip && !x.begun) = true) ∧ OnlyIn [.kp, .plumb] s t := by
  have hflow : kpCflow s = requestChip 0x09 false (plumbMark 0x09 (coreHalted s)) := by
    rw [kpCflow, hu, hrun]
    rfl
  have hrequest := reported_requestChip (src := 0x09) (by decide) false (plumbMark 0x09 (coreHalted s))
  have hcalm : (requestChip 0x09 false (plumbMark 0x09 (coreHalted s))).calm :=
    ((reported_plumbMark 0x09 (coreHalted s)).trans hrequest).marked.calm
      (calm_withKeys (notEvicting_of_calm hc) (fun _ => rfl) hc)
  have hareas := (only_plumbMark 0x09 (coreHalted s)).trans (only_requestChip (src := 0x09) (by decide) false _)
  have hmarked : (plumbMark 0x09 (coreHalted s)).plumb.sticky.getLsbD 0x09 = true := by
    simp [plumbMark]
  refine ⟨{ requestChip 0x09 false (plumbMark 0x09 (coreHalted s)) with pending := s.pending }, ?_, hareas .kp (by decide),
    hrequest.sticky _ hmarked, fun htray hcauses => requestChip_of_none (s := plumbMark 0x09 (coreHalted s)) htray hcauses false,
    (((only_withKp s _).mono (by simp)).trans (hareas.mono (by simp))).queue s.pending⟩
  change settled s (kpCflow s) = _
  rw [hflow]
  exact settled_calm hcalm

end events

/-- Settles O31: a generated key goes to its slot and its blob to tier 0, an eviction erases the slot or waits for its users, a query
reads the slot; the events of the entropy source and the signature monitor move Kingpost and the error log alone. -/
theorem keysAreMadeAndKingpostActs : Obligations.KeysAreMadeAndKingpostActs := by
  unfold Obligations.KeysAreMadeAndKingpostActs
  refine ⟨⟨?generate, ?evict, ?query⟩, fun s hc hu => ⟨?health, fun hf => ⟨?passed, ?failed⟩, fun hrun => ?flow⟩⟩
  case generate =>
    intro p s slot hc hi hp hhealth hslot hne hcarve hplace hdomain hroom
    obtain ⟨t, bytes, ht, hlen, hin, hdraws, hout, hanswer, honly⟩ :=
      exec_keyGenerate hc hi hp hhealth hslot hne hcarve hplace hdomain hroom
    exact ⟨t, _, bytes, ht, hin, rfl, rfl, rfl, hdraws, rfl, rfl, rfl, hout, hlen, hanswer, honly⟩
  case evict =>
    intro p s q k hc hp hq hreach hm hcreated hne hk
    exact ⟨fun husers => exec_keyEvict_unused hc hp hq hreach hm hcreated hne hk husers,
      fun x hx hpending => exec_keyEvict_used hc hp hq hreach hm hcreated hne hk hx hpending⟩
  case query =>
    intro p s q hc hp hq hm hcreated hshare
    obtain ⟨t, ht, hanswer, honly⟩ := exec_keyQuery hc hp hq hm hcreated hshare
    refine ⟨fun hk => ?_, fun k hk => ?_⟩
    all_goals
      rw [hk] at hanswer
      exact ⟨t, ht, hanswer, honly⟩
  case health =>
    obtain ⟨t, ht, hkp, hsticky, honly⟩ := settled_entropyFail hc hu
    exact ⟨t, ht, by rw [hkp]; rfl, by rw [hkp]; rfl, hsticky, honly⟩
  case passed => exact exec_reseedComplete_passed hc hu hf
  case failed =>
    obtain ⟨t, ht, hkp, -, honly⟩ := settled_entropyFail hc hu
    exact ⟨t, (congrArg (settled s) (reseedComplete_failed hu hf)).trans ht, by rw [hkp]; rfl, by rw [hkp]; rfl, honly⟩
  case flow =>
    obtain ⟨t, ht, hkp, hsticky, hrung, honly⟩ := exec_kpCflow hc hu hrun
    exact ⟨t, ht, by rw [hkp]; rfl, by rw [hkp]; rfl, hsticky, hrung, honly⟩

end Sys2Proof.Machine
end

section
/-! PROOFS. GET_EVIDENCE, KEY_CLAIM, GET_CERTS and GET_MEASUREMENTS (10 R351, 11 R360 to R364): where their documents go, and what the
bytes of the documents are. -/

namespace Sys2Proof.Machine

/-! ### Delivery (R364, R368) -/

/-- A document has gone where a command of this source has its output: the carve-out, the bus address or the session's response. -/
structure Delivered (src : Source) (addr : Nat) (bytes : List Byte) (t : State) : Prop where
  ctx : srcIsCtx src = true → bytes ≠ [] → .write (srcPart src) addr bytes ∈ t.out
  mgmt : src = .mgmt → .busWrite addr bytes ∈ t.out
  session : ∀ id, src = .session id → .document src bytes ∈ t.out

section delivery
variable {op : Op} {p : Packet} {i : Instr} {s u : State} {r : CmdRef} {addr n : Nat} {bytes : List Byte} {v : BitVec 128}

theorem Delivered.mono {src : Source} {t : State} (h : Delivered src addr bytes s) (hout : ∀ o ∈ s.out, o ∈ t.out) :
    Delivered src addr bytes t :=
  ⟨fun hc hb => hout _ (h.ctx hc hb), fun hm => hout _ (h.mgmt hm), fun id hid => hout _ (h.session id hid)⟩

/-- An output that only leaves. -/
structure PutOut (src : Source) (addr : Nat) (bytes : List Byte) (s t : State) : Prop where
  step : KeyStep s t
  only : OnlyIn [.out] s t
  delivered : Delivered src addr bytes t

theorem putOut_write {q : Nat} (hplace : place s q addr bytes.length = .tier0 addr) :
    KeyStep s (writeMem q addr bytes s) ∧ OnlyIn [.out] s (writeMem q addr bytes s) ∧
      (bytes ≠ [] → .write q addr bytes ∈ (writeMem q addr bytes s).out) := by
  by_cases hbytes : bytes = []
  · have hnone : writeMem q addr bytes s = s := by rw [writeMem, hbytes]; rfl
    rw [hnone]
    exact ⟨.refl s, .refl _ s, fun hne => absurd hbytes hne⟩
  · rw [writeMem_of_tier0 hbytes hplace]
    exact ⟨keyStep_emit _ s, only_emit s _, fun _ => List.mem_cons_self ..⟩

theorem putOut_puts (hpart : r.part = srcPart r.src)
    (hplace : srcIsCtx r.src = true → place s r.part addr bytes.length = .tier0 addr) :
    PutOut r.src addr bytes s (putOut r addr bytes s) := by
  unfold putOut
  cases hsrc : r.src with
  | mgmt =>
    exact ⟨keyStep_emit _ s, only_emit s _, nofun, fun _ => List.mem_cons_self .., fun _ => nofun⟩
  | session id =>
    exact ⟨keyStep_emit _ s, only_emit s _, nofun, nofun, fun _ _ => List.mem_cons_self ..⟩
  | cmd q | ring q =>
    rw [hsrc] at hplace hpart
    rw [hpart] at hplace ⊢
    obtain ⟨hstep, honly, hwrite⟩ := putOut_write (hplace rfl)
    exact ⟨hstep, honly, fun _ hb => hwrite hb, nofun, fun _ => nofun⟩

/-- A command that ends with a document delivered, after free values have been drawn. -/
theorem Met.delivers (h : Met op p s u) (hp : passes op p s)
    (he : exec i s = settled s (complete (named op p s) stOk v (putOut (named op p s) addr bytes { u with fresh := n })))
    (hplace : srcIsCtx p.src = true → place s p.part addr bytes.length = .tier0 addr) :
    ∃ t, exec i s = .next t ∧ Delivered p.src addr bytes t ∧ Answered op p stOk v s t ∧
      OnlyIn (.vs :: .fresh :: replyAreas) s t := by
  have hput : PutOut p.src addr bytes { u with fresh := n } (putOut (named op p s) addr bytes { u with fresh := n }) :=
    putOut_puts (r := named op p s) rfl fun hsrc =>
      ((place_congr (u := { u with fresh := n }) (s := u) rfl rfl rfl _ _ _).trans (h.place_eq _ _ _)).trans (hplace hsrc)
  obtain ⟨t, ht, -, hout, -, hanswer, honly, -⟩ := h.ends (gs := [.fresh, .out]) hp he ((keyStep_withFresh n u).trans hput.step)
    (((only_withFresh n u).mono (by simp)).trans (hput.only.mono (by simp)))
  exact ⟨t, ht, hput.delivered.mono hout, hanswer, honly.mono (by simp)⟩

theorem outRefused_of_inCarve {len : Nat} (h : srcIsCtx r.src = true → s.inCarve r.part addr len = true) :
    outRefused s r addr len = false := by
  rw [outRefused, Bool.and_eq_false_iff]
  cases hsrc : srcIsCtx r.src with
  | false => exact .inl rfl
  | true =>
    rw [h hsrc]
    exact .inr rfl

end delivery

/-! ### What documents read of the block (R360, R361) -/

section read
variable {op : Op} {p : Packet} {s u : State} {r : CmdRef}

namespace Met
variable (h : Met op p s u)
include h

theorem lcPending_eq : u.lcPending = s.lcPending := by
  have hintent : u.intentRow = s.intentRow := funext fun k => by rw [State.intentRow, h.fuses, State.intentRow]
  have hcompletion : u.completionRow = s.completionRow := funext fun k => by rw [State.completionRow, h.fuses, State.completionRow]
  rw [State.lcPending, State.lcPendingRow, hintent, hcompletion, State.lcPending, State.lcPendingRow]

theorem fullDebug_eq : u.fullDebug = s.fullDebug := by rw [State.fullDebug, h.fuses, h.debugs, State.fullDebug]

theorem manifest_eq : manifest u = manifest s := by
  have hcoord : u.coordRead = s.coordRead := by
    rw [State.coordRead, h.started.glRest, State.coordRead]
  rw [manifest, hcoord, h.fuses, State.debugBits, h.fullDebug_eq, h.debugs, h.kp, h.lcPending_eq, manifest, State.debugBits]

theorem partRecord_eq (q : Nat) : partRecord u q = partRecord s q := by
  rw [partRecord, h.part, key?_congr h.kp, partRecord]

theorem measureValue_eq (k : Nat) (d : List Byte) : measureValue k d u = measureValue k d s := by
  unfold measureValue
  rw [h.manifest_eq, h.fuses, h.fullDebug_eq, h.debugs, h.kp]

theorem evidencePart_eq : evidencePart u (named op p s) p = evidencePart s (named op p s) p := by
  unfold evidencePart
  cases hy : u.session? (named op p s).src with
  | none => rw [SameSessions.session?_eq_none (show SameSessions u s from h.sessions.symm) hy]
  | some y =>
    obtain ⟨x, hx, hverifier, -⟩ := h.sessions.session?_eq_some hy
    rw [hx]
    simp only [sessionReaches_congr h.parts hverifier, h.part]

end Met

end read

/-! ### Records (R361, R362) -/

section record
variable {s : State} {r : CmdRef} {kind len nonce : Nat} {d rest : List Byte} {part : Option Nat}

/-- A part of a list between what comes before and after it. -/
theorem take_drop_append {α : Type} {a b c : List α} {n m : Nat} (ha : a.length = n) (hb : b.length = m) :
    ((a ++ (b ++ c)).drop n).take m = b := by
  rw [List.drop_left' ha, List.take_left' hb]

/-- The partition's part of a record: zeros where the issuer is due none (R363). -/
def recordPart (s : State) (part : Option Nat) : List Byte := part.elim (leBytes 80 0) (partRecord s)

/-- A record's first four bytes (R361). -/
def recordHead (kind len : Nat) : List Byte := leBytes 1 1 ++ leBytes 1 kind ++ leBytes 2 len

/-- A record's nonce and the facts of the block (R361). -/
def recordFacts (nonce : Nat) (s : State) : List Byte := leBytes 32 nonce ++ manifest s

/-- A record's parameters of the block (R43, R44, R361). -/
def recordParams : List Byte := leBytes 4 gbParam0 ++ leBytes 4 gbParam1

/-- Bytes 0 to 383 of a record around its 240 free bytes (R361). -/
def evidenceRecord (kind len nonce : Nat) (d : List Byte) (part : Option Nat) (s : State) : List Byte :=
  recordHead kind len ++ (recordFacts nonce s ++ (d ++ (leBytes 8 s.now ++ (recordParams ++ recordPart s part))))

theorem evidenceBody_eq (kind len nonce : Nat) (part : Option Nat) (s : State) :
    ∃ d, d.length = 240 ∧
      evidenceBody kind len nonce part s = (evidenceRecord kind len nonce d part s, { s with fresh := s.fresh + 5 }) := by
  refine ⟨leBytes 48 (Config.freeHash s.fresh).toNat ++ (leBytes 48 (Config.freeHash (s.fresh + 1)).toNat ++
    (leBytes 48 (Config.freeHash (s.fresh + 2)).toNat ++ (leBytes 48 (Config.freeHash (s.fresh + 3)).toNat ++
      leBytes 48 (Config.freeHash (s.fresh + 4)).toNat))), by simp, ?_⟩
  cases part <;>
    simp [evidenceBody, State.drawBytes, evidenceRecord, recordHead, recordFacts, recordParams, recordPart, List.append_assoc]

@[simp] theorem length_manifest (s : State) : (manifest s).length = 12 := by simp [manifest]

@[simp] theorem length_partRecord (s : State) (q : Nat) : (partRecord s q).length = 80 := by simp [partRecord]

@[simp] theorem length_claimBytes (k : KeySlot) : (claimBytes k).length = 32 := by simp [claimBytes]

@[simp] theorem length_recordPart (s : State) (part : Option Nat) : (recordPart s part).length = 80 := by
  cases part <;> simp [recordPart]

@[simp] theorem length_recordHead (kind len : Nat) : (recordHead kind len).length = 4 := by simp [recordHead]

@[simp] theorem length_recordFacts (nonce : Nat) (s : State) : (recordFacts nonce s).length = 44 := by simp [recordFacts]

@[simp] theorem length_recordParams : recordParams.length = 8 := by simp [recordParams]

theorem length_evidenceRecord (hd : d.length = 240) : (evidenceRecord kind len nonce d part s).length = 384 := by
  simp [evidenceRecord, hd]

theorem Met.evidenceRecord_eq {op : Op} {p : Packet} {u : State} (h : Met op p s u) :
    evidenceRecord kind len nonce d part u = evidenceRecord kind len nonce d part s := by
  have hpart : recordPart u part = recordPart s part := by
    cases part with
    | none => rfl
    | some q => exact h.partRecord_eq q
  rw [evidenceRecord, recordFacts, h.manifest_eq, h.now, hpart, evidenceRecord, recordFacts]

/-- The fields of a record that no free value fills, at their offsets. -/
structure RecordFields (kind len nonce : Nat) (s : State) (bytes : List Byte) : Prop where
  head : bytes.take 4 = recordHead kind len
  facts : (bytes.drop 4).take 44 = recordFacts nonce s
  time : (bytes.drop 288).take 8 = leBytes 8 s.now

theorem recordFields (hd : d.length = 240) (rest : List Byte) :
    RecordFields kind len nonce s (evidenceRecord kind len nonce d part s ++ rest) := by
  have hhead : evidenceRecord kind len nonce d part s ++ rest = recordHead kind len ++ (recordFacts nonce s ++
      (d ++ (leBytes 8 s.now ++ (recordParams ++ (recordPart s part ++ rest))))) := by
    simp only [evidenceRecord, List.append_assoc]
  have htime : evidenceRecord kind len nonce d part s ++ rest = (recordHead kind len ++ (recordFacts nonce s ++ d)) ++
      (leBytes 8 s.now ++ (recordParams ++ (recordPart s part ++ rest))) := by
    simp only [evidenceRecord, List.append_assoc]
  refine ⟨?_, ?_, ?_⟩
  · rw [hhead, List.take_left' (length_recordHead kind len)]
  · rw [hhead, take_drop_append (length_recordHead kind len) (length_recordFacts nonce s)]
  · rw [htime, take_drop_append (by simp [hd]) (length_leBytes 8 _)]

/-- What follows byte 304 of a record begins with its partition's part. -/
theorem recordPart_of_drop {n : Nat} (hd : d.length = 240) {b c : List Byte} (hb : b.length = n) :
    ((evidenceRecord kind len nonce d part s ++ (b ++ c)).drop 304).take (80 + n) = recordPart s part ++ b := by
  have hpart : evidenceRecord kind len nonce d part s ++ (b ++ c) =
      (recordHead kind len ++ (recordFacts nonce s ++ (d ++ (leBytes 8 s.now ++ recordParams)))) ++ ((recordPart s part ++ b) ++ c) := by
    simp only [evidenceRecord, List.append_assoc]
  rw [hpart, take_drop_append (by simp [hd]) (by simp [hb])]

end record

/-! ### GET_EVIDENCE and KEY_CLAIM (R361 to R364) -/

section commands
variable {p : Packet} {s : State} {r : CmdRef} {addr kind q : Nat} {body : List Byte} {k : KeySlot}

/-- A record's signatures: free bytes (R362). -/
def signatureBytes (s : State) : List Byte := leBytes sigBytes (Config.freeNat s.fresh)

theorem length_signatureBytes (s : State) : (signatureBytes s).length = 4723 := length_leBytes sigBytes _

theorem putRecord_eq (r : CmdRef) (addr kind : Nat) (body : List Byte) (s : State) :
    putRecord r addr kind body s = complete r stOk (resultOf [(16, 2, body.length + sigBytes), (18, 1, kind)])
      (putOut r addr (body ++ signatureBytes s) { s with fresh := s.fresh + 1 }) := rfl

/-- A GET_EVIDENCE that no check refuses delivers its record. -/
theorem startGetEvidence_of_open (hname : pbit p 52 7 = true → r.src = .mgmt → namedRefusal s (pbits p 52 0 4) = none)
    (hcarve : srcIsCtx r.src = true → s.inCarve r.part (pf p 56 6) 5107 = true) :
    ∃ d, d.length = 240 ∧ startGetEvidence r p true s =
      putRecord r (pf p 56 6) 1 (evidenceRecord 1 384 (pf p 20 32) d (evidencePart s r p) s) { s with fresh := s.fresh + 5 } := by
  obtain ⟨d, hd, hbody⟩ := evidenceBody_eq 1 384 (pf p 20 32) (evidencePart s r p) s
  have hnone : (if pbit p 52 7 && r.src = .mgmt then namedRefusal s (pbits p 52 0 4) else none) = none := by
    split
    case isTrue h =>
      rw [Bool.and_eq_true, decide_eq_true_eq] at h
      exact hname h.1 h.2
    case isFalse => rfl
  have hout : outRefused s r (pf p 56 6) (384 + sigBytes) = false := outRefused_of_inCarve hcarve
  refine ⟨d, hd, ?_⟩
  rw [startGetEvidence, hnone, hbody]
  dsimp only
  rw [hout]
  rfl

/-- A KEY_CLAIM of a key that the issuer reaches delivers its record. -/
theorem startKeyClaim_of_held (hq : q = aboutPart r (pbits p 52 0 4))
    (hreach : ∀ x, s.session? r.src = some x → s.sessionReaches x q = true) (hk : s.key? q (pf p 54 2) = some k)
    (hcarve : srcIsCtx r.src = true → s.inCarve r.part (pf p 56 6) 5139 = true) :
    ∃ d, d.length = 240 ∧ startKeyClaim r p true s =
      putRecord r (pf p 56 6) 2 (evidenceRecord 2 416 (pf p 20 32) d (some q) s ++ claimBytes k) { s with fresh := s.fresh + 5 } := by
  obtain ⟨d, hd, hbody⟩ := evidenceBody_eq 2 416 (pf p 20 32) (some q) s
  have hout : outRefused s r (pf p 56 6) (416 + sigBytes) = false := outRefused_of_inCarve hcarve
  refine ⟨d, hd, ?_⟩
  unfold startKeyClaim
  rw [← hq]
  cases hx : s.session? r.src with
  | none => simp [hk, hout, hbody]
  | some x => simp [hreach x hx, hk, hout, hbody]

/-- A record delivered with its signatures. -/
theorem Met.deliversRecord {op : Op} {i : Instr} {u : State} {n len : Nat} (h : Met op p s u) (hp : passes op p s)
    (he : exec i s = settled s (putRecord (named op p s) addr kind body { u with fresh := n })) (hlen : body.length + 4723 = len)
    (hplace : srcIsCtx p.src = true → place s p.part addr len = .tier0 addr) :
    ∃ t sigs, exec i s = .next t ∧ (body ++ sigs).length = len ∧ Delivered p.src addr (body ++ sigs) t ∧
      Answered op p stOk (resultOf [(16, 2, len), (18, 1, kind)]) s t ∧ OnlyIn (.vs :: .fresh :: replyAreas) s t := by
  have hbytes : (body ++ signatureBytes { u with fresh := n }).length = len := by
    rw [List.length_append, length_signatureBytes, hlen]
  rw [putRecord_eq, show body.length + sigBytes = len from hlen] at he
  obtain ⟨t, ht, hout, hanswer, honly⟩ := h.delivers (n := n + 1) hp he (by rw [hbytes]; exact hplace)
  exact ⟨t, _, ht, hbytes, hout, hanswer, honly⟩

theorem exec_getEvidence (hc : s.calm) (hi : s.tests.injections = []) (hp : passes .getEvidence p s)
    (hname : pbit p 52 7 = true → p.src = .mgmt → namedRefusal s (pbits p 52 0 4) = none)
    (hctx : srcIsCtx p.src = true → s.inCarve p.part (pf p 56 6) 5107 = true ∧ place s p.part (pf p 56 6) 5107 = .tier0 (pf p 56 6)) :
    ∃ t d sigs bytes, exec (.getEvidence p true) s = .next t ∧ d.length = 240 ∧
      bytes = evidenceRecord 1 384 (pf p 20 32) d (evidencePart s (named .getEvidence p s) p) s ++ sigs ∧ bytes.length = 5107 ∧
      Delivered p.src (pf p 56 6) bytes t ∧ Answered .getEvidence p stOk (resultOf [(16, 2, 5107), (18, 1, 1)]) s t ∧
      OnlyIn (.vs :: .fresh :: replyAreas) s t := by
  obtain ⟨u, hu, hm⟩ := submit_met (.twins true) hc hp
  have htwins : startOf .getEvidence (named .getEvidence p s) p (.twins true) u =
      startGetEvidence (named .getEvidence p s) p true u := by
    rw [startOf, withTwins_uninjected (hm.injections hi)]
    rfl
  obtain ⟨d, hd, hstart⟩ := startGetEvidence_of_open (s := u) (r := named .getEvidence p s) (p := p)
    (fun hb hs => by rw [namedRefusal, hm.part]; exact hname hb hs) fun hs => (hm.inCarve_eq _ _ _).trans (hctx hs).1
  rw [hm.evidencePart_eq, hm.evidenceRecord_eq] at hstart
  obtain ⟨t, sigs, ht, hlen, hout, hanswer, honly⟩ := hm.deliversRecord (i := .getEvidence p true) hp
    (congrArg (settled s) (hu.trans (htwins.trans hstart))) (len := 5107) (by rw [length_evidenceRecord hd]) fun hs => (hctx hs).2
  exact ⟨t, d, sigs, _, ht, hd, rfl, hlen, hout, hanswer, honly⟩

theorem exec_keyClaim (hc : s.calm) (hi : s.tests.injections = []) (hp : passes .keyClaim p s)
    (hq : q = aboutPart (named .keyClaim p s) (pbits p 52 0 4))
    (hreach : ∀ x, s.session? p.src = some x → s.sessionReaches x q = true) (hk : s.key? q (pf p 54 2) = some k)
    (hctx : srcIsCtx p.src = true → s.inCarve p.part (pf p 56 6) 5139 = true ∧ place s p.part (pf p 56 6) 5139 = .tier0 (pf p 56 6)) :
    ∃ t d sigs bytes, exec (.keyClaim p true) s = .next t ∧ d.length = 240 ∧
      bytes = evidenceRecord 2 416 (pf p 20 32) d (some q) s ++ (claimBytes k ++ sigs) ∧ bytes.length = 5139 ∧
      Delivered p.src (pf p 56 6) bytes t ∧ Answered .keyClaim p stOk (resultOf [(16, 2, 5139), (18, 1, 2)]) s t ∧
      OnlyIn (.vs :: .fresh :: replyAreas) s t := by
  obtain ⟨u, hu, hm⟩ := submit_met (.twins true) hc hp
  have htwins : startOf .keyClaim (named .keyClaim p s) p (.twins true) u = startKeyClaim (named .keyClaim p s) p true u := by
    rw [startOf, withTwins_uninjected (hm.injections hi)]
    rfl
  obtain ⟨d, hd, hstart⟩ := startKeyClaim_of_held (s := u) (r := named .keyClaim p s) (p := p) hq (hm.sessionReaches hreach)
    (by rw [key?_congr hm.kp]; exact hk) fun hs => (hm.inCarve_eq _ _ _).trans (hctx hs).1
  rw [hm.evidenceRecord_eq] at hstart
  obtain ⟨t, sigs, ht, hlen, hout, hanswer, honly⟩ := hm.deliversRecord (i := .keyClaim p true) hp
    (congrArg (settled s) (hu.trans (htwins.trans hstart))) (len := 5139)
    (by rw [List.length_append, length_evidenceRecord hd, length_claimBytes]) fun hs => (hctx hs).2
  exact ⟨t, d, sigs, _, ht, hd, List.append_assoc .., hlen, hout, hanswer, honly⟩

/-! ### GET_CERTS and GET_MEASUREMENTS (R360, R364) -/

theorem putDocument_of_room {bytes : List Byte} (hroom : bytes.length ≤ pf p 30 4)
    (hcarve : srcIsCtx r.src = true → s.inCarve r.part (pf p 24 6) bytes.length = true) :
    putDocument r p bytes s = complete r stOk (resultOf [(16, 4, bytes.length)]) (putOut r (pf p 24 6) bytes s) := by
  rw [putDocument, if_neg (Nat.not_lt.mpr hroom), outRefused_of_inCarve hcarve]
  rfl

/-- A document of at most MAX_LEN bytes delivered. -/
theorem Met.deliversDocument {op : Op} {i : Instr} {u : State} {n : Nat} {bytes : List Byte} (h : Met op p s u) (hp : passes op p s)
    (he : exec i s = settled s (putDocument (named op p s) p bytes { u with fresh := n })) (hroom : bytes.length ≤ pf p 30 4)
    (hctx : srcIsCtx p.src = true →
      s.inCarve p.part (pf p 24 6) bytes.length = true ∧ place s p.part (pf p 24 6) bytes.length = .tier0 (pf p 24 6)) :
    ∃ t, exec i s = .next t ∧ Delivered p.src (pf p 24 6) bytes t ∧ Answered op p stOk (resultOf [(16, 4, bytes.length)]) s t ∧
      OnlyIn (.vs :: .fresh :: replyAreas) s t := by
  have hcarve (hs : srcIsCtx p.src = true) :
      State.inCarve { u with fresh := n } p.part (pf p 24 6) bytes.length = true := by
    rw [inCarve_congr (u := { u with fresh := n }) (s := u) rfl rfl rfl, h.inCarve_eq]
    exact (hctx hs).1
  rw [putDocument_of_room hroom hcarve] at he
  exact h.delivers hp he fun hs => (hctx hs).2

/-- A chain is 0 to 32,768 free bytes (R360). -/
theorem startGetCerts_eq (r : CmdRef) (p : Packet) (s : State) :
    ∃ bytes, bytes.length ≤ 32768 ∧ startGetCerts r p s = putDocument r p bytes { s with fresh := s.fresh + 2 } := by
  refine ⟨leBytes (Config.freeNat s.fresh % 32769) (Config.freeNat (s.fresh + 1)), ?_, by rw [startGetCerts]; rfl⟩
  rw [length_leBytes]
  exact Nat.le_of_lt_succ (Nat.mod_lt _ (Nat.succ_pos 32768))

theorem exec_getCerts (hc : s.calm) (hp : passes .getCerts p s) (hroom : 32768 ≤ pf p 30 4)
    (hctx : ∀ n, n ≤ 32768 → srcIsCtx p.src = true →
      s.inCarve p.part (pf p 24 6) n = true ∧ place s p.part (pf p 24 6) n = .tier0 (pf p 24 6)) :
    ∃ t bytes, exec (.getCerts p) s = .next t ∧ bytes.length ≤ 32768 ∧ Delivered p.src (pf p 24 6) bytes t ∧
      Answered .getCerts p stOk (resultOf [(16, 4, bytes.length)]) s t ∧ OnlyIn (.vs :: .fresh :: replyAreas) s t := by
  obtain ⟨u, hu, hm⟩ := submit_met .none hc hp
  obtain ⟨bytes, hlen, hstart⟩ := startGetCerts_eq (named .getCerts p s) p u
  obtain ⟨t, ht, hout, hanswer, honly⟩ := hm.deliversDocument (i := .getCerts p) hp (congrArg (settled s) (hu.trans hstart))
    (hlen.trans hroom) (hctx _ hlen)
  exact ⟨t, bytes, ht, hlen, hout, hanswer, honly⟩

/-- A measurement block around its value (R360). -/
def measurement (k : Nat) (d : List Byte) (s : State) : List Byte :=
  leBytes 1 k ++ leBytes 1 1 ++ leBytes 2 ((measureValue k d s).2.length + 3) ++ leBytes 1 (measureValue k d s).1 ++
    leBytes 2 (measureValue k d s).2.length ++ (measureValue k d s).2

/-- A block draws its digest, and reads nothing that draws change. -/
theorem measureBlock_eq (k n : Nat) (s : State) :
    ∃ d, d.length = 48 ∧ measureBlock k { s with fresh := n } = (measurement k d s, { s with fresh := n + 1 }) :=
  ⟨_, length_leBytes 48 _, rfl⟩

theorem length_measureValue_le {d : List Byte} (hd : d.length = 48) (k : Nat) (s : State) : (measureValue k d s).2.length ≤ 48 := by
  have height : (leBytes 4 gbParam0 ++ leBytes 4 gbParam1).length ≤ 48 := by simp
  match k with
  | 0 => exact height
  | 1 | 2 | 3 => exact hd.le
  | 4 | 5 | 6 => simp [measureValue]
  | _ + 7 => exact height

theorem length_measurement {d : List Byte} (hd : d.length = 48) (k : Nat) (s : State) :
    7 ≤ (measurement k d s).length ∧ (measurement k d s).length ≤ 55 := by
  have hvalue := length_measureValue_le hd k s
  simp only [measurement, List.length_append, length_leBytes]
  omega

/-- The indices that a GET_MEASUREMENTS asks for: one, or all seven (R360). -/
def measured (i : Nat) : List Nat := if i = 0xFF then [1, 2, 3, 4, 5, 6, 7] else [i]

/-- GET_MEASUREMENTS appends the blocks one after the other. -/
def appendBlock (a : List Byte × State) (k : Nat) : List Byte × State :=
  (a.1 ++ (measureBlock k a.2).1, (measureBlock k a.2).2)

theorem startGetMeasurements_eq (r : CmdRef) (p : Packet) (s : State) :
    startGetMeasurements r p s = putDocument r p ((measured (pf p 20 1)).foldl appendBlock ([], s)).1
      ((measured (pf p 20 1)).foldl appendBlock ([], s)).2 := rfl

/-- Each index has its own digest. -/
theorem measureBlocks_eq (l : List Nat) (hl : l.Nodup) (acc : List Byte) (n : Nat) (s : State) :
    ∃ d : Nat → List Byte, (∀ k, (d k).length = 48) ∧
      l.foldl appendBlock (acc, { s with fresh := n }) =
        (acc ++ l.flatMap (fun k => measurement k (d k) s), { s with fresh := n + l.length }) := by
  induction l generalizing acc n with
  | nil => exact ⟨fun _ => leBytes 48 0, fun _ => length_leBytes 48 0, by simp⟩
  | cons k l ih =>
    obtain ⟨hk, hl⟩ := List.nodup_cons.mp hl
    obtain ⟨x, hx, hblock⟩ := measureBlock_eq k n s
    obtain ⟨d, hd, hrest⟩ := ih hl (acc ++ measurement k x s) (n + 1)
    refine ⟨Function.update d k x, fun j => ?_, ?_⟩
    · by_cases hj : j = k
      · rw [hj, Function.update_self, hx]
      · rw [Function.update_of_ne hj, hd]
    · have hothers : l.flatMap (fun j => measurement j (Function.update d k x j) s) = l.flatMap fun j => measurement j (d j) s :=
        List.flatMap_congr fun j hj => by
          have hne : j ≠ k := fun h => hk (h ▸ hj)
          rw [Function.update_of_ne hne]
      rw [List.foldl_cons, appendBlock, hblock, hrest, List.flatMap_cons, hothers, Function.update_self, List.append_assoc,
        List.length_cons, Nat.add_assoc, Nat.add_comm 1]

theorem nodup_measured (i : Nat) : (measured i).Nodup := by
  unfold measured
  split
  · decide
  · exact List.nodup_singleton i

/-- Seven blocks take at most 512 bytes, and there is one at least. -/
theorem length_measured {d : Nat → List Byte} (hd : ∀ k, (d k).length = 48) (i : Nat) (s : State) :
    (measured i).flatMap (fun k => measurement k (d k) s) ≠ [] ∧
      ((measured i).flatMap fun k => measurement k (d k) s).length ≤ 512 := by
  have hlen := fun k => length_measurement (hd k) k s
  rw [← List.length_pos_iff]
  unfold measured
  split
  · have h1 := hlen 1
    have h2 := hlen 2
    have h3 := hlen 3
    have h4 := hlen 4
    have h5 := hlen 5
    have h6 := hlen 6
    have h7 := hlen 7
    simp only [List.flatMap_cons, List.flatMap_nil, List.length_append, List.length_nil]
    omega
  · have h := hlen i
    rw [List.flatMap_singleton]
    omega

theorem exec_getMeasurements (hc : s.calm) (hp : passes .getMeasurements p s) (hroom : 512 ≤ pf p 30 4)
    (hctx : ∀ n, n ≤ 512 → srcIsCtx p.src = true →
      s.inCarve p.part (pf p 24 6) n = true ∧ place s p.part (pf p 24 6) n = .tier0 (pf p 24 6)) :
    ∃ (t : State) (bytes : List Byte) (d : Nat → List Byte), exec (.getMeasurements p) s = .next t ∧ (∀ k, (d k).length = 48) ∧
      bytes = (measured (pf p 20 1)).flatMap (fun k => measurement k (d k) s) ∧ bytes ≠ [] ∧ Delivered p.src (pf p 24 6) bytes t ∧
      Answered .getMeasurements p stOk (resultOf [(16, 4, bytes.length)]) s t ∧ OnlyIn (.vs :: .fresh :: replyAreas) s t := by
  obtain ⟨u, hu, hm⟩ := submit_met .none hc hp
  obtain ⟨d, hd, hblocks⟩ := measureBlocks_eq (measured (pf p 20 1)) (nodup_measured _) [] u.fresh u
  have hbytes : (measured (pf p 20 1)).flatMap (fun k => measurement k (d k) u) =
      (measured (pf p 20 1)).flatMap fun k => measurement k (d k) s :=
    List.flatMap_congr fun k _ => by rw [measurement, hm.measureValue_eq, measurement]
  rw [List.nil_append, hbytes] at hblocks
  have hstart := startGetMeasurements_eq (named .getMeasurements p s) p u
  rw [hblocks] at hstart
  obtain ⟨hne, hlen⟩ := length_measured hd (pf p 20 1) s
  obtain ⟨t, ht, hout, hanswer, honly⟩ := hm.deliversDocument (i := .getMeasurements p) hp (congrArg (settled s) (hu.trans hstart))
    (hlen.trans hroom) (hctx _ hlen)
  exact ⟨t, _, d, ht, hd, rfl, hne, hout, hanswer, honly⟩

end commands

/-- Settles O32: a record's fields stand at their offsets around its free bytes; each document goes where its issuer has its output. -/
theorem evidenceIsDelivered : Obligations.EvidenceIsDelivered := by
  unfold Obligations.EvidenceIsDelivered
  refine ⟨?evidence, ?claim, ?certs, ?measurements⟩
  case evidence =>
    intro p s hc hi hp hname hctx
    obtain ⟨t, d, sigs, bytes, ht, hd, hbytes, hlen, ⟨hcarve, hbus, hsession⟩, hanswer, honly⟩ :=
      exec_getEvidence hc hi hp hname hctx
    have hne : bytes ≠ [] := List.ne_nil_of_length_pos (by omega)
    have hfields : RecordFields 1 384 (pf p 20 32) s bytes := hbytes ▸ recordFields hd sigs
    have hpart := recordPart_of_drop (kind := 1) (len := 384) (nonce := pf p 20 32) (s := s)
      (part := evidencePart s (named .getEvidence p s) p) hd (b := []) (c := sigs) rfl
    rw [List.nil_append, ← hbytes, List.append_nil] at hpart
    exact ⟨t, bytes, ht, hlen, hfields.head, hfields.facts, hfields.time, hpart, fun hs => hcarve hs hne, hbus, hsession, hanswer,
      honly⟩
  case claim =>
    intro p s q k hc hi hp hq hreach hk hctx
    obtain ⟨t, d, sigs, bytes, ht, hd, hbytes, hlen, ⟨hcarve, hbus, hsession⟩, hanswer, honly⟩ :=
      exec_keyClaim hc hi hp hq hreach hk hctx
    have hne : bytes ≠ [] := List.ne_nil_of_length_pos (by omega)
    have hfields : RecordFields 2 416 (pf p 20 32) s bytes := hbytes ▸ recordFields hd _
    have hpart := recordPart_of_drop (kind := 2) (len := 416) (nonce := pf p 20 32) (s := s) (part := some q) hd (c := sigs)
      (length_claimBytes k)
    rw [← hbytes] at hpart
    exact ⟨t, bytes, ht, hlen, hfields.head, hfields.facts, hpart, fun hs => hcarve hs hne, hbus, hsession, hanswer, honly⟩
  case certs =>
    intro p s hc hp hroom hctx
    obtain ⟨t, bytes, ht, hlen, ⟨hcarve, hbus, hsession⟩, hanswer, honly⟩ := exec_getCerts hc hp hroom hctx
    exact ⟨t, bytes, ht, hlen, hcarve, hbus, hsession, hanswer, honly⟩
  case measurements =>
    intro p s hc hp hroom hctx
    obtain ⟨t, bytes, d, ht, hd, hbytes, hne, ⟨hcarve, hbus, hsession⟩, hanswer, honly⟩ := exec_getMeasurements hc hp hroom hctx
    exact ⟨t, bytes, d, ht, hd, hbytes, fun hs => hcarve hs hne, hbus, hsession, hanswer, honly⟩

end Sys2Proof.Machine
end

section
/-! PROOFS. DOE, SPDM and the packets of verifier sessions (11 R365 to R368, R373, R384, R385): each row's answer is new registers of
Vestibule and one message. -/

namespace Sys2Proof.Machine

section
variable {s : State}

/-! ### Answers -/

/-- A row that gives Vestibule new registers and sends is answered by just that. -/
theorem settled_withVsOut {u : State} {x : Vestibule} {o : List Output} (hc : s.calm)
    (hu : u = { s with vs := x, out := o }) (hx : x.stopping = s.vs.stopping) :
    ∃ t, settled s u = .next t ∧ t.out = o ∧ t.vs = x ∧ OnlyIn [.vs, .out] s t := by
  subst hu
  have hquiet : Quiet s { s with vs := x, out := o } := ⟨rfl, rfl, rfl, rfl, hx, rfl, rfl, rfl, rfl, fun _ h => .inl h, id, rfl⟩
  refine ⟨_, settled_quiet hc hquiet rfl, rfl, rfl, fun g hg => ?_⟩
  cases g with
  | vs => exact absurd (by simp) hg
  | out => exact absurd (by simp) hg
  | _ => rfl

/-- A row that only sends is answered by what it sends. -/
theorem settled_emit {u : State} {o : Output} (hc : s.calm) (hu : u = s.emit o) :
    ∃ t, settled s u = .next t ∧ t.out = o :: s.out ∧ OnlyIn [.out] s t :=
  ⟨_, (congrArg (settled s) hu).trans (settled_quiet hc (quiet_emit s o) rfl), rfl, only_emit s o⟩

/-- An SPDM response that is no ERROR. -/
theorem settled_spdmOk {u : State} {x : Vestibule} (hc : s.calm) (hu : u = spdmOk { s with vs := x })
    (hx : x.stopping = s.vs.stopping) :
    ∃ t, settled s u = .next t ∧ t.out = .spdm 0 :: s.out ∧ t.vs = x ∧ OnlyIn [.vs, .out] s t := settled_withVsOut hc hu hx

/-- An SPDM ERROR is sent and counted (R385). -/
theorem settled_spdmError {u : State} {code : Nat} (hc : s.calm) (hu : u = spdmError code s) :
    ∃ t, settled s u = .next t ∧ t.out = .spdm code :: s.out ∧ t.vs = { s.vs with errors := bump 255 s.vs.errors } ∧
      OnlyIn [.vs, .out] s t := settled_withVsOut hc hu rfl

/-- A request is answered OK at its phase of the negotiation, and UnexpectedRequest out of order (R373). -/
theorem settled_inOrder {u : State} {need : Nat} {x : Vestibule} (hc : s.calm)
    (hu : u = if s.vs.spdmPhase ≠ need then spdmError eUnexpected s else spdmOk { s with vs := x })
    (hx : x.stopping = s.vs.stopping) :
    ∃ t, settled s u = .next t ∧ (s.vs.spdmPhase = need → t.out = .spdm 0 :: s.out ∧ t.vs = x) ∧
      (s.vs.spdmPhase ≠ need → t.out = .spdm eUnexpected :: s.out ∧ t.vs = { s.vs with errors := bump 255 s.vs.errors }) ∧
      OnlyIn [.vs, .out] s t := by
  by_cases h : s.vs.spdmPhase = need
  · obtain ⟨t, ht, hout, hvs, honly⟩ := settled_spdmOk hc (hu.trans (if_neg (not_not.mpr h))) hx
    exact ⟨t, ht, fun _ => ⟨hout, hvs⟩, fun hne => absurd h hne, honly⟩
  · obtain ⟨t, ht, hout, hvs, honly⟩ := settled_spdmError hc (hu.trans (if_pos h))
    exact ⟨t, ht, fun he => absurd he h, fun _ => ⟨hout, hvs⟩, honly⟩

/-! ### Sessions (R366, R373) -/

/-- Vestibule's registers with these sessions open. -/
def Vestibule.withSessions (v : Vestibule) (l : List Session) : Vestibule := { v with sessions := l }

theorem sessionError_of_open {id : Nat} (hne : id ≠ 0) (hopen : s.vs.sessions.any (fun x => x.id = id) = true) :
    sessionError s id = none := by
  rw [sessionError, if_neg hne, if_pos hopen]

theorem spdmSession_of_open {id : Nat} (hne : id ≠ 0) (hopen : s.vs.sessions.any (fun x => x.id = id) = true) (f : State → State) :
    spdmSession id f s = f s := by
  rw [spdmSession, sessionError_of_open hne hopen]

theorem any_sessions_of_mem {x : Session} (hx : x ∈ s.vs.sessions) : s.vs.sessions.any (fun y => y.id = x.id) = true :=
  List.any_eq_true.mpr ⟨x, hx, decide_eq_true rfl⟩

/-! ### SPDM requests of a block that is READY (R366, R472) -/

section ready
variable (hu : s.up = true) (hk : s.kp.ready = true) (hl : s.fuses.lc ≠ .endOfLife)
include hu hk hl

theorem spdmRequest_negotiateAlgorithms : spdmRequest .negotiateAlgorithms s = spdmPhase 2 3 s := by
  simp [spdmRequest, hu, hk, hl]

theorem spdmRequest_unsupported : spdmRequest .unsupported s = spdmError eUnsupported s := by
  simp [spdmRequest, hu, hk, hl]

/-- What is asked for after the negotiation and outside sessions. -/
theorem spdmRequest_negotiated {q : SpdmReq} (hq : q ∈ [SpdmReq.getDigests, .getCertificate 0, .challenge, .getMeasurements]) :
    spdmRequest q s = spdmAfter spdmOk s := by
  simp only [List.mem_cons, List.not_mem_nil, or_false] at hq
  rcases hq with rfl | rfl | rfl | rfl <;> simp [spdmRequest, hu, hk, hl]

theorem spdmRequest_keyUpdate (id : Nat) : spdmRequest (.keyUpdate id) s = spdmSession id spdmOk s := by
  simp [spdmRequest, hu, hk, hl]

theorem spdmRequest_heartbeat (id : Nat) : spdmRequest (.heartbeat id) s = spdmSession id spdmOk s := by
  simp [spdmRequest, hu, hk, hl]

theorem spdmRequest_endSession (id : Nat) :
    spdmRequest (.endSession id) s = spdmSession id (fun t => spdmOk (endSession id t)) s := by
  simp [spdmRequest, hu, hk, hl]

theorem spdmRequest_aeadFailure (id : Nat) : spdmRequest (.aeadFailure id) s = spdmError eDecrypt (endSession id s) := by
  simp [spdmRequest, hu, hk, hl]

/-- A new session joins while fewer than 32 are open (R366, R373). -/
theorem spdmSessionEstablish_of_new {id : Nat} (hne : id ≠ 0) (hp : s.vs.spdmPhase = 3) (hnew : ∀ x, x ∈ s.vs.sessions → x.id ≠ id)
    (mutualAuth : Bool) (leaf : Hash) :
    spdmSessionEstablish id mutualAuth true leaf s =
      if 32 ≤ s.vs.sessions.length then spdmError eSessionLimit s
      else spdmOk { s with
        vs := s.vs.withSessions (s.vs.sessions ++ [⟨id, false, mutualAuth, if mutualAuth then leaf else 0, 0⟩]) } := by
  have hnone : s.vs.sessions.any (fun x => x.id = id) = false := by simpa using hnew
  rw [spdmSessionEstablish, if_neg (by simp [hu]), if_neg (by simp [hk, hl]), if_neg (not_not.mpr hp)]
  split
  · rfl
  · rw [if_neg (by simp [hne, hnone])]
    rfl

end ready

/-! ### Packets of verifier sessions (R368, R373) -/

section vendor
variable {id len : Nat} {w : RawPacket} (hu : s.up = true) (hopen : s.vs.sessions.any (fun x => x.id = id) = true)
include hu hopen

theorem vendorDefinedRequest_of_open (hne : id ≠ 0) (hv : ∀ x, x ∈ s.vs.sessions → x.id = id → x.tsm = false) :
    vendorDefinedRequest id true len w s =
      if len = vendorLen w then submitRaw { w with pkt := { w.pkt with src := .session id } } s else spdmError eInvalid s := by
  have htsm : (s.vs.sessions.find? (fun x => x.id = id)).any (fun x => x.tsm) = false := by
    cases hf : s.vs.sessions.find? (fun x => x.id = id) with
    | none => rfl
    | some x => exact hv x (List.mem_of_find?_eq_some hf) (by simpa using List.find?_some hf)
  unfold vendorDefinedRequest
  rw [if_neg (by simp [hu]), sessionError_of_open hne hopen]
  dsimp only
  rw [htsm, if_neg Bool.false_ne_true]
  by_cases hlen : len = vendorLen w
  · rw [if_pos hlen, if_neg (by simp [hlen])]
  · rw [if_neg hlen, if_pos (by simp [hlen])]

/-- A packet of a session whose FMT is not 1 is answered at once, whatever its CLASS and OPCODE (R56, R71). -/
theorem submitRaw_of_badFormat (hf : w.pkt.fmt ≠ 1) :
    ∃ rep : Reply, submitRaw { w with pkt := { w.pkt with src := .session id } } s = s.emit (.vendorResponse id rep) ∧
      rep.status = stMalformed ∧ rep.result = detailOf 3 ∧ rep.seq = w.pkt.seq := by
  have hanswer : ∀ r : CmdRef, r.src = .session id → refuseCmd r (stMalformed, 3) s =
      s.emit (.vendorResponse id (replyOf r stMalformed false (detailOf 3) s)) := fun r hr => by
    rw [refuseCmd, hr]
    exact if_pos hopen
  cases hop : opOf w.cls w.opcode with
  | some op =>
    refine ⟨replyOf (refOf op { w.pkt with src := .session id } s) stMalformed false (detailOf 3) s, ?_, rfl, rfl, rfl⟩
    rw [← hanswer _ rfl, submitRaw]
    dsimp only
    rw [hop]
    dsimp only
    rw [submit, if_neg (by simp [hu])]
    dsimp only
    rw [if_pos (show heard (.session id) s = true from hopen), checkCmd, earlyRefusal, if_pos hf]
  | none =>
    refine ⟨replyOf { refOf .send { w.pkt with src := .session id } s with cls := w.cls, op := w.opcode } stMalformed false
      (detailOf 3) s, ?_, rfl, rfl, rfl⟩
    rw [← hanswer _ rfl, submitRaw]
    dsimp only
    rw [hop]
    dsimp only
    rw [if_neg (by simp [hu, heard, hopen]), if_pos hf]

end vendor

end

/-- Settles O58: a request is answered by one message beside Vestibule's registers; what a row does before its answer is read off its
conditions. -/
theorem doeAndSpdmAreAnswered : Obligations.DoeAndSpdmAreAnswered := by
  unfold Obligations.DoeAndSpdmAreAnswered
  refine ⟨fun i s hc hu => ?discovery, fun s hc hu => ⟨?version, ?capabilities, fun hk hl => ?ready⟩, fun id s hc hu => ?heartbeat,
    fun id w s hc hu hne hopen hv => ?vendor⟩
  case discovery => exact settled_emit hc (if_neg (by simp [hu]))
  case version => exact settled_spdmOk (x := { s.vs with spdmPhase := 1 }) hc (by simp [spdmRequest, hu]) rfl
  case capabilities =>
    exact settled_inOrder (x := { s.vs with spdmPhase := 2 }) hc (by simp [spdmRequest, hu, spdmPhase]) rfl
  case ready =>
    refine ⟨settled_inOrder (x := { s.vs with spdmPhase := 3 }) hc (spdmRequest_negotiateAlgorithms hu hk hl) rfl,
      fun q hq => settled_inOrder (x := s.vs) hc (spdmRequest_negotiated hu hk hl hq) rfl,
      settled_spdmError hc (spdmRequest_unsupported hu hk hl), fun id mutualAuth leaf hne hp hnew => ?establish,
      fun id x hne hx hid => ?session⟩
    case establish =>
      have hrow := spdmSessionEstablish_of_new hu hk hl hne hp hnew mutualAuth leaf
      by_cases hfull : 32 ≤ s.vs.sessions.length
      · obtain ⟨t, ht, hout, hvs, honly⟩ := settled_spdmError hc (hrow.trans (if_pos hfull))
        exact ⟨t, ht, fun hlt => absurd hfull (Nat.not_le.mpr hlt), fun _ => ⟨hout, hvs⟩, honly⟩
      · obtain ⟨t, ht, hout, hvs, honly⟩ := settled_spdmOk hc (hrow.trans (if_neg hfull)) rfl
        exact ⟨t, ht, fun _ => ⟨hout, hvs⟩, fun hle => absurd hle hfull, honly⟩
    case session =>
      have hopen := any_sessions_of_mem hx
      rw [hid] at hopen
      have hserved := spdmSession_of_open hne hopen
      refine ⟨settled_emit hc ((spdmRequest_keyUpdate hu hk hl id).trans (hserved _)),
        settled_emit hc ((spdmRequest_heartbeat hu hk hl id).trans (hserved _)),
        settled_spdmOk (x := s.vs.withSessions _) hc ((spdmRequest_endSession hu hk hl id).trans (hserved _)) rfl, ?_⟩
      obtain ⟨t, ht, hout, hvs, honly⟩ := settled_withVsOut (x := (countSpdm (endSession id s)).vs) hc
        (spdmRequest_aeadFailure hu hk hl id) rfl
      exact ⟨t, ht, hout, congrArg Vestibule.sessions hvs, honly⟩
  case heartbeat =>
    have hrow : spdmHeartbeatTimeout id s = endSession id s := if_pos hu
    exact ⟨_, (congrArg (settled s) hrow).trans (settled_quiet hc (quiet_withVs s rfl) rfl), rfl, only_withVs s _⟩
  case vendor =>
    have hrow : ∀ n, vendorDefinedRequest id true n w s =
        if n = vendorLen w then submitRaw { w with pkt := { w.pkt with src := .session id } } s else spdmError eInvalid s :=
      fun n => vendorDefinedRequest_of_open hu hopen hne hv
    refine ⟨fun op hop => ?submitted, fun hf => ?format, fun n hn => settled_spdmError hc ((hrow n).trans (if_neg hn))⟩
    case submitted =>
      have hraw : submitRaw { w with pkt := { w.pkt with src := .session id } } s =
          submit op { w.pkt with src := .session id } w.aux s := by
        rw [submitRaw]
        dsimp only
        rw [hop]
      have hsame := congrArg (settled s) (((hrow _).trans (if_pos rfl)).trans hraw)
      exact ⟨_, hsame, rfl⟩
    case format =>
      obtain ⟨rep, hraw, hst, hresult, hseq⟩ := submitRaw_of_badFormat hu hopen hf
      obtain ⟨t, ht, hout, honly⟩ := settled_emit hc (((hrow _).trans (if_pos rfl)).trans hraw)
      exact ⟨t, rep, ht, hst, hresult, hseq, hout, honly⟩

end Sys2Proof.Machine
end

section
/-! PROOFS. Messages of the TSM (11 R367, R369, R370, R372): whichever session they make the TSM's, the row is their effect on the block
with these sessions. -/

namespace Sys2Proof.Machine

/-- The block with these sessions open. -/
def State.withSessions (s : State) (l : List Session) : State := { s with vs := s.vs.withSessions l }

@[simp] theorem part_withSessions (s : State) (l : List Session) (p : Nat) : (s.withSessions l).part p = s.part p := rfl

@[simp] theorem stream_withSessions (s : State) (l : List Session) (n : Nat) : (s.withSessions l).stream n = s.stream n := rfl

/-- Session `id` may send messages of the TSM: it is open, and no other session is the TSM's (R367). -/
structure TsmMay (id : Nat) (s : State) : Prop where
  up : s.up = true
  ne : id ≠ 0
  isOpen : s.vs.sessions.any (fun x => x.id = id) = true
  alone : ∀ x, x ∈ s.vs.sessions → x.tsm = true → x.id = id

/-- Session `id` is among these as the TSM's. -/
def tsmAmong (id : Nat) (l : List Session) : Prop := l.any (fun x => x.id = id && x.tsm) = true

section
variable {s u : State} {id tdi : Nat}

theorem any_marked (hopen : s.vs.sessions.any (fun x => x.id = id) = true) :
    tsmAmong id (s.vs.sessions.map (fun x => if x.id = id then { x with tsm := true } else x)) := by
  obtain ⟨x, hx, hid⟩ := List.any_eq_true.mp hopen
  refine List.any_eq_true.mpr ⟨_, List.mem_map_of_mem hx, ?_⟩
  rw [if_pos (of_decide_eq_true hid), hid]
  rfl

/-- The session of a message of the TSM is the TSM's from then on. -/
theorem TsmMay.onTsm_eq (h : TsmMay id s) : ∃ l, tsmAmong id l ∧ ∀ f, onTsm id f s = f (s.withSessions l) := by
  have hup : ∀ f, onTsm id f s = match tsmGate id s with | .error e => spdmError e s | .ok t => f t :=
    fun f => if_neg (by simp [h.up])
  cases hf : s.vs.sessions.find? (fun x => x.tsm) with
  | some x =>
    have hx := List.mem_of_find?_eq_some hf
    have htsm : x.tsm = true := by simpa using List.find?_some hf
    have hid := h.alone x hx htsm
    refine ⟨s.vs.sessions, List.any_eq_true.mpr ⟨x, hx, by simp [hid, htsm]⟩, fun f => ?_⟩
    rw [hup, tsmGate, sessionError_of_open h.ne h.isOpen]
    dsimp only
    rw [hf]
    dsimp only
    rw [if_pos hid]
    rfl
  | none =>
    refine ⟨_, any_marked h.isOpen, fun f => ?_⟩
    rw [hup, tsmGate, sessionError_of_open h.ne h.isOpen]
    dsimp only
    rw [hf]
    rfl

/-- A message of the TSM that gives Vestibule new registers and sends is answered by just that. -/
theorem TsmMay.answers (h : TsmMay id s) (hc : s.calm) {f : State → State} {x : Vestibule → Vestibule} {o : List Output}
    (hf : ∀ l, f (s.withSessions l) = { s with vs := x (s.vs.withSessions l), out := o })
    (hx : ∀ v, (x v).sessions = v.sessions ∧ (x v).stopping = v.stopping) :
    ∃ t, settled s (onTsm id f s) = .next t ∧ t.out = o ∧ (∃ l, t.vs = x (s.vs.withSessions l)) ∧
      tsmAmong id t.vs.sessions ∧ OnlyIn [.vs, .out] s t := by
  obtain ⟨l, hl, hrow⟩ := h.onTsm_eq
  obtain ⟨t, ht, hout, hvs, honly⟩ := settled_withVsOut hc ((hrow f).trans (hf l)) (hx _).2
  exact ⟨t, ht, hout, ⟨l, hvs⟩, by rw [hvs, (hx _).1]; exact hl, honly⟩

/-- A row with effect `u` is answered by what leaves, and changes beside that only Vestibule's registers, where session `id` is the
TSM's. -/
def TsmAnswered (id : Nat) (o : List Output) (s u : State) : Prop :=
  ∃ t, settled s u = .next t ∧ t.out = o ∧ tsmAmong id t.vs.sessions ∧ OnlyIn [.vs, .out] s t

/-- A message of the TSM that is only answered. -/
theorem TsmMay.sends (h : TsmMay id s) (hc : s.calm) {f : State → State} {o : List Output}
    (hf : ∀ l, f (s.withSessions l) = { s.withSessions l with out := o }) : TsmAnswered id o s (onTsm id f s) := by
  obtain ⟨t, ht, hout, -, htsm, honly⟩ := h.answers hc (x := fun v => v) hf fun _ => ⟨rfl, rfl⟩
  exact ⟨t, ht, hout, htsm, honly⟩

end

end Sys2Proof.Machine
end

section
/-! PROOFS. IDE streams (11 R369, 18 R554): what the messages of IDE_KM and a check failure make of their stream and of the TDIs bound
to it. -/

namespace Sys2Proof.Machine

section
variable {s t u : State} {n m : Nat}

/-! ### Streams -/

theorem stream_congr (h : t.vs.streams = s.vs.streams) (n : Nat) : t.stream n = s.stream n := by rw [State.stream, h, State.stream]

theorem stream_modStream_self (h : n < s.vs.streams.length) (f : IdeStream → IdeStream) :
    (s.modStream n f).stream n = f (s.stream n) := by
  simp [State.stream, State.modStream, h]

theorem stream_modStream_of_ne (h : m ≠ n) (f : IdeStream → IdeStream) : (s.modStream n f).stream m = s.stream m := by
  simp [State.stream, State.modStream, Ne.symm h]

/-- A stream in the insecure state. -/
def IdeStream.insecure (x : IdeStream) : IdeStream := { x with secure := false, going := [] }

/-- A stream with the keys of a sub-stream and key set. -/
def IdeStream.keyed (k : Nat × Nat) (streamId : Nat) (tee pcrc : Bool) (x : IdeStream) : IdeStream :=
  { x with keys := if x.keys.contains k then x.keys else x.keys ++ [k], streamId := streamId % 256, tee := tee, pcrc := pcrc }

/-- A stream whose sub-stream runs on a key set. -/
def IdeStream.running (sub keySet : Nat) (x : IdeStream) : IdeStream :=
  let going := if x.going.contains sub then x.going else x.going ++ [sub]
  { x with going := going, keySet := keySet, secure := x.secure || going.length = 3 }

/-- A stream whose keys of a sub-stream and key set are withdrawn. -/
def IdeStream.unkeyed (k : Nat × Nat) (x : IdeStream) : IdeStream := { x with keys := x.keys.filter (fun e => e ≠ k) }

/-- A stream with one more failed check. -/
def IdeStream.failedOnce (x : IdeStream) : IdeStream := { x with fails := bump 255 x.fails }

theorem mem_keys_keyed (k : Nat × Nat) (streamId : Nat) (tee pcrc : Bool) (x : IdeStream) : k ∈ (x.keyed k streamId tee pcrc).keys := by
  unfold IdeStream.keyed
  dsimp only
  split
  case isTrue h => exact List.contains_iff_mem.mp h
  case isFalse => exact List.mem_append_right _ List.mem_cons_self

theorem mem_going_running (sub keySet : Nat) (x : IdeStream) : sub ∈ (x.running sub keySet).going := by
  unfold IdeStream.running
  dsimp only
  split
  case isTrue h => exact List.contains_iff_mem.mp h
  case isFalse => exact List.mem_append_right _ List.mem_cons_self

/-! ### Channels that a stream's or a TDI's end empties (R554) -/

/-- In a calm block mailboxes may empty and their messages leave beside a row's effect. -/
theorem Notified.settles {v : State} (h : Notified v u) (hv : v.calm) : settled s u = .next { u with pending := s.pending } :=
  settled_calm (h.reported.marked.calm hv)

theorem notified_linkIdeLost (s : State) : Notified s (linkIdeLost s) :=
  List.foldlRecOn (motive := fun u => Notified s u) _ _ (.refl s) fun u hu c _ => hu.trans (by
    split
    · exact notified_emptyChannel c u
    · exact .refl u)

/-- A stream that becomes insecure may empty the channels that only it reaches. -/
theorem streamInsecure_notifies (n : Nat) (s : State) : Notified (s.modStream n IdeStream.insecure) (streamInsecure n s) := by
  unfold streamInsecure
  dsimp only
  split
  · exact notified_linkIdeLost _
  · exact .refl _

theorem streamInsecure_of_ne_zero (h : n ≠ 0) (s : State) : streamInsecure n s = s.modStream n IdeStream.insecure :=
  if_neg (by simp [h])

end

/-! ### Messages of IDE_KM -/

section km
variable {s : State} {id stream sub keySet : Nat}

theorem ideExists_of_le (hs : stream ≤ 8) (hb : sub ≤ 2) (hk : keySet ≤ 1) : ideExists stream sub keySet = true := by
  simp [ideExists, hs, hb, hk]

theorem ideExists_of_lt (h : 8 < stream ∨ 2 < sub ∨ 1 < keySet) : ideExists stream sub keySet = false := by
  simp only [ideExists, Bool.and_eq_false_iff, decide_eq_false_iff_not, Nat.not_le]
  tauto

/-- A message of IDE_KM that changes its stream alone. -/
theorem TsmMay.changesStream (h : TsmMay id s) (hc : s.calm) (hlen : stream < s.vs.streams.length) {f : State → State}
    {g : IdeStream → IdeStream} {o : Output}
    (hf : ∀ l, f (s.withSessions l) = ((s.withSessions l).modStream stream g).emit o) :
    ∃ t, settled s (onTsm id f s) = .next t ∧ t.out = o :: s.out ∧ t.stream stream = g (s.stream stream) ∧
      (∀ n, n ≠ stream → t.stream n = s.stream n) ∧ tsmAmong id t.vs.sessions ∧ OnlyIn [.vs, .out] s t := by
  obtain ⟨t, ht, hout, ⟨l, hvs⟩, htsm, honly⟩ := h.answers hc (f := f) (o := o :: s.out)
    (x := fun v => { v with streams := v.streams.modify stream g }) hf fun _ => ⟨rfl, rfl⟩
  have hstreams : t.vs.streams = (s.modStream stream g).vs.streams := by rw [hvs]; rfl
  exact ⟨t, ht, hout, (stream_congr hstreams _).trans (stream_modStream_self hlen g),
    fun n hn => (stream_congr hstreams n).trans (stream_modStream_of_ne hn g), htsm, honly⟩

/-- A message of IDE_KM that is refused. -/
theorem TsmMay.refusesKm (h : TsmMay id s) (hc : s.calm) {f : State → State} {k : Nat}
    (hf : ∀ l, f (s.withSessions l) = (s.withSessions l).emit (.ideKm id k 1)) :
    ∃ t k n, settled s (onTsm id f s) = .next t ∧ n ≠ 0 ∧ t.out = .ideKm id k n :: s.out ∧ t.vs.streams = s.vs.streams ∧
      tsmAmong id t.vs.sessions ∧ OnlyIn [.vs, .out] s t := by
  obtain ⟨t, ht, hout, ⟨l, hvs⟩, htsm, honly⟩ := h.answers hc (f := f) (x := fun v => v) (o := .ideKm id k 1 :: s.out) hf
    fun _ => ⟨rfl, rfl⟩
  exact ⟨t, k, 1, ht, one_ne_zero, hout, by rw [hvs]; rfl, htsm, honly⟩

/-- KEY_PROG of a stream, sub-stream and key set that exist (R369). -/
theorem TsmMay.programsKeys (h : TsmMay id s) (hc : s.calm) (hlen : stream < s.vs.streams.length)
    (he : ideExists stream sub keySet = true) (sid : Nat) (tee pcrc : Bool) :
    ∃ t, settled s (ideKmKeyProg id stream sub keySet sid tee pcrc s) = .next t ∧ t.out = .ideKm id 2 0 :: s.out ∧
      t.stream stream = (s.stream stream).keyed (sub, keySet) sid tee pcrc ∧ (∀ n, n ≠ stream → t.stream n = s.stream n) ∧
      tsmAmong id t.vs.sessions ∧ OnlyIn [.vs, .out] s t :=
  h.changesStream hc hlen (g := IdeStream.keyed (sub, keySet) sid tee pcrc) fun _ => if_neg (by simp [he])

/-- K_SET_GO of keys that are programmed (R369; log 29). -/
theorem TsmMay.goes (h : TsmMay id s) (hc : s.calm) (hlen : stream < s.vs.streams.length)
    (he : ideExists stream sub keySet = true) (hk : (sub, keySet) ∈ (s.stream stream).keys) :
    ∃ t, settled s (ideKmKSetGo id stream sub keySet s) = .next t ∧ t.out = .ideKm id 4 0 :: s.out ∧
      t.stream stream = (s.stream stream).running sub keySet ∧ (∀ n, n ≠ stream → t.stream n = s.stream n) ∧
      tsmAmong id t.vs.sessions ∧ OnlyIn [.vs, .out] s t :=
  h.changesStream hc hlen (g := IdeStream.running sub keySet) fun _ => if_neg (by simp [he, hk])

/-- What K_SET_STOP makes of its stream (log 29). -/
def IdeStream.stopped (sub keySet : Nat) (x : IdeStream) : IdeStream :=
  if x.keySet = keySet then (x.unkeyed (sub, keySet)).insecure else x.unkeyed (sub, keySet)

theorem stopped_keys (sub keySet : Nat) (x : IdeStream) :
    (x.stopped sub keySet).keys = x.keys.filter (fun k => k ≠ (sub, keySet)) := by
  unfold IdeStream.stopped
  split <;> rfl

theorem modStream_modStream (n : Nat) (f g : IdeStream → IdeStream) (s : State) :
    (s.modStream n f).modStream n g = s.modStream n (g ∘ f) := by
  simp [State.modStream, List.modify_modify_eq]

theorem quiet_modStream (n : Nat) (f : IdeStream → IdeStream) (s : State) : Quiet s (s.modStream n f) := quiet_withVs s rfl

theorem only_modStream (n : Nat) (f : IdeStream → IdeStream) (s : State) : OnlyIn [.vs] s (s.modStream n f) := only_withVs s _

theorem quiet_withSessions (l : List Session) (s : State) : Quiet s (s.withSessions l) := quiet_withVs s rfl

/-- The block once a key set of a stream is stopped, and before that is answered. -/
def keySetStopped (stream sub keySet : Nat) (s : State) : State :=
  if (s.stream stream).keySet = keySet then streamInsecure stream (s.modStream stream (IdeStream.unkeyed (sub, keySet)))
  else s.modStream stream (IdeStream.unkeyed (sub, keySet))

/-- The stop of a key set is one update of its stream; where the set was active, channels may empty as well (R554). -/
theorem keySetStopped_notifies (hlen : stream < s.vs.streams.length) (sub keySet : Nat) :
    ∃ v, Notified v (keySetStopped stream sub keySet s) ∧ Quiet s v ∧ OnlyIn [.vs] s v ∧ v.vs.sessions = s.vs.sessions ∧
      v.stream stream = (s.stream stream).stopped sub keySet ∧ ∀ n, n ≠ stream → v.stream n = s.stream n := by
  unfold keySetStopped IdeStream.stopped
  split
  case isTrue =>
    refine ⟨_, streamInsecure_notifies _ _, (quiet_modStream _ _ s).trans (quiet_modStream _ _ _),
      (only_modStream _ _ s).trans (only_modStream _ _ _), rfl, ?_, fun n hn => ?_⟩
    · rw [modStream_modStream, stream_modStream_self hlen]
      rfl
    · rw [modStream_modStream, stream_modStream_of_ne hn]
  case isFalse =>
    exact ⟨_, .refl _, quiet_modStream _ _ s, only_modStream _ _ s, rfl, stream_modStream_self hlen _,
      fun n hn => stream_modStream_of_ne hn _⟩

theorem mail_keySetStopped (h : stream ≠ 0) (sub keySet : Nat) (s : State) : (keySetStopped stream sub keySet s).mail = s.mail := by
  unfold keySetStopped
  rw [streamInsecure_of_ne_zero h]
  split <;> rfl

/-- K_SET_STOP of a key set that exists (R369, R554; log 29). -/
theorem TsmMay.stopsKeySet (h : TsmMay id s) (hc : s.calm) (hlen : stream < s.vs.streams.length)
    (he : ideExists stream sub keySet = true) :
    ∃ t, settled s (ideKmKSetStop id stream sub keySet s) = .next t ∧ .ideKm id 5 0 ∈ t.out ∧
      t.stream stream = (s.stream stream).stopped sub keySet ∧ (stream ≠ 0 → t.mail = s.mail) ∧
      (∀ n, n ≠ stream → t.stream n = s.stream n) ∧ tsmAmong id t.vs.sessions ∧ OnlyIn [.vs, .mail, .out] s t := by
  obtain ⟨l, hl, hrow⟩ := h.onTsm_eq
  have hstop : ideKmKSetStop id stream sub keySet s = (keySetStopped stream sub keySet (s.withSessions l)).emit (.ideKm id 5 0) :=
    (hrow _).trans (if_neg (by simp [he]))
  have hmail : stream ≠ 0 → (keySetStopped stream sub keySet (s.withSessions l)).mail = s.mail := fun hne =>
    mail_keySetStopped hne sub keySet _
  obtain ⟨v, hnote, hquiet, honly, hsessions, hself, hothers⟩ := keySetStopped_notifies (s := s.withSessions l) hlen sub keySet
  generalize keySetStopped stream sub keySet (s.withSessions l) = u at hstop hmail hnote
  have hvs : u.vs = v.vs := hnote.only .vs (by decide)
  have hstreams : u.vs.streams = v.vs.streams := by rw [hvs]
  have hcalm := hnote.reported.marked.calm (hquiet.calm ((quiet_withSessions l s).calm hc))
  refine ⟨_, (congrArg (settled s) hstop).trans (settled_calm ((quiet_emit u _).calm hcalm)), List.mem_cons_self,
    (stream_congr hstreams stream).trans hself, hmail, fun n hn => (stream_congr hstreams n).trans (hothers n hn), ?_, ?_⟩
  · change tsmAmong id u.vs.sessions
    rw [hvs, hsessions]
    exact hl
  · exact (((((only_withVs s _).mono (by simp)).trans (honly.mono (by simp))).trans (hnote.only.mono (by simp))).trans
      ((only_emit u _).mono (by simp))).queue _

end km

/-! ### A check failure and the TDIs bound to a stream (R369) -/

section tdis
variable {s t u : State} {n p : Nat}

/-- A TDI is bound to the stream. -/
def Part.onStream (n : Nat) (q : Part) : Prop := q.tdiBound = true ∧ q.tdiStream = n ∧ n ≠ 0

/-- Some TDIs bound to a stream have gone to ERROR, and nothing else of a partition has changed. -/
structure TdisErred (n : Nat) (s t : State) : Prop where
  calm : s.calm → t.calm
  only : OnlyIn [.parts, .mail, .out] s t
  length : t.parts.length = s.parts.length
  bound : ∀ p, (t.part p).onStream n ↔ (s.part p).onStream n
  kept : ∀ p, ¬ (s.part p).onStream n → t.part p = s.part p
  error : ∀ p, (s.part p).tdi = .error → (t.part p).tdi = .error

theorem TdisErred.refl (n : Nat) (s : State) : TdisErred n s s :=
  ⟨fun h => h, .refl _ s, rfl, fun _ => .rfl, fun _ _ => rfl, fun _ h => h⟩

theorem TdisErred.trans (h : TdisErred n s t) (k : TdisErred n t u) : TdisErred n s u :=
  ⟨fun hc => k.calm (h.calm hc), h.only.trans k.only, k.length.trans h.length, fun p => (k.bound p).trans (h.bound p),
    fun p hp => (k.kept p (mt (h.bound p).mp hp)).trans (h.kept p hp), fun p hp => k.error p (h.error p hp)⟩

/-- A TDI in a state, in its partition. -/
def Part.withTdi (st : TdiState) (q : Part) : Part := { q with tdi := st }

theorem part_setTdi_self (h : p < s.parts.length) (st : TdiState) : (setTdi p st s).part p = (s.part p).withTdi st :=
  (part_congr ((setTdi_notifies p st s).only .parts (by decide)) p).trans (part_modPart_self h _)

theorem part_setTdi_of_ne {k : Nat} (h : k ≠ p) (st : TdiState) : (setTdi p st s).part k = s.part k :=
  (part_congr ((setTdi_notifies p st s).only .parts (by decide)) k).trans (part_modPart_of_ne h _)

theorem only_setTdi (p : Nat) (st : TdiState) (s : State) : OnlyIn [.parts, .mail, .out] s (setTdi p st s) :=
  ((only_modPart s p _).mono (by simp)).trans ((setTdi_notifies p st s).only.mono (by simp))

/-- A TDI's new state reaches no partition but its own. -/
theorem part_setTdi (p k : Nat) (st : TdiState) (s : State) :
    (setTdi p st s).part k = s.part k ∨ (k = p ∧ (setTdi p st s).part k = (s.part k).withTdi st) := by
  have hparts := (setTdi_notifies p st s).only .parts (by decide)
  by_cases hk : k = p
  · subst hk
    by_cases hlen : k < s.parts.length
    · exact .inr ⟨rfl, part_setTdi_self hlen st⟩
    · refine .inl ((part_congr hparts k).trans ?_)
      rw [State.part, State.modPart, List.modify_eq_self (Nat.not_lt.mp hlen), State.part]
  · exact .inl (part_setTdi_of_ne hk st)

/-- One TDI of a stream's end: ERROR where it is bound to it. -/
def tdiErrs (n : Nat) (s : State) (p : Nat) : State :=
  if (s.part p).tdiBound && (s.part p).tdiStream = n && n ≠ 0 then setTdi p .error s else s

theorem streamTdisError_eq (n : Nat) (s : State) : streamTdisError n s = (List.range 16).foldl (tdiErrs n) s := rfl

theorem tdiErrs_of_onStream (h : (s.part p).onStream n) : tdiErrs n s p = setTdi p .error s := by
  obtain ⟨hbound, hstream, hne⟩ := h
  exact if_pos (by simp [hbound, hstream, hne])

theorem tdiErrs_of_not_onStream (h : ¬ (s.part p).onStream n) : tdiErrs n s p = s :=
  if_neg (by simpa [Part.onStream, and_assoc] using h)

theorem tdisErred_tdiErrs (n : Nat) (s : State) (p : Nat) : TdisErred n s (tdiErrs n s p) := by
  by_cases h : (s.part p).onStream n
  · rw [tdiErrs_of_onStream h]
    refine ⟨(strikeStep_setTdi p .error s).calm, only_setTdi p .error s, ?_, fun k => ?_, fun k hk => ?_, fun k hk => ?_⟩
    · rw [(setTdi_notifies p .error s).only .parts (by decide)]
      exact List.length_modify _ _ _
    · rcases part_setTdi p k .error s with he | ⟨-, he⟩
      · rw [he]
      · rw [he]
        exact Iff.rfl
    · rcases part_setTdi p k .error s with he | ⟨rfl, -⟩
      · exact he
      · exact absurd h hk
    · rcases part_setTdi p k .error s with he | ⟨-, he⟩ <;> rw [he]
      · exact hk
      · rfl
  · rw [tdiErrs_of_not_onStream h]
    exact .refl n s

theorem tdisErred_foldl (n : Nat) (l : List Nat) (s : State) : TdisErred n s (l.foldl (tdiErrs n) s) :=
  List.foldlRecOn l _ (.refl n s) fun _ hu p _ => hu.trans (tdisErred_tdiErrs n _ p)

theorem tdisErred_streamTdisError (n : Nat) (s : State) : TdisErred n s (streamTdisError n s) := tdisErred_foldl n _ s

/-- Every TDI bound to the stream is in ERROR in the end. -/
theorem tdi_streamTdisError (hp : p < 16) (hlen : p < s.parts.length) (h : (s.part p).onStream n) :
    ((streamTdisError n s).part p).tdi = .error := by
  obtain ⟨l₁, l₂, hl⟩ := List.append_of_mem (List.mem_range.mpr hp)
  rw [streamTdisError_eq, hl, List.foldl_append, List.foldl_cons]
  have hbefore := tdisErred_foldl n l₁ s
  refine (tdisErred_foldl n l₂ _).error p ?_
  rw [tdiErrs_of_onStream ((hbefore.bound p).mpr h), part_setTdi_self (by rwa [hbefore.length])]
  rfl

/-- The block once a stream's check failure is counted, and before its TDIs follow. -/
def checkFailed (n : Nat) (s : State) : State := (streamInsecure n s).modStream n IdeStream.failedOnce

theorem checkFailed_leaves (hlen : n < s.vs.streams.length) :
    (s.calm → (checkFailed n s).calm) ∧ (checkFailed n s).stream n = (s.stream n).insecure.failedOnce ∧
      (∀ m, m ≠ n → (checkFailed n s).stream m = s.stream m) ∧ OnlyIn [.vs, .mail, .out] s (checkFailed n s) := by
  have hnote := streamInsecure_notifies n s
  have hstreams : (streamInsecure n s).vs.streams = (s.modStream n IdeStream.insecure).vs.streams :=
    congrArg Vestibule.streams (hnote.only .vs (by decide))
  refine ⟨fun hc => (quiet_modStream _ _ _).calm (hnote.reported.marked.calm ((quiet_modStream n _ s).calm hc)), ?_, fun m hm => ?_, ?_⟩
  · rw [checkFailed, stream_modStream_self (by rw [hstreams]; simpa [State.modStream] using hlen), stream_congr hstreams,
      stream_modStream_self hlen]
  · rw [checkFailed, stream_modStream_of_ne hm, stream_congr hstreams, stream_modStream_of_ne hm]
  · exact (((only_modStream n _ s).mono (by simp)).trans (hnote.only.mono (by simp))).trans ((only_modStream n _ _).mono (by simp))

/-- A check failure of a stream (R369, R554). -/
theorem settled_ideCheckFailure (hc : s.calm) (hu : s.up = true) (hn : n ≤ 8) (hlen : n < s.vs.streams.length) :
    ∃ t, settled s (ideCheckFailure n s) = .next t ∧ t.stream n = (s.stream n).insecure.failedOnce ∧
      (∀ m, m ≠ n → t.stream m = s.stream m) ∧
      (∀ p, p < 16 → p < s.parts.length → (s.part p).onStream n → (t.part p).tdi = .error) ∧
      (∀ p, ¬ (s.part p).onStream n → t.part p = s.part p) ∧ OnlyIn [.parts, .vs, .mail, .out] s t := by
  have hrow : ideCheckFailure n s = streamTdisError n (checkFailed n s) := if_neg (by simp [hu, hn])
  obtain ⟨hcalm, hself, hothers, honly⟩ := checkFailed_leaves hlen
  have hparts : (checkFailed n s).parts = s.parts := honly .parts (by decide)
  have herr : ∀ p, p < 16 → p < s.parts.length → (s.part p).onStream n →
      ((streamTdisError n (checkFailed n s)).part p).tdi = .error := fun p hp hp' hb =>
    tdi_streamTdisError hp (by rwa [hparts]) (by rwa [part_congr hparts])
  have herred := tdisErred_streamTdisError n (checkFailed n s)
  generalize streamTdisError n (checkFailed n s) = u at hrow herr herred
  have hstreams : u.vs.streams = (checkFailed n s).vs.streams := congrArg Vestibule.streams (herred.only .vs (by decide))
  refine ⟨_, (congrArg (settled s) hrow).trans (settled_calm (herred.calm (hcalm hc))), (stream_congr hstreams n).trans hself,
    fun m hm => (stream_congr hstreams m).trans (hothers m hm), herr, fun p hb => ?_,
    ((honly.mono (by simp)).trans (herred.only.mono (by simp))).queue _⟩
  exact (herred.kept p (by rwa [part_congr hparts])).trans (part_congr hparts p)

/-- A bad request to a TDI in RUN (R371). -/
theorem settled_tdiBadRequest (hc : s.calm) (hu : s.up = true) (hlen : p < s.parts.length) (hr : (s.part p).tdi = .run) :
    ∃ t, settled s (tdiBadRequest p s) = .next t ∧ .unsupportedRequest p ∈ t.out ∧ t.part p = (s.part p).withTdi .error ∧
      (∀ q, q ≠ p → t.part q = s.part q) ∧ OnlyIn [.parts, .mail, .out] s t := by
  have hrow : tdiBadRequest p s = setTdi p .error (s.emit (.unsupportedRequest p)) := if_neg (by simp [hu, hr])
  have hcalm := (strikeStep_setTdi p .error (s.emit (.unsupportedRequest p))).calm ((quiet_emit s _).calm hc)
  refine ⟨_, (congrArg (settled s) hrow).trans (settled_calm hcalm),
    (setTdi_notifies p .error _).out _ List.mem_cons_self, part_setTdi_self (s := s.emit _) hlen _,
    fun q hq => part_setTdi_of_ne (s := s.emit _) hq _, ?_⟩
  exact (((only_emit s _).mono (by simp)).trans (only_setTdi p .error _)).queue _

end tdis


end Sys2Proof.Machine
end

section
/-! PROOFS. TDISP (11 R370, R372, R373): its requests on a TDI, and the stop that waits for nothing. -/

namespace Sys2Proof.Machine

section tdisp
variable {s : State} {id tdi : Nat}

/-! ### Requests -/

/-- A message of the TSM that answers a TDISP ERROR, which is counted (R385). -/
theorem TsmMay.tdispErrs (h : TsmMay id s) (hc : s.calm) {f : State → State} {code : Nat}
    (hf : ∀ l, f (s.withSessions l) = tdispError tdi code (s.withSessions l)) :
    TsmAnswered id (.tdisp tdi 0x7F code :: s.out) s (onTsm id f s) := by
  obtain ⟨t, ht, hout, -, htsm, honly⟩ := h.answers hc (f := f) (o := .tdisp tdi 0x7F code :: s.out)
    (x := fun v => { v with errors := bump 255 v.errors }) hf fun _ => ⟨rfl, rfl⟩
  exact ⟨t, ht, hout, htsm, honly⟩

/-- A request on a TDI of a partition that is not struck reaches it. -/
theorem TsmMay.onTdi_eq (h : TsmMay id s) (htdi : tdi < 16) (hs : (s.part tdi).struck = false) (f : State → State) :
    onTdi id tdi f s = onTsm id f s := by
  obtain ⟨l, -, hrow⟩ := h.onTsm_eq
  rw [onTdi, hrow, hrow, if_neg (Nat.not_le.mpr htdi), if_neg (by rw [part_withSessions, hs]; decide)]

/-- A request on a TDI whose partition is struck is answered BUSY (R373). -/
theorem TsmMay.onTdi_busy (h : TsmMay id s) (hc : s.calm) (htdi : tdi < 16) (hs : (s.part tdi).struck = true) (f : State → State) :
    TsmAnswered id (.tdisp tdi 0x7F tBusy :: s.out) s (onTdi id tdi f s) :=
  h.tdispErrs hc fun _ => (if_neg (Nat.not_le.mpr htdi)).trans (if_pos hs)

/-- A TDI in its partition in another state, with new registers of Vestibule and one message. -/
def tdiMoved (tdi : Nat) (st : TdiState) (x : Vestibule) (o : Output) (s : State) : State :=
  { s.modPart tdi (Part.withTdi st) with vs := x, out := o :: s.out }

/-- A row that moves a TDI is answered by just that. -/
theorem settled_tdiMoved {u : State} {st : TdiState} {x : Vestibule} {o : Output} (hc : s.calm) (hlen : tdi < s.parts.length)
    (hu : u = tdiMoved tdi st x o s) (hx : x.stopping = s.vs.stopping) :
    ∃ t, settled s u = .next t ∧ t.out = o :: s.out ∧ t.part tdi = (s.part tdi).withTdi st ∧
      (∀ q, q ≠ tdi → t.part q = s.part q) ∧ t.vs = x ∧ OnlyIn [.parts, .vs, .out] s t := by
  obtain ⟨t, ht, hout, hvs, honly⟩ := settled_withVsOut ((quiet_modPart s tdi (Part.withTdi st)).calm hc) hu hx
  have hparts := honly .parts (by decide)
  exact ⟨t, ht, hout, (part_congr hparts tdi).trans (part_modPart_self hlen _),
    fun q hq => (part_congr hparts q).trans (part_modPart_of_ne hq _), hvs,
    ((only_modPart s tdi _).mono (by simp)).trans (honly.mono (by simp))⟩

/-- Vestibule's registers once MSI-X of a TDI is locked, if it is. -/
def Vestibule.locks (lockMsix : Bool) (tdi : Nat) (v : Vestibule) : Vestibule :=
  { v with msixLocked := if lockMsix then tdi :: v.msixLocked.filter (fun x => x ≠ tdi) else v.msixLocked }

/-- A state other than ERROR touches its TDI alone. -/
theorem setTdi_of_ne_error {st : TdiState} (h : st ≠ .error) (p : Nat) (s : State) : setTdi p st s = s.modPart p (Part.withTdi st) := by
  unfold setTdi
  dsimp only
  rw [if_neg (by simp [h])]
  rfl

/-! ### STOP (R372) -/

/-- The block in which a TDI's STOP waits. -/
def stopAsked (tdi : Nat) (s : State) : State := { s with vs := { s.vs with stopping := [tdi] } }

/-- Parcels that have a way out stay (R119). -/
theorem discardUnreachable_of_reached (h : ∀ x ∈ s.gl.parcels, s.stranded x = false) : discardUnreachable s = s := by
  unfold discardUnreachable
  split
  case isTrue => rfl
  case isFalse =>
    refine foldl_id _ _ s fun x hx => if_pos ?_
    by_contra hdead
    have hway := h x hx
    simp only [State.stranded, Bool.and_eq_false_imp, Bool.and_eq_true, Option.isNone_iff_eq_none, decide_eq_true_eq,
      Bool.or_eq_false_iff, Bool.not_eq_eq_eq_not, Bool.not_false, decide_eq_false_iff_not, and_imp] at hway
    simp only [Bool.or_eq_true, Option.isNone_iff_eq_none, Bool.not_eq_eq_eq_not, Bool.not_true, decide_eq_false_iff_not,
      Bool.and_eq_true, not_or, Bool.not_eq_true, Option.isSome_eq_false_iff, Bool.not_eq_false, not_not, not_and] at hdead
    obtain ⟨⟨⟨⟨heligible, hleft⟩, -⟩, hfirst⟩, hsecond⟩ := hdead
    obtain ⟨hmirror, hopen⟩ := hway (Option.isSome_iff_ne_none.mpr heligible) hleft hfirst
    exact hopen (hsecond hmirror)

/-- What follows a command finds nothing to do before it comes to the TDIs that stop. -/
theorem settleAll_stopAsked (hc : s.calm) :
    settleAll (stopAsked tdi s) = finishEcho (finishDebugOpen (finishStops (stopAsked tdi s))) := by
  obtain ⟨-, -, hrungs, -, -, hslots, -, hparcels, -⟩ := State.calm_cases hc
  have h1 : runContextRungs (stopAsked tdi s) = stopAsked tdi s := by
    rw [runContextRungs, List.filter_eq_nil_iff.mpr fun x hx => by simpa using (hrungs x hx).1, List.foldl_nil]
  have h2 : finishDrains (stopAsked tdi s) = stopAsked tdi s := by
    rw [finishDrains, List.filter_eq_nil_iff.mpr fun x hx => by simpa using (hrungs x hx).2, List.foldl_nil]
  have h3 : discardUnreachable (stopAsked tdi s) = stopAsked tdi s :=
    discardUnreachable_of_reached fun x hx => (stranded_congr (s := s) rfl rfl x).trans (hparcels x hx)
  have h4 : finishEvictions (stopAsked tdi s) = stopAsked tdi s :=
    foldl_id _ _ _ fun k hk => by simp [hslots k hk]
  rw [settleAll, h1, h2, h3, h4]

/-- A TDI whose ring owes nothing stops at once. -/
theorem finishStops_stopAsked (hi : s.ringIdle tdi = true) : finishStops (stopAsked tdi s) = tdiStopped tdi (stopAsked tdi s) := by
  have hheld : (s.part tdi).ring.held = [] := by
    simp only [State.ringIdle, Bool.and_eq_true, List.isEmpty_iff] at hi
    exact hi.2
  have hrelease : releaseRing (.part tdi) (stopAsked tdi s) ((stopAsked tdi s).part tdi).ring.held.length = stopAsked tdi s := by
    rw [show ((stopAsked tdi s).part tdi).ring.held = [] from hheld]
    rfl
  change (if State.ringIdle (releaseRing (.part tdi) (stopAsked tdi s) ((stopAsked tdi s).part tdi).ring.held.length) tdi then
    tdiStopped tdi (releaseRing (.part tdi) (stopAsked tdi s) ((stopAsked tdi s).part tdi).ring.held.length)
    else releaseRing (.part tdi) (stopAsked tdi s) ((stopAsked tdi s).part tdi).ring.held.length) = _
  rw [hrelease]
  exact if_pos hi

theorem pump_of_settleAll {u t : State} (h : settleAll u = t) (ht : t.calm) : pump u = t := by
  obtain ⟨hstaged, hfirmware, -⟩ := State.calm_cases ht
  simp [pump, h, hstaged, hfirmware, startAll, lookAll_calm ht]

/-- A partition whose interface is stopped. -/
def Part.stopped (q : Part) : Part := { q with tdi := .unlocked, ring := { q.ring with enable := false } }

/-- The block once a TDI's stop is answered. -/
def interfaceStopped (tdi : Nat) (s : State) : State :=
  { s.modPart tdi Part.stopped with
    vs := { s.vs with stopping := [], msixLocked := s.vs.msixLocked.filter (fun x => x ≠ tdi) }
    out := .tdisp tdi 7 0 :: s.out }

theorem tdiStopped_stopAsked (tdi : Nat) (s : State) : tdiStopped tdi (stopAsked tdi s) = interfaceStopped tdi s := by
  unfold tdiStopped interfaceStopped
  rw [setTdi_of_ne_error (by decide)]
  simp only [State.modPart, stopAsked, List.modify_modify_eq]
  simp only [tdispOk, State.emit, ne_eq, decide_not, decide_true, Bool.not_true, Bool.false_eq_true, not_false_eq_true,
    List.filter_cons_of_neg, List.filter_nil]
  rfl

theorem pump_stopAsked (hc : s.calm) (hi : s.ringIdle tdi = true) : pump (stopAsked tdi s) = interfaceStopped tdi s := by
  obtain ⟨-, -, -, -, hstopping, -⟩ := State.calm_cases hc
  have hquiet : Quiet s (interfaceStopped tdi s) :=
    ⟨rfl, rfl, rfl, rfl, hstopping.symm, rfl, rfl, rfl, rfl, fun _ h => .inl h, id, rfl⟩
  have hcalm := hquiet.calm hc
  refine pump_of_settleAll ?_ hcalm
  rw [settleAll_stopAsked hc, finishStops_stopAsked hi, tdiStopped_stopAsked, finishDebugOpen_calm hcalm, finishEcho_calm hcalm]

/-- STOP of a TDI whose ring owes nothing (R372). -/
theorem TsmMay.stops (h : TsmMay id s) (hc : s.calm) (htdi : tdi < 16) (hs : (s.part tdi).struck = false)
    (hlen : tdi < s.parts.length) (hi : s.ringIdle tdi = true) :
    ∃ t, settled s (stopInterface id tdi s) = .next t ∧ t.out = .tdisp tdi 7 0 :: s.out ∧ t.part tdi = (s.part tdi).stopped ∧
      (∀ q, q ≠ tdi → t.part q = s.part q) ∧ t.vs.stopping = [] ∧ tsmAmong id t.vs.sessions ∧ OnlyIn [.parts, .vs, .out] s t := by
  obtain ⟨l, hl, hrow⟩ := h.onTsm_eq
  obtain ⟨-, -, -, -, hstopping, -⟩ := State.calm_cases hc
  have hasked : stopInterface id tdi s = stopAsked tdi (s.withSessions l) := by
    rw [stopInterface, h.onTdi_eq htdi hs, hrow]
    dsimp only
    rw [show (s.withSessions l).vs.stopping = [] from hstopping]
    rfl
  have hpump := pump_stopAsked ((quiet_withSessions l s).calm hc) hi
  refine ⟨interfaceStopped tdi (s.withSessions l), ?_, rfl, part_modPart_self hlen _, fun q hq => part_modPart_of_ne hq _, rfl, hl,
    fun g hg => ?_⟩
  · rw [hasked, settled, hpump]
    rfl
  · cases g with
    | parts => exact absurd (by simp) hg
    | vs => exact absurd (by simp) hg
    | out => exact absurd (by simp) hg
    | _ => rfl

/-! ### LOCK, START and the report (R370, R372) -/

/-- LOCK with NO_FW_UPDATE of an unlocked bound TDI of a sealed partition. -/
theorem TsmMay.locks (h : TsmMay id s) (hc : s.calm) (htdi : tdi < 16) (hs : (s.part tdi).struck = false) (hlen : tdi < s.parts.length)
    (hu : (s.part tdi).tdi = .unlocked) (hb : (s.part tdi).tdiBound = true)
    (hp : (s.part tdi).pstate = .sealed ∨ (s.part tdi).pstate = .faulted) (msix : Bool) :
    ∃ t, settled s (lockInterface id tdi true msix false false s) = .next t ∧ t.out = .tdisp tdi 3 0 :: s.out ∧
      t.part tdi = (s.part tdi).withTdi .locked ∧ (∀ q, q ≠ tdi → t.part q = s.part q) ∧ (msix = true → tdi ∈ t.vs.msixLocked) ∧
      tsmAmong id t.vs.sessions ∧ OnlyIn [.parts, .vs, .out] s t := by
  obtain ⟨l, hl, hrow⟩ := h.onTsm_eq
  have hmoved : lockInterface id tdi true msix false false s =
      tdiMoved tdi .locked ((s.vs.withSessions l).locks msix tdi) (.tdisp tdi 3 0) s := by
    rw [lockInterface, h.onTdi_eq htdi hs, hrow]
    dsimp only
    rw [if_neg (by decide), if_neg, setTdi_of_ne_error (by decide)]
    · rfl
    · rw [part_withSessions, hu, hb]
      rcases hp with hp | hp <;> rw [hp] <;> decide
  obtain ⟨t, ht, hout, hself, hothers, hvs, honly⟩ := settled_tdiMoved hc hlen hmoved rfl
  refine ⟨t, ht, hout, hself, hothers, fun hm => ?_, by rw [hvs]; exact hl, honly⟩
  rw [hvs, Vestibule.locks, if_pos hm]
  exact List.mem_cons_self

/-- START of a locked TDI. -/
theorem TsmMay.starts (h : TsmMay id s) (hc : s.calm) (htdi : tdi < 16) (hs : (s.part tdi).struck = false)
    (hlen : tdi < s.parts.length) (hlocked : (s.part tdi).tdi = .locked) :
    ∃ t, settled s (startInterface id tdi s) = .next t ∧ t.out = .tdisp tdi 6 0 :: s.out ∧
      t.part tdi = (s.part tdi).withTdi .run ∧ (∀ q, q ≠ tdi → t.part q = s.part q) ∧ tsmAmong id t.vs.sessions ∧
      OnlyIn [.parts, .vs, .out] s t := by
  obtain ⟨l, hl, hrow⟩ := h.onTsm_eq
  have hmoved : startInterface id tdi s = tdiMoved tdi .run (s.vs.withSessions l) (.tdisp tdi 6 0) s := by
    rw [startInterface, h.onTdi_eq htdi hs, hrow, part_withSessions, if_neg (not_not.mpr hlocked), setTdi_of_ne_error (by decide)]
    rfl
  obtain ⟨t, ht, hout, hself, hothers, hvs, honly⟩ := settled_tdiMoved hc hlen hmoved rfl
  exact ⟨t, ht, hout, hself, hothers, by rw [hvs]; exact hl, honly⟩

/-- START of a TDI that is not locked (R373). -/
theorem TsmMay.starts_unlocked (h : TsmMay id s) (hc : s.calm) (htdi : tdi < 16) (hs : (s.part tdi).struck = false)
    (hl : (s.part tdi).tdi ≠ .locked) :
    TsmAnswered id (.tdisp tdi 0x7F tInvalidState :: s.out) s (startInterface id tdi s) := by
  rw [startInterface, h.onTdi_eq htdi hs]
  exact h.tdispErrs hc fun l => if_pos hl

/-- The report of a TDI that is locked or runs. -/
theorem TsmMay.reports (h : TsmMay id s) (hc : s.calm) (htdi : tdi < 16) (hs : (s.part tdi).struck = false)
    (hl : (s.part tdi).tdi = .locked ∨ (s.part tdi).tdi = .run) :
    TsmAnswered id (.tdisp tdi 4 0x40000 :: .document (.session id) (partRecord s tdi) :: s.out) s (interfaceReport id tdi s) := by
  rw [interfaceReport, h.onTdi_eq htdi hs]
  exact h.sends hc fun l => if_neg (by rcases hl with hl | hl <;> simp [hl])

/-- GET_DEVICE_INTERFACE_STATE of a TDI of this block. -/
theorem TsmMay.tellsState (h : TsmMay id s) (hc : s.calm) (htdi : tdi < 16) :
    TsmAnswered id (.tdisp tdi 5 (s.part tdi).tdi.code :: s.out) s (interfaceState id tdi s) :=
  h.sends hc fun _ => if_neg (Nat.not_le.mpr htdi)

end tdisp

/-- Settles O59: the TSM's session apart, a message is one update of its stream or TDI and its answer; only a stop is left to what the
block does after each command. -/
theorem streamsAndInterfacesAreManaged : Obligations.StreamsAndInterfacesAreManaged := by
  unfold Obligations.StreamsAndInterfacesAreManaged
  refine ⟨fun id stream sub keySet sid tee pcrc s hc hu hne hopen halone => ?km, fun id tdi s hc hu hne hopen halone => ?tdisp,
    fun stream s hc hu hs hlen => ?failure, fun p s hc hu hlen hr => settled_tdiBadRequest hc hu hlen hr⟩
  case km =>
    have hmay : TsmMay id s := ⟨hu, hne, hopen, halone⟩
    refine ⟨hmay.sends hc fun _ => rfl, fun m hm hlt => ?absent, fun hs hb hk hlen => ⟨?program, fun hkeys => ?go, ?stop⟩⟩
    case absent =>
      have hno := ideExists_of_lt hlt
      simp only [List.mem_cons, List.not_mem_nil, or_false] at hm
      rcases hm with rfl | rfl | rfl <;> exact hmay.refusesKm hc fun _ => if_pos (by simp [hno])
    all_goals
      have hyes := ideExists_of_le hs hb hk
      have hstream : stream < s.vs.streams.length := by omega
    case program =>
      obtain ⟨t, ht, hout, hself, hothers, htsm, honly⟩ := hmay.programsKeys hc hstream hyes sid tee pcrc
      refine ⟨t, ht, hout, ?_, ?_, ?_, ?_, ?_, ?_, hothers, htsm, honly⟩ <;> rw [hself]
      exacts [mem_keys_keyed _ _ _ _ _, rfl, rfl, rfl, rfl, rfl]
    case go =>
      obtain ⟨t, ht, hout, hself, hothers, htsm, honly⟩ := hmay.goes hc hstream hyes hkeys
      refine ⟨t, ht, hout, ?_, ?_, ?_, ?_, hothers, htsm, honly⟩ <;> rw [hself]
      exacts [mem_going_running _ _ _, rfl, rfl, rfl]
    case stop =>
      obtain ⟨t, ht, hout, hself, hmail, hothers, htsm, honly⟩ := hmay.stopsKeySet hc hstream hyes
      refine ⟨t, ht, hout, ?_, fun hother => ?_, fun hactive => ?_, hmail, hothers, htsm, honly⟩ <;> rw [hself]
      · exact stopped_keys sub keySet _
      · rw [IdeStream.stopped, if_neg hother]
        exact ⟨rfl, rfl⟩
      · rw [IdeStream.stopped, if_pos hactive]
        exact ⟨rfl, rfl⟩
  case tdisp =>
    have hmay : TsmMay id s := ⟨hu, hne, hopen, halone⟩
    refine ⟨hmay.sends hc fun _ => rfl, hmay.sends hc fun _ => rfl, fun htdi => ⟨hmay.tellsState hc htdi, fun hs m hm => ?busy⟩,
      fun htdi hparts hs => ?standing⟩
    case busy =>
      simp only [List.mem_cons, List.not_mem_nil, or_false] at hm
      rcases hm with rfl | rfl | rfl | rfl <;> exact hmay.onTdi_busy hc htdi hs _
    case standing =>
      have hlen : tdi < s.parts.length := by omega
      refine ⟨fun msix hu hb hp => hmay.locks hc htdi hs hlen hu hb hp msix, hmay.starts hc htdi hs hlen,
        hmay.starts_unlocked hc htdi hs, hmay.reports hc htdi hs, fun hi => ?_⟩
      obtain ⟨t, ht, hout, hself, hothers, hstopping, htsm, honly⟩ := hmay.stops hc htdi hs hlen hi
      exact ⟨t, ht, hout, by rw [hself]; rfl, by rw [hself]; rfl, hothers, hstopping, htsm, honly⟩
  case failure =>
    obtain ⟨t, ht, hself, hothers, herr, hkept, honly⟩ := settled_ideCheckFailure (n := stream) hc hu hs (by omega)
    exact ⟨t, ht, by rw [hself]; rfl, by rw [hself]; rfl, hothers, fun p hp hlen' hne hb hst => herr p hp hlen' ⟨hb, hst, hne⟩,
      fun p hp => hkept p fun ⟨hb, hst, _⟩ => hp.elim (fun h => Bool.false_ne_true (h.symm.trans hb)) fun h => h hst, honly⟩

end Sys2Proof.Machine
end

section
/-! PROOFS. The neighbour exchange (04 R88, R96, 11 R377 to R381): each message is one update of its link and what it answers;
KEYED is entered and a refusal is logged before a NEIGHBOUR_KEYX that waits ends. -/

namespace Sys2Proof.Machine

/-! ### What the messages make of their link -/

/-- A link whose peer's HELLO has come. -/
def Link.helloTaken (now peer reason : Nat) (initiator : Bool) (l : Link) : Link :=
  { l with keyx := .helloSeen, keyxAt := now, peer := some peer, helloReason := reason, initiator := initiator }

/-- A link whose peer's certificates hold. -/
def Link.certified (now : Nat) (c : CertsSeen) (l : Link) : Link :=
  { l with keyxAt := now, peerId := c.idHash, keyx := if l.initiator then .kemI else .certsSeen }

/-- A link that has answered KEM_I. -/
def Link.kemAnswered (now : Nat) (l : Link) : Link := { l with keyx := .kemR, keyxAt := now }

/-- A link whose exchange has been refused. -/
def Link.exchangeRefused (now : Nat) (l : Link) : Link := { l with keyx := .refused, keyxAt := now, secret := false }

/-- A link with fresh keys and full credits. -/
def Link.freshlyKeyed (now : Nat) (l : Link) : Link :=
  { l with keyx := .idle, secret := true, keyAt := now, rotations := 0, keyPhase := false, rxPhase := false, rotating := false,
           newPhaseSeen := false, rotateSent := none, txSeq := 0, rxSeq := 0, rxRefusing := false, nakOwed := false, replay := [],
           resend := [], credits := List.replicate 10 32, owed := List.replicate 10 0, ackAt := now, rxAt := now }

/-- A link for whose exchange a NEIGHBOUR_KEYX waits. -/
def Link.awaitedBy (r : CmdRef) (l : Link) : Link := { l with keyxCmd := some r }

section
variable {s u : State} {n : Nat}

/-- A row that updates its link but for its state, and sends some messages. -/
theorem settled_movedSends {f : State → State} {g : Link → Link} {os : List Output} (hc : s.calm) (hn : n < 64)
    (hlen : n < s.gl.links.length) (hf : f s = { s.modLink n g with out := os ++ s.out }) (hg : ∀ l, (g l).state = l.state) :
    ∃ t, settled s (onLink n f s) = .next t ∧ t.link n = g (s.link n) ∧ t.out = os ++ s.out ∧ OnlyIn [.gl, .start, .out] s t := by
  have hquiet : Quiet (s.modLink n g) { s.modLink n g with out := os ++ s.out } :=
    ⟨rfl, rfl, rfl, rfl, rfl, rfl, rfl, rfl, rfl, fun _ h => .inl h, id, rfl⟩
  have honly : OnlyIn [.gl, .out] s { s.modLink n g with out := os ++ s.out } := fun a ha => by
    cases a with
    | gl => exact absurd (by simp) ha
    | out => exact absurd (by simp) ha
    | _ => rfl
  obtain ⟨k, hrow⟩ := settled_onLink hn hf (hquiet.calm (calm_modLink hg hc))
  exact ⟨_, hrow, link_modLink_self g hlen, rfl, (honly.mono (by simp)).stepped (by simp) _ _⟩

/-! ### HELLO, CERTS and KEM_I (R377 to R379) -/

/-- The peer that a HELLO names: a chip of the torus, or a sled. -/
def helloPeer (n : Nat) (m : Hello) : Nat := if n < 48 then m.chip else 0x8000 + (n - 48) / 2

theorem keyxHello_of_awaited {m : Hello} (he : exchanging s n = true) (hm : m.wellFormed = true)
    (hk : (s.link n).keyx = .idle ∨ (s.link n).keyx = .helloSent ∨ (s.link n).keyx = .refused) :
    keyxHello n m s = { s.modLink n (Link.helloTaken s.now (helloPeer n m) (helloReason s n m) (!isTorus n || s.chip < m.chip)) with
      out := (.keyx n 0x02 0 :: if (s.link n).keyx = .helloSent then [] else [.keyx n 0x01 s.chip]) ++ s.out } := by
  have hawaited : (!m.wellFormed ||
      !((s.link n).keyx = .helloSent || (s.link n).keyx = .idle || (s.link n).keyx = .refused)) = false := by
    rcases hk with hk | hk | hk <;> simp [hm, hk]
  have hpeer : (if isTorus n then m.chip else 0x8000 + (n - 48) / 2) = helloPeer n m := by
    rw [isTorus, helloPeer]
    simp
  unfold keyxHello
  dsimp only
  rw [if_neg (by simp [he]), hawaited, if_neg Bool.false_ne_true, hpeer]
  split
  · rfl
  · rw [startExchange_eq, sendKeyx]
    simp only [State.modLink, State.emit, List.modify_modify_eq]
    rfl

theorem keyxCerts_of_good {c : CertsSeen} (he : exchanging s n = true) (hk : (s.link n).keyx = .helloSeen)
    (hr : (s.link n).helloReason = 0) (hw : c.wellFormed = true) (hp : c.claimsProduction = true) (hchains : c.chainsOk = true)
    (hm : c.modelOk = true) :
    keyxCerts n c s = { s.modLink n (Link.certified s.now c) with
      out := (if (s.link n).initiator then [.keyx n 0x03 0] else []) ++ s.out } := by
  have hupdate : s.modLink n (fun x => { x with
      keyxAt := s.now, peerId := c.idHash, keyx := if (s.link n).initiator then .kemI else .certsSeen }) =
        s.modLink n (Link.certified s.now c) := modLink_congr rfl
  simp only [keyxCerts, he, hk, hr, hw, hp, hchains, hm, hupdate]
  cases (s.link n).initiator <;> rfl

theorem keyxKemI_of_good {k : KemSeen} (he : exchanging s n = true) (hk : (s.link n).keyx = .certsSeen) (hw : k.wellFormed = true)
    (hd : k.decapsOk = true) (ht : k.twinsOk = true) :
    keyxKemI n k s = { s.modLink n (Link.kemAnswered s.now) with out := [.keyx n 0x04 0] ++ s.out } := by
  simp only [keyxKemI, he, hk, hw, hd, ht]
  rfl

theorem kemTested_uninjected (h : s.tests.injections = []) (k : KemSeen) (f : KemSeen → State → State) : kemTested k f s = f k s :=
  withTwins_uninjected h _ _ _ _

/-! ### KEYED (R88, R96, R378) -/

/-- A link that enters KEYED leaves a calm block without parcels calm: what hangs on the other links is as it was. -/
theorem calm_of_entered (hw : NoNewWork s u) (hc : s.calm) (hp : s.gl.parcels = []) (hn : (u.link n).state = .keyed)
    (hothers : ∀ m, m ≠ n → u.link m = s.link m) : u.calm := by
  obtain ⟨-, -, -, -, -, -, hruns, -, -⟩ := State.calm_cases hc
  refine hw.calm_of hc (fun x hx ⟨hkind, hpoint, hst⟩ => ?_) fun y hy => stranded_eq_false_of_not_waits ?_
  · by_cases ht : x.target = n
    · exact hst (ht ▸ hn)
    · rw [hothers _ ht] at hst
      exact hruns x (hw.runs ▸ hx) ⟨hkind, hpoint, hst⟩
  · by_contra hwaits
    obtain ⟨x, hx, -⟩ := hw.parcels y hy (by simpa using hwaits)
    rw [hp] at hx
    cases hx

theorem out_endKeyxCmd (n st : Nat) (v : BitVec 128) {o : Output} (h : o ∈ s.out) : o ∈ (endKeyxCmd n st v s).out := by
  unfold endKeyxCmd
  split
  · exact h
  · exact out_complete _ st v h

/-- KEYED: fresh keys, full credits, and nobody waits for the exchange any more. -/
theorem enterKeyed_leaves (hc : s.calm) (hp : s.gl.parcels = []) (hf : NoFences s) (hlen : n < s.gl.links.length) :
    (enterKeyed n s).calm ∧ (enterKeyed n s).link n = (((s.link n).inState .keyed).freshlyKeyed s.now).unwaited ∧
      ∀ o ∈ s.out, o ∈ (enterKeyed n s).out := by
  have hmoved := sameLinks_setLink hf n .keyed
  have hlength : (setLink n .keyed s).gl.links.length = s.gl.links.length := by rw [hmoved.links, modLink_links_length]
  let w := (setLink n .keyed s).modLink n (Link.freshlyKeyed s.now)
  have hw : w.link n = ((s.link n).inState .keyed).freshlyKeyed s.now := by
    rw [link_modLink_self _ (by rwa [hlength]), hmoved.link, link_modLink_self _ hlen]
  have hothers : ∀ m, m ≠ n → w.link m = s.link m := fun m hm => by
    rw [link_modLink_of_ne _ hm, hmoved.link, link_modLink_of_ne _ hm]
  have hwlen : n < w.gl.links.length := by rwa [modLink_links_length, hlength]
  have hunwaited : (w.modLink n Link.unwaited).link n = (w.link n).unwaited := link_modLink_self _ hwlen
  have hwork := (((noNewWork_modLink s n _).trans hmoved.noNewWork).trans (noNewWork_modLink _ n (Link.freshlyKeyed s.now))).trans
    (noNewWork_modLink w n Link.unwaited)
  have hcalm := calm_of_entered hwork hc hp (by rw [hunwaited, hw]; rfl) fun m hm => by
    rw [link_modLink_of_ne _ hm, hothers m hm]
  have hout : w.out = s.out := hmoved.only .out (by decide)
  obtain ⟨hquiet, hend, -, -⟩ := endKeyxCmd_cases n stOk
    (resultOf [(16, 2, ((s.link n).peer.getD 0)), (18, 1, 3), (20, 8, (s.link n).peerId)]) w hwlen
  exact ⟨hquiet.calm hcalm, by rw [← hw]; exact hend, fun o ho => out_endKeyxCmd _ _ _ (show o ∈ w.out by rwa [hout])⟩

theorem keyxKemR_of_good {k : KemSeen} (he : exchanging s n = true) (hk : (s.link n).keyx = .kemI) (hw : k.wellFormed = true)
    (hd : k.decapsOk = true) (ho : k.confirmOk = true) (ht : k.twinsOk = true) :
    keyxKemR n k s = enterKeyed n (s.emit (.keyx n 0x05 0)) := by
  simp only [keyxKemR, he, hk, hw, hd, ho, ht]
  rfl

theorem keyxConfirm_of_good {k : KemSeen} (he : exchanging s n = true) (hk : (s.link n).keyx = .kemR) (hw : k.wellFormed = true)
    (ho : k.confirmOk = true) (ht : k.twinsOk = true) : keyxConfirm n k s = enterKeyed n s := by
  simp only [keyxConfirm, he, hk, hw, ho, ht]
  rfl

/-- A row that makes its link KEYED. -/
theorem settled_enterKeyed {f : State → State} (hn : n < 64) (hf : f s = enterKeyed n u) (hc : u.calm) (hp : u.gl.parcels = [])
    (hnf : NoFences u) (hlen : n < u.gl.links.length) :
    ∃ t, settled s (onLink n f s) = .next t ∧ (t.link n).state = .keyed ∧ (t.link n).secret = true ∧ (t.link n).keyx = .idle ∧
      (t.link n).credits = List.replicate 10 32 ∧ (t.link n).rotations = 0 ∧ (t.link n).keyxCmd = none ∧ ∀ o ∈ u.out, o ∈ t.out := by
  obtain ⟨hcalm, hlink, hout⟩ := enterKeyed_leaves hc hp hnf hlen
  generalize enterKeyed n u = v at hf hcalm hlink hout
  obtain ⟨k, hrow⟩ := settled_onLink hn hf hcalm
  have hlink' : (steppedTo k s.pending v).link n = (((u.link n).inState .keyed).freshlyKeyed u.now).unwaited := hlink
  refine ⟨_, hrow, ?_, ?_, ?_, ?_, ?_, ?_, hout⟩ <;> rw [hlink'] <;> rfl

/-! ### Refusals and deadlines (R88, R379) -/

/-- A refusal: the secret goes, the event is logged, and nobody waits for the exchange any more. -/
theorem refuseExchange_leaves (hc : s.calm) (hlen : n < s.gl.links.length) (reason : Nat) (send : Bool) :
    (refuseExchange n reason send s).calm ∧
      (refuseExchange n reason send s).link n = ((s.link n).exchangeRefused s.now).unwaited ∧
      (refuseExchange n reason send s).now = s.now ∧
      (send = true → .keyx n 0x06 reason ∈ (refuseExchange n reason send s).out) := by
  let w := if send then sendKeyx n 0x06 reason (s.modLink n (Link.exchangeRefused s.now)) else s.modLink n (Link.exchangeRefused s.now)
  have hw : w.calm ∧ w.gl = (s.modLink n (Link.exchangeRefused s.now)).gl ∧ w.now = s.now ∧
      (send = true → .keyx n 0x06 reason ∈ w.out) := by
    have hrefused := calm_modLink (f := Link.exchangeRefused s.now) (n := n) (fun _ => rfl) hc
    cases send with
    | true => exact ⟨(quiet_emit _ _).calm hrefused, rfl, rfl, fun _ => List.mem_cons_self⟩
    | false => exact ⟨hrefused, rfl, rfl, fun h => absurd h Bool.false_ne_true⟩
  obtain ⟨hcalm, hgl, hnow, hsent⟩ := hw
  have hevent : Reported w (linkEvent n 5 reason w) := reported_plumbEvent (by omega) _ _ _ _ _ _ w
  have hlogged : (linkEvent n 5 reason w).gl = w.gl := hevent.only .gl (by decide)
  have hgl' := hlogged.trans hgl
  obtain ⟨hquiet, hend, -, hareas⟩ := endKeyxCmd_cases n stWrongState (detailOf (0x0200 + reason)) (linkEvent n 5 reason w)
    (by rw [hgl', modLink_links_length]; exact hlen)
  refine ⟨hquiet.calm (calm_modLink (fun _ => rfl) (hevent.marked.calm hcalm)), hend.trans ?_, ?_,
    fun h => out_endKeyxCmd _ _ _ (hevent.out _ (hsent h))⟩
  · rw [link_congr hgl', link_modLink_self _ hlen]
  · exact ((congrArg Calendar.now (hareas .cal (by decide))).trans (congrArg Calendar.now (hevent.only .cal (by decide)))).trans hnow

/-- A row that refuses its link's exchange. -/
theorem settled_refuseExchange {f : State → State} {reason : Nat} {send : Bool} (hn : n < 64)
    (hf : f s = refuseExchange n reason send u) (hc : u.calm) (hlen : n < u.gl.links.length) :
    ∃ t, settled s (onLink n f s) = .next t ∧ (t.link n).keyx = .refused ∧ (t.link n).secret = false ∧ (t.link n).keyxCmd = none ∧
      (t.link n).state = (u.link n).state ∧ t.now = u.now ∧ (send = true → .keyx n 0x06 reason ∈ t.out) := by
  obtain ⟨hcalm, hlink, hnow, hsent⟩ := refuseExchange_leaves hc hlen reason send
  generalize refuseExchange n reason send u = v at hf hcalm hlink hnow hsent
  obtain ⟨k, hrow⟩ := settled_onLink hn hf hcalm
  have hlink' : (steppedTo k s.pending v).link n = ((u.link n).exchangeRefused u.now).unwaited := hlink
  refine ⟨_, hrow, ?_, ?_, ?_, ?_, hnow, hsent⟩ <;> rw [hlink'] <;> rfl

/-- A row of a deadline that refuses its link's exchange and tells the peer. -/
theorem settled_refuseExchangeAt {f : State → State} {reason due : Nat} (hn : n < 64)
    (hf : f s = refuseExchange n reason true (s.atTime due)) (hc : s.calm) (hlen : n < s.gl.links.length) :
    ∃ t, settled s (onLink n f s) = .next t ∧ (t.link n).keyx = .refused ∧ (t.link n).secret = false ∧ (t.link n).keyxCmd = none ∧
      (t.link n).state = (s.link n).state ∧ t.now = max s.now due ∧ .keyx n 0x06 reason ∈ t.out := by
  obtain ⟨t, ht, hkeyx, hsecret, hcmd, hst, hnow, hsent⟩ := settled_refuseExchange hn hf ((quiet_atTime s due).calm hc) hlen
  exact ⟨t, ht, hkeyx, hsecret, hcmd, hst, hnow.trans (now_atTime s due), hsent rfl⟩

theorem startExchange_atTime (s : State) (n due : Nat) :
    startExchange n (s.atTime due) =
      ((s.atTime due).modLink n (Link.helloed (s.atTime due).now)).emit (.keyx n 0x01 s.chip) := rfl

theorem keyxRefuse_of_running {reason : Nat} (he : exchanging s n = true) (hidle : (s.link n).keyx ≠ .idle)
    (hrefused : (s.link n).keyx ≠ .refused) : keyxRefuse n reason s = refuseExchange n reason false s := by
  simp [keyxRefuse, he, hidle, hrefused]

theorem keyxTimeout_of_running (he : exchanging s n = true) (hidle : (s.link n).keyx ≠ .idle)
    (hrefused : (s.link n).keyx ≠ .refused) :
    keyxTimeout n s = refuseExchange n 0x07 true (s.atTime ((s.link n).keyxAt + 10000000)) := by
  simp [keyxTimeout, he, hidle, hrefused]

theorem exchangeRetry_of_refused (he : exchanging s n = true) (hk : (s.link n).keyx = .refused) :
    exchangeRetry n s = startExchange n (s.atTime ((s.link n).keyxAt + 100000000)) := by
  simp [exchangeRetry, he, hk]

/-! ### NEIGHBOUR_KEYX (R381) -/

theorem startNeighbourKeyx_of_unkeyed {r : CmdRef} {p : Packet} (hst : (s.link (pf p 20 1)).state = .unkeyed)
    (hr : (s.link (pf p 20 1)).keyxCmd = none) :
    startNeighbourKeyx r p s = ((hold r s).modLink (pf p 20 1) (Link.helloed s.now ∘ Link.awaitedBy r)).emit
      (.keyx (pf p 20 1) 0x01 s.chip) := by
  have hfree : endKeyxCmd (pf p 20 1) stWrongState (detailOf 0x020A) s = s := by rw [endKeyxCmd, hr]
  unfold startNeighbourKeyx
  dsimp only
  rw [hst]
  dsimp only
  rw [hfree, startExchange_eq, ← modLink_modLink]
  rfl

/-- What the start of NEIGHBOUR_KEYX leaves of an UNKEYED link that no other command waits for. -/
theorem startNeighbourKeyx_leaves {r : CmdRef} {p : Packet} (hc : s.calm) (hst : (s.link (pf p 20 1)).state = .unkeyed)
    (hr : (s.link (pf p 20 1)).keyxCmd = none) (hlen : pf p 20 1 < s.gl.links.length) :
    (startNeighbourKeyx r p s).calm ∧
      (startNeighbourKeyx r p s).link (pf p 20 1) = ((s.link (pf p 20 1)).awaitedBy r).helloed s.now ∧
      ((startNeighbourKeyx r p s).inflight? r).isSome = true ∧
      .keyx (pf p 20 1) 0x01 s.chip ∈ (startNeighbourKeyx r p s).out ∧ OnlyIn replyAreas s (startNeighbourKeyx r p s) := by
  rw [startNeighbourKeyx_of_unkeyed hst hr]
  refine ⟨(quiet_emit _ _).calm (calm_modLink (fun _ => rfl) ((quiet_hold r s).calm hc)), link_modLink_self (s := hold r s) _ hlen,
    inflight?_hold_isSome r s, List.mem_cons_self, ?_⟩
  exact (((only_hold r s).mono (by simp)).trans ((only_modLink _ _ _).mono (by simp))).trans ((only_emit _ _).mono (by simp))

end

/-- Settles O14: a message that carries the exchange on updates its link and is answered; the last two and the refusals end a
NEIGHBOUR_KEYX that waits as well. -/
theorem neighbourExchangeAdvances : Obligations.NeighbourExchangeAdvances := by
  unfold Obligations.NeighbourExchangeAdvances
  refine ⟨fun n m s l hc hl hn he hm hk => ?hello, fun n c s l hc hl hn he hk hr hw hp hchains hmodel => ?certs,
    fun n k s l hc hi hl hn he hw hd ht => ⟨fun hk => ?kemI, fun hk ho hp hf => ?kemR, fun hk ho hp hf => ?confirm⟩,
    fun n reason s l hc hl hn he hidle hrefused => ⟨?refuse, ?timeout⟩, fun n s l hc hl hn he hk => ?retry,
    fun p s l hc hp hl hst hr => ?command⟩
  all_goals
    obtain ⟨hlen, -⟩ := List.getElem?_eq_some_iff.mp hl
    obtain rfl := link_of_getElem? hl
  case hello =>
    obtain ⟨t, ht, hlink, hout, honly⟩ := settled_movedSends hc hn hlen (keyxHello_of_awaited he hm hk) fun _ => rfl
    refine ⟨t, ht, by rw [hlink]; rfl, by rw [hlink]; rfl, by rw [hlink]; rfl, by rw [hlink]; rfl, by rw [hlink]; rfl,
      by rw [hout]; exact List.mem_cons_self, fun hne => ?_, honly⟩
    rw [hout, if_neg hne]
    exact List.mem_cons_of_mem _ List.mem_cons_self
  case certs =>
    obtain ⟨t, ht, hlink, hout, honly⟩ := settled_movedSends hc hn hlen (keyxCerts_of_good he hk hr hw hp hchains hmodel)
      fun _ => rfl
    refine ⟨t, ht, by rw [hlink]; rfl, by rw [hlink]; rfl, fun hinit => ?_, by rw [hlink]; rfl, honly⟩
    rw [hout, if_pos hinit]
    exact List.mem_cons_self
  case kemI =>
    obtain ⟨t, ht', hlink, hout, honly⟩ := settled_movedSends hc hn hlen
      ((kemTested_uninjected hi k _).trans (keyxKemI_of_good he hk hw hd ht)) fun _ => rfl
    exact ⟨t, ht', by rw [hlink]; rfl, by rw [hout]; exact List.mem_cons_self, honly⟩
  case kemR =>
    obtain ⟨t, ht', hst, hsecret, hkeyx, hcredits, hrot, hcmd, hout⟩ := settled_enterKeyed hn
      ((kemTested_uninjected hi k _).trans (keyxKemR_of_good he hk hw hd ho ht)) ((quiet_emit s _).calm hc) hp hf hlen
    exact ⟨t, ht', hst, hsecret, hkeyx, hcredits, hrot, hcmd, hout _ List.mem_cons_self⟩
  case confirm =>
    obtain ⟨t, ht', hst, hsecret, hkeyx, hcredits, hrot, hcmd, -⟩ := settled_enterKeyed hn
      ((kemTested_uninjected hi k _).trans (keyxConfirm_of_good he hk hw ho ht)) hc hp hf hlen
    exact ⟨t, ht', hst, hsecret, hkeyx, hcredits, hrot, hcmd⟩
  case refuse =>
    obtain ⟨t, ht, hkeyx, hsecret, hcmd, hst, -, -⟩ := settled_refuseExchange hn (keyxRefuse_of_running he hidle hrefused) hc hlen
    exact ⟨t, ht, hkeyx, hsecret, hcmd, hst⟩
  case timeout => exact settled_refuseExchangeAt hn (keyxTimeout_of_running he hidle hrefused) hc hlen
  case retry =>
    obtain ⟨t, ht, hlink, hnow, hout, honly⟩ := settled_updateSent hc hn hlen
      ((exchangeRetry_of_refused he hk).trans (startExchange_atTime s n _)) fun _ => rfl
    exact ⟨t, ht, congrArg Link.keyx hlink, hnow, hout, honly⟩
  case command =>
    have hsrc : ∀ id, p.src ≠ .session id := fun id hid => by
      have hissuer := passes_issuer hp
      rw [hid] at hissuer
      exact absurd hissuer (by simp [Op.issuers, issuerIs])
    obtain ⟨u, hu, hmet⟩ := submit_met .none hc hp
    have hlink : ∀ n, u.link n = s.link n := fun n => by rw [State.link, hmet.started.quiet.links, State.link]
    have hchip : u.chip = s.chip := by rw [State.chip, hmet.started.quiet.coord, State.chip]
    obtain ⟨hcalm, hself, hinflight, hout, honly⟩ := startNeighbourKeyx_leaves (r := named .neighbourKeyx p s) hmet.calm
      (by rwa [hlink]) (by rwa [hlink]) (by rwa [hmet.started.quiet.links])
    rw [hlink] at hself
    rw [hchip] at hout
    refine ⟨_, (congrArg (settled s) hu).trans (settled_calm hcalm), ?_, ?_, hinflight, hout,
      ((hmet.started.onlyNoVs (hmet.vs hsrc)).trans honly).queue _⟩
    · exact congrArg Link.keyx hself
    · exact congrArg Link.keyxCmd hself

end Sys2Proof.Machine
end
